-- ==== Sys2Proof/Word.lean ====
section
/-!
DEFINITION. Octets, register words, and the sparse table in which registers and memories are held.
A table lists (key, value) pairs with keys strictly rising and never lists the default value; its operations stand in
Machine/Tab.lean.
-/
namespace Sys2Proof

/-- One octet (R3). -/
abbrev Byte := BitVec 8

/-- One 32-bit register value (R6). -/
abbrev Word := BitVec 32

/-- A sparse table by natural-number key. -/
abbrev Tab (α : Type) := List (Nat × α)

end Sys2Proof
end

