-- ==== Sys2Proof/Syntax.lean ====
section
/-!
DEFINITION. The commands the block takes: one constructor of `Instr` per row of spec/opcode_table.json, and the types of
their operands. A row that names a happening (a boundary, an expiry, an edge) carries what tells that happening apart: the
plane, the line, the octets that arrived.
-/
namespace Sys2Proof

/-- The two planes; also feeds A and B, which power them (R53). -/
inductive Plane where
  | a | b
deriving DecidableEq, Repr

/-- Who makes a register access: the host, or a plane's control core (R10). -/
inductive Req where
  | host | coreA | coreB
deriving DecidableEq, Repr

/-- Where a command packet came from (R416): host queue 0 QS, 1 QC, 2 QM, 3 QB, or a ring sentence. -/
inductive Src where
  | hostQ (q : Fin 4)
  | ring (cls : BitVec 3) (origin : BitVec 10) (seq : Word) (ackreq : Bool)
deriving DecidableEq, Repr

/-- A command packet: the header of R422 with its parameter octets, and its source. -/
structure Cmd where
  src : Src
  op : BitVec 16
  tag : BitVec 16
  planes : BitVec 2
  all : Bool
  loc : Bool
  dev : BitVec 10
  reply : Bool
  timed : Bool
  epoch : Bool
  abrupt : Bool
  at64 : BitVec 64
  ps : List Byte
deriving DecidableEq, Repr

/-- A foreign input as a parser receives it (R172, R174). -/
inductive Foreign where
  /-- A frame on a spur port, from its destination address to the end of its data, FCS removed. -/
  | eth (port : Fin 4) (frame : List Byte)
  /-- A serial packet ended by the idle-line mark, with its input sequence. -/
  | serPkt (line : Fin 32) (charErr : Bool) (octets : List Byte) (inseq : Word)
  /-- A complete serial telegram: octets from the start code, checksum excluded. -/
  | serTel (line : Fin 32) (charErr chkOk : Bool) (octets : List Byte) (inseq : Word)
  /-- A CAN frame: the 8-octet descriptor of R184, the RTR bit, the data. -/
  | can (ctl : Fin 8) (rtr : Bool) (desc data : List Byte) (inseq : Word)
  /-- A capture edge with the edge count of its input. -/
  | capture (i : Fin 8) (rising : Bool) (count : Word)
  /-- An LTC frame: rate, time address (hours, minutes, seconds, frames), user bits. -/
  | ltc (i : Fin 2) (rate : BitVec 2) (hms : List Byte) (ub : BitVec 32) (inseq : Word)
deriving DecidableEq, Repr

/-- What a plane's boot ROM found in the slots it tried (R477). -/
inductive SlotCheck where
  | good (version : Word) (compat : BitVec 16)
  | noHeader | badSig | badLength | flashErr
deriving DecidableEq, Repr

/-- A copy as it reaches the Lantern ring (R60, R62). -/
inductive CopyKind where
  | frame (data : List Byte)
  | skip
  | partialCopy
deriving DecidableEq, Repr

/-- The transmitter's or receiver's part in a CAN error, with the change ISO 11898-1 makes (R365). -/
inductive CanErr where
  /-- Error met as transmitter: TEC + 8. -/
  | tx (code : BitVec 4) (dataPhase : Bool)
  /-- Stuff error met as transmitter in the arbitration phase, the stuff bit sent recessive and read dominant: TEC stays. -/
  | txStuffArb
  /-- Bit error in a flag that the transmitter sends, or the dominant bits after it that ISO 11898-1 counts: TEC + 8. -/
  | txDominant
  /-- ACK error met as transmitter, and whether a dominant bit was read during its error flag. -/
  | ack (dominant : Bool)
  /-- Error met as receiver: REC + 1. -/
  | rx (code : BitVec 4) (dataPhase : Bool)
  /-- Bit error in a flag that the receiver sends, or the dominant bits after it that ISO 11898-1 counts: REC + 8. -/
  | rxDominant
  /-- An overload frame: no counter of R365 changes. -/
  | overload
  /-- Protocol exception (R351): no counter of R365 changes. -/
  | protocolException
deriving DecidableEq, Repr

/-- Errors that reads of the message store meet (R218): uncorrectable consumer words, each as queue, place of its item in the queue, word
of the item; corrected single-bit errors. -/
structure StoreEcc where
  bad : List (Nat × Nat × Nat)
  fixed : Nat
deriving DecidableEq, Repr

/-- Errors that one move meets in protected words of 8 octets (R259): corrected ones; whether its entry was uncorrectable; profiles that
were; whether its merge list was; words of LUT slots as slot and group of four points; words of the Canvas as half and number;
streams whose applied state was. -/
structure MoveEcc where
  fixed : Nat
  entry : Bool
  profs : List Nat
  list : Bool
  luts : List (Nat × Nat)
  canvas : List (Bool × Nat)
  applied : List Nat
deriving DecidableEq, Repr

/-- What a scrub pass found in a plane (R218, R259, R434): corrected and uncorrectable words of the store and of the Burin memories, the
streams among the latter whose applied state it was. -/
structure ScrubCnt where
  storeFixed : Nat
  storeBad : Nat
  buFixed : Nat
  buBad : Nat
  applied : List Nat
deriving DecidableEq, Repr

/-- How the DMA of a host queue went (R420): well, its read fails, or the next write of a reply of
that queue does. -/
inductive DmaEnd where
  | ok
  | readFail
  | writeFail
deriving DecidableEq, Repr

/-- RXD at the ball of an AON wake receiver, as levels in clocks of 2.048 MHz (R343): a character from its falling edge on, or a
telegram's low and high and then its characters, each from its falling edge on. -/
inductive SlHeard where
  | char (wave : List (Bool × Nat))
  | telegram (start : List (Bool × Nat)) (chars : List (List (Bool × Nat)))
deriving DecidableEq, Repr

/-- What a CAN wake detector meets (R371, R372): a dominant level, in clocks of 2 ns or, in standby, of AON; or a frame without error. -/
inductive CanHeard where
  | dominant (clocks : Nat)
  | frame (desc data : List Byte)
deriving DecidableEq, Repr

/-- The commands. -/
inductive Instr where
  -- registers
  | hostRegisterWrite (r : Req) (bar4 : Bool) (off : BitVec 24) (size : Nat) (v : Word)
  | hostAtomicopBar0Bar4 (bar4 : Bool) (off : BitVec 24)
  | loRegisterRead (r : Req) (bar4 : Bool) (off : BitVec 24) (size : Nat)
  | tbRawRead (r : Req) (p : Plane)
  | loRegisterWrite (r : Req) (off : BitVec 24) (v : Word)
  | hiRegisterWrite (r : Req) (off : BitVec 24) (v : Word)
  | rsRead (r : Req) (off : BitVec 24) (size : Nat) (hw : Word)
  | w1cWrite (r : Req) (off : BitVec 24) (v hw : Word)
  | stageCommit (r : Req) (off : BitVec 24)
  | stageDiscard (r : Req) (off : BitVec 24)
  | stageCommitApply (off : BitVec 24)
  -- time
  | tdCommitApply (p : Plane) (d : Fin 2)
  | egCommitApply (p : Plane) (g : Fin 4)
  | egCtlEnSet (r : Req) (p : Plane) (g : Fin 4)
  | egCtlEnClear (r : Req) (p : Plane) (g : Fin 4)
  | epochBoundary (p : Plane) (g : Fin 4)
  | canvasClose (p : Plane)
  | keyOverdueCheck (p : Plane) (g : Fin 4)
  -- feeds and pin copies
  | feedBelowThreshold (f : Plane)
  | feedAboveRestore (f : Plane)
  | feedDeclaredLost (f : Plane)
  | feedDeclaredGood (f : Plane)
  | planeDomainFail (p : Plane)
  | pinCopyReceive (p : Plane) (n : Fin 58) (oseq : Word) (obj : Byte) (k : CopyKind)
  | decisionPoint (n : Fin 58) (oseq : Word)
  | pinRelease (n : Fin 58) (oseq : Word)
  | pulseEdge (n : Fin 16) (leading : Bool)
  | taperDown (crcErrs : BitVec 16)
  | taperUp
  | taperSentenceReceive (p : Plane) (crcErr : Bool)
  | digestReceive (p : Plane) (port : Fin 4) (epoch : Nat) (peer : BitVec 64)
  | planeHoldSet (r : Req) (v : Word)
  | planeHoldRelease (r : Req) (v : Word)
  | aonBypCtlWrite (r : Req) (v : Word)
  -- boot, rejoin, RELEARN
  | bootComplete (p : Plane) (first second : SlotCheck)
  | rejoinSyncDone (p : Plane)
  | rejoinPassDone (p : Plane) (dirty : Nat)
  | rejoinFinalPass (p : Plane) (dirty : Nat)
  | rejoinSlow (p : Plane)
  | rejoinHandover (p : Plane)
  | rejoinFirstRelease (p : Plane)
  | planeRejoinTimeout (p : Plane)
  | imageLoadDone (p : Plane)
  | relearnMuteExpire (p : Plane)
  | relearnDone (p : Plane)
  | relearnLimitReached (p : Plane)
  -- servo, switching, Lantern
  | servoUpdate (p : Plane) (d : Fin 2)
  | referenceLost (p : Plane) (d : Fin 2)
  | holdWarnExpiry (p : Plane) (d : Fin 2)
  | domainSwitch (p : Plane)
  | bridgeDecayStep (p : Plane)
  | timeJump (p : Plane)
  | lanternSample
  | lanternHoldover
  | lanternEpochBoundary (g : Fin 4)
  | skewMeasure (p : Plane)
  -- ring
  | linkDown (p : Plane) (port : Fin 4) (faults : BitVec 2)
  | linkUp (p : Plane) (port : Fin 4)
  | unwrap (p : Plane) (port : Fin 4)
  | drainEnd (p : Plane) (port : Fin 4)
  | wrapNoticeSend (p : Plane)
  | wrapNoticeReceive (p : Plane) (port : Fin 4)
  | ptpCutRestore (p : Plane) (port : Fin 4)
  | dupWindowExpire (p : Plane) (origin : BitVec 10) (cls : BitVec 3)
  | nativeSentenceReceive (p : Plane) (port : Fin 4) (fcsOk : Bool) (frame : List Byte)
  | sentenceTransmit (p : Plane) (port : Fin 4)
  -- ingress
  | foreignInput (p : Plane) (arrival : Nat) (f : Foreign)
  | allocateCandidate (p : Plane)
  | pairKeyExpire (p : Plane)
  | syncGroupTimeout (p : Plane) (g : BitVec 8)
  | ingRuleSelWrite (r : Req) (p : Plane) (v : Word)
  | ingStreamSelWrite (r : Req) (p : Plane) (v : Word)
  -- PTP, LINK_CAL, PRP
  | ptpMessageReceive (p : Plane) (port : Fin 4) (fcsOk : Bool) (frame : List Byte) (stamps : List Nat)
  | delayReqSend (p : Plane) (d : Fin 2)
  | pdelayReqSend (p : Plane) (port : Fin 4)
  | peerDelayLost (p : Plane) (port : Fin 4)
  | prpSupervisionSend (p : Plane) (port : Fin 4)
  | linkCalProbeSend (p : Plane)
  | linkCalProbeReceive (p : Plane) (port : Fin 4) (octets : List Byte) (residence : Nat)
  | linkCalComplete (p : Plane)
  -- queues
  | sentenceAdmit (p : Plane) (q : Fin 512)
  | recordComplete (p : Plane) (q : Fin 512)
  | consumerWordRead (p : Plane) (q : Fin 512) (eccBad : Bool) (eccFixed : Fin 9)
  | queueEnable (r : Req) (p : Plane) (q : Fin 512)
  | queueDisable (r : Req) (p : Plane) (q : Fin 512)
  | qCtlFlush (r : Req) (p : Plane) (q : Fin 512)
  | flushApply (p : Plane) (q : Fin 512)
  -- Burin engines
  | moveNop (p : Plane) (e : Fin 16) (ecc : MoveEcc)
  | moveApply (p : Plane) (e : Fin 16) (ecc : MoveEcc)
  | moveField (p : Plane) (e : Fin 16) (ecc : MoveEcc)
  | moveMerge (p : Plane) (e : Fin 16) (ecc : MoveEcc)
  | moveConst (p : Plane) (e : Fin 16) (ecc : MoveEcc)
  | moveCopy (p : Plane) (e : Fin 16) (ecc : MoveEcc)
  | buApplySelWrite (r : Req) (p : Plane) (v : Word)
  | canvasApertureRead (r : Req) (off : BitVec 24) (size : Nat)
  -- dispatcher
  | jobTimeout (p : Plane) (j : BitVec 12)
  | jobDispatch (p : Plane) (e : Fin 16) (ecc : StoreEcc)
  | jobComplete (p : Plane) (e : Fin 16)
  | jobWindowClose (p : Plane) (j : BitVec 12)
  | dspCancelWrite (r : Req) (p : Plane) (v : Word)
  | dspJobSelWrite (r : Req) (p : Plane) (v : Word)
  | logTailWrite (r : Req) (off : BitVec 24) (v : Word)
  -- release
  | ethLaunchPrepare (p : Plane) (d : BitVec 12)
  | ethLaunch (p : Plane) (d : BitVec 12)
  | relDescSelWrite (r : Req) (p : Plane) (v : Word)
  | pulseTurn (n : Fin 16)
  | captureEdge (i : Fin 8) (rising : Bool)
  | ltcFrameReceive (i : Fin 2) (rate : BitVec 2) (hms : List Byte) (ub : BitVec 32) (start : Nat)
  | ltcLockLost (i : Fin 2)
  -- serial lines
  | slCharReceive (n : Fin 32) (edge : Nat) (wave : List (Bool × Nat))
  | slBreakDetect (n : Fin 32)
  | slIdleMark (n : Fin 32)
  | slTelBreak (n : Fin 32) (edge low high : Nat)
  | slTelegramEnd (n : Fin 32)
  | slTelGap (n : Fin 32)
  | slStuck (n : Fin 32)
  | slStuckClear (n : Fin 32)
  | slCtsChange (n : Fin 32) (levels : List (Bool × Nat))
  | slTxqDataWrite (r : Req) (n : Fin 32) (v : Word)
  | slRxqPop (r : Req) (n : Fin 32) (v : Word)
  | slTxqFrameStart (n : Fin 32)
  | slTxFrameEnd (n : Fin 32)
  | slDeLagEnd (n : Fin 32)
  | slResponseTimeout (n : Fin 32) (low : Bool)
  | slDubWaitEnd (n : Fin 32)
  | slWakeMatch (n : Fin 4) (heard : SlHeard)
  -- CAN
  | canFrameReceive (n : Fin 8) (stamp : Nat) (rtr : Bool) (desc data : List Byte)
  | canRxbPop (r : Req) (n : Fin 8) (v : Word)
  | canTxwSend (r : Req) (n : Fin 8) (v : Word)
  | canTxwAbort (r : Req) (n : Fin 8) (v : Word)
  | canSlotOpen (n : Fin 8) (sl : Byte)
  | canFrameStart (n : Fin 8)
  | canTxSuccess (n : Fin 8)
  | canArbLost (n : Fin 8)
  | canBusError (n : Fin 8) (k : CanErr)
  | canLone (n : Fin 8)
  | canSlotClose (n : Fin 8)
  | canRecover (r : Req) (n : Fin 8)
  | canRecoveryDone (n : Fin 8)
  | canIntegrationDone (n : Fin 8)
  | canEnable (r : Req) (n : Fin 8)
  | canDisable (r : Req) (n : Fin 8)
  | canSleep (r : Req) (n : Fin 8)
  | canSleepClear (r : Req) (n : Fin 8)
  | canWake (n : Fin 8) (heard : CanHeard)
  | canWakeDetect (n : Fin 2) (heard : CanHeard)
  -- bridge
  | bridgeRead (off : Word) (len : Nat)
  | bridgeWrite (off : Word) (data : List Byte) (be : List Bool)
  | bridgeFetchadd (off : Word) (wide : Bool) (x : BitVec 64)
  | bridgeSwap (off : Word) (wide : Bool) (x : BitVec 64)
  | bridgeCas (off : Word) (size : Nat) (cmp x : BitVec 64)
  | postedHoldDrain (p : Plane)
  | bridgeTargetRead (p : Plane) (origin : BitVec 10) (wait : Bool) (payload : List Byte)
  | bridgeTargetWrite (p : Plane) (origin : BitVec 10) (wait : Bool) (payload : List Byte)
  | bridgeTargetWritePosted (p : Plane) (origin : BitVec 10) (wait : Bool) (payload : List Byte)
  | bridgeResponseReceive (p : Plane) (payload : List Byte)
  | bridgeTimeout (p : Plane) (entry : Fin 512)
  | brgWinFenceRead (r : Req) (p : Plane) (n : Fin 64)
  | brgWinLockRead (r : Req) (p : Plane) (n : Fin 64)
  | brgWinLockRelease (r : Req) (p : Plane) (n : Fin 64) (v : Word)
  | lockExpire (p : Plane) (n : Fin 64)
  | prefetchAge (p : Plane) (n : Fin 64)
  | rdmAckTimerExpire (p : Plane) (n : Fin 64)
  | brgMapSelWrite (r : Req) (p : Plane) (v : Word)
  -- host queues and commands
  | sqDoorbell (q : Fin 4) (v : Word)
  | rqDoorbell (q : Fin 4) (v : Word)
  | hqEnable (r : Req) (q : Fin 4) (v : Word)
  | hqDisable (r : Req) (q : Fin 4) (v : Word)
  | commandFetch (q : Fin 4) (dma : DmaEnd) (entry params : List Byte)
  | commandSentenceReceive (p : Plane) (spur : Bool) (octets : List Byte)
  | statusReplyReceive (p : Plane) (octets : List Byte)
  | nop (c : Cmd)
  | identify (c : Cmd)
  | setDevnum (c : Cmd)
  | setLead (c : Cmd)
  | setLeadApply
  | planeHold (c : Cmd)
  | regRead (c : Cmd)
  | regWrite (c : Cmd)
  | snapshot (c : Cmd)
  | discover (c : Cmd)
  | tdConfig (c : Cmd)
  | egSet (c : Cmd)
  | egEnable (c : Cmd)
  | tbConfig (c : Cmd)
  | timeRead (c : Cmd)
  | portConfig (c : Cmd)
  | portPtp (c : Cmd)
  | portRing (c : Cmd)
  | portAddr (c : Cmd)
  | bypassForce (c : Cmd)
  | ruleWrite (c : Cmd)
  | streamWrite (c : Cmd)
  | queueConfig (c : Cmd)
  | queueFlush (c : Cmd)
  | moveWrite (c : Cmd)
  | profileWrite (c : Cmd)
  | lutWrite (c : Cmd)
  | mergeWrite (c : Cmd)
  | jobWrite (c : Cmd)
  | jobCancel (c : Cmd)
  | descWrite (c : Cmd)
  | guardSet (c : Cmd)
  | pulseOne (c : Cmd)
  | pulsePeriodic (c : Cmd)
  | pulseStop (c : Cmd)
  | captureConfig (c : Cmd)
  | ltcConfig (c : Cmd)
  | slConfig (c : Cmd)
  | slSend (c : Cmd)
  | canConfig (c : Cmd)
  | canSchedule (c : Cmd)
  | canSend (c : Cmd)
  | outputConfig (c : Cmd)
  | winConfig (c : Cmd)
  | mapWrite (c : Cmd)
  | winRead (c : Cmd)
  | winWrite (c : Cmd)
  | bridgeCtl (c : Cmd)
  | scrub (c : Cmd)
  | scrubDone (a b : ScrubCnt)
  | planeRejoin (c : Cmd)
  | fwStage (c : Cmd) (image : List Byte)
  | fwStageDone (a b : SlotCheck)
  | fwSwap (c : Cmd)
  | linkCal (c : Cmd)
  | timeSwitch (c : Cmd)
  | flashWrite (c : Cmd) (data : List Byte)
  | flashWriteDone (okA okB : Bool)
  | selfTest (c : Cmd)
  | selfTestDone (mask : Word)
  | maintStatus (c : Cmd)
  | maintQueueStart
  | imageCommit (c : Cmd) (image : List Byte)
  | imageCheckDone
  | imageApply
  | imageWriteDone
  | imageQuery (c : Cmd)
  | imageVerify (c : Cmd) (image : List Byte)
  | flashChunk (c : Cmd)
  | blackout (c : Cmd)
  | hold (c : Cmd)
  | stopStream (c : Cmd)
  | resume (c : Cmd)
  | safeState (c : Cmd)
  | snufferTimedAct
  -- events
  | evStatusWrite (r : Req) (i : Fin 8) (v hw : Word)
  | evMaskWrite (r : Req) (i : Fin 8) (v : Word)
  | evRouteWrite (r : Req) (n : Byte) (v : Word)
  | msixEnable
  | msixUnmask (vec : Option (Fin 64))
  | eventSentenceHoldoff (n : Byte)
  | eventSentenceReceive (p : Plane) (octets : List Byte)
  -- power, reset, service
  | aonPowerOn (f : Plane)
  | pinResetRelease
  | resetNAssert
  | resetNRelease
  | perstAssert
  | joinLocalPass (p : Plane) (side : Bool)
  | joinLocalTimeout (p : Plane) (side : Bool)
  | joinNoticeSend (p : Plane) (side : Bool)
  | joinNoticeReturn (p : Plane) (side : Bool)
  | joinConfirmTimeout (p : Plane) (side : Bool)
  | joinRetry (p : Plane) (side : Bool)
  | pwrReqRun (r : Req)
  | pwrReqIdle (r : Req)
  | idleEnter
  | pwrReqStandby (r : Req)
  | wakeNAssert
  | alarmMatch
  | recorderMirror
  | aonFrFlush (r : Req)
  | aonFrMark (r : Req) (v : Word)
  | tempSensorUpdate (a b pin : Byte)
  | gidTempMaxRead (r : Req)
  | gpioSet (r : Req) (v : Word)
  | gpioClr (r : Req) (v : Word)
  | jtagIdcode
  | jtagSamplePreload (cells : List Bool)
  | jtagExtest
  | jtagBypass (code : Byte)
  | crystalStart
  | planeResetRelease (p : Plane)
  | loopProbeSend (p : Plane) (side : Bool)
  | carryComplete (p : Plane) (fixed : Nat) (bad : List Nat)
  | coldStartCountStart (p : Plane)
  | discardedFrameReceive (p : Plane) (port : Fin 4) (why : Fin 7)
  | prpSupervisionReceive (p : Plane) (port : Fin 4)
deriving DecidableEq, Repr

end Sys2Proof
end

