-- ==== Sys2Proof/Decode.lean ====
section
/-!
DEFINITION. Words of the table. No row of spec/opcode_table.json gives bits: commands are not encoded as words, so no word
spells one. Log 90.
-/
namespace Sys2Proof

/-- The command that a word spells by the table's bits: none, for every word. -/
def decodeTableWord (_nbits _w : Nat) : Option Instr := none

end Sys2Proof
end

