-- ==== Sys2Proof/Machine/Bits.lean ====
section
/-!
DEFINITION. Bit fields, byte order, and the check codes the manual names. Fields are read as natural numbers.
-/
namespace Sys2Proof

/-- Bits `hi:lo` of a natural number (R3). -/
def nfld (n hi lo : Nat) : Nat := n / 2 ^ lo % 2 ^ (hi + 1 - lo)

/-- Bits `hi:lo` of a register word (R3, R4). -/
def fld (w : Word) (hi lo : Nat) : Nat := nfld w.toNat hi lo

/-- `w` with bits `hi:lo` replaced by `v` (taken modulo the field's width). -/
def setFld (w : Word) (hi lo v : Nat) : Word :=
  BitVec.ofNat 32 (w.toNat - nfld w.toNat hi lo * 2 ^ lo + v % 2 ^ (hi + 1 - lo) * 2 ^ lo)

/-- Bit `i` of a register word. -/
def bit (w : Word) (i : Nat) : Bool := w.getLsbD i

/-- `w` with bit `i` set to `b`. -/
def setBit (w : Word) (i : Nat) (b : Bool) : Word := setFld w i i b.toNat

/-- The signed value of an `n`-bit two's complement field. -/
def sext (n : Nat) (x : Nat) : Int := if x % 2 ^ n < 2 ^ (n - 1) then (x % 2 ^ n : Nat) else (x % 2 ^ n : Nat) - (2 ^ n : Nat)

/-- The low `n` bits of a two's complement integer. -/
def toU (n : Nat) (x : Int) : Nat := (x % (2 ^ n : Nat)).toNat

/-- `x` limited to `lo ≤ x ≤ hi`. -/
def clamp (lo hi x : Int) : Int := if x < lo then lo else if hi < x then hi else x

/-- Octets, most significant first, as a number (network order, R5). -/
def beNat (bs : List Byte) : Nat := bs.foldl (fun a b => a * 256 + b.toNat) 0

/-- Octets, least significant first, as a number (R4). -/
def leNat : List Byte → Nat
  | [] => 0
  | b :: bs => b.toNat + 256 * leNat bs

/-- The low `n` octets of `x` in network order. -/
def toBE : Nat → Nat → List Byte
  | 0, _ => []
  | n + 1, x => BitVec.ofNat 8 (x / 256 ^ n) :: toBE n x

/-- The low `n` octets of `x`, least significant first. -/
def toLE : Nat → Nat → List Byte
  | 0, _ => []
  | n + 1, x => BitVec.ofNat 8 x :: toLE n (x / 256)

/-- `len` octets from octet `i`, padded with 0 when the list ends. -/
def slice (bs : List Byte) (i len : Nat) : List Byte :=
  let p := (bs.drop i).take len
  p ++ List.replicate (len - p.length) 0

/-- The number held in network order by octets `i` to `i + len - 1`. -/
def octs (bs : List Byte) (i len : Nat) : Nat := beNat (slice bs i len)

/-- `bs` with the octets from `i` on replaced by `new`, where `bs` reaches. -/
def patch (bs : List Byte) (i : Nat) (new : List Byte) : List Byte :=
  let n := new.take (bs.length - i)
  bs.take i ++ n ++ bs.drop (i + n.length)

/-- Applies `f` to element `i` of a list, if there is one. -/
def modAt {α : Type} (i : Nat) (f : α → α) : List α → List α
  | [] => []
  | x :: xs => match i with
    | 0 => f x :: xs
    | i + 1 => x :: modAt i f xs

/-- One shift of a CRC register of width `w`, most significant bit first. -/
def crcBit (w poly c : Nat) (b : Bool) : Nat :=
  let t := (c / 2 ^ (w - 1) % 2 == 1) != b
  let s := c * 2 % 2 ^ w
  if t then s ^^^ poly else s

/-- A CRC register run over one octet, most significant bit first. -/
def crcOctet (w poly c : Nat) (b : Byte) : Nat :=
  [7, 6, 5, 4, 3, 2, 1, 0].foldl (fun c i => crcBit w poly c (b.getLsbD i)) c

/-- HCRC: polynomial 0x1021, initial 0xFFFF, no reflection, no final inversion (R24). -/
def crc16 (bs : List Byte) : Nat := bs.foldl (crcOctet 16 0x1021) 0xFFFF

/-- The octet with its bits in the opposite order. -/
def rev8 (b : Byte) : Byte := BitVec.ofNat 8 ((List.range 8).foldl (fun a i => a * 2 + (b.getLsbD i).toNat) 0)

/-- The low `n` bits of `x` in the opposite order. -/
def revN (n x : Nat) : Nat := (List.range n).foldl (fun a i => a * 2 + x / 2 ^ i % 2) 0

/-- CRC-32 of IEEE 802.3: reflected, initial and final inversion. -/
def crc32 (bs : List Byte) : Nat :=
  (revN 32 (bs.foldl (fun c b => crcOctet 32 0x04C11DB7 c (rev8 b)) 0xFFFFFFFF)) ^^^ 0xFFFFFFFF

/-- The signed distance from `b` to `a` in serial arithmetic modulo 2^n: `a` is after `b` when it is positive. -/
def serial (n a b : Nat) : Int := sext n ((a + 2 ^ n - b % 2 ^ n) % 2 ^ n)

end Sys2Proof
end

