-- ==== Sys2Proof/Config.lean ====
section
/-!
DEFINITION. What one part or one implementation fixes, and the values the manual leaves open. Every constant here has no
body: nothing can be proved of its value. The log entry of each is named at it.
-/
namespace Sys2Proof.Config

/-- The fused 64-bit identifier of the part, GID_UID (R431). Log 4. -/
opaque uid : BitVec 64

/-- What fixes the fused latencies PORT_LAT of port `p` of plane A (0) or B (1) within the ranges of R165. Log 4. -/
opaque portLat : Nat → Nat → BitVec 32

/-- Tabripin's JEDEC manufacturer code in IDCODE bits 11:1 (R513). Log 4. -/
opaque jedec : BitVec 11

/-- The IEEE 1588 clockIdentity of plane A (0) or B (1). Log 39. -/
opaque clockId : Nat → BitVec 64

/-- The fused delay of a capture input's receiver, in 1/16 ns (R313): fixed at test, its value not stated. Log 4. -/
opaque captureDelay : Nat → Nat

/-- The 64-bit digest over the frames that a plane released on a port in an epoch (R71). Log 131. -/
opaque digest : List (List (BitVec 8)) → BitVec 64

/-- A free 32-bit value, drawn with the state's counter `freeCtr`: the manual lets the machine go on and does not say
which value results. Log 6. -/
opaque freeWord : Nat → BitVec 32

/-- A free 64-bit value, drawn as `freeWord`. Log 6. -/
opaque freeDword : Nat → BitVec 64

/-- A free truth value, drawn as `freeWord`. Log 6. -/
opaque freeBool : Nat → Bool

end Sys2Proof.Config
end

