-- ==== Sys2Proof/Machine/State.lean ====
section
/-!
DEFINITION. The state of the block as plain data, and the state before any power is applied (`State.reset`). Registers of
BAR0 are held by offset in `regs`; the rest of the state has a field of its own. INVENTORY.md lists every piece with its rule.
-/
namespace Sys2Proof.Machine

/-- Whether a register is one half of a 64-bit pair (R10). -/
inductive Half where
  | single | lo | hi
deriving DecidableEq, Repr

/-- One row of the register map: place, repetition, reset value, one mask per access code (R8), and the fields of which a
write outside `(hi, lo, min, max)` is ignored. -/
structure RegRow where
  base : Nat
  n1 : Nat
  s1 : Nat
  n2 : Nat
  s2 : Nat
  rst : Nat
  rw : Nat
  st : Nat
  w1c : Nat
  rs : Nat
  wo : Nat
  ranges : List (Nat × Nat × Nat × Nat)
  pair : Half
deriving DecidableEq, Repr

/-- The states of a plane (R75), in the order of their codes. -/
inductive PState where
  | off | boot | sync | copy | relearn | relearnWait | active | held
deriving DecidableEq, Repr

/-- What waits for an EG0 boundary to switch the selected domain (R114): the domain, the boundaries of an automatic decision and of a
TIME_SWITCH, that of a TIME_SWITCH whose domain has left LOCKED and LOCKED_PEER since, and what the lead plane decided when its own boundary
came first (R116). -/
structure Switch where
  target : Nat
  auto : Option Nat
  cmd : Option Nat
  given : Option Nat
  go : Option Bool
deriving DecidableEq, Repr

/-- An epoch generator's counter (R119, R121): whether boundaries come, the current index and the next one. -/
structure EgS where
  live : Bool
  index : Nat
  next : Nat
deriving DecidableEq, Repr

/-- A servo's memory (R105-R107): consecutive updates within 50 ns, the last INC_ADJ values, whether its own
reference is present, whether a SET that takes Lantern time is pending (R127), the sequenceId of its Delay_Req (R158), TDd_CFG and
TDd_LTC_OFS as of its last update (R103, R132), the offset measured since then; for end-to-end PTP what the last Sync showed without the
path's delay, the Delay_Req sent last with its dial time, and the mean path delay. -/
structure DomS where
  run : Nat
  hist : List Word
  ref : Bool
  seed : Bool
  drSeq : BitVec 16
  cfg : Word
  ofs : Word
  meas : Option Int
  sync : Option Int
  req : Option (BitVec 16 × Int)
  path : Option Int
deriving DecidableEq, Repr


/-- A bypass pin: driven high, driven low, or not driven while the device has no power (R90). -/
inductive BypLevel where
  | open_ | closed | highZ
deriving DecidableEq, Repr

/-- The columns of R502: no feed, PIN not released, the blocks' own, and STANDBY. -/
inductive BallPhase where
  | unpowered | inReset | running | standby
deriving DecidableEq, Repr

/-- What the block puts on its wires and into host memory, in order. Log 7. -/
inductive Output where
  /-- Data returned for a read of BAR0. -/
  | read (r : Req) (off : Nat) (v : Word)
  /-- Completer Abort for an access to a BAR. -/
  | abort (bar : Nat) (off : Nat)
  /-- Unsupported Request for an access to a BAR. -/
  | unsupported (bar : Nat) (off : Nat)
  /-- Data returned for a read or AtomicOp of BAR2. -/
  | bar2 (off : Nat) (data : List Byte)
  /-- Data returned for a read of BAR4. -/
  | bar4 (off : Nat) (v : Word)
  /-- MSI-X message of a vector: the address and the data that its table entry holds. -/
  | msix (v : Nat) (addr : Nat) (data : Word)
  /-- A DMA write into host memory. -/
  | hostWrite (addr : Nat) (data : List Byte)
  /-- An Ethernet frame from its destination address to the end of its data; whether its FCS is stomped (R139). -/
  | eth (p : Plane) (port : Nat) (stomp : Bool) (octets : List Byte)
  /-- A bridge response passed to the peer over the Taper link (R386). -/
  | taper (p : Plane) (octets : List Byte)
  /-- A serial frame begins on a line: TXD inverted at the ball (R320), telegram or characters, octets (checksum included). -/
  | serial (n : Nat) (inv tel : Bool) (octets : List Byte)
  /-- The characters of a line not yet started wait for CTS, or go on (R331). -/
  | serialHold (n : Nat) (hold : Bool)
  /-- A serial line stops after the character in progress (Snuffer ABRUPT, EN = 0), or at once where a release follows it. -/
  | serialCut (n : Nat)
  /-- A CAN frame's start of frame: descriptor and data. -/
  | can (n : Nat) (octets : List Byte)
  /-- A CAN controller acknowledges a frame of another node (R354). -/
  | canAck (n : Nat)
  /-- A CAN controller sends an error flag, active or passive, or an overload flag, which is laid out as an active one (R365). -/
  | canFlag (n : Nat) (active : Bool)
  /-- An LTC frame in biphase mark (R307): the line's level before it, and its 80 cells, each with its start in Lantern time, 1/16 ns, and
  its bit. -/
  | ltc (n : Nat) (level : Bool) (cells : List (Nat × Bool))
  /-- An LTC output rests at a level (R318). -/
  | ltcIdle (n : Nat) (level : Bool)
  /-- The level of a pulse output from now on: 1 high (R305). -/
  | pulse (n : Nat) (level : Bool)
  /-- The level of a bypass pin: 0 A_RING, 1 A_SIDE, 2 B_RING, 3 B_SIDE. -/
  | bypass (pin : Nat) (level : BypLevel)
  /-- A consumer word of a queue delivered to the plane's control core: its tag and octets (R206). -/
  | word (p : Plane) (q : Nat) (tag : BitVec 16) (octets : List Byte)
  /-- A SENTENCE or GAP notice of a queue to the plane's control core (R210). -/
  | notice (p : Plane) (q : Nat) (gap : Bool)
  /-- The level that an interrupt pin is driven to (R450). -/
  | irq (pin : Nat) (level : Bool)
  /-- The balls pass to another column of R502. -/
  | balls (phase : BallPhase)
  /-- A 32-bit register shifted out of JTAG, at TDO. -/
  | jtag (v : Word)
  /-- The boundary register as it captured the balls, shifted out at TDO: its cells in scan order (R513). -/
  | scan (cells : List Bool)
  /-- What the balls of the boundary register are driven to under EXTEST, in scan order, none where the output is not enabled; the empty list
  when the block has them again (R489, R513). -/
  | extest (levels : List (Option Bool))
deriving DecidableEq, Repr

/-- A plane's rejoin (R83): its phase, the dirty set of the last pass, passes run, epochs without a final pass, whether
EV116 was raised, whether it is the resynchronisation of R74, and the first release after the handover still to come. -/
inductive RejoinPhase where
  | waitTaper | sync | pass | awaitGuard | final | firstRelease
deriving DecidableEq, Repr

structure RejoinS where
  phase : RejoinPhase
  passes : Nat
  dirty : Nat
  tries : Nat
  resync : Bool
deriving DecidableEq, Repr

/-- A plane's RELEARN (R86-R89, R475): a cold start, the image loaded, epochs counted and whether they count, muting
still running, suspended under R89, the raw counter at the last change of what advances the count. -/
structure RelearnS where
  cold : Bool
  loaded : Bool
  counting : Bool
  count : Nat
  muted : Bool
  suspended : Bool
  since : Nat
deriving DecidableEq, Repr

/-- A ring pair's join check (R479): loop probes and join notices sent. The phase shows in AON_JOIN_STATUS. -/
structure JoinS where
  sent : Nat
  notices : Nat
deriving DecidableEq, Repr

/-- A feed's monitor (R56): its loss count running, its GOOD count running. -/
structure FeedS where
  below : Bool
  counting : Bool
deriving DecidableEq, Repr

/-- A mirror of an epoch generator on Lantern time (R128): the active parameters with the counter. -/
structure MirrorS where
  en : Bool
  num : Nat
  den : Nat
  base : Nat
  origin : Nat
  index : Nat
  next : Nat
deriving DecidableEq, Repr

/-- A sentence: its native header (R23) with reserved bits kept (R26), and its payload. `plen` is the PAYLOAD_LEN field, which a
forwarded sentence keeps whatever the frame held (R171). -/
structure Sent where
  ver : BitVec 4
  plen : BitVec 16
  cls : BitVec 3
  key : Bool
  prio : BitVec 3
  timed : Bool
  last : Bool
  ackreq : Bool
  rsv1 : BitVec 2
  unnum : Bool
  rsv2 : BitVec 5
  origin : BitVec 10
  talker : BitVec 16
  stream : BitVec 24
  sub : Byte
  seq : Word
  pt64 : BitVec 64
  tag : Word
  hops : Byte
  ttl : Byte
  hcrc : BitVec 16
  payload : List Byte
deriving DecidableEq, Repr

/-- A sentence waiting at a port's transmitter (R34): the port, the class in whose queue it waits, whether it is forwarded rather than
originated, whether its frame ends with the inverted FCS (R139). -/
structure TxItem where
  port : Fin 4
  cls : BitVec 3
  sent : Sent
  fwd : Bool
  stomp : Bool
deriving DecidableEq, Repr

/-- A frame to be sent that is no sentence: addresses, EtherType, what follows it, whether it is PTP, whether its FCS is inverted; of a PTP
event message of this device the domain whose dial time it takes at its egress, where it begins, whether it is a Delay_Req (R157). -/
structure WireFrame where
  da : Nat
  sa : Nat
  et : Nat
  body : List Byte
  ptp : Bool
  stomp : Bool
  orig : Option (Nat × Nat × Bool)
deriving DecidableEq, Repr

/-- What a port keeps beyond its registers: westward arrivals still turned east after an unwrap (R148), sequence
numbers of its Pdelay_Req and supervision frames (R158, R164); when its last Snuffer frame began, by the raw counter (R435); in SPUR mode, in 1/400 ns of raw time, when its last frame ends with its
gap and where the link's transmit blocks lie within a block, and the frames that wait for a launch to pass (R302). -/
structure PortS where
  turning : Bool
  pdSeq : BitVec 16
  supSeq : BitVec 16
  snfAt : Option (BitVec 64)
  busy : Nat
  phase : Nat
  wait : List WireFrame
deriving DecidableEq, Repr

/-- A duplicate-discard window (R143): the highest SEQ accepted and the record of H - 1023 to H, bit i for H - i. -/
structure DupWin where
  high : Word
  rec_ : BitVec 1024
deriving DecidableEq, Repr

/-- The timeTransmitter a servo follows (R152, R158): data set of its Announce, the port its Sync arrives on, the
sequenceIds used, newest last. -/
structure Master where
  dataset : List Byte
  identity : List Byte
  port : Fin 4
  syncs : List (BitVec 16)
deriving DecidableEq, Repr

/-- What the allocator needs of an sACN data packet (R186, R187, R190). -/
structure Sacn where
  seq : Byte
  terminated : Bool
  force : Bool
  syncAddr : BitVec 16
deriving DecidableEq, Repr

/-- A candidate of the origination allocator (R186): a converted input, or a native sentence to re-originate (R38). `src` is its port,
4 for the Lantern ring; `entry` its stream entry as read; `cycle` the 1.0 GHz cycle in which its classification completed (R173). -/
structure Cand where
  stream : BitVec 24
  arrival : Int
  payload : List Byte
  talker : BitVec 16
  src : Nat
  pairKey : Option (List Byte)
  sacn : Option Sacn
  native : Option Sent
  entry : BitVec 128
  cycle : Int
deriving DecidableEq, Repr

/-- A foreign input after its parser: key, payload, and what matching and the allocator need of it (R174, R175, R184, R187). -/
structure Parsed where
  kind : Nat
  key : BitVec 96
  payload : List Byte
  talker : Option (BitVec 16)
  preview : Bool
  sacn : Option Sacn
  cid : List Byte
  sync : Option (Byte × BitVec 16)
  prp : Option (List Byte)
  lantern : Option (List Byte)
deriving DecidableEq, Repr

/-- A stream's dynamic state in ingress (R186, R191, R193, R194, R42). `rate` gives the count of every epoch counted;
`keys` holds per fragment the boundaries since its last
keyframe, or since the stream's first sentence; `overdue` the fragments overdue. -/
structure StreamDyn where
  acc : Word
  drop : Word
  lastSeq : Option Byte
  terminated : Bool
  held : Option Cand
  rate : List (Option Nat × Nat)
  keys : Tab Nat
  overdue : List Nat
deriving DecidableEq, Repr

/-- A sync group (R190): 0 NEVER, 1 SYNCED, 2 UNSYNCED; last sequence and address accepted; the stamp of the last packet (R197). -/
structure SyncGrp where
  st : Nat
  lastSeq : Option Byte
  addr : BitVec 16
  stamp : Option Int
deriving DecidableEq, Repr

/-- A sentence record (R204): header with payload, ARRIVAL in 1/16 ns, source, flags, target epoch, QSEQ,
whether a consumer word was tagged ERR (R218, R235), the epoch of the instance open when an untimed record completed
(R270). -/
structure Rec where
  sent : Sent
  arrival : Int
  src : Nat
  keepLate : Bool
  reorig : Bool
  converted : Bool
  target : Option Nat
  qseq : Word
  err : Bool
  seenIn : Option Nat
deriving DecidableEq, Repr

/-- A gap marker (R213); `reserve` when it sits in the queue's marker-reserve cell (R212). -/
structure Gap where
  count : Word
  firstStream : BitVec 24
  firstArrival : Int
  lastArrival : Int
  reserve : Bool
deriving DecidableEq, Repr

inductive QItem where
  | record (r : Rec)
  | gap (g : Gap)
deriving DecidableEq, Repr

/-- A sentence queue (R204-R217): items in order, words of the head item already read, the record being written, the
sentences waiting at producer ports with the cycle in which each was finished (R207), QSEQ, the head's word position in its cell, a pending flush. -/
structure QueueS where
  items : List QItem
  readPos : Nat
  writing : Option Rec
  ready : List (Int × Rec)
  qseq : Word
  head : Nat
  doomed : Bool
deriving DecidableEq, Repr

/-- A LINK_CAL run (R160): the pair, probes per direction, eastward probes being sent, sent so far, sums and counts of
loops, members, voided by a wrap. -/
structure CalS where
  side : Bool
  probes : Nat
  east : Bool
  sent : Nat
  sumE : Int
  nE : Nat
  sumW : Int
  nW : Nat
  members : Nat
  void : Bool
deriving DecidableEq, Repr

/-- A stream's applied state (R236): base flag per fragment, epoch, arrival and presentation time of the last sentence
applied, LIVE and LIVE_PREV as last judged. -/
structure Applied where
  base : BitVec 256
  lastEpoch : Option Nat
  lastArrival : Int
  lastPt : Int
  live : Bool
  prev : Bool
deriving DecidableEq, Repr

/-- The tables an engine reads as they stood when its job started (R242): moves, profiles, LUT points (slot * 1024 * 2 +
point), merge lists, stream entries. -/
structure Tables where
  moves : Tab (BitVec 128)
  profs : Tab (BitVec 256)
  luts : Tab (BitVec 16)
  merges : Tab (BitVec 1024)
  streams : Tab (BitVec 128)
deriving DecidableEq, Repr

inductive JState where
  | wait | ready | run
deriving DecidableEq, Repr

/-- An open job instance (R274-R278): its epoch, deadline and half, its descriptor as it stood when the instance opened
with the release descriptor it fills, slots satisfied, and what intake and the run have found, and the outcome it
stops with after the move in progress (R276, R277). -/
structure Inst where
  epoch : Nat
  st : JState
  desc : BitVec 1024
  rdesc : BitVec 256
  deadline : Int
  half : Bool
  sat : BitVec 16
  timedOut : Bool
  late : Bool
  ovf : Bool
  gap : Bool
  ecc : Bool
  slotMiss : BitVec 16
  slotGap : BitVec 16
  fallback : Bool
  slots : List (List Rec)
  cycles : Nat
  ending : Option Nat
deriving DecidableEq, Repr

/-- An engine at work (R275): its job, the entry it stands at, entries left, its tables, and the profiles and merge lists that it has found
uncorrectable in this job (R259). -/
structure EngS where
  job : Nat
  entry : Nat
  left : Nat
  tabs : Tables
  badProfs : List Nat
  badLists : List Nat
deriving DecidableEq, Repr

/-- A descriptor's last release (R300, R301, R316): LAST, the last launch stamp, a prepared launch (epoch, buffer, descriptor),
how the build instances of the last two epochs ended (epoch, whether with a buffer, the descriptor as it stood when the instance
opened), the SEQ assigned (epoch, SEQ), and the last epoch whose Ethernet release came up since the generator was enabled (R312). -/
structure DescS where
  last : Nat
  launch : Nat
  prep : Option (Nat × List Byte × BitVec 256)
  built : List (Nat × Bool × BitVec 256)
  seq : Option (Nat × Word)
  done : Option Nat
deriving DecidableEq, Repr

/-- A pulse command waiting for T - TURN (R310): output, release time in 1/16 ns, what the copy holds (a programme, with the
phase of a commanded one as PT64; empty for a stop), its command, whether it is LATE. -/
structure PulseCmd where
  out : Nat
  at_ : Int
  data : List Byte
  cmd : Cmd
  late : Bool
deriving DecidableEq, Repr

/-- A pin copy held by the Lantern ring (R60, R61): its plane, OSEQ, CAN object, frame or SKIP. -/
structure Copy where
  plane : Plane
  oseq : Word
  obj : Byte
  data : Option (List Byte)
deriving DecidableEq, Repr

/-- A copy on a plane's copy path (R297): the cycle in which its instance ended, its descriptor, its output, the copy. -/
structure PathC where
  cycle : Int
  desc : Nat
  out : Nat
  copy : Copy
deriving DecidableEq, Repr

/-- What a decision point chose for a release (R61, R64, R65, R438): the copy kept; nothing, for a SKIP; the hold of R64; the
copy blacked out; the ZERO safe state; the QUIET one. -/
inductive Choice where
  | send (obj : Byte) (data : List Byte)
  | skip
  | hold
  | black (obj : Byte) (data : List Byte)
  | zero
  | quiet
deriving DecidableEq, Repr

/-- A pin output's release state (R61-R65): last OSEQ released, copies held, decisions waiting for their release time with the copies each was
made from,
missed-epoch count with the epoch being judged and whether it has a miss, the content last released by release index,
commands that complete with a release (OSEQ, its time, the command, LATE; R310). -/
structure OutS where
  last : Option Word
  copies : List Copy
  chosen : List (Word × Choice × Nat)
  missed : Nat
  epoch : Option Nat
  miss : Bool
  holding : Bool
  safe : Bool
  content : Tab (Byte × List Byte)
  cmds : List (Word × Int × Cmd × Bool)
deriving DecidableEq, Repr

/-- A running pulse programme (R304, R305): time of pulse 0 in 1/16 ns, PERIOD, WIDTH, COUNT, the next pulse. -/
structure Prog where
  t0 : Int
  period : Nat
  width : Nat
  count : Nat
  m : Nat
deriving DecidableEq, Repr

/-- A pulse output: the programme, the trailing edge to come while active (R305). -/
structure PulseS where
  prog : Option Prog
  trail : Option Int
deriving DecidableEq, Repr

/-- A capture input's or LTC input's memory: the last stamp, the running HOLDOFF is judged against it (R313, R318). -/
structure StampS where
  last : Option Int
  inseq : Word
deriving DecidableEq, Repr

/-- A capture edge or an LTC frame in its Lantern receive queue (R280, R313): its stamp in Lantern time, the input, the planes that have
still to take it. -/
structure LanIn where
  stamp : Int
  input : Foreign
  toA : Bool
  toB : Bool
deriving DecidableEq, Repr

/-- Who owns a frame given to a line's transmit queue or a CAN object: the host, a command that completes with it (R433),
an access of a plane's bridge by tracker entry and order of acceptance (R393, R394). -/
inductive Owner where
  | host
  | cmd (c : Cmd)
  | bridge (p : Plane) (entry ord : Nat)
deriving DecidableEq, Repr

/-- An ended packet or telegram, or a break mark, in a line's receive queue (R326): telegram, ended by the idle-line mark or
complete, CHK_OK, a character error inside, octets of checksum, entries left, stamp in Lantern time, the destinations that
have still to take it, entries the host has discarded while ingress has still to take the item, and its input sequence. -/
structure SlItem where
  tel : Bool
  idle : Bool
  chk : Bool
  charErr : Bool
  sum : Nat
  len : Nat
  stamp : Int
  toA : Bool
  toB : Bool
  toHost : Bool
  hostPos : Nat
  inseq : Word
deriving DecidableEq, Repr

/-- A frame of a line's transmit queue (R337): header word and octets. -/
structure SlFrame where
  hdr : Word
  data : List Byte
  owner : Owner
deriving DecidableEq, Repr

/-- What a serial line is receiving: nothing, an asynchronous packet, a telegram from its start code, octets after a
complete telegram, a discovery response, nothing until the next break (R334). -/
inductive RxPhase where
  | idle | packet | telegram | ignore | dub | deaf
deriving DecidableEq, Repr

/-- What a line transmits (R299, R331): a queue frame or else a release, whether its first character waits for CTS, and whether
CTS has become inactive since, so that its next character waits. -/
structure SlTx where
  frame : Option SlFrame
  tel : Bool
  wait : Bool
  stall : Bool
deriving DecidableEq, Repr

/-- A transaction awaiting its response (R339): its frame, the end of its last stop cell in Lantern time, whether a response has
begun, whether RESP_TIMEOUT ran out during a low that began in time and may prove a break, a character error, octets of the
response once it has ended. -/
structure SlAwait where
  frame : SlFrame
  start : Int
  got : Bool
  due : Bool
  err : Bool
  octets : List Byte
deriving DecidableEq, Repr

/-- A serial line (R321-R345). The receive queue's entries include those of the item being received, which are its last
`curLen`; `curCount` counts its characters and `curOcts` holds their octets, lost ones included. `pend` is an item of one entry
that has ended while that entry waits in the holding register for a descriptor (R328). `armAt` is the Lantern time from which a
falling edge starts a character, `endAt` the nominal end of the last character's stop cells, `blind` whether its first stop sample
was low, `low` whether the line has been low since its start edge with no break reported (R323, R324, R341). `cts` is the level at
the ball, `lastEnd` when the last transaction ended (R338). `rdmTn` is the line's RDM transaction number (R394). -/
structure SlS where
  rxq : List (BitVec 16)
  items : List SlItem
  pend : Option SlItem
  hold : Option (BitVec 16)
  phase : RxPhase
  curLen : Nat
  curCount : Nat
  curOcts : List Byte
  curErr : Bool
  curLost : Bool
  curStamp : Int
  armAt : Int
  endAt : Int
  blind : Bool
  low : Bool
  lastEnd : Option Int
  txq : List SlFrame
  part : Option SlFrame
  partDrop : Nat
  tx : Option SlTx
  deLag : Bool
  await : Option SlAwait
  rts : Bool
  cts : Bool
  rdmTn : Byte
deriving DecidableEq, Repr

/-- A frame in a transmit object (R358): descriptor and data octets, and its owner. -/
structure TxFrame where
  octets : List Byte
  owner : Owner
deriving DecidableEq, Repr

/-- A transmit object's frames (R358). -/
structure TxObj where
  pend : Option TxFrame
  next : Option TxFrame
deriving DecidableEq, Repr

/-- An entry of a controller's receive queue (R355): RTR, descriptor and data octets, stamp, the destinations that have
still to take it, its input sequence. -/
structure CanRx where
  rtr : Bool
  desc : List Byte
  data : List Byte
  stamp : Int
  toA : Bool
  toB : Bool
  toHost : Bool
  inseq : Word
deriving DecidableEq, Repr

/-- The frame a controller transmits (R360, R363): its object, the frame, its start-of-frame, whether it was discarded
meanwhile. -/
structure OnBus where
  obj : Nat
  frame : TxFrame
  start : Nat
  gone : Bool
deriving DecidableEq, Repr

/-- A CAN FD controller (R350-R371): receive queue, RXB and its shadow, objects, the slot whose window is open, the frame
on the bus, consecutive ACK errors (R367), recovery counting, EN cleared while a frame was on the bus, asleep, another node's frame known
to be on the bus (R363, R371, R375). -/
structure CanS where
  rxq : List CanRx
  rxb : Option (List Byte)
  shadow : Option (List Byte)
  objs : Tab TxObj
  slot : Option Nat
  onBus : Option OnBus
  acks : Nat
  recovering : Bool
  stopAtEnd : Bool
  asleep : Bool
  rx : Bool
deriving DecidableEq, Repr

/-- A window's prefetch buffer (R404): window offset of its octet 0, octets as the host would see them, which were read. -/
structure PfBuf where
  off : Nat
  data : List Byte
  read : List Bool
deriving DecidableEq, Repr

/-- A window's dynamic state (R400, R401, R403, R404, R392, R410): who holds the lock (0 host, 1 control core A, 2 control
core B), the tracker entry that holds the semaphore, TXN, the prefetch buffer, posted writes failed since the last FENCE and
the first code among them, the CAN transaction removed by a timeout whose response may still come (TXN, object address). -/
structure WinS where
  lock : Option Nat
  sem : Option Nat
  txn : BitVec 6
  pf : Option PfBuf
  failed : Nat
  first : Nat
  gone : Option (Nat × List Byte)
deriving DecidableEq, Repr

/-- What an access does. -/
inductive AccKind where
  | read
  | write
  | fetchAdd (x : BitVec 64)
  | swap (x : BitVec 64)
  | cas (cmp x : BitVec 64)
deriving DecidableEq, Repr

/-- Where an access stands: its unit not begun; far read or far write sent; the wait of an ACK_TIMER before its read or write
is repeated; the read or write still to be placed in its CAN object or line. -/
inductive AccPhase where
  | wait | reading | writing | timerRead | timerWrite | placeRead | placeWrite
deriving DecidableEq, Repr

/-- An access in a tracker entry (R382, R397): order of acceptance, window, its command when a control core makes it,
posted, kind; the offset of the unit to come and the end, offset and length asked for, the data still to write with its byte
enables (from `off` on), octets read so far, the first failure (code, DETAIL, offset), whether it came after a pending COMMIT;
its phase, octets of the unit under way, the far octets to write, generation, transaction number, retries made, and the
object address or the parameter data joined so far. -/
structure TrkS where
  ord : Nat
  win : Nat
  core : Option Cmd
  posted : Bool
  kind : AccKind
  off : Nat
  stop : Nat
  asked : Nat × Nat
  data : List Byte
  be : List Bool
  got : List Byte
  fail : Option (Nat × Nat × Nat)
  late : Bool
  ph : AccPhase
  unit : Nat
  old : List Byte
  gen : Nat
  tn : Nat
  tries : Nat
  param : List Byte
deriving DecidableEq, Repr

/-- A FENCE read held (R403): its requester, its window, its command when a command makes it, the posted writes awaited by
order of acceptance, failures so far with the first code; for WIN_WRITE how its own write failed, for REG_READ the octets
already read. -/
structure FenceS where
  req : Req
  win : Nat
  core : Option Cmd
  waits : List Nat
  failed : Nat
  first : Nat
  own : Option (Nat × Nat)
  got : List Byte
deriving DecidableEq, Repr

/-- A request of another device that waits in the target's intake (R384, R406): posted class or not, OP of its row, requester, payload. -/
structure TgtReq where
  posted : Bool
  op : Nat
  origin : BitVec 10
  payload : List Byte
deriving DecidableEq, Repr

/-- A posted write in the host port's hold (R382): BAR2 offset, data, byte enables; its order of acceptance, and whether it came after a
COMMIT of the window still pending (R413). -/
structure PostS where
  ord : Nat
  off : Nat
  data : List Byte
  be : List Bool
  late : Bool
deriving DecidableEq, Repr

/-- An outcome on its way to the owner of a frame; none is left between two commands. -/
inductive Todo where
  /-- A transaction of a line ended: SL_TXN RESULT, the response. -/
  | sl (o : Owner) (result : Nat) (octets : List Byte)
  /-- A CAN frame was sent at `start`, or discarded. -/
  | can (o : Owner) (sent : Bool) (start : Nat)
  /-- A frame that answers an open CANOBJ transaction: data octets. -/
  | canResp (p : Plane) (entry : Nat) (data : List Byte)
  /-- The FENCE read of a REG_READ at plane `p` has returned: octets read so far. -/
  | fence (p : Plane) (c : Cmd) (got : List Byte)
deriving DecidableEq, Repr


/-- A host queue (R420): the values of its doorbells, a command fetched that has had no reply yet, replies owed, PHASE; the
DMA write of its next reply will fail. -/
structure HqS where
  tail : Nat
  head : Nat
  busy : Bool
  owed : Nat
  phase : Bool
  wfail : Bool
deriving DecidableEq, Repr

/-- The Snuffer state (R438): HOLD and its end pending at the next canvas boundary, outputs and ports blacked out and in
SAFE_STATE, streams stopped. -/
structure SnfS where
  hold : Bool
  holdEnds : Bool
  black : BitVec 58
  safe : BitVec 58
  pBlack : BitVec 4
  pSafe : BitVec 4
  stopped : List (BitVec 24)
deriving DecidableEq, Repr

/-- A maintenance operation, 0x0901 + op (R445): its planes, its command (none for an automatic rejoin, R446), octets that go
to flash, and the status with which an operation that has failed meanwhile will complete (R484). -/
structure MaintOp where
  op : Nat
  planes : BitVec 2
  cmd : Option Cmd
  data : List Byte
  fail : Option Nat
deriving DecidableEq, Repr

/-- An open IMAGE_COMMIT or IMAGE_VERIFY (R442): its image, the apply epoch that the end of its checks has given, whether the named
boundary had passed. -/
structure ImgS where
  cmd : Cmd
  image : List Byte
  verify : Bool
  applyAt : Option Nat
  late : Bool
deriving DecidableEq, Repr

/-- A command that has begun and not had its final reply (R426): the planes that act on it, their parts so far (plane,
status, result), whether the completion in SPLIT is NOT_PERMITTED (R459), whether it has had no reply yet. -/
structure OpenS where
  cmd : Cmd
  acting : List Plane
  parts : List (Plane × Nat × List Byte)
  split : Bool
  first : Bool
deriving DecidableEq, Repr

/-- One plane: what it keeps beyond its registers; `dead` tells that it stays in BOOT with no firmware (R477); `rlsd` lists what it
released by epoch and port (R71); `ruleSnap` is the rule whose counter ING_RULE_SEL took, with what a read takes from it (R198); `levels` holds, of the queues that have changed
in this cycle, HI_LIVE and LO_LIVE at its start (R216, R217); `tgtIn` and `brgOut` are the bridge's target intake and its sentences that
wait for room in the ring's buffers, by class (R406). -/
structure PlaneS where
  st : PState
  raw : BitVec 64
  bridge : Int
  sw : Option Switch
  jump : Bool
  eg : List EgS
  dom : List DomS
  masters : List (Option Master)
  skewRun : Nat
  tabs : Tables
  rules : Tab (BitVec 256)
  jobs : Tab (BitVec 1024)
  descs : Tab (BitVec 256)
  maps : Tab (BitVec 128)
  hits : Tab Word
  ruleSnap : Option (Nat × Word)
  sdyn : Tab StreamDyn
  sync : Tab SyncGrp
  pairs : List (List Byte)
  cands : List Cand
  dup : Tab DupWin
  seqs : Tab Word
  txq : List TxItem
  hold : List TxItem
  port : List PortS
  ptpSeen : List (List Byte × BitVec 64)
  prpSeq : List (BitVec 16)
  qs : Tab QueueS
  cv0 : Tab Byte
  cv1 : Tab Byte
  half : Bool
  started : Bool
  closed : Bool
  stale : Bool
  clean : List Nat
  applied : Tab Applied
  inst : Tab Inst
  recs : Tab (List Byte)
  cost : Tab (Nat × Int)
  cancel : List Nat
  engs : List (Option EngS)
  used : Nat
  rel0 : Tab Byte
  rel1 : Tab Byte
  descSt : Tab DescS
  pulses : List PulseCmd
  finalQ : List (Nat × Int × Sent)
  cal : Option CalS
  join : List JoinS
  rejoin : Option RejoinS
  relearn : Option RelearnS
  win : Tab WinS
  trk : Tab TrkS
  posted : List PostS
  fences : List FenceS
  gens : Tab Nat
  accOrd : Nat
  intake : List (Nat × QItem)
  obs : List (BitVec 24 × Nat)
  path : List PathC
  fw : Option (Word × BitVec 16)
  dead : Bool
  noOpen : Nat
  rlsd : List (Nat × Nat × List Byte)
  before : Option (Tab (BitVec 1024) × Tab (BitVec 256))
  levels : Tab (Bool × Bool)
  tgtIn : List TgtReq
  brgOut : List (BitVec 3 × List Byte)
deriving DecidableEq, Repr

/-- The block. `fresh` are the Snuffer commands of the ring accepted in one cycle, by its Lantern time (R417); `checks` are the image
commands whose checks have not ended, in order of acceptance, and `img` the IMAGE_COMMIT that waits for its apply point (R442). `qsUp` are the planes whose
QSn_RST_N is driven high (R502, R503); `frNow` are the SRC of the flight-recorder records written in this cycle (R485). -/
structure State where
  pending : List Instr
  freeCtr : Nat
  out : List Output
  regs : Tab Word
  stage : Tab Word
  snap : Tab Word
  hiLatch : Tab Word
  loHeld : Tab Word
  aonOn : Bool
  pinPow : Bool
  pinOn : Bool
  qsUp : List Plane
  rstLow : Bool
  crystal : Bool
  tickFrac : Nat
  feedA : FeedS
  feedB : FeedS
  taperUp : Bool
  link : List (Plane × Int × Sent)
  digMm : Option Nat
  lead : Plane
  pA : PlaneS
  pB : PlaneS
  lt : Nat
  ltStep : Bool
  ltPhase : Int
  ltRef : Plane
  mirror : List MirrorS
  outs : List OutS
  pulseIx : Tab (Nat × Nat)
  po : List PulseS
  ci : List StampS
  li : List StampS
  lanIn : List LanIn
  lo : List (Option Bool)
  sl : List SlS
  can : List CanS
  evHold : Tab (Bool × Nat × BitVec 64)
  vecMask : BitVec 64
  msixTab : Tab Word
  msixEn : Bool
  funcMask : Bool
  pba : BitVec 64
  fr : Tab (BitVec 128)
  frDone : Nat
  frNow : List Nat
  frSent : Nat
  flashA : Tab Byte
  flashB : Tab Byte
  setLead : Option (Plane × Nat × Cmd × Bool)
  hq : List HqS
  accepted : List Cmd
  fresh : Nat × List Cmd
  opens : List OpenS
  fwdTags : Tab Nat
  todo : List Todo
  seen : List (BitVec 10 × Word × Nat)
  seenSnf : List (BitVec 10 × Word × Nat)
  seenRep : List (List Byte × Nat)
  snf : SnfS
  snfAon : SnfS
  snfTimed : List Cmd
  maint : List MaintOp
  maintQ : List MaintOp
  checks : List ImgS
  img : Option ImgS
  imgPause : Bool
  imgBuf : Bool
  activeImg : List Byte
  jtagIr : Byte
  jtagCells : List Bool
deriving DecidableEq, Repr

/-- Stops of the machine as faults. None: every command the spec gives an effect has a next state. -/
inductive Fault where
deriving DecidableEq, Repr

/-- Refusals. -/
inductive Refusal where
  /-- Raised by `exec` for a command without a meaning yet, by its mnemonic. Safe. -/
  | notModelled (mnemonic : String)
deriving DecidableEq, Repr

/-- What a command answers. -/
abbrev Res := Host.Outcome State Fault Refusal

/-- No tables. -/
def Tables.empty : Tables := { moves := [], profs := [], luts := [], merges := [], streams := [] }

/-- A servo that has measured nothing. -/
def DomS.rest : DomS :=
  { run := 0, hist := [], ref := false, seed := false, drSeq := 0, cfg := 0, ofs := 0, meas := none, sync := none, req := none,
    path := none }

/-- A port at rest. -/
def PortS.rest : PortS := { turning := false, pdSeq := 0, supSeq := 0, snfAt := none, busy := 0, phase := 0, wait := [] }

/-- A plane before power (R75; log 5). -/
def PlaneS.unpowered : PlaneS :=
  { st := .off, raw := 0, bridge := 0, sw := none, jump := false, eg := List.replicate 4 ⟨false, 0, 0⟩,
    dom := List.replicate 2 DomS.rest, masters := [none, none], skewRun := 0, tabs := Tables.empty, rules := [],
    jobs := [], descs := [], maps := [], hits := [], ruleSnap := none, sdyn := [], sync := [], pairs := [], cands := [], dup := [], seqs := [],
    txq := [], hold := [], port := List.replicate 4 PortS.rest, ptpSeen := [], prpSeq := List.replicate 4 0, qs := [],
    cv0 := [], cv1 := [], half := false, started := false, closed := false, stale := false, clean := [], applied := [],
    inst := [], recs := [], cost := [], cancel := [], engs := List.replicate 16 none, used := 0, rel0 := [], rel1 := [],
    descSt := [], pulses := [], finalQ := [], cal := none, join := List.replicate 2 ⟨0, 0⟩, rejoin := none,
    relearn := none, win := [], trk := [], posted := [], fences := [], gens := [], accOrd := 0, intake := [], obs := [], path := [], fw := none, dead := false, noOpen := 0, before := none, levels := [],
    rlsd := [], tgtIn := [], brgOut := [] }

/-- What an octet of flash reads as after an erase, and in a new part (R512). Log 51. -/
def erased : Byte := 0xFF

/-- No Snuffer state (R438). -/
def SnfS.clear : SnfS :=
  { hold := false, holdEnds := false, black := 0, safe := 0, pBlack := 0, pSafe := 0, stopped := [] }

/-- A serial line at rest. -/
def SlS.rest : SlS :=
  { rxq := [], items := [], pend := none, hold := none, phase := .idle, curLen := 0, curCount := 0, curOcts := [], curErr := false,
    curLost := false, curStamp := 0, armAt := 0, endAt := 0, blind := false, low := false, lastEnd := none, txq := [], part := none, partDrop := 0, tx := none, deLag := false, await := none, rts := false,
    cts := false, rdmTn := 0 }

/-- A CAN controller at rest. -/
def CanS.rest : CanS :=
  { rxq := [], rxb := none, shadow := none, objs := [], slot := none, onBus := none, acks := 0, recovering := false,
    stopAtEnd := false, asleep := false, rx := false }

/-- A pin output that has released nothing (R61). -/
def OutS.rest : OutS :=
  { last := none, copies := [], chosen := [], missed := 0, epoch := none, miss := false, holding := false, safe := false,
    content := [], cmds := [] }

/-- The block before any feed is applied: every register at its reset value (R9), every buffer, queue and table empty, no
plane powered (R75, R472). Log 5. -/
def State.reset : State :=
  { pending := [], freeCtr := 0, out := [], regs := [], stage := [], snap := [], hiLatch := [], loHeld := [], aonOn := false,
    pinPow := false, pinOn := false, qsUp := [], rstLow := false, crystal := false, tickFrac := 0,
    feedA := ⟨false, false⟩, feedB := ⟨false, false⟩, taperUp := false, link := [], digMm := none, lead := .a, pA := PlaneS.unpowered,
    pB := PlaneS.unpowered, lt := 0, ltStep := false, ltPhase := 0, ltRef := .a,
    mirror := List.replicate 4 ⟨false, 1, 60, 0, 0, 0, 0⟩, outs := List.replicate 58 OutS.rest,
    pulseIx := [], po := List.replicate 16 ⟨none, none⟩, ci := List.replicate 8 ⟨none, 0⟩, li := List.replicate 2 ⟨none, 0⟩,
    lanIn := [], lo := [none, none],
    sl := List.replicate 32 SlS.rest, can := List.replicate 8 CanS.rest, evHold := [], vecMask := BitVec.allOnes 64, msixTab := [],
    msixEn := false, funcMask := false, pba := 0, fr := [], frDone := 0, frNow := [], frSent := 0, flashA := [], flashB := [],
    setLead := none, hq := List.replicate 4 ⟨0, 0, false, 0, false, false⟩, accepted := [], fresh := (0, []), opens := [], fwdTags := [], todo := [], seen := [], seenSnf := [], seenRep := [],
    snf := SnfS.clear, snfAon := SnfS.clear, snfTimed := [], maint := [], maintQ := [], checks := [], img := none, imgPause := false, imgBuf := false, activeImg := [],
    jtagIr := 0x01, jtagCells := [] }

end Sys2Proof.Machine
end

