-- ==== Sys2Proof/Machine/Regs.lean ====
section
/-!
DEFINITION. The BAR0 register map: the offset of every register (namespace R), and one row per register with its reset
value, the masks of its access codes (R8) and the ranges outside which a write of a field is ignored. Rows of a plane are
given for plane A; plane B repeats them at +0x40_0000 (R17).
-/
namespace Sys2Proof.Machine

/-- Where a plane's registers begin, less plane A's start (R17). -/
def planeOfs : Plane → Nat
  | .a => 0
  | .b => 0x400000

/-- GID_IDENT (R2). -/
def R.GID_IDENT : Nat := 0x0
/-- GID_BEHAV (R491). -/
def R.GID_BEHAV : Nat := 0x4
/-- GID_UID_LO (R431). -/
def R.GID_UID_LO : Nat := 0x8
/-- GID_UID_HI (R431). -/
def R.GID_UID_HI : Nat := 0xC
/-- GID_SENT_CTL (R49). -/
def R.GID_SENT_CTL : Nat := 0x10
/-- GID_CV_APER (R262). -/
def R.GID_CV_APER : Nat := 0x20
/-- GID_CMD_CTL (R429). -/
def R.GID_CMD_CTL : Nat := 0x30
/-- GID_MNT_STATUS (R447). -/
def R.GID_MNT_STATUS : Nat := 0x34
/-- GID_TEMP (R518). -/
def R.GID_TEMP : Nat := 0x40
/-- GID_TEMP_MAX (R518). -/
def R.GID_TEMP_MAX : Nat := 0x44
/-- HQ_CTL (R421). -/
def R.HQ_CTL (i : Nat) : Nat := 0x1000 + i * 0x40
/-- HQ_STATUS (R421). -/
def R.HQ_STATUS (i : Nat) : Nat := 0x1004 + i * 0x40
/-- HQ_SQ_BASE_LO (R421). -/
def R.HQ_SQ_BASE_LO (i : Nat) : Nat := 0x1008 + i * 0x40
/-- HQ_SQ_BASE_HI (R421). -/
def R.HQ_SQ_BASE_HI (i : Nat) : Nat := 0x100C + i * 0x40
/-- HQ_RQ_BASE_LO (R421). -/
def R.HQ_RQ_BASE_LO (i : Nat) : Nat := 0x1010 + i * 0x40
/-- HQ_RQ_BASE_HI (R421). -/
def R.HQ_RQ_BASE_HI (i : Nat) : Nat := 0x1014 + i * 0x40
/-- HQ_FAULT (R421). -/
def R.HQ_FAULT (i : Nat) : Nat := 0x1018 + i * 0x40
/-- HQ_DONE (R421). -/
def R.HQ_DONE (i : Nat) : Nat := 0x101C + i * 0x40
/-- HQ_RQ_LOST (R421). -/
def R.HQ_RQ_LOST (i : Nat) : Nat := 0x1020 + i * 0x40
/-- EV_STATUS (R453). -/
def R.EV_STATUS (i : Nat) : Nat := 0x2000 + i * 0x4
/-- EV_COND (R453). -/
def R.EV_COND (i : Nat) : Nat := 0x2020 + i * 0x4
/-- EV_MASK (R453). -/
def R.EV_MASK (i : Nat) : Nat := 0x2040 + i * 0x4
/-- EV_PEND (R453). -/
def R.EV_PEND (i : Nat) : Nat := 0x2060 + i * 0x4
/-- EV_IRQ_CTL (R453). -/
def R.EV_IRQ_CTL : Nat := 0x2080
/-- EV_SENT_CTL (R453). -/
def R.EV_SENT_CTL : Nat := 0x2084
/-- EV_VEC_ACTIVE_LO (R453). -/
def R.EV_VEC_ACTIVE_LO : Nat := 0x2088
/-- EV_VEC_ACTIVE_HI (R453). -/
def R.EV_VEC_ACTIVE_HI : Nat := 0x208C
/-- EV_IRQ_STATE (R453). -/
def R.EV_IRQ_STATE : Nat := 0x2090
/-- EV_COLLECT_HEAD (R453). -/
def R.EV_COLLECT_HEAD : Nat := 0x20A0
/-- EV_COLLECT_TAIL (R453). -/
def R.EV_COLLECT_TAIL : Nat := 0x20A4
/-- EV_COLLECT_LOST (R453). -/
def R.EV_COLLECT_LOST : Nat := 0x20A8
/-- EV_SENT_COUNT (R453). -/
def R.EV_SENT_COUNT : Nat := 0x20AC
/-- EV_ACC_INFO (R454). -/
def R.EV_ACC_INFO : Nat := 0x20B0
/-- EV_ACC_ADDR (R453). -/
def R.EV_ACC_ADDR : Nat := 0x20B4
/-- EV_ROUTE (R454). -/
def R.EV_ROUTE (i : Nat) : Nat := 0x2400 + i * 0x4
/-- EV_COLLECT (R453). -/
def R.EV_COLLECT (i : Nat) (j : Nat) : Nat := 0x2800 + i * 0x10 + j * 0x4
/-- AON_DEVNUM (R50). -/
def R.AON_DEVNUM : Nat := 0x100010
/-- AON_STRAP (R491). -/
def R.AON_STRAP : Nat := 0x100020
/-- AON_PSUP_STATUS (R78). -/
def R.AON_PSUP_STATUS : Nat := 0x100100
/-- AON_PSUP_CTL (R79). -/
def R.AON_PSUP_CTL : Nat := 0x100104
/-- AON_TAPER_CNT (R80). -/
def R.AON_TAPER_CNT : Nat := 0x100108
/-- AON_FEED_STATUS (R57). -/
def R.AON_FEED_STATUS : Nat := 0x100110
/-- AON_FEED_CFG (R58). -/
def R.AON_FEED_CFG : Nat := 0x100114
/-- AON_BYP_CTL (R91). -/
def R.AON_BYP_CTL : Nat := 0x100120
/-- AON_JOIN_STATUS (R491). -/
def R.AON_JOIN_STATUS : Nat := 0x100130
/-- AON_JOIN_CFG (R491). -/
def R.AON_JOIN_CFG : Nat := 0x100134
/-- AON_SLWAKE_CFG (R348). -/
def R.AON_SLWAKE_CFG (i : Nat) : Nat := 0x100200 + i * 0x10
/-- AON_SLWAKE_MATCH (R348). -/
def R.AON_SLWAKE_MATCH (i : Nat) : Nat := 0x100204 + i * 0x10
/-- AON_SLWAKE_ID (R348). -/
def R.AON_SLWAKE_ID (i : Nat) : Nat := 0x100208 + i * 0x10
/-- AON_SLWAKE_HIT (R348). -/
def R.AON_SLWAKE_HIT (i : Nat) : Nat := 0x10020C + i * 0x10
/-- AON_CANWAKE_CFG (R380). -/
def R.AON_CANWAKE_CFG (i : Nat) : Nat := 0x100300 + i * 0x20
/-- AON_CANWAKE_ID (R380). -/
def R.AON_CANWAKE_ID (i : Nat) : Nat := 0x100304 + i * 0x20
/-- AON_CANWAKE_IDMASK (R380). -/
def R.AON_CANWAKE_IDMASK (i : Nat) : Nat := 0x100308 + i * 0x20
/-- AON_CANWAKE_DATA (R380). -/
def R.AON_CANWAKE_DATA (i : Nat) : Nat := 0x10030C + i * 0x20
/-- AON_CANWAKE_DMASK (R380). -/
def R.AON_CANWAKE_DMASK (i : Nat) : Nat := 0x100310 + i * 0x20
/-- AON_CANWAKE_HIT (R380). -/
def R.AON_CANWAKE_HIT (i : Nat) : Nat := 0x100314 + i * 0x20
/-- AON_IMAGE_ID_LO (R444). -/
def R.AON_IMAGE_ID_LO : Nat := 0x100400
/-- AON_IMAGE_ID_HI (R444). -/
def R.AON_IMAGE_ID_HI : Nat := 0x100404
/-- AON_IMAGE_CRC (R444). -/
def R.AON_IMAGE_CRC : Nat := 0x100408
/-- AON_IMAGE_INFO (R444). -/
def R.AON_IMAGE_INFO : Nat := 0x10040C
/-- AON_PWR_CTL (R491). -/
def R.AON_PWR_CTL : Nat := 0x100500
/-- AON_PWR_STATUS (R491). -/
def R.AON_PWR_STATUS : Nat := 0x100504
/-- AON_WAKE_CFG (R491). -/
def R.AON_WAKE_CFG : Nat := 0x100508
/-- AON_ALARM_LO (R491). -/
def R.AON_ALARM_LO : Nat := 0x100510
/-- AON_ALARM_HI (R491). -/
def R.AON_ALARM_HI : Nat := 0x100514
/-- AON_TICKS_LO (R491). -/
def R.AON_TICKS_LO : Nat := 0x100518
/-- AON_TICKS_HI (R491). -/
def R.AON_TICKS_HI : Nat := 0x10051C
/-- AON_BOOT (R491). -/
def R.AON_BOOT (i : Nat) : Nat := 0x100600 + i * 0x4
/-- AON_FW_VER (R491). -/
def R.AON_FW_VER (i : Nat) : Nat := 0x100608 + i * 0x4
/-- AON_FR_CTL (R491). -/
def R.AON_FR_CTL : Nat := 0x100700
/-- AON_FR_MARK (R491). -/
def R.AON_FR_MARK : Nat := 0x100704
/-- SL_STAGE_CTL (R345). -/
def R.SL_STAGE_CTL (i : Nat) : Nat := 0x200000 + i * 0x1000
/-- SL_MODE (R346). -/
def R.SL_MODE (i : Nat) : Nat := 0x200004 + i * 0x1000
/-- SL_DIVIDER (R345). -/
def R.SL_DIVIDER (i : Nat) : Nat := 0x200008 + i * 0x1000
/-- SL_TEL_TX (R345). -/
def R.SL_TEL_TX (i : Nat) : Nat := 0x20000C + i * 0x1000
/-- SL_TEL_FMT (R346). -/
def R.SL_TEL_FMT (i : Nat) : Nat := 0x200010 + i * 0x1000
/-- SL_TEL_RX (R345). -/
def R.SL_TEL_RX (i : Nat) : Nat := 0x200014 + i * 0x1000
/-- SL_RDM (R345). -/
def R.SL_RDM (i : Nat) : Nat := 0x200018 + i * 0x1000
/-- SL_DE (R345). -/
def R.SL_DE (i : Nat) : Nat := 0x20001C + i * 0x1000
/-- SL_GAP (R345). -/
def R.SL_GAP (i : Nat) : Nat := 0x200020 + i * 0x1000
/-- SL_WIN_OPEN (R345). -/
def R.SL_WIN_OPEN (i : Nat) : Nat := 0x200024 + i * 0x1000
/-- SL_WIN_CLOSE (R345). -/
def R.SL_WIN_CLOSE (i : Nat) : Nat := 0x200028 + i * 0x1000
/-- SL_FLOW (R345). -/
def R.SL_FLOW (i : Nat) : Nat := 0x20002C + i * 0x1000
/-- SL_STUCK (R345). -/
def R.SL_STUCK (i : Nat) : Nat := 0x200030 + i * 0x1000
/-- SL_STATUS (R347). -/
def R.SL_STATUS (i : Nat) : Nat := 0x200034 + i * 0x1000
/-- SL_EVENT (R347). -/
def R.SL_EVENT (i : Nat) : Nat := 0x200038 + i * 0x1000
/-- SL_EV_EN (R345). -/
def R.SL_EV_EN (i : Nat) : Nat := 0x20003C + i * 0x1000
/-- SL_TXQ_DATA (R345). -/
def R.SL_TXQ_DATA (i : Nat) : Nat := 0x200040 + i * 0x1000
/-- SL_QLEVEL (R345). -/
def R.SL_QLEVEL (i : Nat) : Nat := 0x200044 + i * 0x1000
/-- SL_TXN (R345). -/
def R.SL_TXN (i : Nat) : Nat := 0x200048 + i * 0x1000
/-- SL_RXP_HEAD (R345). -/
def R.SL_RXP_HEAD (i : Nat) : Nat := 0x20004C + i * 0x1000
/-- SL_RXP_STAMP_LO (R345). -/
def R.SL_RXP_STAMP_LO (i : Nat) : Nat := 0x200050 + i * 0x1000
/-- SL_RXP_STAMP_HI (R345). -/
def R.SL_RXP_STAMP_HI (i : Nat) : Nat := 0x200054 + i * 0x1000
/-- SL_RXQ_HEAD (R345). -/
def R.SL_RXQ_HEAD (i : Nat) : Nat := 0x200058 + i * 0x1000
/-- SL_RXQ_POP (R345). -/
def R.SL_RXQ_POP (i : Nat) : Nat := 0x20005C + i * 0x1000
/-- SL_INSEQ (R345). -/
def R.SL_INSEQ (i : Nat) : Nat := 0x200060 + i * 0x1000
/-- SL_TXQ_FRAMES (R345). -/
def R.SL_TXQ_FRAMES (i : Nat) : Nat := 0x200064 + i * 0x1000
/-- SL_COUNTERS (R345). -/
def R.SL_COUNTERS (i : Nat) (j : Nat) : Nat := 0x200080 + i * 0x1000 + j * 0x4
/-- CAN_STAGE_CTL (R374). -/
def R.CAN_STAGE_CTL (i : Nat) : Nat := 0x240000 + i * 0x2000
/-- CAN_CFG (R375). -/
def R.CAN_CFG (i : Nat) : Nat := 0x240004 + i * 0x2000
/-- CAN_NBT (R376). -/
def R.CAN_NBT (i : Nat) : Nat := 0x240008 + i * 0x2000
/-- CAN_DBT (R376). -/
def R.CAN_DBT (i : Nat) : Nat := 0x24000C + i * 0x2000
/-- CAN_TDC (R374). -/
def R.CAN_TDC (i : Nat) : Nat := 0x240010 + i * 0x2000
/-- CAN_CTL (R375). -/
def R.CAN_CTL (i : Nat) : Nat := 0x240014 + i * 0x2000
/-- CAN_WARN (R374). -/
def R.CAN_WARN (i : Nat) : Nat := 0x240018 + i * 0x2000
/-- CAN_STATUS (R377). -/
def R.CAN_STATUS (i : Nat) : Nat := 0x24001C + i * 0x2000
/-- CAN_ERR (R377). -/
def R.CAN_ERR (i : Nat) : Nat := 0x240020 + i * 0x2000
/-- CAN_EVENT (R379). -/
def R.CAN_EVENT (i : Nat) : Nat := 0x240024 + i * 0x2000
/-- CAN_EV_EN (R374). -/
def R.CAN_EV_EN (i : Nat) : Nat := 0x240028 + i * 0x2000
/-- CAN_INSEQ (R374). -/
def R.CAN_INSEQ (i : Nat) : Nat := 0x24002C + i * 0x2000
/-- CAN_RXQ_LEVEL (R374). -/
def R.CAN_RXQ_LEVEL (i : Nat) : Nat := 0x240030 + i * 0x2000
/-- CAN_RXB_POP (R374). -/
def R.CAN_RXB_POP (i : Nat) : Nat := 0x240034 + i * 0x2000
/-- CAN_TXW_CMD (R374). -/
def R.CAN_TXW_CMD (i : Nat) : Nat := 0x240038 + i * 0x2000
/-- CAN_TDC_STATUS (R374). -/
def R.CAN_TDC_STATUS (i : Nat) : Nat := 0x24003C + i * 0x2000
/-- CAN_WAKE_CFG (R374). -/
def R.CAN_WAKE_CFG (i : Nat) : Nat := 0x240040 + i * 0x2000
/-- CAN_WAKE_ID (R374). -/
def R.CAN_WAKE_ID (i : Nat) : Nat := 0x240044 + i * 0x2000
/-- CAN_WAKE_IDMASK (R374). -/
def R.CAN_WAKE_IDMASK (i : Nat) : Nat := 0x240048 + i * 0x2000
/-- CAN_WAKE_DATA (R374). -/
def R.CAN_WAKE_DATA (i : Nat) : Nat := 0x24004C + i * 0x2000
/-- CAN_WAKE_DMASK (R374). -/
def R.CAN_WAKE_DMASK (i : Nat) : Nat := 0x240050 + i * 0x2000
/-- CAN_COUNTERS (R374). -/
def R.CAN_COUNTERS (i : Nat) (j : Nat) : Nat := 0x240080 + i * 0x2000 + j * 0x4
/-- CAN_RXB (R374). -/
def R.CAN_RXB (i : Nat) (j : Nat) : Nat := 0x240100 + i * 0x2000 + j * 0x4
/-- CAN_TXW (R374). -/
def R.CAN_TXW (i : Nat) (j : Nat) : Nat := 0x240180 + i * 0x2000 + j * 0x4
/-- CAN_TXO_CFG (R378). -/
def R.CAN_TXO_CFG (i : Nat) (j : Nat) : Nat := 0x240400 + i * 0x2000 + j * 0x10
/-- CAN_TXO_STATUS (R378). -/
def R.CAN_TXO_STATUS (i : Nat) (j : Nat) : Nat := 0x240404 + i * 0x2000 + j * 0x10
/-- CAN_TXO_STAMP_LO (R374). -/
def R.CAN_TXO_STAMP_LO (i : Nat) (j : Nat) : Nat := 0x240408 + i * 0x2000 + j * 0x10
/-- CAN_TXO_STAMP_HI (R374). -/
def R.CAN_TXO_STAMP_HI (i : Nat) (j : Nat) : Nat := 0x24040C + i * 0x2000 + j * 0x10
/-- CAN_SLOT_START (R374). -/
def R.CAN_SLOT_START (i : Nat) (j : Nat) : Nat := 0x240800 + i * 0x2000 + j * 0x8
/-- CAN_SLOT_WIN (R374). -/
def R.CAN_SLOT_WIN (i : Nat) (j : Nat) : Nat := 0x240804 + i * 0x2000 + j * 0x8
/-- PO_CFG (R317). -/
def R.PO_CFG (i : Nat) : Nat := 0x280000 + i * 0x10
/-- PO_STATUS (R318). -/
def R.PO_STATUS (i : Nat) : Nat := 0x280004 + i * 0x10
/-- PO_NEXT_NS_LO (R317). -/
def R.PO_NEXT_NS_LO (i : Nat) : Nat := 0x280008 + i * 0x10
/-- PO_NEXT_NS_HI (R317). -/
def R.PO_NEXT_NS_HI (i : Nat) : Nat := 0x28000C + i * 0x10
/-- CI_CFG (R318). -/
def R.CI_CFG (i : Nat) : Nat := 0x280100 + i * 0x10
/-- CI_STATUS (R318). -/
def R.CI_STATUS (i : Nat) : Nat := 0x280104 + i * 0x10
/-- CI_LAST_LO (R317). -/
def R.CI_LAST_LO (i : Nat) : Nat := 0x280108 + i * 0x10
/-- CI_LAST_HI (R317). -/
def R.CI_LAST_HI (i : Nat) : Nat := 0x28010C + i * 0x10
/-- CI_COUNT (R317). -/
def R.CI_COUNT (i : Nat) : Nat := 0x280180 + i * 0x4
/-- LO_CFG (R318). -/
def R.LO_CFG (i : Nat) : Nat := 0x280200 + i * 0x10
/-- LO_STATUS (R317). -/
def R.LO_STATUS (i : Nat) : Nat := 0x280204 + i * 0x10
/-- LI_STATUS (R318). -/
def R.LI_STATUS (i : Nat) : Nat := 0x280280 + i * 0x10
/-- LI_ADDR (R317). -/
def R.LI_ADDR (i : Nat) : Nat := 0x280284 + i * 0x10
/-- GPIO_IN (R519). -/
def R.GPIO_IN : Nat := 0x290000
/-- GPIO_OUT (R519). -/
def R.GPIO_OUT : Nat := 0x290004
/-- GPIO_OE (R519). -/
def R.GPIO_OE : Nat := 0x290008
/-- GPIO_SET (R519). -/
def R.GPIO_SET : Nat := 0x29000C
/-- GPIO_CLR (R519). -/
def R.GPIO_CLR : Nat := 0x290010
/-- GPIO_PULL (R519). -/
def R.GPIO_PULL : Nat := 0x290014
/-- LT_CTL (R130). -/
def R.LT_CTL : Nat := 0x2A0000
/-- LT_STATUS (R130). -/
def R.LT_STATUS : Nat := 0x2A0004
/-- LT_TIME_NS_LO (R130). -/
def R.LT_TIME_NS_LO : Nat := 0x2A0008
/-- LT_TIME_NS_HI (R130). -/
def R.LT_TIME_NS_HI : Nat := 0x2A000C
/-- LT_PHASE_ERR (R130). -/
def R.LT_PHASE_ERR : Nat := 0x2A0010
/-- LT_FREQ_ADJ (R130). -/
def R.LT_FREQ_ADJ : Nat := 0x2A0014
/-- LT_EG_INDEX_LO (R130). -/
def R.LT_EG_INDEX_LO (i : Nat) : Nat := 0x2A0020 + i * 0x8
/-- LT_EG_INDEX_HI (R130). -/
def R.LT_EG_INDEX_HI (i : Nat) : Nat := 0x2A0024 + i * 0x8
/-- LDH_CTL (R67). -/
def R.LDH_CTL : Nat := 0x2B0000
/-- LDH_MISMATCH_CNT (R69). -/
def R.LDH_MISMATCH_CNT : Nat := 0x2B0004
/-- LDH_FALLBACK_CNT (R69). -/
def R.LDH_FALLBACK_CNT : Nat := 0x2B0008
/-- LDH_LATE_CNT (R69). -/
def R.LDH_LATE_CNT : Nat := 0x2B000C
/-- LDH_PARTIAL_CNT (R69). -/
def R.LDH_PARTIAL_CNT : Nat := 0x2B0010
/-- LDH_BUSY_CNT (R299). -/
def R.LDH_BUSY_CNT : Nat := 0x2B0014
/-- LDH_DIV_LO (R69). -/
def R.LDH_DIV_LO : Nat := 0x2B0020
/-- LDH_DIV_HI (R69). -/
def R.LDH_DIV_HI : Nat := 0x2B0024
/-- LDH_HOLD_LO (R69). -/
def R.LDH_HOLD_LO : Nat := 0x2B0028
/-- LDH_HOLD_HI (R69). -/
def R.LDH_HOLD_HI : Nat := 0x2B002C
/-- LDH_SAFE_LO (R69). -/
def R.LDH_SAFE_LO : Nat := 0x2B0030
/-- LDH_SAFE_HI (R69). -/
def R.LDH_SAFE_HI : Nat := 0x2B0034
/-- LDH_OUT_CFG (R68). -/
def R.LDH_OUT_CFG (i : Nat) : Nat := 0x2B0100 + i * 0x4
/-- SNF_STATUS (R439). -/
def R.SNF_STATUS : Nat := 0x2B0400
/-- SNF_BLACK_LO (R439). -/
def R.SNF_BLACK_LO : Nat := 0x2B0408
/-- SNF_BLACK_HI (R439). -/
def R.SNF_BLACK_HI : Nat := 0x2B040C
/-- SNF_SAFE_LO (R439). -/
def R.SNF_SAFE_LO : Nat := 0x2B0410
/-- SNF_SAFE_HI (R439). -/
def R.SNF_SAFE_HI : Nat := 0x2B0414
/-- SNF_ACTS (R439). -/
def R.SNF_ACTS : Nat := 0x2B0418
/-- SNF_DUP (R439). -/
def R.SNF_DUP : Nat := 0x2B041C
/-- SNF_LAST (R439). -/
def R.SNF_LAST : Nat := 0x2B0420
/-- SNF_LAST_TIME_LO (R439). -/
def R.SNF_LAST_TIME_LO : Nat := 0x2B0428
/-- SNF_LAST_TIME_HI (R439). -/
def R.SNF_LAST_TIME_HI : Nat := 0x2B042C
/-- SNF_STOP_SEL (R439). -/
def R.SNF_STOP_SEL : Nat := 0x2B0500
/-- SNF_STOP_ENTRY (R439). -/
def R.SNF_STOP_ENTRY : Nat := 0x2B0504
/-- TB_CTL (R117). -/
def R.TB_CTL (p : Plane) : Nat := 0x400000 + planeOfs p
/-- TB_RAW_LO (R118). -/
def R.TB_RAW_LO (p : Plane) : Nat := 0x400010 + planeOfs p
/-- TB_RAW_HI (R118). -/
def R.TB_RAW_HI (p : Plane) : Nat := 0x400014 + planeOfs p
/-- TB_SNAP_TD0_NS_LO (R118). -/
def R.TB_SNAP_TD0_NS_LO (p : Plane) : Nat := 0x400018 + planeOfs p
/-- TB_SNAP_TD0_NS_HI (R118). -/
def R.TB_SNAP_TD0_NS_HI (p : Plane) : Nat := 0x40001C + planeOfs p
/-- TB_SNAP_TD1_NS_LO (R118). -/
def R.TB_SNAP_TD1_NS_LO (p : Plane) : Nat := 0x400020 + planeOfs p
/-- TB_SNAP_TD1_NS_HI (R118). -/
def R.TB_SNAP_TD1_NS_HI (p : Plane) : Nat := 0x400024 + planeOfs p
/-- TB_DIAL_NS_LO (R118). -/
def R.TB_DIAL_NS_LO (p : Plane) : Nat := 0x400028 + planeOfs p
/-- TB_DIAL_NS_HI (R118). -/
def R.TB_DIAL_NS_HI (p : Plane) : Nat := 0x40002C + planeOfs p
/-- TB_SNAP_FRAC (R118). -/
def R.TB_SNAP_FRAC (p : Plane) : Nat := 0x400030 + planeOfs p
/-- TB_BRIDGE_LO (R118). -/
def R.TB_BRIDGE_LO (p : Plane) : Nat := 0x400038 + planeOfs p
/-- TB_BRIDGE_HI (R118). -/
def R.TB_BRIDGE_HI (p : Plane) : Nat := 0x40003C + planeOfs p
/-- TB_PEER_SKEW (R118). -/
def R.TB_PEER_SKEW (p : Plane) : Nat := 0x400040 + planeOfs p
/-- TD_STAGE_CTL (R102). -/
def R.TD_STAGE_CTL (p : Plane) (i : Nat) : Nat := 0x400100 + planeOfs p + i * 0x40
/-- TD_KIND (R102). -/
def R.TD_KIND (p : Plane) (i : Nat) : Nat := 0x400104 + planeOfs p + i * 0x40
/-- TD_INC_ADJ (R102). -/
def R.TD_INC_ADJ (p : Plane) (i : Nat) : Nat := 0x400108 + planeOfs p + i * 0x40
/-- TD_STEP (R102). -/
def R.TD_STEP (p : Plane) (i : Nat) : Nat := 0x40010C + planeOfs p + i * 0x40
/-- TD_OFFSET_NS_LO (R102). -/
def R.TD_OFFSET_NS_LO (p : Plane) (i : Nat) : Nat := 0x400110 + planeOfs p + i * 0x40
/-- TD_OFFSET_NS_HI (R102). -/
def R.TD_OFFSET_NS_HI (p : Plane) (i : Nat) : Nat := 0x400114 + planeOfs p + i * 0x40
/-- TD_OFFSET_FRAC (R102). -/
def R.TD_OFFSET_FRAC (p : Plane) (i : Nat) : Nat := 0x400118 + planeOfs p + i * 0x40
/-- TD_ANCHOR_LO (R102). -/
def R.TD_ANCHOR_LO (p : Plane) (i : Nat) : Nat := 0x40011C + planeOfs p + i * 0x40
/-- TD_ANCHOR_HI (R102). -/
def R.TD_ANCHOR_HI (p : Plane) (i : Nat) : Nat := 0x400120 + planeOfs p + i * 0x40
/-- TD_CFG (R103). -/
def R.TD_CFG (p : Plane) (i : Nat) : Nat := 0x400124 + planeOfs p + i * 0x40
/-- TD_STATUS (R104). -/
def R.TD_STATUS (p : Plane) (i : Nat) : Nat := 0x400128 + planeOfs p + i * 0x40
/-- TD_LTC_OFS (R102). -/
def R.TD_LTC_OFS (p : Plane) (i : Nat) : Nat := 0x40012C + planeOfs p + i * 0x40
/-- EG_STAGE_CTL (R124). -/
def R.EG_STAGE_CTL (p : Plane) (i : Nat) : Nat := 0x400400 + planeOfs p + i * 0x40
/-- EG_CTL (R124). -/
def R.EG_CTL (p : Plane) (i : Nat) : Nat := 0x400404 + planeOfs p + i * 0x40
/-- EG_NUM (R124). -/
def R.EG_NUM (p : Plane) (i : Nat) : Nat := 0x400408 + planeOfs p + i * 0x40
/-- EG_DEN (R124). -/
def R.EG_DEN (p : Plane) (i : Nat) : Nat := 0x40040C + planeOfs p + i * 0x40
/-- EG_BASE_NS_LO (R124). -/
def R.EG_BASE_NS_LO (p : Plane) (i : Nat) : Nat := 0x400410 + planeOfs p + i * 0x40
/-- EG_BASE_NS_HI (R124). -/
def R.EG_BASE_NS_HI (p : Plane) (i : Nat) : Nat := 0x400414 + planeOfs p + i * 0x40
/-- EG_ORIGIN_LO (R124). -/
def R.EG_ORIGIN_LO (p : Plane) (i : Nat) : Nat := 0x400418 + planeOfs p + i * 0x40
/-- EG_ORIGIN_HI (R124). -/
def R.EG_ORIGIN_HI (p : Plane) (i : Nat) : Nat := 0x40041C + planeOfs p + i * 0x40
/-- EG_INDEX_LO (R124). -/
def R.EG_INDEX_LO (p : Plane) (i : Nat) : Nat := 0x400420 + planeOfs p + i * 0x40
/-- EG_INDEX_HI (R124). -/
def R.EG_INDEX_HI (p : Plane) (i : Nat) : Nat := 0x400424 + planeOfs p + i * 0x40
/-- EG_NEXT_NS_LO (R124). -/
def R.EG_NEXT_NS_LO (p : Plane) (i : Nat) : Nat := 0x400428 + planeOfs p + i * 0x40
/-- EG_NEXT_NS_HI (R124). -/
def R.EG_NEXT_NS_HI (p : Plane) (i : Nat) : Nat := 0x40042C + planeOfs p + i * 0x40
/-- PORT_STAGE_CTL (R165). -/
def R.PORT_STAGE_CTL (p : Plane) (i : Nat) : Nat := 0x410000 + planeOfs p + i * 0x4000
/-- PORT_CFG (R166). -/
def R.PORT_CFG (p : Plane) (i : Nat) : Nat := 0x410004 + planeOfs p + i * 0x4000
/-- PORT_STATUS (R167). -/
def R.PORT_STATUS (p : Plane) (i : Nat) : Nat := 0x410008 + planeOfs p + i * 0x4000
/-- PORT_RING (R167). -/
def R.PORT_RING (p : Plane) (i : Nat) : Nat := 0x41000C + planeOfs p + i * 0x4000
/-- PORT_MAC_LO (R165). -/
def R.PORT_MAC_LO (p : Plane) (i : Nat) : Nat := 0x410010 + planeOfs p + i * 0x4000
/-- PORT_MAC_HI (R165). -/
def R.PORT_MAC_HI (p : Plane) (i : Nat) : Nat := 0x410014 + planeOfs p + i * 0x4000
/-- PORT_NATIVE_TYPE (R165). -/
def R.PORT_NATIVE_TYPE (p : Plane) (i : Nat) : Nat := 0x410018 + planeOfs p + i * 0x4000
/-- PORT_NATIVE_DA_LO (R165). -/
def R.PORT_NATIVE_DA_LO (p : Plane) (i : Nat) : Nat := 0x41001C + planeOfs p + i * 0x4000
/-- PORT_NATIVE_DA_HI (R165). -/
def R.PORT_NATIVE_DA_HI (p : Plane) (i : Nat) : Nat := 0x410020 + planeOfs p + i * 0x4000
/-- PORT_PTP_CFG (R168). -/
def R.PORT_PTP_CFG (p : Plane) (i : Nat) : Nat := 0x410024 + planeOfs p + i * 0x4000
/-- PORT_ASYM (R165). -/
def R.PORT_ASYM (p : Plane) (i : Nat) : Nat := 0x410028 + planeOfs p + i * 0x4000
/-- PORT_LINK_DELAY (R165). -/
def R.PORT_LINK_DELAY (p : Plane) (i : Nat) : Nat := 0x41002C + planeOfs p + i * 0x4000
/-- PORT_LAT (R165). -/
def R.PORT_LAT (p : Plane) (i : Nat) : Nat := 0x410030 + planeOfs p + i * 0x4000
/-- PORT_IPV4 (R165). -/
def R.PORT_IPV4 (p : Plane) (i : Nat) : Nat := 0x410034 + planeOfs p + i * 0x4000
/-- PORT_PRP (R165). -/
def R.PORT_PRP (p : Plane) (i : Nat) : Nat := 0x410038 + planeOfs p + i * 0x4000
/-- PORT_COUNTERS (R169). -/
def R.PORT_COUNTERS (p : Plane) (i : Nat) (j : Nat) : Nat := 0x410040 + planeOfs p + i * 0x4000 + j * 0x4
/-- PORT_TX_DROP (R463). -/
def R.PORT_TX_DROP (p : Plane) (i : Nat) : Nat := 0x410080 + planeOfs p + i * 0x4000
/-- ING_CTL (R199). -/
def R.ING_CTL (p : Plane) : Nat := 0x480000 + planeOfs p
/-- ING_SYNC_CTL (R198). -/
def R.ING_SYNC_CTL (p : Plane) : Nat := 0x480004 + planeOfs p
/-- ING_RULE_SEL (R198). -/
def R.ING_RULE_SEL (p : Plane) : Nat := 0x480010 + planeOfs p
/-- ING_RULE_HITS (R198). -/
def R.ING_RULE_HITS (p : Plane) : Nat := 0x480014 + planeOfs p
/-- ING_RULE_DATA (R198). -/
def R.ING_RULE_DATA (p : Plane) (i : Nat) : Nat := 0x480020 + planeOfs p + i * 0x4
/-- ING_STREAM_SEL (R198). -/
def R.ING_STREAM_SEL (p : Plane) : Nat := 0x480040 + planeOfs p
/-- ING_STREAM_STATE (R199). -/
def R.ING_STREAM_STATE (p : Plane) : Nat := 0x480044 + planeOfs p
/-- ING_STREAM_ACC (R198). -/
def R.ING_STREAM_ACC (p : Plane) : Nat := 0x480048 + planeOfs p
/-- ING_STREAM_DROP (R198). -/
def R.ING_STREAM_DROP (p : Plane) : Nat := 0x48004C + planeOfs p
/-- ING_STREAM_DATA (R198). -/
def R.ING_STREAM_DATA (p : Plane) (i : Nat) : Nat := 0x480050 + planeOfs p + i * 0x4
/-- ING_SYNC_SEL (R198). -/
def R.ING_SYNC_SEL (p : Plane) : Nat := 0x480060 + planeOfs p
/-- ING_SYNC_STATUS (R199). -/
def R.ING_SYNC_STATUS (p : Plane) : Nat := 0x480064 + planeOfs p
/-- ING_COUNTERS (R200). -/
def R.ING_COUNTERS (p : Plane) (i : Nat) : Nat := 0x480100 + planeOfs p + i * 0x4
/-- Q_STAGE_CTL (R221). -/
def R.Q_STAGE_CTL (p : Plane) (i : Nat) : Nat := 0x4C0000 + planeOfs p + i * 0x40
/-- Q_CFG (R222). -/
def R.Q_CFG (p : Plane) (i : Nat) : Nat := 0x4C0004 + planeOfs p + i * 0x40
/-- Q_LIMIT (R221). -/
def R.Q_LIMIT (p : Plane) (i : Nat) : Nat := 0x4C0008 + planeOfs p + i * 0x40
/-- Q_WM_HI (R221). -/
def R.Q_WM_HI (p : Plane) (i : Nat) : Nat := 0x4C000C + planeOfs p + i * 0x40
/-- Q_WM_LO (R221). -/
def R.Q_WM_LO (p : Plane) (i : Nat) : Nat := 0x4C0010 + planeOfs p + i * 0x40
/-- Q_CTL (R222). -/
def R.Q_CTL (p : Plane) (i : Nat) : Nat := 0x4C0014 + planeOfs p + i * 0x40
/-- Q_STATUS (R223). -/
def R.Q_STATUS (p : Plane) (i : Nat) : Nat := 0x4C0018 + planeOfs p + i * 0x40
/-- Q_OCC (R221). -/
def R.Q_OCC (p : Plane) (i : Nat) : Nat := 0x4C001C + planeOfs p + i * 0x40
/-- Q_CELLS (R221). -/
def R.Q_CELLS (p : Plane) (i : Nat) : Nat := 0x4C0020 + planeOfs p + i * 0x40
/-- Q_FLAGS (R223). -/
def R.Q_FLAGS (p : Plane) (i : Nat) : Nat := 0x4C0024 + planeOfs p + i * 0x40
/-- Q_HEAD_TAG (R221). -/
def R.Q_HEAD_TAG (p : Plane) (i : Nat) : Nat := 0x4C0028 + planeOfs p + i * 0x40
/-- Q_ADMIT (R221). -/
def R.Q_ADMIT (p : Plane) (i : Nat) : Nat := 0x4C002C + planeOfs p + i * 0x40
/-- Q_DROP_FULL (R221). -/
def R.Q_DROP_FULL (p : Plane) (i : Nat) : Nat := 0x4C0030 + planeOfs p + i * 0x40
/-- Q_DROP_DIS (R221). -/
def R.Q_DROP_DIS (p : Plane) (i : Nat) : Nat := 0x4C0034 + planeOfs p + i * 0x40
/-- Q_FLUSHED (R221). -/
def R.Q_FLUSHED (p : Plane) (i : Nat) : Nat := 0x4C0038 + planeOfs p + i * 0x40
/-- Q_PEAK (R221). -/
def R.Q_PEAK (p : Plane) (i : Nat) : Nat := 0x4C003C + planeOfs p + i * 0x40
/-- STORE_STATUS (R224). -/
def R.STORE_STATUS (p : Plane) : Nat := 0x4C8000 + planeOfs p
/-- STORE_CTL (R224). -/
def R.STORE_CTL (p : Plane) : Nat := 0x4C8004 + planeOfs p
/-- STORE_MIN_SUM (R224). -/
def R.STORE_MIN_SUM (p : Plane) : Nat := 0x4C8008 + planeOfs p
/-- STORE_LOW_MARK (R224). -/
def R.STORE_LOW_MARK (p : Plane) : Nat := 0x4C800C + planeOfs p
/-- STORE_ECC_CORR (R224). -/
def R.STORE_ECC_CORR (p : Plane) : Nat := 0x4C8010 + planeOfs p
/-- STORE_ECC_UNCORR (R224). -/
def R.STORE_ECC_UNCORR (p : Plane) : Nat := 0x4C8014 + planeOfs p
/-- Q_SUM_WM (R224). -/
def R.Q_SUM_WM (p : Plane) (i : Nat) : Nat := 0x4C8100 + planeOfs p + i * 0x4
/-- Q_SUM_GAP (R224). -/
def R.Q_SUM_GAP (p : Plane) (i : Nat) : Nat := 0x4C8140 + planeOfs p + i * 0x4
/-- Q_SUM_FAULT (R224). -/
def R.Q_SUM_FAULT (p : Plane) (i : Nat) : Nat := 0x4C8180 + planeOfs p + i * 0x4
/-- BU_CTL (R261). -/
def R.BU_CTL (p : Plane) : Nat := 0x500000 + planeOfs p
/-- BU_STATUS (R261). -/
def R.BU_STATUS (p : Plane) : Nat := 0x500004 + planeOfs p
/-- BU_ENG_BUSY (R260). -/
def R.BU_ENG_BUSY (p : Plane) : Nat := 0x500008 + planeOfs p
/-- BU_FIELDS_LO (R260). -/
def R.BU_FIELDS_LO (p : Plane) : Nat := 0x500010 + planeOfs p
/-- BU_FIELDS_HI (R260). -/
def R.BU_FIELDS_HI (p : Plane) : Nat := 0x500014 + planeOfs p
/-- BU_COUNTERS (R260). -/
def R.BU_COUNTERS (p : Plane) (i : Nat) : Nat := 0x500018 + planeOfs p + i * 0x4
/-- BU_APPLY_SEL (R260). -/
def R.BU_APPLY_SEL (p : Plane) : Nat := 0x500040 + planeOfs p
/-- BU_APPLY_STATE (R261). -/
def R.BU_APPLY_STATE (p : Plane) : Nat := 0x500044 + planeOfs p
/-- BU_APPLY_EPOCH_LO (R260). -/
def R.BU_APPLY_EPOCH_LO (p : Plane) : Nat := 0x500048 + planeOfs p
/-- BU_APPLY_EPOCH_HI (R260). -/
def R.BU_APPLY_EPOCH_HI (p : Plane) : Nat := 0x50004C + planeOfs p
/-- BU_APPLY_ARRIVAL_LO (R260). -/
def R.BU_APPLY_ARRIVAL_LO (p : Plane) : Nat := 0x500050 + planeOfs p
/-- BU_APPLY_ARRIVAL_HI (R260). -/
def R.BU_APPLY_ARRIVAL_HI (p : Plane) : Nat := 0x500054 + planeOfs p
/-- BU_APPLY_PT_LO (R260). -/
def R.BU_APPLY_PT_LO (p : Plane) : Nat := 0x500058 + planeOfs p
/-- BU_APPLY_PT_HI (R260). -/
def R.BU_APPLY_PT_HI (p : Plane) : Nat := 0x50005C + planeOfs p
/-- DSP_CTL (R287). -/
def R.DSP_CTL (p : Plane) : Nat := 0x501000 + planeOfs p
/-- DSP_STATUS (R288). -/
def R.DSP_STATUS (p : Plane) : Nat := 0x501004 + planeOfs p
/-- DSP_ADMIT_SUM_LO (R287). -/
def R.DSP_ADMIT_SUM_LO (p : Plane) : Nat := 0x501008 + planeOfs p
/-- DSP_ADMIT_SUM_HI (R287). -/
def R.DSP_ADMIT_SUM_HI (p : Plane) : Nat := 0x50100C + planeOfs p
/-- DSP_ADMIT_LIMIT_LO (R287). -/
def R.DSP_ADMIT_LIMIT_LO (p : Plane) : Nat := 0x501010 + planeOfs p
/-- DSP_ADMIT_LIMIT_HI (R287). -/
def R.DSP_ADMIT_LIMIT_HI (p : Plane) : Nat := 0x501014 + planeOfs p
/-- DSP_MIN_SLACK (R287). -/
def R.DSP_MIN_SLACK (p : Plane) : Nat := 0x501018 + planeOfs p
/-- DSP_MIN_SLACK_JOB (R287). -/
def R.DSP_MIN_SLACK_JOB (p : Plane) : Nat := 0x50101C + planeOfs p
/-- DSP_USED_LAST (R287). -/
def R.DSP_USED_LAST (p : Plane) : Nat := 0x501020 + planeOfs p
/-- DSP_USED_PEAK (R287). -/
def R.DSP_USED_PEAK (p : Plane) : Nat := 0x501024 + planeOfs p
/-- DSP_CANCEL (R287). -/
def R.DSP_CANCEL (p : Plane) : Nat := 0x501030 + planeOfs p
/-- DSP_JOB_SEL (R287). -/
def R.DSP_JOB_SEL (p : Plane) : Nat := 0x501040 + planeOfs p
/-- DSP_JOB_STATE (R288). -/
def R.DSP_JOB_STATE (p : Plane) : Nat := 0x501044 + planeOfs p
/-- DSP_JOB_REC (R287). -/
def R.DSP_JOB_REC (p : Plane) (i : Nat) : Nat := 0x501048 + planeOfs p + i * 0x4
/-- DSP_JOB_COST (R287). -/
def R.DSP_JOB_COST (p : Plane) : Nat := 0x501058 + planeOfs p
/-- DSP_JOB_SLACK (R287). -/
def R.DSP_JOB_SLACK (p : Plane) : Nat := 0x50105C + planeOfs p
/-- DSP_LOG_HEAD (R287). -/
def R.DSP_LOG_HEAD (p : Plane) : Nat := 0x501060 + planeOfs p
/-- DSP_LOG_TAIL (R287). -/
def R.DSP_LOG_TAIL (p : Plane) : Nat := 0x501064 + planeOfs p
/-- DSP_COUNTERS (R289). -/
def R.DSP_COUNTERS (p : Plane) (i : Nat) : Nat := 0x501080 + planeOfs p + i * 0x4
/-- DSP_BP (R287). -/
def R.DSP_BP (p : Plane) (i : Nat) : Nat := 0x501100 + planeOfs p + i * 0x4
/-- DSP_LOG (R287). -/
def R.DSP_LOG (p : Plane) (i : Nat) (j : Nat) : Nat := 0x504000 + planeOfs p + i * 0x10 + j * 0x4
/-- REL_STAGE_CTL (R315). -/
def R.REL_STAGE_CTL (p : Plane) : Nat := 0x580000 + planeOfs p
/-- REL_GUARD (R315). -/
def R.REL_GUARD (p : Plane) : Nat := 0x580004 + planeOfs p
/-- REL_CTL (R315). -/
def R.REL_CTL (p : Plane) : Nat := 0x580008 + planeOfs p
/-- REL_STATUS (R315). -/
def R.REL_STATUS (p : Plane) : Nat := 0x58000C + planeOfs p
/-- REL_DESC_SEL (R315). -/
def R.REL_DESC_SEL (p : Plane) : Nat := 0x580010 + planeOfs p
/-- REL_DESC_STATE (R316). -/
def R.REL_DESC_STATE (p : Plane) : Nat := 0x580014 + planeOfs p
/-- REL_DESC_LAUNCH_LO (R315). -/
def R.REL_DESC_LAUNCH_LO (p : Plane) : Nat := 0x580018 + planeOfs p
/-- REL_DESC_LAUNCH_HI (R315). -/
def R.REL_DESC_LAUNCH_HI (p : Plane) : Nat := 0x58001C + planeOfs p
/-- REL_DESC_DATA (R315). -/
def R.REL_DESC_DATA (p : Plane) (i : Nat) : Nat := 0x580020 + planeOfs p + i * 0x4
/-- REL_COUNTERS (R315). -/
def R.REL_COUNTERS (p : Plane) (i : Nat) : Nat := 0x580040 + planeOfs p + i * 0x4
/-- SNF_BUF_DROP (R439). -/
def R.SNF_BUF_DROP (p : Plane) : Nat := 0x580800 + planeOfs p
/-- SNF_STOP_DROP (R439). -/
def R.SNF_STOP_DROP (p : Plane) : Nat := 0x580804 + planeOfs p
/-- SNF_HOLD_CANCEL (R439). -/
def R.SNF_HOLD_CANCEL (p : Plane) : Nat := 0x580808 + planeOfs p
/-- BRG_CTL (R412). -/
def R.BRG_CTL (p : Plane) : Nat := 0x5C0000 + planeOfs p
/-- BRG_STATUS (R412). -/
def R.BRG_STATUS (p : Plane) : Nat := 0x5C0004 + planeOfs p
/-- BRG_RDM_UID_HI (R411). -/
def R.BRG_RDM_UID_HI (p : Plane) : Nat := 0x5C0008 + planeOfs p
/-- BRG_RDM_UID_LO (R411). -/
def R.BRG_RDM_UID_LO (p : Plane) : Nat := 0x5C000C + planeOfs p
/-- BRG_PLOG_HEAD (R411). -/
def R.BRG_PLOG_HEAD (p : Plane) : Nat := 0x5C0010 + planeOfs p
/-- BRG_PLOG_TAIL (R411). -/
def R.BRG_PLOG_TAIL (p : Plane) : Nat := 0x5C0014 + planeOfs p
/-- BRG_DLOG_HEAD (R411). -/
def R.BRG_DLOG_HEAD (p : Plane) : Nat := 0x5C0018 + planeOfs p
/-- BRG_DLOG_TAIL (R411). -/
def R.BRG_DLOG_TAIL (p : Plane) : Nat := 0x5C001C + planeOfs p
/-- BRG_MAP_SEL (R411). -/
def R.BRG_MAP_SEL (p : Plane) : Nat := 0x5C0020 + planeOfs p
/-- BRG_MAP_DATA (R411). -/
def R.BRG_MAP_DATA (p : Plane) (i : Nat) : Nat := 0x5C0024 + planeOfs p + i * 0x4
/-- BRG_COUNTERS (R411). -/
def R.BRG_COUNTERS (p : Plane) (i : Nat) : Nat := 0x5C0040 + planeOfs p + i * 0x4
/-- BRG_PLOG (R411). -/
def R.BRG_PLOG (p : Plane) (i : Nat) (j : Nat) : Nat := 0x5C0800 + planeOfs p + i * 0x10 + j * 0x4
/-- BRG_DLOG (R411). -/
def R.BRG_DLOG (p : Plane) (i : Nat) (j : Nat) : Nat := 0x5C0C00 + planeOfs p + i * 0x10 + j * 0x4
/-- BRG_WIN_STAGE_CTL (R413). -/
def R.BRG_WIN_STAGE_CTL (p : Plane) (i : Nat) : Nat := 0x5C1000 + planeOfs p + i * 0x40
/-- BRG_WIN_CFG (R414). -/
def R.BRG_WIN_CFG (p : Plane) (i : Nat) : Nat := 0x5C1004 + planeOfs p + i * 0x40
/-- BRG_WIN_TGT0 (R413). -/
def R.BRG_WIN_TGT0 (p : Plane) (i : Nat) : Nat := 0x5C1008 + planeOfs p + i * 0x40
/-- BRG_WIN_TGT1 (R413). -/
def R.BRG_WIN_TGT1 (p : Plane) (i : Nat) : Nat := 0x5C100C + planeOfs p + i * 0x40
/-- BRG_WIN_TGT2 (R413). -/
def R.BRG_WIN_TGT2 (p : Plane) (i : Nat) : Nat := 0x5C1010 + planeOfs p + i * 0x40
/-- BRG_WIN_MAP (R413). -/
def R.BRG_WIN_MAP (p : Plane) (i : Nat) : Nat := 0x5C1014 + planeOfs p + i * 0x40
/-- BRG_WIN_STATUS (R414). -/
def R.BRG_WIN_STATUS (p : Plane) (i : Nat) : Nat := 0x5C1018 + planeOfs p + i * 0x40
/-- BRG_WIN_ERR (R414). -/
def R.BRG_WIN_ERR (p : Plane) (i : Nat) : Nat := 0x5C101C + planeOfs p + i * 0x40
/-- BRG_WIN_ERR_ADDR (R413). -/
def R.BRG_WIN_ERR_ADDR (p : Plane) (i : Nat) : Nat := 0x5C1020 + planeOfs p + i * 0x40
/-- BRG_WIN_FENCE (R414). -/
def R.BRG_WIN_FENCE (p : Plane) (i : Nat) : Nat := 0x5C1024 + planeOfs p + i * 0x40
/-- BRG_WIN_LOCK (R414). -/
def R.BRG_WIN_LOCK (p : Plane) (i : Nat) : Nat := 0x5C1028 + planeOfs p + i * 0x40
/-- BRG_WIN_ERR_CNT (R413). -/
def R.BRG_WIN_ERR_CNT (p : Plane) (i : Nat) : Nat := 0x5C102C + planeOfs p + i * 0x40
/-- Rows of the global block. -/
def rows_global_0 : List RegRow := [
  { base := 0x0, n1 := 1, s1 := 0x1, n2 := 1, s2 := 0x1, rst := 0x10242000, rw := 0, st := 0, w1c := 0, rs := 0, wo := 0, ranges := [], pair := .single },
  { base := 0x4, n1 := 1, s1 := 0x1, n2 := 1, s2 := 0x1, rst := 0x01000001, rw := 0xFF, st := 0, w1c := 0, rs := 0, wo := 0, ranges := [(7, 0, 1, 1)], pair := .single },
  { base := 0x8, n1 := 1, s1 := 0x1, n2 := 1, s2 := 0x1, rst := 0, rw := 0, st := 0, w1c := 0, rs := 0, wo := 0, ranges := [], pair := .lo },
  { base := 0xC, n1 := 1, s1 := 0x1, n2 := 1, s2 := 0x1, rst := 0, rw := 0, st := 0, w1c := 0, rs := 0, wo := 0, ranges := [], pair := .hi },
  { base := 0x10, n1 := 1, s1 := 0x1, n2 := 1, s2 := 0x1, rst := 0xFF, rw := 0x1FF, st := 0, w1c := 0, rs := 0, wo := 0, ranges := [(7, 0, 208, 255)], pair := .single },
  { base := 0x20, n1 := 1, s1 := 0x1, n2 := 1, s2 := 0x1, rst := 0, rw := 0xE0000003, st := 0, w1c := 0, rs := 0, wo := 0, ranges := [], pair := .single },
  { base := 0x30, n1 := 1, s1 := 0x1, n2 := 1, s2 := 0x1, rst := 0x80000000, rw := 0xF80003FF, st := 0, w1c := 0, rs := 0, wo := 0, ranges := [], pair := .single },
  { base := 0x34, n1 := 1, s1 := 0x1, n2 := 1, s2 := 0x1, rst := 0, rw := 0, st := 0, w1c := 0, rs := 0, wo := 0, ranges := [], pair := .single },
  { base := 0x40, n1 := 1, s1 := 0x1, n2 := 1, s2 := 0x1, rst := 0, rw := 0, st := 0, w1c := 0, rs := 0, wo := 0, ranges := [], pair := .single },
  { base := 0x44, n1 := 1, s1 := 0x1, n2 := 1, s2 := 0x1, rst := 0, rw := 0, st := 0, w1c := 0, rs := 0xFF, wo := 0, ranges := [], pair := .single },
  { base := 0x1000, n1 := 4, s1 := 0x40, n2 := 1, s2 := 0x1, rst := 0x04040000, rw := 0x8F0F0000, st := 0, w1c := 0, rs := 0, wo := 0, ranges := [(27, 24, 4, 12), (19, 16, 4, 12)], pair := .single },
  { base := 0x1004, n1 := 4, s1 := 0x40, n2 := 1, s2 := 0x1, rst := 0, rw := 0, st := 0, w1c := 0, rs := 0, wo := 0, ranges := [], pair := .single },
  { base := 0x1008, n1 := 4, s1 := 0x40, n2 := 1, s2 := 0x1, rst := 0, rw := 0xFFFFFFC0, st := 0, w1c := 0, rs := 0, wo := 0, ranges := [], pair := .lo },
  { base := 0x100C, n1 := 4, s1 := 0x40, n2 := 1, s2 := 0x1, rst := 0, rw := 0xFFFFFFFF, st := 0, w1c := 0, rs := 0, wo := 0, ranges := [], pair := .hi },
  { base := 0x1010, n1 := 4, s1 := 0x40, n2 := 1, s2 := 0x1, rst := 0, rw := 0xFFFFFFC0, st := 0, w1c := 0, rs := 0, wo := 0, ranges := [], pair := .lo },
  { base := 0x1014, n1 := 4, s1 := 0x40, n2 := 1, s2 := 0x1, rst := 0, rw := 0xFFFFFFFF, st := 0, w1c := 0, rs := 0, wo := 0, ranges := [], pair := .hi }]
/-- Rows of the global block. -/
def rows_global_1 : List RegRow := [
  { base := 0x1018, n1 := 4, s1 := 0x40, n2 := 1, s2 := 0x1, rst := 0, rw := 0, st := 0, w1c := 0, rs := 0, wo := 0, ranges := [], pair := .single },
  { base := 0x101C, n1 := 4, s1 := 0x40, n2 := 1, s2 := 0x1, rst := 0, rw := 0, st := 0, w1c := 0, rs := 0xFFFFFFFF, wo := 0, ranges := [], pair := .single },
  { base := 0x1020, n1 := 4, s1 := 0x40, n2 := 1, s2 := 0x1, rst := 0, rw := 0, st := 0, w1c := 0, rs := 0xFFFFFFFF, wo := 0, ranges := [], pair := .single },
  { base := 0x2000, n1 := 8, s1 := 0x4, n2 := 1, s2 := 0x1, rst := 0, rw := 0, st := 0, w1c := 0xFFFFFFFF, rs := 0, wo := 0, ranges := [], pair := .single },
  { base := 0x2020, n1 := 8, s1 := 0x4, n2 := 1, s2 := 0x1, rst := 0, rw := 0, st := 0, w1c := 0, rs := 0, wo := 0, ranges := [], pair := .single },
  { base := 0x2040, n1 := 8, s1 := 0x4, n2 := 1, s2 := 0x1, rst := 0xFFFFFFFF, rw := 0xFFFFFFFF, st := 0, w1c := 0, rs := 0, wo := 0, ranges := [], pair := .single },
  { base := 0x2060, n1 := 8, s1 := 0x4, n2 := 1, s2 := 0x1, rst := 0, rw := 0, st := 0, w1c := 0, rs := 0, wo := 0, ranges := [], pair := .single },
  { base := 0x2080, n1 := 1, s1 := 0x1, n2 := 1, s2 := 0x1, rst := 0, rw := 0xF, st := 0, w1c := 0, rs := 0, wo := 0, ranges := [], pair := .single },
  { base := 0x2084, n1 := 1, s1 := 0x1, n2 := 1, s2 := 0x1, rst := 0xA, rw := 0x8000FFFF, st := 0, w1c := 0, rs := 0, wo := 0, ranges := [(15, 0, 1, 1000)], pair := .single },
  { base := 0x2088, n1 := 1, s1 := 0x1, n2 := 1, s2 := 0x1, rst := 0, rw := 0, st := 0, w1c := 0, rs := 0, wo := 0, ranges := [], pair := .lo },
  { base := 0x208C, n1 := 1, s1 := 0x1, n2 := 1, s2 := 0x1, rst := 0, rw := 0, st := 0, w1c := 0, rs := 0, wo := 0, ranges := [], pair := .hi },
  { base := 0x2090, n1 := 1, s1 := 0x1, n2 := 1, s2 := 0x1, rst := 0, rw := 0, st := 0, w1c := 0, rs := 0, wo := 0, ranges := [], pair := .single },
  { base := 0x20A0, n1 := 1, s1 := 0x1, n2 := 1, s2 := 0x1, rst := 0, rw := 0, st := 0, w1c := 0, rs := 0, wo := 0, ranges := [], pair := .single },
  { base := 0x20A4, n1 := 1, s1 := 0x1, n2 := 1, s2 := 0x1, rst := 0, rw := 0x7F, st := 0, w1c := 0, rs := 0, wo := 0, ranges := [], pair := .single },
  { base := 0x20A8, n1 := 1, s1 := 0x1, n2 := 1, s2 := 0x1, rst := 0, rw := 0, st := 0, w1c := 0, rs := 0xFFFFFFFF, wo := 0, ranges := [], pair := .single },
  { base := 0x20AC, n1 := 1, s1 := 0x1, n2 := 1, s2 := 0x1, rst := 0, rw := 0, st := 0, w1c := 0, rs := 0xFFFFFFFF, wo := 0, ranges := [], pair := .single }]
/-- Rows of the global block. -/
def rows_global_2 : List RegRow := [
  { base := 0x20B0, n1 := 1, s1 := 0x1, n2 := 1, s2 := 0x1, rst := 0, rw := 0, st := 0, w1c := 0, rs := 0, wo := 0, ranges := [], pair := .single },
  { base := 0x20B4, n1 := 1, s1 := 0x1, n2 := 1, s2 := 0x1, rst := 0, rw := 0, st := 0, w1c := 0, rs := 0, wo := 0, ranges := [], pair := .single },
  { base := 0x2400, n1 := 256, s1 := 0x4, n2 := 1, s2 := 0x1, rst := 0, rw := 0xE03F0003, st := 0, w1c := 0, rs := 0, wo := 0, ranges := [], pair := .single },
  { base := 0x2800, n1 := 64, s1 := 0x10, n2 := 4, s2 := 0x4, rst := 0, rw := 0, st := 0, w1c := 0, rs := 0, wo := 0, ranges := [], pair := .single }]
/-- All rows of the global block. -/
def rows_global : List RegRow := rows_global_0 ++ rows_global_1 ++ rows_global_2
/-- Rows of the aon block. -/
def rows_aon_0 : List RegRow := [
  { base := 0x100010, n1 := 1, s1 := 0x1, n2 := 1, s2 := 0x1, rst := 0, rw := 0, st := 0, w1c := 0, rs := 0, wo := 0, ranges := [], pair := .single },
  { base := 0x100020, n1 := 1, s1 := 0x1, n2 := 1, s2 := 0x1, rst := 0, rw := 0, st := 0, w1c := 0, rs := 0, wo := 0, ranges := [], pair := .single },
  { base := 0x100100, n1 := 1, s1 := 0x1, n2 := 1, s2 := 0x1, rst := 0, rw := 0, st := 0, w1c := 0, rs := 0, wo := 0, ranges := [], pair := .single },
  { base := 0x100104, n1 := 1, s1 := 0x1, n2 := 1, s2 := 0x1, rst := 0x300C, rw := 0xFF0F, st := 0, w1c := 0, rs := 0, wo := 0, ranges := [(15, 8, 16, 255)], pair := .single },
  { base := 0x100108, n1 := 1, s1 := 0x1, n2 := 1, s2 := 0x1, rst := 0, rw := 0, st := 0, w1c := 0, rs := 0xFFFFFFFF, wo := 0, ranges := [], pair := .single },
  { base := 0x100110, n1 := 1, s1 := 0x1, n2 := 1, s2 := 0x1, rst := 0, rw := 0, st := 0, w1c := 0, rs := 0xFFFF0000, wo := 0, ranges := [], pair := .single },
  { base := 0x100114, n1 := 1, s1 := 0x1, n2 := 1, s2 := 0x1, rst := 0xA, rw := 0xFFFF, st := 0, w1c := 0, rs := 0, wo := 0, ranges := [(15, 0, 1, 1000)], pair := .single },
  { base := 0x100120, n1 := 1, s1 := 0x1, n2 := 1, s2 := 0x1, rst := 0, rw := 0xF, st := 0, w1c := 0, rs := 0, wo := 0, ranges := [], pair := .single },
  { base := 0x100130, n1 := 1, s1 := 0x1, n2 := 1, s2 := 0x1, rst := 0, rw := 0, st := 0, w1c := 0, rs := 0, wo := 0, ranges := [], pair := .single },
  { base := 0x100134, n1 := 1, s1 := 0x1, n2 := 1, s2 := 0x1, rst := 0xA, rw := 0xFF, st := 0, w1c := 0, rs := 0, wo := 0, ranges := [(7, 0, 1, 255)], pair := .single },
  { base := 0x100200, n1 := 4, s1 := 0x10, n2 := 1, s2 := 0x1, rst := 0x3555, rw := 0xE0FFFFFF, st := 0, w1c := 0, rs := 0, wo := 0, ranges := [], pair := .single },
  { base := 0x100204, n1 := 4, s1 := 0x10, n2 := 1, s2 := 0x1, rst := 0, rw := 0xFFFFFFFF, st := 0, w1c := 0, rs := 0, wo := 0, ranges := [], pair := .single },
  { base := 0x100208, n1 := 4, s1 := 0x10, n2 := 1, s2 := 0x1, rst := 0, rw := 0xFFFFFFFF, st := 0, w1c := 0, rs := 0, wo := 0, ranges := [], pair := .single },
  { base := 0x10020C, n1 := 4, s1 := 0x10, n2 := 1, s2 := 0x1, rst := 0, rw := 0, st := 0, w1c := 0x80000000, rs := 0, wo := 0, ranges := [], pair := .single },
  { base := 0x100300, n1 := 2, s1 := 0x20, n2 := 1, s2 := 0x1, rst := 0x0A001062, rw := 0xFFFFFFFF, st := 0, w1c := 0, rs := 0, wo := 0, ranges := [], pair := .single },
  { base := 0x100304, n1 := 2, s1 := 0x20, n2 := 1, s2 := 0x1, rst := 0, rw := 0x1FFFFFFF, st := 0, w1c := 0, rs := 0, wo := 0, ranges := [], pair := .single }]
/-- Rows of the aon block. -/
def rows_aon_1 : List RegRow := [
  { base := 0x100308, n1 := 2, s1 := 0x20, n2 := 1, s2 := 0x1, rst := 0, rw := 0x1FFFFFFF, st := 0, w1c := 0, rs := 0, wo := 0, ranges := [], pair := .single },
  { base := 0x10030C, n1 := 2, s1 := 0x20, n2 := 1, s2 := 0x1, rst := 0, rw := 0xFFFFFFFF, st := 0, w1c := 0, rs := 0, wo := 0, ranges := [], pair := .single },
  { base := 0x100310, n1 := 2, s1 := 0x20, n2 := 1, s2 := 0x1, rst := 0, rw := 0xFFFFFFFF, st := 0, w1c := 0, rs := 0, wo := 0, ranges := [], pair := .single },
  { base := 0x100314, n1 := 2, s1 := 0x20, n2 := 1, s2 := 0x1, rst := 0, rw := 0, st := 0, w1c := 0x80000000, rs := 0, wo := 0, ranges := [], pair := .single },
  { base := 0x100400, n1 := 1, s1 := 0x1, n2 := 1, s2 := 0x1, rst := 0, rw := 0, st := 0, w1c := 0, rs := 0, wo := 0, ranges := [], pair := .lo },
  { base := 0x100404, n1 := 1, s1 := 0x1, n2 := 1, s2 := 0x1, rst := 0, rw := 0, st := 0, w1c := 0, rs := 0, wo := 0, ranges := [], pair := .hi },
  { base := 0x100408, n1 := 1, s1 := 0x1, n2 := 1, s2 := 0x1, rst := 0, rw := 0, st := 0, w1c := 0, rs := 0, wo := 0, ranges := [], pair := .single },
  { base := 0x10040C, n1 := 1, s1 := 0x1, n2 := 1, s2 := 0x1, rst := 0, rw := 0, st := 0, w1c := 0, rs := 0, wo := 0, ranges := [], pair := .single },
  { base := 0x100500, n1 := 1, s1 := 0x1, n2 := 1, s2 := 0x1, rst := 0, rw := 0xC0000000, st := 0, w1c := 0, rs := 0, wo := 0, ranges := [(31, 30, 0, 2)], pair := .single },
  { base := 0x100504, n1 := 1, s1 := 0x1, n2 := 1, s2 := 0x1, rst := 0, rw := 0, st := 0, w1c := 0x20000000, rs := 0, wo := 0, ranges := [], pair := .single },
  { base := 0x100508, n1 := 1, s1 := 0x1, n2 := 1, s2 := 0x1, rst := 0, rw := 0xC0000000, st := 0, w1c := 0, rs := 0, wo := 0, ranges := [], pair := .single },
  { base := 0x100510, n1 := 1, s1 := 0x1, n2 := 1, s2 := 0x1, rst := 0, rw := 0xFFFFFFFF, st := 0, w1c := 0, rs := 0, wo := 0, ranges := [], pair := .lo },
  { base := 0x100514, n1 := 1, s1 := 0x1, n2 := 1, s2 := 0x1, rst := 0, rw := 0xFFFF, st := 0, w1c := 0, rs := 0, wo := 0, ranges := [], pair := .hi },
  { base := 0x100518, n1 := 1, s1 := 0x1, n2 := 1, s2 := 0x1, rst := 0, rw := 0, st := 0, w1c := 0, rs := 0, wo := 0, ranges := [], pair := .lo },
  { base := 0x10051C, n1 := 1, s1 := 0x1, n2 := 1, s2 := 0x1, rst := 0, rw := 0, st := 0, w1c := 0, rs := 0, wo := 0, ranges := [], pair := .hi },
  { base := 0x100600, n1 := 2, s1 := 0x4, n2 := 1, s2 := 0x1, rst := 0, rw := 0, st := 0, w1c := 0, rs := 0, wo := 0, ranges := [], pair := .single }]
/-- Rows of the aon block. -/
def rows_aon_2 : List RegRow := [
  { base := 0x100608, n1 := 2, s1 := 0x4, n2 := 1, s2 := 0x1, rst := 0, rw := 0, st := 0, w1c := 0, rs := 0, wo := 0, ranges := [], pair := .single },
  { base := 0x100700, n1 := 1, s1 := 0x1, n2 := 1, s2 := 0x1, rst := 0, rw := 0x80000000, st := 0, w1c := 0, rs := 0xFFF000, wo := 0x40000000, ranges := [], pair := .single },
  { base := 0x100704, n1 := 1, s1 := 0x1, n2 := 1, s2 := 0x1, rst := 0, rw := 0, st := 0, w1c := 0, rs := 0, wo := 0xFFFFFFFF, ranges := [], pair := .single }]
/-- All rows of the aon block. -/
def rows_aon : List RegRow := rows_aon_0 ++ rows_aon_1 ++ rows_aon_2
/-- Rows of the sl block. -/
def rows_sl_0 : List RegRow := [
  { base := 0x200000, n1 := 32, s1 := 0x1000, n2 := 1, s2 := 0x1, rst := 0, rw := 0x2, st := 0, w1c := 0x40000000, rs := 0, wo := 0x5, ranges := [], pair := .single },
  { base := 0x200004, n1 := 32, s1 := 0x1000, n2 := 1, s2 := 0x1, rst := 0x20000000, rw := 0, st := 0xFFFFF000, w1c := 0, rs := 0, wo := 0, ranges := [], pair := .single },
  { base := 0x200008, n1 := 32, s1 := 0x1000, n2 := 1, s2 := 0x1, rst := 0x07D00000, rw := 0, st := 0xFFFFFF00, w1c := 0, rs := 0, wo := 0, ranges := [], pair := .single },
  { base := 0x20000C, n1 := 32, s1 := 0x1000, n2 := 1, s2 := 0x1, rst := 0x00B0000C, rw := 0, st := 0xFFFFFFFF, w1c := 0, rs := 0, wo := 0, ranges := [], pair := .single },
  { base := 0x200010, n1 := 32, s1 := 0x1000, n2 := 1, s2 := 0x1, rst := 0x99851A01, rw := 0, st := 0xFFFFFFFF, w1c := 0, rs := 0, wo := 0, ranges := [], pair := .single },
  { base := 0x200014, n1 := 32, s1 := 0x1000, n2 := 1, s2 := 0x1, rst := 0x58080834, rw := 0, st := 0xFFFFFFFF, w1c := 0, rs := 0, wo := 0, ranges := [], pair := .single },
  { base := 0x200018, n1 := 32, s1 := 0x1000, n2 := 1, s2 := 0x1, rst := 0x0AF016A8, rw := 0, st := 0xFFFFFFFF, w1c := 0, rs := 0, wo := 0, ranges := [], pair := .single },
  { base := 0x20001C, n1 := 32, s1 := 0x1000, n2 := 1, s2 := 0x1, rst := 0x02140000, rw := 0, st := 0xFFFF0000, w1c := 0, rs := 0, wo := 0, ranges := [], pair := .single },
  { base := 0x200020, n1 := 32, s1 := 0x1000, n2 := 1, s2 := 0x1, rst := 0x000000B0, rw := 0, st := 0xFFFFFFFF, w1c := 0, rs := 0, wo := 0, ranges := [], pair := .single },
  { base := 0x200024, n1 := 32, s1 := 0x1000, n2 := 1, s2 := 0x1, rst := 0, rw := 0, st := 0xC00FFFFF, w1c := 0, rs := 0, wo := 0, ranges := [], pair := .single },
  { base := 0x200028, n1 := 32, s1 := 0x1000, n2 := 1, s2 := 0x1, rst := 0, rw := 0, st := 0x000FFFFF, w1c := 0, rs := 0, wo := 0, ranges := [], pair := .single },
  { base := 0x20002C, n1 := 32, s1 := 0x1000, n2 := 1, s2 := 0x1, rst := 0x07000400, rw := 0x0FFF0FFF, st := 0, w1c := 0, rs := 0, wo := 0, ranges := [], pair := .single },
  { base := 0x200030, n1 := 32, s1 := 0x1000, n2 := 1, s2 := 0x1, rst := 0x64, rw := 0x3FFF, st := 0, w1c := 0, rs := 0, wo := 0, ranges := [(13, 0, 1, 10000)], pair := .single },
  { base := 0x200034, n1 := 32, s1 := 0x1000, n2 := 1, s2 := 0x1, rst := 0, rw := 0, st := 0, w1c := 0, rs := 0, wo := 0, ranges := [], pair := .single },
  { base := 0x200038, n1 := 32, s1 := 0x1000, n2 := 1, s2 := 0x1, rst := 0, rw := 0, st := 0, w1c := 0xFF, rs := 0, wo := 0, ranges := [], pair := .single },
  { base := 0x20003C, n1 := 32, s1 := 0x1000, n2 := 1, s2 := 0x1, rst := 0xCB, rw := 0xFF, st := 0, w1c := 0, rs := 0, wo := 0, ranges := [], pair := .single }]
/-- Rows of the sl block. -/
def rows_sl_1 : List RegRow := [
  { base := 0x200040, n1 := 32, s1 := 0x1000, n2 := 1, s2 := 0x1, rst := 0, rw := 0, st := 0, w1c := 0, rs := 0, wo := 0xFFFFFFFF, ranges := [], pair := .single },
  { base := 0x200044, n1 := 32, s1 := 0x1000, n2 := 1, s2 := 0x1, rst := 0, rw := 0, st := 0, w1c := 0, rs := 0, wo := 0, ranges := [], pair := .single },
  { base := 0x200048, n1 := 32, s1 := 0x1000, n2 := 1, s2 := 0x1, rst := 0, rw := 0, st := 0, w1c := 0, rs := 0, wo := 0, ranges := [], pair := .single },
  { base := 0x20004C, n1 := 32, s1 := 0x1000, n2 := 1, s2 := 0x1, rst := 0, rw := 0, st := 0, w1c := 0, rs := 0, wo := 0, ranges := [], pair := .single },
  { base := 0x200050, n1 := 32, s1 := 0x1000, n2 := 1, s2 := 0x1, rst := 0, rw := 0, st := 0, w1c := 0, rs := 0, wo := 0, ranges := [], pair := .lo },
  { base := 0x200054, n1 := 32, s1 := 0x1000, n2 := 1, s2 := 0x1, rst := 0, rw := 0, st := 0, w1c := 0, rs := 0, wo := 0, ranges := [], pair := .hi },
  { base := 0x200058, n1 := 32, s1 := 0x1000, n2 := 1, s2 := 0x1, rst := 0, rw := 0, st := 0, w1c := 0, rs := 0, wo := 0, ranges := [], pair := .single },
  { base := 0x20005C, n1 := 32, s1 := 0x1000, n2 := 1, s2 := 0x1, rst := 0, rw := 0, st := 0, w1c := 0, rs := 0, wo := 0x80000FFF, ranges := [], pair := .single },
  { base := 0x200060, n1 := 32, s1 := 0x1000, n2 := 1, s2 := 0x1, rst := 0, rw := 0, st := 0, w1c := 0, rs := 0, wo := 0, ranges := [], pair := .single },
  { base := 0x200064, n1 := 32, s1 := 0x1000, n2 := 1, s2 := 0x1, rst := 0, rw := 0, st := 0, w1c := 0, rs := 0, wo := 0, ranges := [], pair := .single },
  { base := 0x200080, n1 := 32, s1 := 0x1000, n2 := 10, s2 := 0x4, rst := 0, rw := 0, st := 0, w1c := 0, rs := 0xFFFFFFFF, wo := 0, ranges := [], pair := .single }]
/-- All rows of the sl block. -/
def rows_sl : List RegRow := rows_sl_0 ++ rows_sl_1
/-- Rows of the can block. -/
def rows_can_0 : List RegRow := [
  { base := 0x240000, n1 := 8, s1 := 0x2000, n2 := 1, s2 := 0x1, rst := 0, rw := 0x2, st := 0, w1c := 0x40000000, rs := 0, wo := 0x5, ranges := [], pair := .single },
  { base := 0x240004, n1 := 8, s1 := 0x2000, n2 := 1, s2 := 0x1, rst := 0x90000000, rw := 0, st := 0xFFFC0000, w1c := 0, rs := 0, wo := 0, ranges := [], pair := .single },
  { base := 0x240008, n1 := 8, s1 := 0x2000, n2 := 1, s2 := 0x1, rst := 0x4A713260, rw := 0, st := 0xFFFFFFF0, w1c := 0, rs := 0, wo := 0, ranges := [], pair := .single },
  { base := 0x24000C, n1 := 8, s1 := 0x2000, n2 := 1, s2 := 0x1, rst := 0x0E261800, rw := 0, st := 0xFFFFFF80, w1c := 0, rs := 0, wo := 0, ranges := [], pair := .single },
  { base := 0x240010, n1 := 8, s1 := 0x2000, n2 := 1, s2 := 0x1, rst := 0x800000C8, rw := 0, st := 0x8000FFFF, w1c := 0, rs := 0, wo := 0, ranges := [], pair := .single },
  { base := 0x240014, n1 := 8, s1 := 0x2000, n2 := 1, s2 := 0x1, rst := 0, rw := 0xC0000000, st := 0, w1c := 0, rs := 0, wo := 0x20000000, ranges := [], pair := .single },
  { base := 0x240018, n1 := 8, s1 := 0x2000, n2 := 1, s2 := 0x1, rst := 0x6060, rw := 0xFFFF, st := 0, w1c := 0, rs := 0, wo := 0, ranges := [(15, 8, 1, 255), (7, 0, 1, 255)], pair := .single },
  { base := 0x24001C, n1 := 8, s1 := 0x2000, n2 := 1, s2 := 0x1, rst := 0, rw := 0, st := 0, w1c := 0, rs := 0, wo := 0, ranges := [], pair := .single },
  { base := 0x240020, n1 := 8, s1 := 0x2000, n2 := 1, s2 := 0x1, rst := 0xC0000000, rw := 0, st := 0, w1c := 0, rs := 0, wo := 0, ranges := [], pair := .single },
  { base := 0x240024, n1 := 8, s1 := 0x2000, n2 := 1, s2 := 0x1, rst := 0, rw := 0, st := 0, w1c := 0x1FF, rs := 0, wo := 0, ranges := [], pair := .single },
  { base := 0x240028, n1 := 8, s1 := 0x2000, n2 := 1, s2 := 0x1, rst := 0x1DA, rw := 0x1FF, st := 0, w1c := 0, rs := 0, wo := 0, ranges := [], pair := .single },
  { base := 0x24002C, n1 := 8, s1 := 0x2000, n2 := 1, s2 := 0x1, rst := 0, rw := 0, st := 0, w1c := 0, rs := 0, wo := 0, ranges := [], pair := .single },
  { base := 0x240030, n1 := 8, s1 := 0x2000, n2 := 1, s2 := 0x1, rst := 0, rw := 0, st := 0, w1c := 0, rs := 0, wo := 0, ranges := [], pair := .single },
  { base := 0x240034, n1 := 8, s1 := 0x2000, n2 := 1, s2 := 0x1, rst := 0, rw := 0, st := 0, w1c := 0, rs := 0, wo := 0xFFFFFFFF, ranges := [], pair := .single },
  { base := 0x240038, n1 := 8, s1 := 0x2000, n2 := 1, s2 := 0x1, rst := 0, rw := 0, st := 0, w1c := 0, rs := 0, wo := 0x8000003F, ranges := [], pair := .single },
  { base := 0x24003C, n1 := 8, s1 := 0x2000, n2 := 1, s2 := 0x1, rst := 0, rw := 0, st := 0, w1c := 0, rs := 0, wo := 0, ranges := [], pair := .single }]
/-- Rows of the can block. -/
def rows_can_1 : List RegRow := [
  { base := 0x240040, n1 := 8, s1 := 0x2000, n2 := 1, s2 := 0x1, rst := 0x32, rw := 0xC00000FF, st := 0, w1c := 0, rs := 0, wo := 0, ranges := [], pair := .single },
  { base := 0x240044, n1 := 8, s1 := 0x2000, n2 := 1, s2 := 0x1, rst := 0, rw := 0x1FFFFFFF, st := 0, w1c := 0, rs := 0, wo := 0, ranges := [], pair := .single },
  { base := 0x240048, n1 := 8, s1 := 0x2000, n2 := 1, s2 := 0x1, rst := 0, rw := 0x1FFFFFFF, st := 0, w1c := 0, rs := 0, wo := 0, ranges := [], pair := .single },
  { base := 0x24004C, n1 := 8, s1 := 0x2000, n2 := 1, s2 := 0x1, rst := 0, rw := 0xFFFFFFFF, st := 0, w1c := 0, rs := 0, wo := 0, ranges := [], pair := .single },
  { base := 0x240050, n1 := 8, s1 := 0x2000, n2 := 1, s2 := 0x1, rst := 0, rw := 0xFFFFFFFF, st := 0, w1c := 0, rs := 0, wo := 0, ranges := [], pair := .single },
  { base := 0x240080, n1 := 8, s1 := 0x2000, n2 := 12, s2 := 0x4, rst := 0, rw := 0, st := 0, w1c := 0, rs := 0xFFFFFFFF, wo := 0, ranges := [], pair := .single },
  { base := 0x240100, n1 := 8, s1 := 0x2000, n2 := 20, s2 := 0x4, rst := 0, rw := 0, st := 0, w1c := 0, rs := 0, wo := 0, ranges := [], pair := .single },
  { base := 0x240180, n1 := 8, s1 := 0x2000, n2 := 18, s2 := 0x4, rst := 0, rw := 0xFFFFFFFF, st := 0, w1c := 0, rs := 0, wo := 0, ranges := [], pair := .single },
  { base := 0x240400, n1 := 8, s1 := 0x2000, n2 := 64, s2 := 0x10, rst := 0, rw := 0, st := 0xE0073FFF, w1c := 0, rs := 0, wo := 0, ranges := [], pair := .single },
  { base := 0x240404, n1 := 8, s1 := 0x2000, n2 := 64, s2 := 0x10, rst := 0, rw := 0, st := 0, w1c := 0, rs := 0, wo := 0, ranges := [], pair := .single },
  { base := 0x240408, n1 := 8, s1 := 0x2000, n2 := 64, s2 := 0x10, rst := 0, rw := 0, st := 0, w1c := 0, rs := 0, wo := 0, ranges := [], pair := .lo },
  { base := 0x24040C, n1 := 8, s1 := 0x2000, n2 := 64, s2 := 0x10, rst := 0, rw := 0, st := 0, w1c := 0, rs := 0, wo := 0, ranges := [], pair := .hi },
  { base := 0x240800, n1 := 8, s1 := 0x2000, n2 := 256, s2 := 0x8, rst := 0, rw := 0, st := 0xC00FFFFF, w1c := 0, rs := 0, wo := 0, ranges := [], pair := .single },
  { base := 0x240804, n1 := 8, s1 := 0x2000, n2 := 256, s2 := 0x8, rst := 0, rw := 0, st := 0x000FFFFF, w1c := 0, rs := 0, wo := 0, ranges := [], pair := .single }]
/-- All rows of the can block. -/
def rows_can : List RegRow := rows_can_0 ++ rows_can_1
/-- Rows of the pin block. -/
def rows_pin_0 : List RegRow := [
  { base := 0x280000, n1 := 16, s1 := 0x10, n2 := 1, s2 := 0x1, rst := 0, rw := 0x80000000, st := 0, w1c := 0, rs := 0, wo := 0, ranges := [], pair := .single },
  { base := 0x280004, n1 := 16, s1 := 0x10, n2 := 1, s2 := 0x1, rst := 0, rw := 0, st := 0, w1c := 0x30000000, rs := 0, wo := 0, ranges := [], pair := .single },
  { base := 0x280008, n1 := 16, s1 := 0x10, n2 := 1, s2 := 0x1, rst := 0, rw := 0, st := 0, w1c := 0, rs := 0, wo := 0, ranges := [], pair := .lo },
  { base := 0x28000C, n1 := 16, s1 := 0x10, n2 := 1, s2 := 0x1, rst := 0, rw := 0, st := 0, w1c := 0, rs := 0, wo := 0, ranges := [], pair := .hi },
  { base := 0x280100, n1 := 8, s1 := 0x10, n2 := 1, s2 := 0x1, rst := 0x20000000, rw := 0xFFF00000, st := 0, w1c := 0, rs := 0, wo := 0, ranges := [], pair := .single },
  { base := 0x280104, n1 := 8, s1 := 0x10, n2 := 1, s2 := 0x1, rst := 0, rw := 0, st := 0, w1c := 0x40000000, rs := 0, wo := 0, ranges := [], pair := .single },
  { base := 0x280108, n1 := 8, s1 := 0x10, n2 := 1, s2 := 0x1, rst := 0, rw := 0, st := 0, w1c := 0, rs := 0, wo := 0, ranges := [], pair := .lo },
  { base := 0x28010C, n1 := 8, s1 := 0x10, n2 := 1, s2 := 0x1, rst := 0, rw := 0, st := 0, w1c := 0, rs := 0, wo := 0, ranges := [], pair := .hi },
  { base := 0x280180, n1 := 8, s1 := 0x4, n2 := 1, s2 := 0x1, rst := 0, rw := 0, st := 0, w1c := 0, rs := 0, wo := 0, ranges := [], pair := .single },
  { base := 0x280200, n1 := 2, s1 := 0x10, n2 := 1, s2 := 0x1, rst := 0x20000000, rw := 0xE0000000, st := 0, w1c := 0, rs := 0, wo := 0, ranges := [], pair := .single },
  { base := 0x280204, n1 := 2, s1 := 0x10, n2 := 1, s2 := 0x1, rst := 0, rw := 0, st := 0, w1c := 0, rs := 0, wo := 0, ranges := [], pair := .single },
  { base := 0x280280, n1 := 2, s1 := 0x10, n2 := 1, s2 := 0x1, rst := 0, rw := 0, st := 0, w1c := 0, rs := 0, wo := 0, ranges := [], pair := .single },
  { base := 0x280284, n1 := 2, s1 := 0x10, n2 := 1, s2 := 0x1, rst := 0, rw := 0, st := 0, w1c := 0, rs := 0, wo := 0, ranges := [], pair := .single },
  { base := 0x290000, n1 := 1, s1 := 0x1, n2 := 1, s2 := 0x1, rst := 0, rw := 0, st := 0, w1c := 0, rs := 0, wo := 0, ranges := [], pair := .single },
  { base := 0x290004, n1 := 1, s1 := 0x1, n2 := 1, s2 := 0x1, rst := 0, rw := 0xFFFFFFFF, st := 0, w1c := 0, rs := 0, wo := 0, ranges := [], pair := .single },
  { base := 0x290008, n1 := 1, s1 := 0x1, n2 := 1, s2 := 0x1, rst := 0, rw := 0xFFFFFFFF, st := 0, w1c := 0, rs := 0, wo := 0, ranges := [], pair := .single }]
/-- Rows of the pin block. -/
def rows_pin_1 : List RegRow := [
  { base := 0x29000C, n1 := 1, s1 := 0x1, n2 := 1, s2 := 0x1, rst := 0, rw := 0, st := 0, w1c := 0, rs := 0, wo := 0xFFFFFFFF, ranges := [], pair := .single },
  { base := 0x290010, n1 := 1, s1 := 0x1, n2 := 1, s2 := 0x1, rst := 0, rw := 0, st := 0, w1c := 0, rs := 0, wo := 0xFFFFFFFF, ranges := [], pair := .single },
  { base := 0x290014, n1 := 1, s1 := 0x1, n2 := 1, s2 := 0x1, rst := 0xFFFFFFFF, rw := 0xFFFFFFFF, st := 0, w1c := 0, rs := 0, wo := 0, ranges := [], pair := .single },
  { base := 0x2A0000, n1 := 1, s1 := 0x1, n2 := 1, s2 := 0x1, rst := 0x0503, rw := 0xFFFF, st := 0, w1c := 0, rs := 0, wo := 0, ranges := [(15, 8, 1, 255), (7, 0, 2, 255)], pair := .single },
  { base := 0x2A0004, n1 := 1, s1 := 0x1, n2 := 1, s2 := 0x1, rst := 0, rw := 0, st := 0, w1c := 0, rs := 0, wo := 0, ranges := [], pair := .single },
  { base := 0x2A0008, n1 := 1, s1 := 0x1, n2 := 1, s2 := 0x1, rst := 0, rw := 0, st := 0, w1c := 0, rs := 0, wo := 0, ranges := [], pair := .lo },
  { base := 0x2A000C, n1 := 1, s1 := 0x1, n2 := 1, s2 := 0x1, rst := 0, rw := 0, st := 0, w1c := 0, rs := 0, wo := 0, ranges := [], pair := .hi },
  { base := 0x2A0010, n1 := 1, s1 := 0x1, n2 := 1, s2 := 0x1, rst := 0, rw := 0, st := 0, w1c := 0, rs := 0, wo := 0, ranges := [], pair := .single },
  { base := 0x2A0014, n1 := 1, s1 := 0x1, n2 := 1, s2 := 0x1, rst := 0, rw := 0, st := 0, w1c := 0, rs := 0, wo := 0, ranges := [], pair := .single },
  { base := 0x2A0020, n1 := 4, s1 := 0x8, n2 := 1, s2 := 0x1, rst := 0, rw := 0, st := 0, w1c := 0, rs := 0, wo := 0, ranges := [], pair := .lo },
  { base := 0x2A0024, n1 := 4, s1 := 0x8, n2 := 1, s2 := 0x1, rst := 0, rw := 0, st := 0, w1c := 0, rs := 0, wo := 0, ranges := [], pair := .hi },
  { base := 0x2B0000, n1 := 1, s1 := 0x1, n2 := 1, s2 := 0x1, rst := 0x2014, rw := 0xFFFF, st := 0, w1c := 0, rs := 0, wo := 0, ranges := [(15, 8, 1, 255), (7, 0, 5, 255)], pair := .single },
  { base := 0x2B0004, n1 := 1, s1 := 0x1, n2 := 1, s2 := 0x1, rst := 0, rw := 0, st := 0, w1c := 0, rs := 0xFFFFFFFF, wo := 0, ranges := [], pair := .single },
  { base := 0x2B0008, n1 := 1, s1 := 0x1, n2 := 1, s2 := 0x1, rst := 0, rw := 0, st := 0, w1c := 0, rs := 0xFFFFFFFF, wo := 0, ranges := [], pair := .single },
  { base := 0x2B000C, n1 := 1, s1 := 0x1, n2 := 1, s2 := 0x1, rst := 0, rw := 0, st := 0, w1c := 0, rs := 0xFFFFFFFF, wo := 0, ranges := [], pair := .single },
  { base := 0x2B0010, n1 := 1, s1 := 0x1, n2 := 1, s2 := 0x1, rst := 0, rw := 0, st := 0, w1c := 0, rs := 0xFFFFFFFF, wo := 0, ranges := [], pair := .single }]
/-- Rows of the pin block. -/
def rows_pin_2 : List RegRow := [
  { base := 0x2B0014, n1 := 1, s1 := 0x1, n2 := 1, s2 := 0x1, rst := 0, rw := 0, st := 0, w1c := 0, rs := 0xFFFFFFFF, wo := 0, ranges := [], pair := .single },
  { base := 0x2B0020, n1 := 1, s1 := 0x1, n2 := 1, s2 := 0x1, rst := 0, rw := 0, st := 0, w1c := 0xFFFFFFFF, rs := 0, wo := 0, ranges := [], pair := .lo },
  { base := 0x2B0024, n1 := 1, s1 := 0x1, n2 := 1, s2 := 0x1, rst := 0, rw := 0, st := 0, w1c := 0x03FFFFFF, rs := 0, wo := 0, ranges := [], pair := .hi },
  { base := 0x2B0028, n1 := 1, s1 := 0x1, n2 := 1, s2 := 0x1, rst := 0, rw := 0, st := 0, w1c := 0, rs := 0, wo := 0, ranges := [], pair := .lo },
  { base := 0x2B002C, n1 := 1, s1 := 0x1, n2 := 1, s2 := 0x1, rst := 0, rw := 0, st := 0, w1c := 0, rs := 0, wo := 0, ranges := [], pair := .hi },
  { base := 0x2B0030, n1 := 1, s1 := 0x1, n2 := 1, s2 := 0x1, rst := 0, rw := 0, st := 0, w1c := 0, rs := 0, wo := 0, ranges := [], pair := .lo },
  { base := 0x2B0034, n1 := 1, s1 := 0x1, n2 := 1, s2 := 0x1, rst := 0, rw := 0, st := 0, w1c := 0, rs := 0, wo := 0, ranges := [], pair := .hi },
  { base := 0x2B0100, n1 := 58, s1 := 0x4, n2 := 1, s2 := 0x1, rst := 0x4, rw := 0x7, st := 0, w1c := 0, rs := 0, wo := 0, ranges := [], pair := .single },
  { base := 0x2B0400, n1 := 1, s1 := 0x1, n2 := 1, s2 := 0x1, rst := 0, rw := 0, st := 0, w1c := 0, rs := 0, wo := 0, ranges := [], pair := .single },
  { base := 0x2B0408, n1 := 1, s1 := 0x1, n2 := 1, s2 := 0x1, rst := 0, rw := 0, st := 0, w1c := 0, rs := 0, wo := 0, ranges := [], pair := .lo },
  { base := 0x2B040C, n1 := 1, s1 := 0x1, n2 := 1, s2 := 0x1, rst := 0, rw := 0, st := 0, w1c := 0, rs := 0, wo := 0, ranges := [], pair := .hi },
  { base := 0x2B0410, n1 := 1, s1 := 0x1, n2 := 1, s2 := 0x1, rst := 0, rw := 0, st := 0, w1c := 0, rs := 0, wo := 0, ranges := [], pair := .lo },
  { base := 0x2B0414, n1 := 1, s1 := 0x1, n2 := 1, s2 := 0x1, rst := 0, rw := 0, st := 0, w1c := 0, rs := 0, wo := 0, ranges := [], pair := .hi },
  { base := 0x2B0418, n1 := 1, s1 := 0x1, n2 := 1, s2 := 0x1, rst := 0, rw := 0, st := 0, w1c := 0, rs := 0xFFFFFFFF, wo := 0, ranges := [], pair := .single },
  { base := 0x2B041C, n1 := 1, s1 := 0x1, n2 := 1, s2 := 0x1, rst := 0, rw := 0, st := 0, w1c := 0, rs := 0xFFFFFFFF, wo := 0, ranges := [], pair := .single },
  { base := 0x2B0420, n1 := 1, s1 := 0x1, n2 := 1, s2 := 0x1, rst := 0, rw := 0, st := 0, w1c := 0, rs := 0, wo := 0, ranges := [], pair := .single }]
/-- Rows of the pin block. -/
def rows_pin_3 : List RegRow := [
  { base := 0x2B0428, n1 := 1, s1 := 0x1, n2 := 1, s2 := 0x1, rst := 0, rw := 0, st := 0, w1c := 0, rs := 0, wo := 0, ranges := [], pair := .lo },
  { base := 0x2B042C, n1 := 1, s1 := 0x1, n2 := 1, s2 := 0x1, rst := 0, rw := 0, st := 0, w1c := 0, rs := 0, wo := 0, ranges := [], pair := .hi },
  { base := 0x2B0500, n1 := 1, s1 := 0x1, n2 := 1, s2 := 0x1, rst := 0, rw := 0xFF, st := 0, w1c := 0, rs := 0, wo := 0, ranges := [], pair := .single },
  { base := 0x2B0504, n1 := 1, s1 := 0x1, n2 := 1, s2 := 0x1, rst := 0, rw := 0, st := 0, w1c := 0, rs := 0, wo := 0, ranges := [], pair := .single }]
/-- All rows of the pin block. -/
def rows_pin : List RegRow := rows_pin_0 ++ rows_pin_1 ++ rows_pin_2 ++ rows_pin_3
/-- Rows of the time block. -/
def rows_time_0 : List RegRow := [
  { base := 0x400000, n1 := 1, s1 := 0x1, n2 := 1, s2 := 0x1, rst := 0x0202900A, rw := 0x03FFFFFF, st := 0, w1c := 0, rs := 0, wo := 0, ranges := [(23, 14, 1, 1000), (13, 7, 1, 127), (6, 0, 1, 100)], pair := .single },
  { base := 0x400010, n1 := 1, s1 := 0x1, n2 := 1, s2 := 0x1, rst := 0, rw := 0, st := 0, w1c := 0, rs := 0, wo := 0, ranges := [], pair := .lo },
  { base := 0x400014, n1 := 1, s1 := 0x1, n2 := 1, s2 := 0x1, rst := 0, rw := 0, st := 0, w1c := 0, rs := 0, wo := 0, ranges := [], pair := .hi },
  { base := 0x400018, n1 := 1, s1 := 0x1, n2 := 1, s2 := 0x1, rst := 0, rw := 0, st := 0, w1c := 0, rs := 0, wo := 0, ranges := [], pair := .single },
  { base := 0x40001C, n1 := 1, s1 := 0x1, n2 := 1, s2 := 0x1, rst := 0, rw := 0, st := 0, w1c := 0, rs := 0, wo := 0, ranges := [], pair := .single },
  { base := 0x400020, n1 := 1, s1 := 0x1, n2 := 1, s2 := 0x1, rst := 0, rw := 0, st := 0, w1c := 0, rs := 0, wo := 0, ranges := [], pair := .single },
  { base := 0x400024, n1 := 1, s1 := 0x1, n2 := 1, s2 := 0x1, rst := 0, rw := 0, st := 0, w1c := 0, rs := 0, wo := 0, ranges := [], pair := .single },
  { base := 0x400028, n1 := 1, s1 := 0x1, n2 := 1, s2 := 0x1, rst := 0, rw := 0, st := 0, w1c := 0, rs := 0, wo := 0, ranges := [], pair := .single },
  { base := 0x40002C, n1 := 1, s1 := 0x1, n2 := 1, s2 := 0x1, rst := 0, rw := 0, st := 0, w1c := 0, rs := 0, wo := 0, ranges := [], pair := .single },
  { base := 0x400030, n1 := 1, s1 := 0x1, n2 := 1, s2 := 0x1, rst := 0, rw := 0, st := 0, w1c := 0, rs := 0, wo := 0, ranges := [], pair := .single },
  { base := 0x400038, n1 := 1, s1 := 0x1, n2 := 1, s2 := 0x1, rst := 0, rw := 0, st := 0, w1c := 0, rs := 0, wo := 0, ranges := [], pair := .single },
  { base := 0x40003C, n1 := 1, s1 := 0x1, n2 := 1, s2 := 0x1, rst := 0, rw := 0, st := 0, w1c := 0, rs := 0, wo := 0, ranges := [], pair := .single },
  { base := 0x400040, n1 := 1, s1 := 0x1, n2 := 1, s2 := 0x1, rst := 0x80000000, rw := 0, st := 0, w1c := 0, rs := 0, wo := 0, ranges := [], pair := .single },
  { base := 0x400100, n1 := 2, s1 := 0x40, n2 := 1, s2 := 0x1, rst := 0, rw := 0x2, st := 0, w1c := 0x40000000, rs := 0, wo := 0x5, ranges := [], pair := .single },
  { base := 0x400104, n1 := 2, s1 := 0x40, n2 := 1, s2 := 0x1, rst := 0, rw := 0, st := 0x3, w1c := 0, rs := 0, wo := 0, ranges := [], pair := .single },
  { base := 0x400108, n1 := 2, s1 := 0x40, n2 := 1, s2 := 0x1, rst := 0, rw := 0, st := 0xFFFFFFFF, w1c := 0, rs := 0, wo := 0, ranges := [], pair := .single }]
/-- Rows of the time block. -/
def rows_time_1 : List RegRow := [
  { base := 0x40010C, n1 := 2, s1 := 0x40, n2 := 1, s2 := 0x1, rst := 0, rw := 0, st := 0xFFFFFFFF, w1c := 0, rs := 0, wo := 0, ranges := [], pair := .single },
  { base := 0x400110, n1 := 2, s1 := 0x40, n2 := 1, s2 := 0x1, rst := 0, rw := 0, st := 0xFFFFFFFF, w1c := 0, rs := 0, wo := 0, ranges := [], pair := .lo },
  { base := 0x400114, n1 := 2, s1 := 0x40, n2 := 1, s2 := 0x1, rst := 0, rw := 0, st := 0xFFFFFFFF, w1c := 0, rs := 0, wo := 0, ranges := [], pair := .hi },
  { base := 0x400118, n1 := 2, s1 := 0x40, n2 := 1, s2 := 0x1, rst := 0, rw := 0, st := 0xF, w1c := 0, rs := 0, wo := 0, ranges := [], pair := .single },
  { base := 0x40011C, n1 := 2, s1 := 0x40, n2 := 1, s2 := 0x1, rst := 0, rw := 0, st := 0xFFFFFFFF, w1c := 0, rs := 0, wo := 0, ranges := [], pair := .lo },
  { base := 0x400120, n1 := 2, s1 := 0x40, n2 := 1, s2 := 0x1, rst := 0, rw := 0, st := 0xFFFFFFFF, w1c := 0, rs := 0, wo := 0, ranges := [], pair := .hi },
  { base := 0x400124, n1 := 2, s1 := 0x40, n2 := 1, s2 := 0x1, rst := 0, rw := 0xFFFFFFFF, st := 0, w1c := 0, rs := 0, wo := 0, ranges := [], pair := .single },
  { base := 0x400128, n1 := 2, s1 := 0x40, n2 := 1, s2 := 0x1, rst := 0, rw := 0, st := 0, w1c := 0, rs := 0, wo := 0, ranges := [], pair := .single },
  { base := 0x40012C, n1 := 2, s1 := 0x40, n2 := 1, s2 := 0x1, rst := 0, rw := 0xFFFFFFFF, st := 0, w1c := 0, rs := 0, wo := 0, ranges := [], pair := .single },
  { base := 0x400400, n1 := 4, s1 := 0x40, n2 := 1, s2 := 0x1, rst := 0, rw := 0x2, st := 0, w1c := 0x40000000, rs := 0, wo := 0x5, ranges := [], pair := .single },
  { base := 0x400404, n1 := 4, s1 := 0x40, n2 := 1, s2 := 0x1, rst := 0, rw := 0x80000000, st := 0, w1c := 0x30000000, rs := 0, wo := 0, ranges := [], pair := .single },
  { base := 0x400408, n1 := 4, s1 := 0x40, n2 := 1, s2 := 0x1, rst := 0x1, rw := 0, st := 0xFFFFFFFF, w1c := 0, rs := 0, wo := 0, ranges := [], pair := .single },
  { base := 0x40040C, n1 := 4, s1 := 0x40, n2 := 1, s2 := 0x1, rst := 0x3C, rw := 0, st := 0xFFFFFFFF, w1c := 0, rs := 0, wo := 0, ranges := [], pair := .single },
  { base := 0x400410, n1 := 4, s1 := 0x40, n2 := 1, s2 := 0x1, rst := 0, rw := 0, st := 0xFFFFFFFF, w1c := 0, rs := 0, wo := 0, ranges := [], pair := .lo },
  { base := 0x400414, n1 := 4, s1 := 0x40, n2 := 1, s2 := 0x1, rst := 0, rw := 0, st := 0xFFFFFFFF, w1c := 0, rs := 0, wo := 0, ranges := [], pair := .hi },
  { base := 0x400418, n1 := 4, s1 := 0x40, n2 := 1, s2 := 0x1, rst := 0, rw := 0, st := 0xFFFFFFFF, w1c := 0, rs := 0, wo := 0, ranges := [], pair := .lo }]
/-- Rows of the time block. -/
def rows_time_2 : List RegRow := [
  { base := 0x40041C, n1 := 4, s1 := 0x40, n2 := 1, s2 := 0x1, rst := 0, rw := 0, st := 0xFFFFFFFF, w1c := 0, rs := 0, wo := 0, ranges := [], pair := .hi },
  { base := 0x400420, n1 := 4, s1 := 0x40, n2 := 1, s2 := 0x1, rst := 0, rw := 0, st := 0, w1c := 0, rs := 0, wo := 0, ranges := [], pair := .lo },
  { base := 0x400424, n1 := 4, s1 := 0x40, n2 := 1, s2 := 0x1, rst := 0, rw := 0, st := 0, w1c := 0, rs := 0, wo := 0, ranges := [], pair := .hi },
  { base := 0x400428, n1 := 4, s1 := 0x40, n2 := 1, s2 := 0x1, rst := 0, rw := 0, st := 0, w1c := 0, rs := 0, wo := 0, ranges := [], pair := .lo },
  { base := 0x40042C, n1 := 4, s1 := 0x40, n2 := 1, s2 := 0x1, rst := 0, rw := 0, st := 0, w1c := 0, rs := 0, wo := 0, ranges := [], pair := .hi }]
/-- All rows of the time block. -/
def rows_time : List RegRow := rows_time_0 ++ rows_time_1 ++ rows_time_2
/-- Rows of the port block. -/
def rows_port_0 : List RegRow := [
  { base := 0x410000, n1 := 4, s1 := 0x4000, n2 := 1, s2 := 0x1, rst := 0, rw := 0x2, st := 0, w1c := 0x40000000, rs := 0, wo := 0x5, ranges := [], pair := .single },
  { base := 0x410004, n1 := 4, s1 := 0x4000, n2 := 1, s2 := 0x1, rst := 0, rw := 0, st := 0xFFFFFC00, w1c := 0, rs := 0, wo := 0, ranges := [], pair := .single },
  { base := 0x410008, n1 := 4, s1 := 0x4000, n2 := 1, s2 := 0x1, rst := 0, rw := 0, st := 0, w1c := 0, rs := 0, wo := 0, ranges := [], pair := .single },
  { base := 0x41000C, n1 := 4, s1 := 0x4000, n2 := 1, s2 := 0x1, rst := 0x800A01C2, rw := 0x80FF0FFF, st := 0, w1c := 0, rs := 0, wo := 0, ranges := [(23, 16, 1, 255), (11, 0, 50, 4000)], pair := .single },
  { base := 0x410010, n1 := 4, s1 := 0x4000, n2 := 1, s2 := 0x1, rst := 0, rw := 0xFFFFFFFF, st := 0, w1c := 0, rs := 0, wo := 0, ranges := [], pair := .lo },
  { base := 0x410014, n1 := 4, s1 := 0x4000, n2 := 1, s2 := 0x1, rst := 0, rw := 0xFFFF, st := 0, w1c := 0, rs := 0, wo := 0, ranges := [], pair := .hi },
  { base := 0x410018, n1 := 4, s1 := 0x4000, n2 := 1, s2 := 0x1, rst := 0x88B5, rw := 0xFFFF, st := 0, w1c := 0, rs := 0, wo := 0, ranges := [], pair := .single },
  { base := 0x41001C, n1 := 4, s1 := 0x4000, n2 := 1, s2 := 0x1, rst := 0x5358, rw := 0xFFFFFFFF, st := 0, w1c := 0, rs := 0, wo := 0, ranges := [], pair := .lo },
  { base := 0x410020, n1 := 4, s1 := 0x4000, n2 := 1, s2 := 0x1, rst := 0x0300, rw := 0xFFFF, st := 0, w1c := 0, rs := 0, wo := 0, ranges := [], pair := .hi },
  { base := 0x410024, n1 := 4, s1 := 0x4000, n2 := 1, s2 := 0x1, rst := 0x90000800, rw := 0xFC00FF00, st := 0, w1c := 0, rs := 0, wo := 0, ranges := [], pair := .single },
  { base := 0x410028, n1 := 4, s1 := 0x4000, n2 := 1, s2 := 0x1, rst := 0, rw := 0xFFFFFFFF, st := 0, w1c := 0, rs := 0, wo := 0, ranges := [], pair := .single },
  { base := 0x41002C, n1 := 4, s1 := 0x4000, n2 := 1, s2 := 0x1, rst := 0xFFFFFFFF, rw := 0, st := 0, w1c := 0, rs := 0, wo := 0, ranges := [], pair := .single },
  { base := 0x410030, n1 := 4, s1 := 0x4000, n2 := 1, s2 := 0x1, rst := 0, rw := 0, st := 0, w1c := 0, rs := 0, wo := 0, ranges := [], pair := .single },
  { base := 0x410034, n1 := 4, s1 := 0x4000, n2 := 1, s2 := 0x1, rst := 0, rw := 0xFFFFFFFF, st := 0, w1c := 0, rs := 0, wo := 0, ranges := [], pair := .single },
  { base := 0x410038, n1 := 4, s1 := 0x4000, n2 := 1, s2 := 0x1, rst := 0x800007D0, rw := 0x8000FFFF, st := 0, w1c := 0, rs := 0, wo := 0, ranges := [(15, 0, 100, 60000)], pair := .single },
  { base := 0x410040, n1 := 4, s1 := 0x4000, n2 := 16, s2 := 0x4, rst := 0, rw := 0, st := 0, w1c := 0, rs := 0xFFFFFFFF, wo := 0, ranges := [], pair := .single }]
/-- Rows of the port block. -/
def rows_port_1 : List RegRow := [
  { base := 0x410080, n1 := 4, s1 := 0x4000, n2 := 1, s2 := 0x1, rst := 0, rw := 0, st := 0, w1c := 0, rs := 0xFFFFFFFF, wo := 0, ranges := [], pair := .single }]
/-- All rows of the port block. -/
def rows_port : List RegRow := rows_port_0 ++ rows_port_1
/-- Rows of the ingress block. -/
def rows_ingress_0 : List RegRow := [
  { base := 0x480000, n1 := 1, s1 := 0x1, n2 := 1, s2 := 0x1, rst := 0x03E80641, rw := 0xFFFFFFF1, st := 0, w1c := 0, rs := 0, wo := 0, ranges := [(31, 16, 1, 60000), (15, 4, 1, 4095)], pair := .single },
  { base := 0x480004, n1 := 1, s1 := 0x1, n2 := 1, s2 := 0x1, rst := 0x9C4, rw := 0xFFFF, st := 0, w1c := 0, rs := 0, wo := 0, ranges := [(15, 0, 1, 60000)], pair := .single },
  { base := 0x480010, n1 := 1, s1 := 0x1, n2 := 1, s2 := 0x1, rst := 0, rw := 0x3FFF, st := 0, w1c := 0, rs := 0, wo := 0, ranges := [], pair := .single },
  { base := 0x480014, n1 := 1, s1 := 0x1, n2 := 1, s2 := 0x1, rst := 0, rw := 0, st := 0, w1c := 0, rs := 0xFFFFFFFF, wo := 0, ranges := [], pair := .single },
  { base := 0x480020, n1 := 8, s1 := 0x4, n2 := 1, s2 := 0x1, rst := 0, rw := 0, st := 0, w1c := 0, rs := 0, wo := 0, ranges := [], pair := .single },
  { base := 0x480040, n1 := 1, s1 := 0x1, n2 := 1, s2 := 0x1, rst := 0, rw := 0x3FFFF, st := 0, w1c := 0, rs := 0, wo := 0, ranges := [], pair := .single },
  { base := 0x480044, n1 := 1, s1 := 0x1, n2 := 1, s2 := 0x1, rst := 0, rw := 0, st := 0, w1c := 0, rs := 0, wo := 0, ranges := [], pair := .single },
  { base := 0x480048, n1 := 1, s1 := 0x1, n2 := 1, s2 := 0x1, rst := 0, rw := 0, st := 0, w1c := 0, rs := 0xFFFFFFFF, wo := 0, ranges := [], pair := .single },
  { base := 0x48004C, n1 := 1, s1 := 0x1, n2 := 1, s2 := 0x1, rst := 0, rw := 0, st := 0, w1c := 0, rs := 0xFFFFFFFF, wo := 0, ranges := [], pair := .single },
  { base := 0x480050, n1 := 4, s1 := 0x4, n2 := 1, s2 := 0x1, rst := 0, rw := 0, st := 0, w1c := 0, rs := 0, wo := 0, ranges := [], pair := .single },
  { base := 0x480060, n1 := 1, s1 := 0x1, n2 := 1, s2 := 0x1, rst := 0, rw := 0xFF, st := 0, w1c := 0, rs := 0, wo := 0, ranges := [], pair := .single },
  { base := 0x480064, n1 := 1, s1 := 0x1, n2 := 1, s2 := 0x1, rst := 0, rw := 0, st := 0, w1c := 0, rs := 0, wo := 0, ranges := [], pair := .single },
  { base := 0x480100, n1 := 25, s1 := 0x4, n2 := 1, s2 := 0x1, rst := 0, rw := 0, st := 0, w1c := 0, rs := 0xFFFFFFFF, wo := 0, ranges := [], pair := .single }]
/-- All rows of the ingress block. -/
def rows_ingress : List RegRow := rows_ingress_0
/-- Rows of the queue block. -/
def rows_queue_0 : List RegRow := [
  { base := 0x4C0000, n1 := 512, s1 := 0x40, n2 := 1, s2 := 0x1, rst := 0, rw := 0x2, st := 0, w1c := 0x40000000, rs := 0, wo := 0x5, ranges := [], pair := .single },
  { base := 0x4C0004, n1 := 512, s1 := 0x40, n2 := 1, s2 := 0x1, rst := 0, rw := 0, st := 0xC001FFFF, w1c := 0, rs := 0, wo := 0, ranges := [], pair := .single },
  { base := 0x4C0008, n1 := 512, s1 := 0x40, n2 := 1, s2 := 0x1, rst := 0, rw := 0, st := 0x7FFFF, w1c := 0, rs := 0, wo := 0, ranges := [], pair := .single },
  { base := 0x4C000C, n1 := 512, s1 := 0x40, n2 := 1, s2 := 0x1, rst := 0, rw := 0, st := 0x7FFFF, w1c := 0, rs := 0, wo := 0, ranges := [], pair := .single },
  { base := 0x4C0010, n1 := 512, s1 := 0x40, n2 := 1, s2 := 0x1, rst := 0, rw := 0, st := 0x7FFFF, w1c := 0, rs := 0, wo := 0, ranges := [], pair := .single },
  { base := 0x4C0014, n1 := 512, s1 := 0x40, n2 := 1, s2 := 0x1, rst := 0, rw := 0x80000000, st := 0, w1c := 0, rs := 0, wo := 0x40000000, ranges := [], pair := .single },
  { base := 0x4C0018, n1 := 512, s1 := 0x40, n2 := 1, s2 := 0x1, rst := 0, rw := 0, st := 0, w1c := 0, rs := 0, wo := 0, ranges := [], pair := .single },
  { base := 0x4C001C, n1 := 512, s1 := 0x40, n2 := 1, s2 := 0x1, rst := 0, rw := 0, st := 0, w1c := 0, rs := 0, wo := 0, ranges := [], pair := .single },
  { base := 0x4C0020, n1 := 512, s1 := 0x40, n2 := 1, s2 := 0x1, rst := 0, rw := 0, st := 0, w1c := 0, rs := 0, wo := 0, ranges := [], pair := .single },
  { base := 0x4C0024, n1 := 512, s1 := 0x40, n2 := 1, s2 := 0x1, rst := 0, rw := 0, st := 0, w1c := 0xF8000000, rs := 0, wo := 0, ranges := [], pair := .single },
  { base := 0x4C0028, n1 := 512, s1 := 0x40, n2 := 1, s2 := 0x1, rst := 0, rw := 0, st := 0, w1c := 0, rs := 0, wo := 0, ranges := [], pair := .single },
  { base := 0x4C002C, n1 := 512, s1 := 0x40, n2 := 1, s2 := 0x1, rst := 0, rw := 0, st := 0, w1c := 0, rs := 0xFFFFFFFF, wo := 0, ranges := [], pair := .single },
  { base := 0x4C0030, n1 := 512, s1 := 0x40, n2 := 1, s2 := 0x1, rst := 0, rw := 0, st := 0, w1c := 0, rs := 0xFFFFFFFF, wo := 0, ranges := [], pair := .single },
  { base := 0x4C0034, n1 := 512, s1 := 0x40, n2 := 1, s2 := 0x1, rst := 0, rw := 0, st := 0, w1c := 0, rs := 0xFFFFFFFF, wo := 0, ranges := [], pair := .single },
  { base := 0x4C0038, n1 := 512, s1 := 0x40, n2 := 1, s2 := 0x1, rst := 0, rw := 0, st := 0, w1c := 0, rs := 0xFFFFFFFF, wo := 0, ranges := [], pair := .single },
  { base := 0x4C003C, n1 := 512, s1 := 0x40, n2 := 1, s2 := 0x1, rst := 0, rw := 0, st := 0, w1c := 0, rs := 0xFFFFFFFF, wo := 0, ranges := [], pair := .single }]
/-- Rows of the queue block. -/
def rows_queue_1 : List RegRow := [
  { base := 0x4C8000, n1 := 1, s1 := 0x1, n2 := 1, s2 := 0x1, rst := 0x15E00, rw := 0, st := 0, w1c := 0, rs := 0, wo := 0, ranges := [], pair := .single },
  { base := 0x4C8004, n1 := 1, s1 := 0x1, n2 := 1, s2 := 0x1, rst := 0x800, rw := 0x1FFFF, st := 0, w1c := 0, rs := 0, wo := 0, ranges := [(16, 0, 0, 89600)], pair := .single },
  { base := 0x4C8008, n1 := 1, s1 := 0x1, n2 := 1, s2 := 0x1, rst := 0, rw := 0, st := 0, w1c := 0, rs := 0, wo := 0, ranges := [], pair := .single },
  { base := 0x4C800C, n1 := 1, s1 := 0x1, n2 := 1, s2 := 0x1, rst := 0x15E00, rw := 0, st := 0, w1c := 0, rs := 0xFFFFFFFF, wo := 0, ranges := [], pair := .single },
  { base := 0x4C8010, n1 := 1, s1 := 0x1, n2 := 1, s2 := 0x1, rst := 0, rw := 0, st := 0, w1c := 0, rs := 0xFFFFFFFF, wo := 0, ranges := [], pair := .single },
  { base := 0x4C8014, n1 := 1, s1 := 0x1, n2 := 1, s2 := 0x1, rst := 0, rw := 0, st := 0, w1c := 0, rs := 0xFFFFFFFF, wo := 0, ranges := [], pair := .single },
  { base := 0x4C8100, n1 := 16, s1 := 0x4, n2 := 1, s2 := 0x1, rst := 0, rw := 0, st := 0, w1c := 0, rs := 0, wo := 0, ranges := [], pair := .single },
  { base := 0x4C8140, n1 := 16, s1 := 0x4, n2 := 1, s2 := 0x1, rst := 0, rw := 0, st := 0, w1c := 0, rs := 0, wo := 0, ranges := [], pair := .single },
  { base := 0x4C8180, n1 := 16, s1 := 0x4, n2 := 1, s2 := 0x1, rst := 0, rw := 0, st := 0, w1c := 0, rs := 0, wo := 0, ranges := [], pair := .single }]
/-- All rows of the queue block. -/
def rows_queue : List RegRow := rows_queue_0 ++ rows_queue_1
/-- Rows of the burin block. -/
def rows_burin_0 : List RegRow := [
  { base := 0x500000, n1 := 1, s1 := 0x1, n2 := 1, s2 := 0x1, rst := 0x96, rw := 0xFFFF, st := 0, w1c := 0, rs := 0, wo := 0, ranges := [(15, 0, 1, 65535)], pair := .single },
  { base := 0x500004, n1 := 1, s1 := 0x1, n2 := 1, s2 := 0x1, rst := 0, rw := 0, st := 0, w1c := 0, rs := 0, wo := 0, ranges := [], pair := .single },
  { base := 0x500008, n1 := 1, s1 := 0x1, n2 := 1, s2 := 0x1, rst := 0, rw := 0, st := 0, w1c := 0, rs := 0, wo := 0, ranges := [], pair := .single },
  { base := 0x500010, n1 := 1, s1 := 0x1, n2 := 1, s2 := 0x1, rst := 0, rw := 0, st := 0, w1c := 0, rs := 0, wo := 0, ranges := [], pair := .lo },
  { base := 0x500014, n1 := 1, s1 := 0x1, n2 := 1, s2 := 0x1, rst := 0, rw := 0, st := 0, w1c := 0, rs := 0, wo := 0, ranges := [], pair := .hi },
  { base := 0x500018, n1 := 8, s1 := 0x4, n2 := 1, s2 := 0x1, rst := 0, rw := 0, st := 0, w1c := 0, rs := 0xFFFFFFFF, wo := 0, ranges := [], pair := .single },
  { base := 0x500040, n1 := 1, s1 := 0x1, n2 := 1, s2 := 0x1, rst := 0, rw := 0x3FFFF, st := 0, w1c := 0, rs := 0, wo := 0, ranges := [], pair := .single },
  { base := 0x500044, n1 := 1, s1 := 0x1, n2 := 1, s2 := 0x1, rst := 0, rw := 0, st := 0, w1c := 0, rs := 0, wo := 0, ranges := [], pair := .single },
  { base := 0x500048, n1 := 1, s1 := 0x1, n2 := 1, s2 := 0x1, rst := 0, rw := 0, st := 0, w1c := 0, rs := 0, wo := 0, ranges := [], pair := .lo },
  { base := 0x50004C, n1 := 1, s1 := 0x1, n2 := 1, s2 := 0x1, rst := 0, rw := 0, st := 0, w1c := 0, rs := 0, wo := 0, ranges := [], pair := .hi },
  { base := 0x500050, n1 := 1, s1 := 0x1, n2 := 1, s2 := 0x1, rst := 0, rw := 0, st := 0, w1c := 0, rs := 0, wo := 0, ranges := [], pair := .lo },
  { base := 0x500054, n1 := 1, s1 := 0x1, n2 := 1, s2 := 0x1, rst := 0, rw := 0, st := 0, w1c := 0, rs := 0, wo := 0, ranges := [], pair := .hi },
  { base := 0x500058, n1 := 1, s1 := 0x1, n2 := 1, s2 := 0x1, rst := 0, rw := 0, st := 0, w1c := 0, rs := 0, wo := 0, ranges := [], pair := .lo },
  { base := 0x50005C, n1 := 1, s1 := 0x1, n2 := 1, s2 := 0x1, rst := 0, rw := 0, st := 0, w1c := 0, rs := 0, wo := 0, ranges := [], pair := .hi }]
/-- All rows of the burin block. -/
def rows_burin : List RegRow := rows_burin_0
/-- Rows of the dispatcher block. -/
def rows_dispatcher_0 : List RegRow := [
  { base := 0x501000, n1 := 1, s1 := 0x1, n2 := 1, s2 := 0x1, rst := 0, rw := 0x3, st := 0, w1c := 0, rs := 0, wo := 0, ranges := [], pair := .single },
  { base := 0x501004, n1 := 1, s1 := 0x1, n2 := 1, s2 := 0x1, rst := 0, rw := 0, st := 0, w1c := 0, rs := 0, wo := 0, ranges := [], pair := .single },
  { base := 0x501008, n1 := 1, s1 := 0x1, n2 := 1, s2 := 0x1, rst := 0, rw := 0, st := 0, w1c := 0, rs := 0, wo := 0, ranges := [], pair := .lo },
  { base := 0x50100C, n1 := 1, s1 := 0x1, n2 := 1, s2 := 0x1, rst := 0, rw := 0, st := 0, w1c := 0, rs := 0, wo := 0, ranges := [], pair := .hi },
  { base := 0x501010, n1 := 1, s1 := 0x1, n2 := 1, s2 := 0x1, rst := 0, rw := 0, st := 0, w1c := 0, rs := 0, wo := 0, ranges := [], pair := .lo },
  { base := 0x501014, n1 := 1, s1 := 0x1, n2 := 1, s2 := 0x1, rst := 0, rw := 0, st := 0, w1c := 0, rs := 0, wo := 0, ranges := [], pair := .hi },
  { base := 0x501018, n1 := 1, s1 := 0x1, n2 := 1, s2 := 0x1, rst := 0, rw := 0, st := 0, w1c := 0, rs := 0, wo := 0, ranges := [], pair := .single },
  { base := 0x50101C, n1 := 1, s1 := 0x1, n2 := 1, s2 := 0x1, rst := 0, rw := 0, st := 0, w1c := 0, rs := 0, wo := 0, ranges := [], pair := .single },
  { base := 0x501020, n1 := 1, s1 := 0x1, n2 := 1, s2 := 0x1, rst := 0, rw := 0, st := 0, w1c := 0, rs := 0, wo := 0, ranges := [], pair := .single },
  { base := 0x501024, n1 := 1, s1 := 0x1, n2 := 1, s2 := 0x1, rst := 0, rw := 0, st := 0, w1c := 0, rs := 0xFFFFFFFF, wo := 0, ranges := [], pair := .single },
  { base := 0x501030, n1 := 1, s1 := 0x1, n2 := 1, s2 := 0x1, rst := 0, rw := 0, st := 0, w1c := 0, rs := 0, wo := 0xFFF, ranges := [], pair := .single },
  { base := 0x501040, n1 := 1, s1 := 0x1, n2 := 1, s2 := 0x1, rst := 0, rw := 0xFFF, st := 0, w1c := 0, rs := 0, wo := 0, ranges := [], pair := .single },
  { base := 0x501044, n1 := 1, s1 := 0x1, n2 := 1, s2 := 0x1, rst := 0, rw := 0, st := 0, w1c := 0, rs := 0, wo := 0, ranges := [], pair := .single },
  { base := 0x501048, n1 := 4, s1 := 0x4, n2 := 1, s2 := 0x1, rst := 0, rw := 0, st := 0, w1c := 0, rs := 0, wo := 0, ranges := [], pair := .single },
  { base := 0x501058, n1 := 1, s1 := 0x1, n2 := 1, s2 := 0x1, rst := 0, rw := 0, st := 0, w1c := 0, rs := 0, wo := 0, ranges := [], pair := .single },
  { base := 0x50105C, n1 := 1, s1 := 0x1, n2 := 1, s2 := 0x1, rst := 0, rw := 0, st := 0, w1c := 0, rs := 0, wo := 0, ranges := [], pair := .single }]
/-- Rows of the dispatcher block. -/
def rows_dispatcher_1 : List RegRow := [
  { base := 0x501060, n1 := 1, s1 := 0x1, n2 := 1, s2 := 0x1, rst := 0, rw := 0, st := 0, w1c := 0, rs := 0, wo := 0, ranges := [], pair := .single },
  { base := 0x501064, n1 := 1, s1 := 0x1, n2 := 1, s2 := 0x1, rst := 0, rw := 0x7FF, st := 0, w1c := 0, rs := 0, wo := 0, ranges := [], pair := .single },
  { base := 0x501080, n1 := 12, s1 := 0x4, n2 := 1, s2 := 0x1, rst := 0, rw := 0, st := 0, w1c := 0, rs := 0xFFFFFFFF, wo := 0, ranges := [], pair := .single },
  { base := 0x501100, n1 := 16, s1 := 0x4, n2 := 1, s2 := 0x1, rst := 0, rw := 0, st := 0, w1c := 0, rs := 0, wo := 0, ranges := [], pair := .single },
  { base := 0x504000, n1 := 1024, s1 := 0x10, n2 := 4, s2 := 0x4, rst := 0, rw := 0, st := 0, w1c := 0, rs := 0, wo := 0, ranges := [], pair := .single }]
/-- All rows of the dispatcher block. -/
def rows_dispatcher : List RegRow := rows_dispatcher_0 ++ rows_dispatcher_1
/-- Rows of the release block. -/
def rows_release_0 : List RegRow := [
  { base := 0x580000, n1 := 1, s1 := 0x1, n2 := 1, s2 := 0x1, rst := 0, rw := 0x2, st := 0, w1c := 0x40000000, rs := 0, wo := 0x5, ranges := [], pair := .single },
  { base := 0x580004, n1 := 1, s1 := 0x1, n2 := 1, s2 := 0x1, rst := 0xFA, rw := 0, st := 0xFFFF, w1c := 0, rs := 0, wo := 0, ranges := [(15, 0, 20, 5000)], pair := .single },
  { base := 0x580008, n1 := 1, s1 := 0x1, n2 := 1, s2 := 0x1, rst := 0x14, rw := 0xFF, st := 0, w1c := 0, rs := 0, wo := 0, ranges := [(7, 0, 5, 255)], pair := .single },
  { base := 0x58000C, n1 := 1, s1 := 0x1, n2 := 1, s2 := 0x1, rst := 0xFA, rw := 0, st := 0, w1c := 0, rs := 0, wo := 0, ranges := [], pair := .single },
  { base := 0x580010, n1 := 1, s1 := 0x1, n2 := 1, s2 := 0x1, rst := 0, rw := 0xFFF, st := 0, w1c := 0, rs := 0, wo := 0, ranges := [], pair := .single },
  { base := 0x580014, n1 := 1, s1 := 0x1, n2 := 1, s2 := 0x1, rst := 0, rw := 0, st := 0, w1c := 0, rs := 0, wo := 0, ranges := [], pair := .single },
  { base := 0x580018, n1 := 1, s1 := 0x1, n2 := 1, s2 := 0x1, rst := 0, rw := 0, st := 0, w1c := 0, rs := 0, wo := 0, ranges := [], pair := .lo },
  { base := 0x58001C, n1 := 1, s1 := 0x1, n2 := 1, s2 := 0x1, rst := 0, rw := 0, st := 0, w1c := 0, rs := 0, wo := 0, ranges := [], pair := .hi },
  { base := 0x580020, n1 := 8, s1 := 0x4, n2 := 1, s2 := 0x1, rst := 0, rw := 0, st := 0, w1c := 0, rs := 0, wo := 0, ranges := [], pair := .single },
  { base := 0x580040, n1 := 8, s1 := 0x4, n2 := 1, s2 := 0x1, rst := 0, rw := 0, st := 0, w1c := 0, rs := 0xFFFFFFFF, wo := 0, ranges := [], pair := .single },
  { base := 0x580800, n1 := 1, s1 := 0x1, n2 := 1, s2 := 0x1, rst := 0, rw := 0, st := 0, w1c := 0, rs := 0xFFFFFFFF, wo := 0, ranges := [], pair := .single },
  { base := 0x580804, n1 := 1, s1 := 0x1, n2 := 1, s2 := 0x1, rst := 0, rw := 0, st := 0, w1c := 0, rs := 0xFFFFFFFF, wo := 0, ranges := [], pair := .single },
  { base := 0x580808, n1 := 1, s1 := 0x1, n2 := 1, s2 := 0x1, rst := 0, rw := 0, st := 0, w1c := 0, rs := 0xFFFFFFFF, wo := 0, ranges := [], pair := .single }]
/-- All rows of the release block. -/
def rows_release : List RegRow := rows_release_0
/-- Rows of the bridge block. -/
def rows_bridge_0 : List RegRow := [
  { base := 0x5C0000, n1 := 1, s1 := 0x1, n2 := 1, s2 := 0x1, rst := 0x0CBE8193, rw := 0xFFFFFFFF, st := 0, w1c := 0, rs := 0, wo := 0, ranges := [(31, 22, 1, 1000), (21, 12, 1, 1000), (11, 2, 1, 1023)], pair := .single },
  { base := 0x5C0004, n1 := 1, s1 := 0x1, n2 := 1, s2 := 0x1, rst := 0, rw := 0, st := 0, w1c := 0, rs := 0, wo := 0, ranges := [], pair := .single },
  { base := 0x5C0008, n1 := 1, s1 := 0x1, n2 := 1, s2 := 0x1, rst := 0, rw := 0xFFFF, st := 0, w1c := 0, rs := 0, wo := 0, ranges := [], pair := .hi },
  { base := 0x5C000C, n1 := 1, s1 := 0x1, n2 := 1, s2 := 0x1, rst := 0, rw := 0xFFFFFFFF, st := 0, w1c := 0, rs := 0, wo := 0, ranges := [], pair := .lo },
  { base := 0x5C0010, n1 := 1, s1 := 0x1, n2 := 1, s2 := 0x1, rst := 0, rw := 0, st := 0, w1c := 0, rs := 0, wo := 0, ranges := [], pair := .single },
  { base := 0x5C0014, n1 := 1, s1 := 0x1, n2 := 1, s2 := 0x1, rst := 0, rw := 0x7F, st := 0, w1c := 0, rs := 0, wo := 0, ranges := [], pair := .single },
  { base := 0x5C0018, n1 := 1, s1 := 0x1, n2 := 1, s2 := 0x1, rst := 0, rw := 0, st := 0, w1c := 0, rs := 0, wo := 0, ranges := [], pair := .single },
  { base := 0x5C001C, n1 := 1, s1 := 0x1, n2 := 1, s2 := 0x1, rst := 0, rw := 0x1F, st := 0, w1c := 0, rs := 0, wo := 0, ranges := [], pair := .single },
  { base := 0x5C0020, n1 := 1, s1 := 0x1, n2 := 1, s2 := 0x1, rst := 0, rw := 0x3FFF, st := 0, w1c := 0, rs := 0, wo := 0, ranges := [], pair := .single },
  { base := 0x5C0024, n1 := 4, s1 := 0x4, n2 := 1, s2 := 0x1, rst := 0, rw := 0, st := 0, w1c := 0, rs := 0, wo := 0, ranges := [], pair := .single },
  { base := 0x5C0040, n1 := 13, s1 := 0x4, n2 := 1, s2 := 0x1, rst := 0, rw := 0, st := 0, w1c := 0, rs := 0xFFFFFFFF, wo := 0, ranges := [], pair := .single },
  { base := 0x5C0800, n1 := 64, s1 := 0x10, n2 := 4, s2 := 0x4, rst := 0, rw := 0, st := 0, w1c := 0, rs := 0, wo := 0, ranges := [], pair := .single },
  { base := 0x5C0C00, n1 := 16, s1 := 0x10, n2 := 4, s2 := 0x4, rst := 0, rw := 0, st := 0, w1c := 0, rs := 0, wo := 0, ranges := [], pair := .single },
  { base := 0x5C1000, n1 := 64, s1 := 0x40, n2 := 1, s2 := 0x1, rst := 0, rw := 0x2, st := 0, w1c := 0x40000000, rs := 0, wo := 0x5, ranges := [], pair := .single },
  { base := 0x5C1004, n1 := 64, s1 := 0x40, n2 := 1, s2 := 0x1, rst := 0, rw := 0, st := 0xFF0003FF, w1c := 0, rs := 0, wo := 0, ranges := [], pair := .single },
  { base := 0x5C1008, n1 := 64, s1 := 0x40, n2 := 1, s2 := 0x1, rst := 0, rw := 0, st := 0xFFFFFFFF, w1c := 0, rs := 0, wo := 0, ranges := [], pair := .single }]
/-- Rows of the bridge block. -/
def rows_bridge_1 : List RegRow := [
  { base := 0x5C100C, n1 := 64, s1 := 0x40, n2 := 1, s2 := 0x1, rst := 0, rw := 0, st := 0xFFFFFFFF, w1c := 0, rs := 0, wo := 0, ranges := [], pair := .single },
  { base := 0x5C1010, n1 := 64, s1 := 0x40, n2 := 1, s2 := 0x1, rst := 0x09C42080, rw := 0, st := 0xFFFFFFFF, w1c := 0, rs := 0, wo := 0, ranges := [], pair := .single },
  { base := 0x5C1014, n1 := 64, s1 := 0x40, n2 := 1, s2 := 0x1, rst := 0, rw := 0, st := 0xFFFC7FFF, w1c := 0, rs := 0, wo := 0, ranges := [], pair := .single },
  { base := 0x5C1018, n1 := 64, s1 := 0x40, n2 := 1, s2 := 0x1, rst := 0, rw := 0, st := 0, w1c := 0, rs := 0, wo := 0, ranges := [], pair := .single },
  { base := 0x5C101C, n1 := 64, s1 := 0x40, n2 := 1, s2 := 0x1, rst := 0, rw := 0, st := 0, w1c := 0xC0000000, rs := 0, wo := 0, ranges := [], pair := .single },
  { base := 0x5C1020, n1 := 64, s1 := 0x40, n2 := 1, s2 := 0x1, rst := 0, rw := 0, st := 0, w1c := 0, rs := 0, wo := 0, ranges := [], pair := .single },
  { base := 0x5C1024, n1 := 64, s1 := 0x40, n2 := 1, s2 := 0x1, rst := 0, rw := 0, st := 0, w1c := 0, rs := 0, wo := 0, ranges := [], pair := .single },
  { base := 0x5C1028, n1 := 64, s1 := 0x40, n2 := 1, s2 := 0x1, rst := 0, rw := 0, st := 0, w1c := 0, rs := 0, wo := 0x1, ranges := [], pair := .single },
  { base := 0x5C102C, n1 := 64, s1 := 0x40, n2 := 1, s2 := 0x1, rst := 0, rw := 0, st := 0, w1c := 0, rs := 0xFFFFFFFF, wo := 0, ranges := [], pair := .single }]
/-- All rows of the bridge block. -/
def rows_bridge : List RegRow := rows_bridge_0 ++ rows_bridge_1

/-- Which plane's registers an offset lies among (R17). -/
def planeOf (off : Nat) : Option Plane :=
  if 0x400000 ≤ off ∧ off < 0x800000 then some .a else if 0x800000 ≤ off ∧ off < 0xC00000 then some .b else none

/-- The offset as plane A's map names it. -/
def normOff (off : Nat) : Nat := if 0x800000 ≤ off ∧ off < 0xC00000 then off - 0x400000 else off

/-- The rows among which an offset of plane A's map lies. -/
def rowsAt (o : Nat) : List RegRow :=

  if o < 0x100000 then rows_global
  else if o < 0x200000 then rows_aon
  else if o < 0x240000 then rows_sl
  else if o < 0x280000 then rows_can
  else if o < 0x400000 then rows_pin
  else if o < 0x410000 then rows_time
  else if o < 0x480000 then rows_port
  else if o < 0x4C0000 then rows_ingress
  else if o < 0x500000 then rows_queue
  else if o < 0x501000 then rows_burin
  else if o < 0x580000 then rows_dispatcher
  else if o < 0x5C0000 then rows_release
  else if o < 0x800000 then rows_bridge
  else []


/-- Whether the row holds the register at offset `o` of plane A's map. -/
def RegRow.covers (r : RegRow) (o : Nat) : Bool :=
  decide (r.base ≤ o) && decide ((o - r.base) / r.s1 < r.n1) &&
    (if r.n2 = 1 then decide ((o - r.base) % r.s1 = 0)
     else decide ((o - r.base) % r.s1 / r.s2 < r.n2) && decide ((o - r.base) % r.s1 % r.s2 = 0))

/-- The first row of a list that covers an offset. -/
def findRow (o : Nat) : List RegRow → Option RegRow
  | [] => none
  | r :: rs => if r.covers o then some r else findRow o rs

/-- The row of the register at a BAR0 offset; none where nothing is assigned (R9). -/
def rowOf (off : Nat) : Option RegRow := findRow (normOff off) (rowsAt (normOff off))

/-- The first index of a row's register at offset `off`. -/
def RegRow.ix1 (r : RegRow) (off : Nat) : Nat := (normOff off - r.base) / r.s1

/-- The second index of a row's register at offset `off`. -/
def RegRow.ix2 (r : RegRow) (off : Nat) : Nat := (normOff off - r.base) % r.s1 / r.s2

/-- PORT_LAT of a fused part: transmit 0x0140 to 0x0500, receive 0x0200 to 0x0700 (R165). -/
def portLatReg (fused : Nat) : Word :=
  BitVec.ofNat 32 ((0x140 + fused / 2 ^ 16 % 0x3C1) * 2 ^ 16 + 0x200 + fused % 2 ^ 16 % 0x501)

/-- Reset values that depend on the index or are fused: EV_ROUTEn (R454), TDd_CFG (R103), GID_UID (R431), PORT_LAT
(R165), GID_TEMP (R518, log 5). -/
def resetOf (off : Nat) : Word :=
  match rowOf off with
  | none => 0
  | some r =>
    if r.base = 0x2400 then BitVec.ofNat 32 (0x80000000 + r.ix1 off % 64 * 0x10000)
    else if r.base = 0x400124 then (if r.ix1 off = 0 then 0x07F00A58 else 0x07E00A58)
    else if r.base = 0x8 then BitVec.ofNat 32 Config.uid.toNat
    else if r.base = 0xC then BitVec.ofNat 32 (Config.uid.toNat / 2 ^ 32)
    else if r.base = 0x410030 then portLatReg (Config.portLat (if planeOf off = some .b then 1 else 0) (r.ix1 off)).toNat
    else if r.base = 0x40 then 0x80808000
    else if r.base = 0x44 then 0x80
    else BitVec.ofNat 32 r.rst

/-- The stage control register of the block that the register at `off` belongs to: each staging block begins with it (R13). -/
def stageCtlOf (off : Nat) : Nat :=
  match rowOf off with
  | none => off
  | some r => if r.n1 = 1 then off - normOff off + 0x580000 else off - (normOff off - r.base) % r.s1 - r.base % r.s1

/-- The offset just after the block that begins at stage control register `sc`. -/
def stageEnd (sc : Nat) : Nat :=
  match rowOf sc with
  | none => sc
  | some r => if r.n1 = 1 then sc + 8 else sc + r.s1

end Sys2Proof.Machine
end

