-- ==== Sys2Proof/Machine/Tab.lean ====
section
/-!
DEFINITION. The operations of sparse tables. `Tab.set` keeps the canonical form: keys strictly rising, and no entry equal
to what an unlisted key reads as.
-/
namespace Sys2Proof

/-- The value at key `k`; `d` is what an unlisted key reads as. -/
def Tab.get {α : Type} (d : α) (k : Nat) : Tab α → α
  | [] => d
  | (k', v) :: t => if k' = k then v else Tab.get d k t

/-- Takes the first element that `f` picks. -/
def takeOne {α : Type} (f : α → Bool) : List α → Option (α × List α)
  | [] => none
  | x :: xs => if f x then some (x, xs) else (takeOne f xs).map fun e => (e.1, x :: e.2)

/-- The table without key `k`. -/
def Tab.erase {α : Type} (k : Nat) : Tab α → Tab α
  | [] => []
  | (k', v) :: t => if k' = k then Tab.erase k t else (k', v) :: Tab.erase k t

/-- Writes `v` at `k`; writing the default removes the entry. -/
def Tab.set {α : Type} [DecidableEq α] (d : α) (k : Nat) (v : α) : Tab α → Tab α
  | [] => if v = d then [] else [(k, v)]
  | (k', v') :: t =>
    if k' = k then (if v = d then Tab.erase k t else (k, v) :: t)
    else if k < k' then (if v = d then (k', v') :: Tab.erase k t else (k, v) :: (k', v') :: t)
    else (k', v') :: Tab.set d k v t

/-- Keeps the entries whose key satisfies `q`. -/
def Tab.keep {α : Type} (q : Nat → Bool) : Tab α → Tab α
  | [] => []
  | (k, v) :: t => if q k then (k, v) :: Tab.keep q t else Tab.keep q t

/-- The value at key `k` when the key is listed. -/
def Tab.find {α : Type} (k : Nat) : Tab α → Option α
  | [] => none
  | (k', v) :: t => if k' = k then some v else Tab.find k t

/-- Writes an entry that is listed whatever its value. -/
def Tab.put {α : Type} (k : Nat) (v : α) : Tab α → Tab α
  | [] => [(k, v)]
  | (k', v') :: t =>
    if k' = k then (k, v) :: t else if k < k' then (k, v) :: (k', v') :: t else (k', v') :: Tab.put k v t

/-- Keys strictly rising. -/
abbrev Tab.sorted {α : Type} (t : Tab α) : Prop := List.Pairwise (fun a b => a < b) (t.map Prod.fst)

/-- The canonical form: keys strictly rising, no entry equal to the default of its key. -/
abbrev Tab.wf {α : Type} [DecidableEq α] (d : Nat → α) (t : Tab α) : Prop :=
  t.sorted ∧ ∀ e ∈ t, e.2 ≠ d e.1

end Sys2Proof
end

