-- ==== Sys2Proof/Machine/Clock.lean ====
section
/-!
DEFINITION. Access to registers and planes by name, and the clocks: dial time, release time, epoch arithmetic, Lantern time
(chapter 3).
-/
namespace Sys2Proof.Machine

/-- A plane's state. -/
def State.pl (s : State) : Plane → PlaneS
  | .a => s.pA
  | .b => s.pB

/-- Replaces a plane's state. -/
def State.setPl (s : State) (p : Plane) (x : PlaneS) : State :=
  match p with
  | .a => { s with pA := x }
  | .b => { s with pB := x }

/-- Changes a plane's state. -/
def State.modPl (s : State) (p : Plane) (f : PlaneS → PlaneS) : State := s.setPl p (f (s.pl p))

/-- A window at rest. -/
def WinS.none_ : WinS := { lock := none, sem := none, txn := 0, pf := none, failed := 0, first := 0, gone := none }

def PlaneS.winS (x : PlaneS) (n : Nat) : WinS := Tab.get WinS.none_ n x.win
def PlaneS.modWin (x : PlaneS) (n : Nat) (f : WinS → WinS) : PlaneS := { x with win := Tab.set WinS.none_ n (f (x.winS n)) x.win }

/-- The other plane. -/
def other : Plane → Plane
  | .a => .b
  | .b => .a

/-- A plane's number: A 0, B 1. -/
def planeNum : Plane → Nat
  | .a => 0
  | .b => 1

/-- The stored bits of a register (R9: an offset never written holds its reset value). -/
def State.reg (s : State) (off : Nat) : Word := Tab.get (resetOf off) off s.regs

/-- Stores a register's bits. -/
def State.setReg (s : State) (off : Nat) (v : Word) : State := { s with regs := Tab.set (resetOf off) off v s.regs }

/-- Bits `hi:lo` of a register. -/
def State.rf (s : State) (off hi lo : Nat) : Nat := fld (s.reg off) hi lo

/-- Stores bits `hi:lo` of a register. -/
def State.setRf (s : State) (off hi lo v : Nat) : State := s.setReg off (setFld (s.reg off) hi lo v)

/-- Bit `i` of a register. -/
def State.rb (s : State) (off i : Nat) : Bool := bit (s.reg off) i

/-- Stores bit `i` of a register. -/
def State.setRb (s : State) (off i : Nat) (b : Bool) : State := s.setRf off i i b.toNat

/-- A 64-bit value from its _LO register at `off` and the _HI register after it (R10). -/
def State.reg64 (s : State) (off : Nat) : Nat := (s.reg off).toNat + 2 ^ 32 * (s.reg (off + 4)).toNat

/-- Stores a 64-bit value in a _LO and _HI pair. -/
def State.setReg64 (s : State) (off v : Nat) : State :=
  (s.setReg off (BitVec.ofNat 32 v)).setReg (off + 4) (BitVec.ofNat 32 (v / 2 ^ 32))

/-- Adds to a counter in bits `hi:lo`, saturating. -/
def State.addSat (s : State) (off hi lo n : Nat) : State := s.setRf off hi lo (min (s.rf off hi lo + n) (2 ^ (hi + 1 - lo) - 1))

/-- Adds 1 to a 32-bit saturating counter. -/
def State.count (s : State) (off : Nat) : State := s.addSat off 31 0 1

/-- Appends to what the block has put out. -/
def State.emit (s : State) (o : Output) : State := { s with out := s.out ++ [o] }

/-- A free 32-bit value, and the state with the next one due (log 6). -/
def State.free32 (s : State) : Word × State := (Config.freeWord s.freeCtr, { s with freeCtr := s.freeCtr + 1 })

/-- Plane A first when `s` concerns both. -/
def bothPlanes : List Plane := [.a, .b]

def PState.code : PState → Nat
  | .off => 0 | .boot => 1 | .sync => 2 | .copy => 3 | .relearn => 4 | .relearnWait => 5 | .active => 6 | .held => 7

/-- A plane whose domains are powered and out of reset. Log 9. -/
def PlaneS.present (x : PlaneS) : Bool := decide (x.st ≠ .off) && decide (x.st ≠ .held)

def State.present (s : State) (p : Plane) : Bool := (s.pl p).present

def State.active (s : State) (p : Plane) : Bool := decide ((s.pl p).st = .active)

/-- The device mode (R76): 0 NONE, 1 SINGLE_A, 2 SINGLE_B, 3 DUPLEX, 4 SPLIT, until the
resynchronisation of R74 hands over. -/
def State.mode (s : State) : Nat :=
  match s.active .a, s.active .b with
  | false, false => 0
  | true, false => 1
  | false, true => 2
  | true, true =>
    let resync (x : PlaneS) : Bool := match x.rejoin with | some r => r.resync | none => false
    if s.taperUp && !resync s.pA && !resync s.pB then 3 else 4

/-- AON_DEVNUM.VALID (R50). -/
def State.devValid (s : State) : Bool := s.rb R.AON_DEVNUM 31

/-- The device number (R50). -/
def State.devnum (s : State) : Nat := s.rf R.AON_DEVNUM 9 0

/-- A generator's or other list's element, or a default. -/
def PlaneS.egS (x : PlaneS) (g : Nat) : EgS := x.eg.getD g ⟨false, 0, 0⟩

/-- Signed value of a register. -/
def State.sreg (s : State) (off : Nat) : Int := sext 32 (s.reg off).toNat

/-- OFFSET of a domain in 1/16 ns (R97, R102). -/
def State.tdOffset (s : State) (p : Plane) (d : Nat) : Nat :=
  s.reg64 (R.TD_OFFSET_NS_LO p d) * 16 + s.rf (R.TD_OFFSET_FRAC p d) 3 0

/-- The dial time of domain `d` when the raw counter reads `raw` (R98). -/
def State.dialAt (s : State) (p : Plane) (d raw : Nat) : Nat :=
  let elapsed : Nat := (raw + 2 ^ 64 - s.reg64 (R.TD_ANCHOR_LO p d)) % 2 ^ 64
  let adjust := Int.fdiv ((elapsed : Int) * s.sreg (R.TD_INC_ADJ p d)) (2 ^ 40)
  toU 68 ((s.tdOffset p d : Int) + elapsed + adjust)

/-- The dial time of domain `d` now (R98). -/
def State.dial (s : State) (p : Plane) (d : Nat) : Nat := s.dialAt p d (s.pl p).raw.toNat

/-- The selected domain (R110, R117). -/
def State.sel (s : State) (p : Plane) : Nat := s.rf (R.TB_CTL p) 31 31

/-- Release time in 1/16 ns, as a signed quantity (R110). -/
def State.release (s : State) (p : Plane) : Int := (s.dial p (s.sel p) : Int) + (s.pl p).bridge

/-- The dial time of domain `d` at a release time: at the raw time that lies as far from now (R105). Log 135. -/
def State.toDial (s : State) (p : Plane) (d : Nat) (t : Int) : Int :=
  s.dialAt p d (toU 64 ((s.pl p).raw.toNat + (t - s.release p)))

/-- Release time when the raw counter reads `raw`. -/
def State.releaseAt (s : State) (p : Plane) (raw : Nat) : Int := (s.dialAt p (s.sel p) raw : Int) + (s.pl p).bridge

/-- Units of 1/16 ns in a second. -/
def unitsPerSec : Nat := 16000000000

/-- Units of 1/16 ns in a microsecond. -/
def unitsPerUs : Nat := 16000

/-- t(n) of a generator with BASE in ns (R119). -/
def epochTime (base origin num den n : Nat) : Nat := base * 16 + (n - origin) * num * unitsPerSec / den

/-- The first n ≥ ORIGIN with t(n) later than `t` (R121). -/
def epochAfter (base origin num den : Nat) (t : Int) : Nat :=
  if t < (base * 16 : Nat) then origin
  else
    let x := (t - (base * 16 : Nat)).toNat
    origin + ((x + 1) * den + num * unitsPerSec - 1) / (num * unitsPerSec)

/-- The first n ≥ ORIGIN with t(n) at or after `t` (R36). -/
def epochAtOrAfter (base origin num den : Nat) (t : Int) : Nat :=
  if t ≤ (base * 16 : Nat) then origin
  else
    let x := (t - (base * 16 : Nat)).toNat
    origin + (x * den + num * unitsPerSec - 1) / (num * unitsPerSec)

/-- The last n with t(n) at or before `t`, from ORIGIN (R193): none before t(ORIGIN). -/
def epochOf (base origin num den : Nat) (t : Int) : Option Nat :=
  if t < (base * 16 : Nat) then none else some (epochAfter base origin num den t - 1)

/-- A valid period (R120). -/
def validPeriod (num den : Nat) : Bool :=
  decide (1 ≤ num) && decide (1 ≤ den) && decide (num ≤ den) && decide (den ≤ 1000 * num)

def State.egNum (s : State) (p : Plane) (g : Nat) : Nat := (s.reg (R.EG_NUM p g)).toNat
def State.egDen (s : State) (p : Plane) (g : Nat) : Nat := (s.reg (R.EG_DEN p g)).toNat
def State.egBase (s : State) (p : Plane) (g : Nat) : Nat := s.reg64 (R.EG_BASE_NS_LO p g)
def State.egOrigin (s : State) (p : Plane) (g : Nat) : Nat := s.reg64 (R.EG_ORIGIN_LO p g)

/-- t(n) by the active parameters of generator `g`. -/
def State.egTime (s : State) (p : Plane) (g n : Nat) : Nat :=
  epochTime (s.egBase p g) (s.egOrigin p g) (s.egNum p g) (s.egDen p g) n

/-- The period of generator `g` in 1/16 ns, rounded down. -/
def State.egPeriod (s : State) (p : Plane) (g : Nat) : Nat := s.egNum p g * unitsPerSec / s.egDen p g

def State.egEn (s : State) (p : Plane) (g : Nat) : Bool := s.rb (R.EG_CTL p g) 31

/-- A snapshotted value of a staged register, while a commit is pending (R14). -/
def State.snapReg (s : State) (off : Nat) : Word := Tab.get (s.reg off) off s.snap

def State.snap64 (s : State) (off : Nat) : Nat := (s.snapReg off).toNat + 2 ^ 32 * (s.snapReg (off + 4)).toNat

/-- The raw value of the first 1.024 µs tick after `raw` (R99). -/
def nextTick (raw : Nat) : Nat := (raw / 2 ^ 14 + 1) * 2 ^ 14

/-- The target epoch of presentation time `pt` on generator `g` (R36), counting a committed period still pending. -/
def State.targetEpoch (s : State) (p : Plane) (g : Nat) (pt : Int) : Nat :=
  let act := epochAtOrAfter (s.egBase p g) (s.egOrigin p g) (s.egNum p g) (s.egDen p g) pt
  let num := (s.snapReg (R.EG_NUM p g)).toNat
  let den := (s.snapReg (R.EG_DEN p g)).toNat
  if s.rb (R.EG_STAGE_CTL p g) 31 && validPeriod num den then
    if s.egEn p g && ((s.pl p).egS g).live then
      let m := ((s.pl p).egS g).next
      let tm := s.egTime p g m
      if pt ≤ (tm : Int) then act else epochAtOrAfter (tm / 16) m num den pt
    else if pt < s.releaseAt p (nextTick (s.pl p).raw.toNat) then act
    else epochAtOrAfter (s.snap64 (R.EG_BASE_NS_LO p g)) (s.snap64 (R.EG_ORIGIN_LO p g)) num den pt
  else act

/-- Lantern time in 1/16 ns (R125). -/
def State.lantern (s : State) : Nat := s.lt / 2 ^ 40

/-- Dial units as PT64: seconds modulo 2^32, nanoseconds (R131). -/
def toPt64 (t : Int) : BitVec 64 :=
  let ns := (t.toNat / 16)
  BitVec.ofNat 64 ((ns / 1000000000 % 2 ^ 32) * 2 ^ 32 + ns % 1000000000)

/-- PT64 as dial units nearest `now`: the seconds within [now - 2^31 s, now + 2^31 s) (R131). -/
def ofPt64 (now : Int) (pt : BitVec 64) : Int :=
  let sec := pt.toNat / 2 ^ 32
  let ns := pt.toNat % 2 ^ 32
  let half : Int := (2 ^ 31 * unitsPerSec : Nat)
  let x : Int := ((sec * 1000000000 + ns) * 16 : Nat)
  let w : Int := (2 ^ 32 * unitsPerSec : Nat)
  x + w * Int.fdiv (now + half - 1 - x) w

/-- The canvas generator (R227, R261). -/
def State.canvasEg (s : State) (p : Plane) : Nat := s.rf (R.BU_CTL p) 31 30

/-- The release guard time in force, in µs (R296). -/
def State.guardUs (s : State) (p : Plane) : Nat :=
  let g := s.rf (R.REL_GUARD p) 15 0
  let c := s.canvasEg p
  if s.egNum p c * 1000000 ≤ 2 * g * s.egDen p c then s.egNum p c * 1000000 / (2 * s.egDen p c) else g

/-- The release guard time in force in 1/16 ns (R296). -/
def State.guard (s : State) (p : Plane) : Nat := s.guardUs p * unitsPerUs

/-- E(k) of the canvas generator (R228). -/
def State.eK (s : State) (p : Plane) (k : Nat) : Int := s.egTime p (s.canvasEg p) k

/-- G(k) (R228). -/
def State.gK (s : State) (p : Plane) (k : Nat) : Int := s.eK p k - s.guard p

/-- A port's mode in force: 0 DISABLED, 1 RING, 2 SPUR (R135, R166). -/
def State.portMode (s : State) (p : Plane) (i : Nat) : Nat :=
  let m := s.rf (R.PORT_CFG p i) 31 29
  if m = 1 then 1 else if m = 2 ∧ 2 ≤ i then 2 else 0

end Sys2Proof.Machine
end

