-- ==== Sys2Proof/Machine/Live.lean ====
section
/-!
DEFINITION. Values that follow the state at every moment: a queue's occupancy and cells (R205-R216), device states of the
domains (R108), and the condition bits of the events.
-/
namespace Sys2Proof.Machine

/-- Some register stored in `[lo, hi)` passes a test that its reset value fails. -/
def State.anyReg (s : State) (lo hi : Nat) (f : Nat → Word → Bool) : Bool :=
  s.regs.any fun e => decide (lo ≤ e.1) && decide (e.1 < hi) && f e.1 e.2

/-- A queue that holds nothing (R214). -/
def QueueS.empty : QueueS := { items := [], readPos := 0, writing := none, ready := [], qseq := 0, head := 0, doomed := false }

/-- Queue `q` of a plane. -/
def PlaneS.q (x : PlaneS) (q : Nat) : QueueS := Tab.get QueueS.empty q x.qs

/-- W: consumer words of a record (R205). -/
def Rec.words (r : Rec) : Nat := 1 + (r.sent.payload.length + 63) / 64

/-- Consumer words of an item (R205, R213). -/
def QItem.words : QItem → Nat
  | .record r => r.words
  | .gap _ => 1

/-- A complete record. -/
def QItem.isRecord : QItem → Bool
  | .record _ => true
  | .gap _ => false

/-- Occupancy in consumer words, unread gap markers included (R211). Log 14. -/
def QueueS.occ (x : QueueS) : Nat := (x.items.map QItem.words).sum - x.readPos

/-- PKT_COUNT (R209). -/
def QueueS.pkts (x : QueueS) : Nat := (x.items.filter QItem.isRecord).length

/-- Words that stand in the queue's own cells: a marker in the marker reserve does not, the record being written does
(R211, R212). -/
def QueueS.stored (x : QueueS) : Nat :=
  ((x.items.filter fun i => match i with | .gap g => !g.reserve | .record _ => true).map QItem.words).sum - x.readPos +
    match x.writing with | some r => r.words | none => 0

/-- Whether the last item is an unread gap marker. -/
def QueueS.tailGap (x : QueueS) : Bool :=
  x.writing.isNone && match x.items.getLast? with | some (.gap _) => true | _ => false

/-- Room for one word beyond the contents (R212). -/
def QueueS.room (x : QueueS) (en : Bool) : Nat :=
  if en && (x.items.any QItem.isRecord || x.writing.isSome) && !x.tailGap then 1 else 0

/-- Cells that `n` words need, counted from the queue's head position (R211). -/
def QueueS.cellsFor (x : QueueS) (n : Nat) : Nat := (x.head + n + 3) / 4

/-- Cells the queue holds (R211, R212). -/
def QueueS.held (x : QueueS) (en : Bool) : Nat := if x.stored = 0 then 0 else x.cellsFor (x.stored + x.room en)

/-- Q_CTL.EN (R214). -/
def State.qEn (s : State) (p : Plane) (q : Nat) : Bool := s.rb (R.Q_CTL p q) 31

/-- MIN of a queue (R211). -/
def State.qMin (s : State) (p : Plane) (q : Nat) : Nat := s.rf (R.Q_CFG p q) 16 0

def State.qHeld (s : State) (p : Plane) (q : Nat) : Nat := ((s.pl p).q q).held (s.qEn p q)

/-- Cells of the queue pool (R202). -/
def queuePool : Nat := 89600

/-- The sum of every queue's MIN (R211, R220). -/
def State.minSum (s : State) (p : Plane) : Nat :=
  ((s.regs.filter fun e => decide (R.Q_CFG p 0 ≤ e.1) && decide (e.1 < R.Q_CFG p 0 + 0x8000) &&
    (e.1 - R.Q_CFG p 0) % 64 == 0).map fun e => fld e.2 16 0).sum

/-- shared_free (R211). -/
def State.sharedFree (s : State) (p : Plane) : Nat :=
  queuePool - s.minSum p - ((s.pl p).qs.map fun e => e.2.held (s.qEn p e.1) - s.qMin p e.1).sum

/-- HI_LIVE (R216). -/
def State.hiLive (s : State) (p : Plane) (q : Nat) : Bool :=
  s.qEn p q && decide (s.rf (R.Q_WM_HI p q) 18 0 ≤ ((s.pl p).q q).occ)

/-- LO_LIVE (R216). -/
def State.loLive (s : State) (p : Plane) (q : Nat) : Bool :=
  s.qEn p q && decide (((s.pl p).q q).occ ≤ s.rf (R.Q_WM_LO p q) 18 0)

/-- Bits of Q_FLAGS set in some queue (R224). -/
def State.anyQFlag (s : State) (p : Plane) (hi lo : Nat) : Bool :=
  s.anyReg (R.Q_CFG p 0) (R.Q_CFG p 0 + 0x8000) fun o v => (o - planeOfs p) % 64 == 0x24 && fld v hi lo != 0

/-- Bit j for queue 32i + j with some of Q_FLAGS bits `hi:lo` set (R224). -/
def State.qSum (s : State) (p : Plane) (i hi lo : Nat) : Word :=
  BitVec.ofNat 32 (((List.range 32).map fun j => if s.rf (R.Q_FLAGS p (32 * i + j)) hi lo ≠ 0 then 2 ^ j else 0).sum)

/-- TDd_STATUS.STATE: 0 FREE, 1 ACQUIRE, 2 LOCKED, 3 LOCKED_PEER, 4 HOLDOVER (R104). -/
def State.domState (s : State) (p : Plane) (d : Nat) : Nat := s.rf (R.TD_STATUS p d) 31 28

/-- The order of R108, best highest. -/
def domRank (st : Nat) : Nat := if st = 2 then 4 else if st = 3 then 3 else if st = 4 then 2 else if st = 1 then 1 else 0

/-- A domain's device state (R108). -/
def State.devDom (s : State) (d : Nat) : Nat :=
  let a := if s.active .a then s.domState .a d else 0
  let b := if s.active .b then s.domState .b d else 0
  if domRank a < domRank b then b else a

/-- LOCKED or LOCKED_PEER. -/
def domGood (st : Nat) : Bool := st == 2 || st == 3

/-- BRIDGE_MAX in 1/16 ns (R117). -/
def State.bridgeMax (s : State) (p : Plane) : Nat := s.rf (R.TB_CTL p) 23 14 * unitsPerUs

/-- Unread records of a log whose indices run modulo `2 ^ bits` (R287, R405, R453). -/
def unread (head tail bits : Nat) : Nat := (head + 2 ^ bits - tail) % 2 ^ bits

/-- Unread completion-log records (R287). -/
def State.logHeld (s : State) (p : Plane) : Nat := unread (s.rf (R.DSP_LOG_HEAD p) 10 0) (s.rf (R.DSP_LOG_TAIL p) 10 0) 11

/-- Snuffer state in force in the Lantern ring (R438). -/
def SnfS.any (x : SnfS) : Bool :=
  x.hold || x.black != 0 || x.safe != 0 || x.pBlack != 0 || x.pSafe != 0 || !x.stopped.isEmpty

/-- Condition bit of plane event `m` (its number in plane A's range) at plane `p` (R459, R480, and the chapters' event
tables). That of EV133 looks at ports that are not DISABLED and have PTP_EN = 1: log 165. -/
def State.planeCond (s : State) (p : Plane) (m : Nat) : Bool :=
  if !s.present p then false
  else if m < 132 then
    let i := m - 128
    s.portMode p i != 0 && !s.rb (R.PORT_STATUS p i) 31
  else if m = 132 then [0, 1, 2, 3].any fun i => s.rb (R.PORT_STATUS p i) 30
  else if m = 133 then [0, 1, 2, 3].any fun i =>
    s.portMode p i != 0 && s.rb (R.PORT_PTP_CFG p i) 31 &&
      s.rb (R.PORT_PTP_CFG p i) 28 && s.reg (R.PORT_LINK_DELAY p i) == 0xFFFFFFFF
  else if m = 134 then (s.pl p).sdyn.any fun e => !e.2.overdue.isEmpty
  else if m = 136 then (s.pl p).sync.any fun e => e.2.st == 2
  else if m = 138 then s.anyQFlag p 31 30
  else if m = 139 then s.anyQFlag p 29 29
  else if m = 140 then decide (s.sharedFree p < s.rf (R.STORE_CTL p) 16 0)
  else if m = 141 then s.anyQFlag p 28 27
  else if m = 147 then s.anyReg (R.DSP_BP p 0) (R.DSP_BP p 0 + 64) fun _ v => v != 0
  else if m = 148 then decide (768 ≤ s.logHeld p)
  else if m = 149 then s.rb (R.DSP_STATUS p) 31
  else if m = 155 then
    let hi := match p with | .a => 31 | .b => 23
    s.rf R.AON_JOIN_STATUS hi (hi - 3) == 4 || s.rf R.AON_JOIN_STATUS (hi - 4) (hi - 7) == 4
  else false

/-- The condition bit of event `n` (R449 and the chapters' event tables); false for events that have none. -/
def State.condBit (s : State) (n : Nat) : Bool :=
  if n = 0 then !s.rb R.AON_FEED_STATUS 2
  else if n = 1 then !s.rb R.AON_FEED_STATUS 3
  else if n = 15 then s.reg R.EV_COLLECT_HEAD != s.reg R.EV_COLLECT_TAIL
  else if n = 17 then s.outs.any OutS.holding
  else if n = 18 then s.outs.any OutS.safe || s.snf.safe != 0
  else if 21 ≤ n ∧ n < 25 then
    let q := n - 21
    s.rf (R.HQ_STATUS q) 27 16 != (s.hq.getD q ⟨0, 0, false, 0, false, false⟩).head
  else if n = 25 then [0, 1, 2, 3].any fun q => s.rb (R.HQ_STATUS q) 31
  else if n = 26 then s.snf.any
  else if 32 ≤ n ∧ n < 64 then s.rb (R.SL_STATUS (n - 32)) 28
  else if 64 ≤ n ∧ n < 72 then s.rf (R.CAN_ERR (n - 64)) 31 30 == 2
  else if n = 90 ∨ n = 91 then !s.rb (R.LI_STATUS (n - 90)) 31
  else if n = 96 then bothPlanes.any fun p =>
    s.anyReg (R.BRG_WIN_STAGE_CTL p 0) (R.BRG_WIN_STAGE_CTL p 0 + 0x1000) fun o v => (o - planeOfs p) % 64 == 0x1C && bit v 31
  else if n = 97 then bothPlanes.any fun p => s.reg (R.BRG_PLOG_HEAD p) != s.reg (R.BRG_PLOG_TAIL p)
  else if n = 98 then bothPlanes.any fun p => s.reg (R.BRG_DLOG_HEAD p) != s.reg (R.BRG_DLOG_TAIL p)
  else if n = 112 then !s.taperUp
  else if n = 119 then bothPlanes.any fun p => decide ((s.pl p).st = .relearnWait)
  else if n = 120 ∨ n = 121 then !domGood (s.devDom (n - 120))
  else if n = 123 then bothPlanes.any fun p => s.present p && decide ((s.bridgeMax p : Int) < ((s.pl p).bridge.natAbs : Int))
  else if n = 125 then bothPlanes.any fun p => s.present p && decide (3 ≤ (s.pl p).skewRun)
  else if n = 126 then s.rf R.LT_STATUS 31 30 == 2
  else if 128 ≤ n ∧ n < 192 then s.planeCond .a n
  else if 192 ≤ n then s.planeCond .b (n - 64)
  else false

end Sys2Proof.Machine
end

