-- ==== Sys2Proof/Machine/Sentence.lean ====
section
/-!
DEFINITION. Sentences: header octets and HCRC (R23, R24), the encapsulation on a link (R140), the transmit buffers of a
port (R34, R463), and origination (R30, R51, R521).
-/
namespace Sys2Proof.Machine

/-- Header octets 0-27 (R23). -/
def Sent.body (h : Sent) : List Byte :=
  [BitVec.ofNat 8 (h.ver.toNat * 16 + h.cls.toNat * 2 + h.key.toNat),
   BitVec.ofNat 8 (h.prio.toNat * 32 + h.timed.toNat * 16 + h.last.toNat * 8 + h.ackreq.toNat * 4 + h.rsv1.toNat)] ++
  toBE 2 h.plen.toNat ++
  toBE 2 (h.unnum.toNat * 2 ^ 15 + h.rsv2.toNat * 2 ^ 10 + h.origin.toNat) ++
  toBE 2 h.talker.toNat ++ toBE 3 h.stream.toNat ++ [h.sub] ++ toBE 4 h.seq.toNat ++ toBE 8 h.pt64.toNat ++ toBE 4 h.tag.toNat

/-- The 32 header octets (R23). -/
def Sent.header (h : Sent) : List Byte := h.body ++ [h.hops, h.ttl] ++ toBE 2 h.hcrc.toNat

/-- A sentence of this device, with VER, PAYLOAD_LEN and HCRC as the origin writes them (R23, R24). -/
def Sent.seal (h : Sent) : Sent :=
  let g := { h with ver := 1, plen := BitVec.ofNat 16 h.payload.length }
  { g with hcrc := BitVec.ofNat 16 (crc16 g.body) }

/-- The sentence in octets: header and payload. -/
def Sent.octets (h : Sent) : List Byte := h.header ++ h.payload

/-- Reads a sentence from octets of header and payload; VER and lengths are judged by the caller (R25). -/
def parseSent (bs : List Byte) (payload : List Byte) : Sent :=
  let n0 := octs bs 0 1
  let n1 := octs bs 1 1
  let n4 := octs bs 4 2
  { ver := BitVec.ofNat 4 (n0 / 16), plen := BitVec.ofNat 16 (octs bs 2 2), cls := BitVec.ofNat 3 (nfld n0 3 1), key := n0 % 2 == 1, prio := BitVec.ofNat 3 (nfld n1 7 5), timed := nfld n1 4 4 == 1,
    last := nfld n1 3 3 == 1, ackreq := nfld n1 2 2 == 1, rsv1 := BitVec.ofNat 2 n1, unnum := nfld n4 15 15 == 1,
    rsv2 := BitVec.ofNat 5 (nfld n4 14 10), origin := BitVec.ofNat 10 n4, talker := BitVec.ofNat 16 (octs bs 6 2),
    stream := BitVec.ofNat 24 (octs bs 8 3), sub := BitVec.ofNat 8 (octs bs 11 1), seq := BitVec.ofNat 32 (octs bs 12 4),
    pt64 := BitVec.ofNat 64 (octs bs 16 8), tag := BitVec.ofNat 32 (octs bs 24 4), hops := BitVec.ofNat 8 (octs bs 28 1),
    ttl := BitVec.ofNat 8 (octs bs 29 1), hcrc := BitVec.ofNat 16 (octs bs 30 2), payload := payload }

/-- The streams with fixed uses (R28). -/
def strCmd : Nat := 0xFF0000
def strReply : Nat := 0xFF0001
def strEvent : Nat := 0xFF0002
def strBridge : Nat := 0xFF0003
def strNotice : Nat := 0xFF0004

/-- Transmit precedence of a class, 1 first (R33). -/
def precedence (c : Nat) : Nat :=
  if c = 7 then 1 else if c = 1 then 2 else if c = 0 then 3 else if c = 2 then 4 else if c = 4 then 5 else if c = 3 then 6
  else if c = 5 then 7 else 8

/-- Whether a port's link is declared up (R145). -/
def State.linkUp (s : State) (p : Plane) (i : Nat) : Bool := s.rb (R.PORT_STATUS p i) 31

/-- The stream-table entry of a stream (R180). -/
def PlaneS.streamEntry (x : PlaneS) (stream : Nat) : Nat := (Tab.get 0 (stream % 2 ^ 18) x.tabs.streams).toNat

/-- VALID = 1 and TAG equal to STREAM bits 23:18 (R171, R172). -/
def entryValid (e stream : Nat) : Bool := nfld e 127 127 == 1 && nfld e 126 121 == stream / 2 ^ 18

/-- A junction carries the trunk on P0 and P1 (R43). -/
def State.junction (s : State) : Bool := s.rb R.GID_SENT_CTL 8 && s.devValid && s.devnum % 64 == 0

/-- Whether a junction copies a sentence of its branch to the trunk, by its stream's entry `e` (R46). -/
def State.copyUpBy (s : State) (e : Nat) (h : Sent) : Bool :=
  let st := h.stream.toNat
  if h.cls = 7 then true
  else if st = strBridge then octs h.payload 2 2 / 64 % 16 != s.devnum / 64
  else if st = strNotice then false
  else if strCmd ≤ st then st < strBridge
  else
    entryValid e st && nfld e 119 119 == 1

/-- Whether a junction copies a sentence of its branch to the trunk (R46). -/
def State.copyUp (s : State) (p : Plane) (h : Sent) : Bool := s.copyUpBy ((s.pl p).streamEntry h.stream.toNat) h

/-- Whether a junction copies a sentence of the trunk to its branch (R46). -/
def State.copyDown (s : State) (p : Plane) (h : Sent) : Bool :=
  let st := h.stream.toNat
  if h.cls = 7 then true
  else if st = strBridge then octs h.payload 2 2 / 64 % 16 == s.devnum / 64
  else if st = strNotice then false
  else if strCmd ≤ st then st < strBridge
  else
    let e := (s.pl p).streamEntry st
    entryValid e st && nfld e 118 118 == 1

/-- Octets of a sentence's frame from its destination address to its FCS (R140). -/
def frameLen (h : Sent) : Nat := max 64 (14 + 32 + h.payload.length + 4)

/-- Octets waiting at a port for a class (R463). -/
def waiting (q : List TxItem) (port : Nat) (c : Nat) : Nat :=
  (q.filter fun t => t.port.val == port && t.cls.toNat == c).foldl (fun a t => a + frameLen t.sent) 0

/-- The EV number of plane A's event `n` at plane `p` (R21). -/
def evOf (p : Plane) (n : Nat) : Nat := n + 64 * planeNum p

/-- Puts a sentence into a port's transmit buffer of a class, or drops and counts it (R463, R435); the flag says whether
EV154 is due. -/
def State.enqueueAs (s : State) (p : Plane) (port : Fin 4) (cls : BitVec 3) (h : Sent) (fwd stomp : Bool) : State × Bool :=
  let q := (s.pl p).txq
  let put := s.modPl p fun x => { x with txq := x.txq ++ [⟨port, cls, h, fwd, stomp⟩] }
  if cls = 7 then
    if 32 ≤ (q.filter fun t => t.port == port && t.cls == 7).length then (s.count (R.SNF_BUF_DROP p), true) else (put, false)
  else if 65536 < waiting q port.val cls.toNat + frameLen h then (s.count (R.PORT_TX_DROP p port.val), false)
  else (put, false)

/-- Puts a sentence into a port's transmit buffer of its class (R463). -/
def State.enqueue (s : State) (p : Plane) (port : Fin 4) (h : Sent) (fwd stomp : Bool) : State × Bool :=
  s.enqueueAs p port h.cls h fwd stomp

/-- The ring of a port: 0 for P0 and P1, 1 for P2 and P3. -/
def eastPort (ring : Nat) : Fin 4 := if ring = 0 then 0 else 2
def westPort (ring : Nat) : Fin 4 := if ring = 0 then 1 else 3

/-- Octets held by the unwrap drain (R148): header and payload of each sentence. Log 138. -/
def holdOctets (x : PlaneS) : Nat := x.hold.foldl (fun a t => a + 32 + t.sent.payload.length) 0

/-- A sentence held for a port after an unwrap, the oldest (R148). -/
def PlaneS.held (x : PlaneS) (port : Fin 4) : Option TxItem := x.hold.find? fun t => t.port == port

/-- Held sentences go to the transmitter in order, each once its class buffer has room (R148, R463). -/
def State.feedHold (s : State) (p : Plane) (port : Fin 4) : Nat → State
  | 0 => s
  | n + 1 => match (s.pl p).held port with
    | none => s
    | some t =>
      if 65536 < waiting (s.pl p).txq port.val t.cls.toNat + frameLen t.sent then s
      else ((s.modPl p fun x => { x with hold := x.hold.erase t, txq := x.txq ++ [t] }).feedHold p port n)

/-- Sends a sentence eastward on a ring: out of the east port, westward while that port is wrapped, or behind the sentences that the
drain holds (R146, R148). -/
def State.sendEast (s : State) (p : Plane) (ring : Nat) (h : Sent) (fwd stomp : Bool) : State × Bool :=
  let e := eastPort ring
  if s.portMode p e.val ≠ 1 then (s, false)
  else if s.rb (R.PORT_STATUS p e.val) 30 then
    if s.linkUp p (westPort ring).val then s.enqueue p (westPort ring) h fwd stomp else (s, false)
  else if (s.rb (R.PORT_STATUS p e.val) 26 || ((s.pl p).held e).isSome) && h.cls != 7 then
    if 2097152 < holdOctets (s.pl p) + 32 + h.payload.length then (s.count (R.PORT_COUNTERS p e.val 14), false)
    else (s.modPl p fun x => { x with hold := x.hold ++ [⟨e, h.cls, h, fwd, stomp⟩] }, false)
  else if s.linkUp p e.val then s.enqueue p e h fwd stomp
  else (s, false)

/-- Sends westward on a ring (R146, R160). -/
def State.sendWest (s : State) (p : Plane) (ring : Nat) (h : Sent) (fwd stomp : Bool) : State × Bool :=
  let w := westPort ring
  if s.portMode p w.val = 1 && s.linkUp p w.val then s.enqueue p w h fwd stomp else (s, false)

/-- Sends a sentence this device originates at plane `p` on each ring it originates into (R521), by its stream's entry `e` as it was read
(R195). -/
def State.originateBy (s : State) (p : Plane) (e : Nat) (h : Sent) : State × Bool :=
  if s.junction then
    let (s1, d1) := s.sendEast p 1 h false false
    if s.copyUpBy e h then
      let (s2, d2) := s1.sendEast p 0 h false false
      (s2, d1 || d2)
    else (s1, d1)
  else s.sendEast p 0 h false false

/-- Sends a sentence this device originates at plane `p` on each ring it originates into (R521). -/
def State.originateOn (s : State) (p : Plane) (h : Sent) : State × Bool := s.originateBy p ((s.pl p).streamEntry h.stream.toNat) h

/-- The plane's next SEQ of a class (R30). -/
def PlaneS.seqOf (x : PlaneS) (c : Nat) : Word := Tab.get 0 c x.seqs

/-- Takes the next SEQ of a class at plane `p`; in DUPLEX the lead's allocator serves both planes (R185). -/
def State.takeSeq (s : State) (p : Plane) (c : Nat) : Word × State :=
  if s.mode = 3 then
    let q := (s.pl s.lead).seqOf c
    let f := fun (x : PlaneS) => { x with seqs := Tab.set 0 c (q + 1) x.seqs }
    (q, (s.modPl .a f).modPl .b f)
  else
    let q := (s.pl p).seqOf c
    (q, s.modPl p fun x => { x with seqs := Tab.set 0 c (q + 1) x.seqs })

/-- The EPOCH_TAG of an untimed sentence (R37). Bits 31:30, which R37 leaves open, are 0: log 129. -/
def noEpoch : Word := 0x3FFFFFFF

/-- A sentence of this device without its SEQ: origin and TTL as R27, R51. KEY is 1 where no rule gives it: log 130. -/
def State.blank (s : State) (cls prio stream talker : Nat) (payload : List Byte) : Sent :=
  { ver := 1, plen := BitVec.ofNat 16 payload.length, cls := BitVec.ofNat 3 cls, key := true, prio := BitVec.ofNat 3 prio, timed := false, last := true, ackreq := false,
    rsv1 := 0, unnum := !s.devValid, rsv2 := 0, origin := if s.devValid then BitVec.ofNat 10 s.devnum else 0,
    talker := BitVec.ofNat 16 talker, stream := BitVec.ofNat 24 stream, sub := 0, seq := 0, pt64 := 0, tag := noEpoch,
    hops := 0, ttl := BitVec.ofNat 8 (s.rf R.GID_SENT_CTL 7 0), hcrc := 0, payload := payload }

/-- Gives a sentence of plane `p` its SEQ and sends it there; in DUPLEX both planes send the identical sentence on their
lanes (R59, R185). With it the planes at a port of which it was dropped (R435). -/
def State.originate (s : State) (p : Plane) (h : Sent) : State × List Plane :=
  let (q, s1) := s.takeSeq p h.cls.toNat
  let h1 := ({ h with seq := q }).seal
  let one (a : State × List Plane) (y : Plane) : State × List Plane :=
    let (t, d) := a.1.originateOn y h1
    (t, if d then a.2 ++ [y] else a.2)
  (if s.mode = 3 then [.a, .b] else [p]).foldl one (s1, [])

end Sys2Proof.Machine
end

