-- ==== Sys2Proof/Machine/Ops.lean ====
section
/-!
DEFINITION. Shared operations: raising an event with its MSI-X message and event sentence (R449-R451), the flight recorder
(R485), free octets, and the free value of a table lookup.
-/
namespace Sys2Proof.Machine

/-- Events whose status bit is 1 and mask bit 0, of register `i` (R450). -/
def State.pendWord (s : State) (i : Nat) : Word := s.reg (R.EV_STATUS i) &&& ~~~ (s.reg (R.EV_MASK i))

/-- The pending events (R450). -/
def State.pendingEvents (s : State) : List Nat :=
  (List.range 8).flatMap fun i =>
    let w := s.pendWord i
    if w = 0 then [] else ((List.range 32).filter fun j => bit w j).map fun j => 32 * i + j

/-- The active vectors (R450). -/
def State.activeVecs (s : State) : BitVec 64 :=
  s.pendingEvents.foldl (fun a n =>
    let r := s.reg (R.EV_ROUTE n)
    if bit r 31 then a ||| BitVec.ofNat 64 (2 ^ fld r 21 16) else a) 0

/-- Pin IRQp is asserted (R450). -/
def State.irqOn (s : State) (p : Nat) : Bool :=
  s.pendingEvents.any fun n => s.rb (R.EV_ROUTE n) 30 && s.rf (R.EV_ROUTE n) 1 0 == p

/-- Requests a message of vector `v`: sent, held in the pending-bit array, or not requested (R450). -/
def State.request (s : State) (v : Nat) : State :=
  if !s.msixEn then s
  else if s.funcMask || s.vecMask.getLsbD v then { s with pba := s.pba ||| BitVec.ofNat 64 (2 ^ v) }
  else
    let w (j : Nat) : Word := Tab.get 0 (4 * v + j) s.msixTab
    s.emit (.msix v ((w 0).toNat + (w 1).toNat * 2 ^ 32) (w 2))

/-- Requests a message of each vector in a set. -/
def State.requestAll (s : State) (vs : BitVec 64) : State :=
  if vs = 0 then s else ((List.range 64).filter fun v => vs.getLsbD v).foldl State.request s

/-- After a change: pending bits of vectors no longer active clear, and vectors that have become active since `old`, or all
active ones, request a message (R450). -/
def State.settle (s : State) (old : BitVec 64) (all : Bool) : State :=
  let a := s.activeVecs
  { s with pba := s.pba &&& a }.requestAll (if all then a else a &&& ~~~ old)

/-- A plane is ACTIVE. -/
def State.anyActive (s : State) : Bool := s.active .a || s.active .b

/-- What event `n` has for its next sentence: holdoff running, raises covered, FIRST (R451). -/
def State.held (s : State) (n : Nat) : Bool × Nat × BitVec 64 := Tab.get (false, 0, 0) n s.evHold

def State.setHeld (s : State) (n : Nat) (x : Bool × Nat × BitVec 64) : State :=
  { s with evHold := Tab.set (false, 0, 0) n x s.evHold }

/-- The planes that each originate a sentence of the device: in SPLIT both, with their own SEQ, in DUPLEX the one whose allocator serves
both (R59, R73, R185, R458). Log 161. -/
def State.senders (s : State) (p : Plane) : List Plane := if s.mode = 4 then [.a, .b] else [p]

/-- Originates the event sentence of event `n` for the raises it covers (R451). -/
def State.sendEvent (s : State) (n : Nat) (cnt : Nat) (first : BitVec 64) : State :=
  let st := (s.condBit n).toNat * 128 + (s.rb (R.EV_STATUS (n / 32)) (n % 32)).toNat * 64
  let pay := toBE 1 n ++ toBE 1 st ++ toBE 2 cnt ++ toBE 8 first.toNat
  let s1 := (s.senders s.lead).foldl (fun s p => (s.originate p (s.blank 2 3 strEvent 0x0081 pay)).1) s
  (s1.count R.EV_SENT_COUNT).setHeld n (true, 0, 0)

/-- The part of a raise that concerns event sentences (R451). -/
def State.eventSentence (s : State) (n : Nat) : State :=
  if s.rb (R.EV_ROUTE n) 29 && s.devValid then
    let (run, cnt, first) := s.held n
    let first := if cnt = 0 then toPt64 s.lantern else first
    let cnt := min (cnt + 1) 0xFFFF
    if !run && s.anyActive then s.sendEvent n cnt first else s.setHeld n (run, cnt, first)
  else s

/-- Sets bits of an event status register, without the message. -/
def State.markEvent (s : State) (n : Nat) : State := s.setRb (R.EV_STATUS (n / 32)) (n % 32) true

/-- Raises event `n` (R449-R451). -/
def State.raise (s : State) (n : Nat) : State := ((s.markEvent n).settle s.activeVecs false).eventSentence n

/-- Raises plane A's event `n` or plane B's event 64 above it (R21, R455). -/
def State.raiseP (s : State) (p : Plane) (n : Nat) : State := s.raise (evOf p n)

/-- Raises an event when a condition holds. -/
def State.raiseIf (s : State) (b : Bool) (n : Nat) : State := if b then s.raise n else s

/-- A device without a number originates status replies and no other sentence this way (R51); wrap notices and loop probes have
their own. -/
def State.mayOriginate (s : State) (stream : Nat) : Bool := s.devValid || stream == strReply

/-- Originates a sentence at an ACTIVE plane (R51, R75, R87), and raises SNUFFER_DROP when a Snuffer sentence was dropped (R435). -/
def State.orig (s : State) (p : Plane) (h : Sent) : State :=
  if s.active p && s.mayOriginate h.stream.toNat then
    let (s1, drops) := s.originate p h
    drops.foldl (fun s y => s.raise (evOf y 154)) s1
  else s

/-- The octets of a flight-recorder record (R485). -/
def State.frRec (s : State) (kind src : Nat) (data : List Byte) : List Byte :=
  let lt := if s.pinOn && s.rf R.LT_STATUS 31 30 != 0 then s.lantern / 16 % 2 ^ 32 else 0xFFFFFFFF
  toBE 6 (s.reg64 R.AON_TICKS_LO % 2 ^ 48) ++ toBE 1 kind ++ toBE 1 (src * 64) ++ toBE 4 lt ++ slice data 0 4

/-- Writes a flight-recorder record: KIND, SRC (0 AON, 1 Lantern ring, 2 plane A, 3 plane B), DATA; those of one cycle stand in the order of
their SRC (R485). -/
def State.record (s : State) (kind src : Nat) (data : List Byte) : State :=
  let rec_ := s.frRec kind src data
  let head := s.rf R.AON_FR_CTL 11 0
  let full := s.rb R.AON_FR_CTL 29
  if full && s.rb R.AON_FR_CTL 31 then s.addSat R.AON_FR_CTL 23 12 1
  else
    let k := (s.frNow.filter fun x => decide (src < x)).length
    let slot (j : Nat) : Nat := (head + 4096 - j) % 4096
    let moved := (List.range k).foldl (fun t j => Tab.set 0 (slot j) (Tab.get 0 (slot (j + 1)) t) t) s.fr
    let s1 := { s with fr := Tab.set 0 (slot k) (BitVec.ofNat 128 (beNat rec_)) moved, frDone := s.frDone + 1,
                       frNow := s.frNow.filter (fun x => decide (x ≤ src)) ++ src :: s.frNow.filter fun x => decide (src < x) }
    let s2 := s1.setRf R.AON_FR_CTL 11 0 (head + 1)
    if head = 4095 then s2.setRb R.AON_FR_CTL 29 true else s2

/-- SRC of a plane in a flight-recorder record (R485). -/
def srcOf (p : Plane) : Nat := 2 + planeNum p

/-- A free truth value (log 6). -/
def State.freeB (s : State) : Bool × State := (Config.freeBool s.freeCtr, { s with freeCtr := s.freeCtr + 1 })

/-- `n` free octets (log 6). -/
def State.freeOctets (s : State) : Nat → List Byte × State
  | 0 => ([], s)
  | n + 1 =>
    let (w, s1) := s.free32
    let (bs, s2) := s1.freeOctets n
    (w.truncate 8 :: bs, s2)

/-- A free 64-bit value (log 6). -/
def State.free64 (s : State) : BitVec 64 × State := (Config.freeDword s.freeCtr, { s with freeCtr := s.freeCtr + 1 })

/-- Folds a state change over a list. -/
def State.each {α : Type} (s : State) (xs : List α) (f : State → α → State) : State := xs.foldl f s

/-- Runs `f` only where `b` holds. -/
def State.when (s : State) (b : Bool) (f : State → State) : State := if b then f s else s

/-- The planes a two-bit PLANES field names: 0b00 BOTH, 0b01 A, 0b10 B, 0b11 reserved (R422). -/
def planesOf (b : BitVec 2) : List Plane := if b = 0 then [.a, .b] else if b = 1 then [.a] else if b = 2 then [.b] else []

end Sys2Proof.Machine
end

