-- ==== Sys2Proof/Machine/Store.lean ====
section
/-!
DEFINITION. Sentence queues and the message store (chapter 6): admission, gap markers, completion, reading, flush, watermarks
and back-pressure.
-/
namespace Sys2Proof.Machine

/-- A stream with no dynamic state (R196). -/
def StreamDyn.none_ : StreamDyn :=
  { acc := 0, drop := 0, lastSeq := none, terminated := false, held := none, rate := [], keys := [], overdue := [] }

def PlaneS.sd (x : PlaneS) (st : Nat) : StreamDyn := Tab.get StreamDyn.none_ (st % 2 ^ 18) x.sdyn

def PlaneS.modSd (x : PlaneS) (st : Nat) (f : StreamDyn → StreamDyn) : PlaneS :=
  { x with sdyn := Tab.set StreamDyn.none_ (st % 2 ^ 18) (f (x.sd st)) x.sdyn }

/-- Adds 1 to a 32-bit saturating counter held as a word. -/
def incSat (w : Word) : Word := if w = 0xFFFFFFFF then w else w + 1

/-- A sentence of a stream enters its queue: ACC, and the start of the keyframe counts of fragments without one (R194, R42). -/
def PlaneS.entered (x : PlaneS) (st : Nat) : PlaneS :=
  let e := x.streamEntry st
  if entryValid e st then
    x.modSd st fun d =>
      { d with acc := incSat d.acc,
               keys := (List.range (nfld e 83 76 + 1)).foldl (fun t f =>
                 match Tab.find f t with
                 | some _ => t
                 | none => Tab.put f 0 t) d.keys }
  else x

/-- Changes queue `q` of a plane. -/
def State.modQ (s : State) (p : Plane) (q : Nat) (f : QueueS → QueueS) : State :=
  s.modPl p fun x => { x with qs := Tab.set QueueS.empty q (f (x.q q)) x.qs }

/-- Whether the dispatcher consumes a queue (R208, R222). -/
def State.qDispatcher (s : State) (p : Plane) (q : Nat) : Bool := s.rf (R.Q_CFG p q) 31 30 == 0

/-- A sticky watermark bit that is not set yet sets and raises EV138 (R216). -/
def State.crossed (s : State) (p : Plane) (q i : Nat) : State :=
  if s.rb (R.Q_FLAGS p q) i then s else (s.setRb (R.Q_FLAGS p q) i true).raiseP p 138

/-- Back-pressure asserted for a queue (R280). -/
def State.bp (s : State) (p : Plane) (q : Nat) : Bool := s.rb (R.DSP_BP p (q / 32)) (q % 32)

/-- Asserts or releases back-pressure by the levels at the end of the cycle (R280). -/
def State.backPressure (s : State) (p : Plane) (q : Nat) : State :=
  if s.bp p q then (if s.loLive p q then s.setRb (R.DSP_BP p (q / 32)) (q % 32) false else s)
  else if s.qDispatcher p q && s.hiLive p q && !s.loLive p q then
    (s.setRb (R.DSP_BP p (q / 32)) (q % 32) true).raiseP p 147
  else s

/-- What the store keeps of its level: lowest SHARED_FREE, and EV140 on falling below LOW_CELLS (R224, R225). -/
def State.storeLevel (s0 s : State) (p : Plane) : State :=
  let f := s.sharedFree p
  let low := s.rf (R.STORE_CTL p) 16 0
  let s1 := if f < s.rf (R.STORE_LOW_MARK p) 16 0 then s.setReg (R.STORE_LOW_MARK p) (BitVec.ofNat 32 f) else s
  s1.raiseIf (decide (low ≤ s0.sharedFree p) && decide (f < low)) (evOf p 140)

/-- What follows a change of queue `q` from `s0` that is no crossing: back-pressure, store level (R216, R280). -/
def State.levelQ (s0 s : State) (p : Plane) (q : Nat) : State := State.storeLevel s0 (s.backPressure p q) p

/-- What follows a change of the contents of queue `q` from `s0`; its watermarks and its peak are judged at the end of the cycle (R217). -/
def State.afterQ (s0 s : State) (p : Plane) (q : Nat) : State :=
  let mark (x : PlaneS) : PlaneS :=
    if (Tab.find q x.levels).isSome then x else { x with levels := Tab.put q (s0.hiLive p q, s0.loLive p q) x.levels }
  State.levelQ s0 (s.modPl p mark) p q

/-- The end of a cycle for queue `q`, whose live bits were `old` at its start: sticky bits and peak (R216, R217, R221). -/
def State.judgeQ (s : State) (p : Plane) (q : Nat) (old : Bool × Bool) : State :=
  let occ := ((s.pl p).q q).occ
  let s1 := s.when (decide ((s.reg (R.Q_PEAK p q)).toNat < occ)) fun s => s.setReg (R.Q_PEAK p q) (BitVec.ofNat 32 occ)
  let s2 := s1.when (s.hiLive p q && !old.1) fun s => s.crossed p q 31
  s2.when (s.loLive p q && !old.2) fun s => s.crossed p q 30

/-- The end of a cycle for a plane's queues (R217). Log 156. -/
def State.judgeQueues (s : State) (p : Plane) : State :=
  (s.modPl p fun x => { x with levels := [] }).each (s.pl p).levels fun s e => s.judgeQ p e.1 e.2

/-- A queue that has changed in this cycle is judged before its watermarks change (R216). -/
def State.judgeNow (s : State) (p : Plane) (q : Nat) : State :=
  match Tab.find q (s.pl p).levels with
  | some old => (s.modPl p fun x => { x with levels := Tab.erase q x.levels }).judgeQ p q old
  | none => s

/-- A queue with head position 0 once it holds no cells (R214). -/
def QueueS.settle (x : QueueS) : QueueS := if x.stored = 0 then { x with head := 0 } else x

/-- FLUSH_PEND (R215). -/
def State.flushPend (s : State) (p : Plane) (q : Nat) : Bool := s.rb (R.Q_STATUS p q) 31

/-- The items that a flush or a disable leaves: the record being read (R214, R215). -/
def QueueS.keepRead (x : QueueS) : QueueS :=
  let keep := if x.readPos = 0 then [] else x.items.take 1
  { x with items := keep }

/-- Complete records that the consumer has not begun. -/
def QueueS.unbegun (x : QueueS) : Nat := x.pkts - (if x.readPos = 0 then 0 else 1)

/-- The flush takes effect, at a producer sentence boundary (R215). -/
def State.flushNow (s : State) (p : Plane) (q : Nat) : State :=
  let x := (s.pl p).q q
  if s.flushPend p q && x.writing.isNone then
    let s1 := (s.modQ p q fun x => x.keepRead.settle).setRb (R.Q_STATUS p q) 31 false
    State.afterQ s (s1.addSat (R.Q_FLUSHED p q) 31 0 x.unbegun) p q
  else s

/-- Requests a flush (R215). -/
def State.flushRequest (s : State) (p : Plane) (q : Nat) : State := s.setRb (R.Q_STATUS p q) 31 true

/-- Clears EN (R214). -/
def State.queueOff (s : State) (p : Plane) (q : Nat) : State :=
  if s.qEn p q then
    let x := (s.pl p).q q
    let s1 := s.setRb (R.Q_CTL p q) 31 false
    let s2 := s1.modQ p q fun x => { x.keepRead with doomed := x.doomed || x.writing.isSome }.settle
    State.storeLevel s (s2.addSat (R.Q_FLUSHED p q) 31 0 x.unbegun) p
  else s

/-- Sets EN: an empty queue (R214). Watermarks set no sticky bit (R216); back-pressure follows the levels (R280). -/
def State.queueOn (s : State) (p : Plane) (q : Nat) : State := (s.setRb (R.Q_CTL p q) 31 true).backPressure p q

/-- A notice to the control core where it consumes the queue (R210). -/
def State.queueNotice (s : State) (p : Plane) (q : Nat) (gap : Bool) : State :=
  s.when (s.rf (R.Q_CFG p q) 31 30 == 1) fun s => s.emit (.notice p q gap)

/-- A dropped sentence: merged into an unread marker at the tail, or a new marker (R212, R213). -/
def State.dropNewest (s : State) (p : Plane) (q : Nat) (r : Rec) : State :=
  let x := (s.pl p).q q
  let s1 := s.count (R.Q_DROP_FULL p q)
  match x.items.getLast? with
  | some (.gap g) =>
    let g1 := { g with count := if g.count = 0xFFFFFFFF then g.count else g.count + 1, lastArrival := r.arrival }
    s1.modQ p q fun x => { x with items := x.items.dropLast ++ [.gap g1] }
  | _ =>
    let g : Gap := { count := 1, firstStream := r.sent.stream, firstArrival := r.arrival, lastArrival := r.arrival,
                     reserve := x.stored == 0 }
    let s2 := s1.modQ p q fun x => { x with items := x.items ++ [.gap g] }
    ((s2.setRb (R.Q_FLAGS p q) 29 true).raiseP p 139).queueNotice p q true

/-- Admission of a sentence that the write channel takes (R211, R481). -/
def State.admitRec (s : State) (p : Plane) (q : Nat) (r : Rec) : State :=
  let x := (s.pl p).q q
  let need := r.words
  let held := s.qHeld p q
  if !s.qEn p q || s.rf R.AON_PWR_STATUS 31 30 == 1 then s.count (R.Q_DROP_DIS p q)
  else if need + x.occ + 1 ≤ s.rf (R.Q_LIMIT p q) 18 0 ∧
      x.cellsFor (x.occ + need + 1) ≤ (s.qMin p q - held) + s.sharedFree p + held then
    let s1 := (s.modQ p q fun x => { x with writing := some { r with qseq := x.qseq }, qseq := x.qseq + 1 }).modPl p fun y =>
      y.entered r.sent.stream.toNat
    State.storeLevel s (s1.count (R.Q_ADMIT p q)) p
  else State.afterQ s (s.dropNewest p q r) p q

/-- The write channel takes the sentence at the head of the waiting ones, after a flush that has reached its boundary
(R207, R211, R217). -/
def State.admitNext (s : State) (p : Plane) (q : Nat) : State :=
  let x := (s.pl p).q q
  match x.writing, x.ready with
  | none, r :: rest => ((s.flushNow p q).modQ p q fun x => { x with ready := rest }).admitRec p q r.2
  | _, _ => s

/-- Sentences finished in one cycle wait in the order ports, Lantern ring, Taper link, allocator, control core (R173, R207). -/
def enterReady (c : Int) (r : Rec) : List (Int × Rec) → List (Int × Rec)
  | [] => [(c, r)]
  | d :: ds => if d.1 = c ∧ r.src < d.2.src then (c, r) :: d :: ds else d :: enterReady c r ds

/-- A sentence finished by its producer waits for queue `q` (R207). -/
def State.produce (s : State) (p : Plane) (q : Nat) (r : Rec) : State :=
  s.modQ p q fun x => { x with ready := enterReady (Int.fdiv (s.release p) 16) r x.ready }

/-- The record being written is complete: counted, or discarded where the queue was disabled; the flag says whether the
dispatcher observes it (R209, R214, R215, R270). -/
def State.completeRec (s : State) (p : Plane) (q : Nat) : State × Option Rec :=
  let x := (s.pl p).q q
  match x.writing with
  | none => (s, none)
  | some r =>
    if x.doomed then
      let s1 := s.modQ p q fun x => { x with writing := none, doomed := false }.settle
      (State.storeLevel s (s1.count (R.Q_FLUSHED p q)) p, none)
    else
      let s1 := s.modQ p q fun x => { x with writing := none, items := x.items ++ [.record r] }
      let t := State.afterQ s s1 p q
      (t.when (!s.flushPend p q) fun t => t.queueNotice p q false, if s.flushPend p q || !s.qDispatcher p q then none else some r)

/-- An item whose consumer word `i` is uncorrectable: the word's octets are free, and the record is tagged (R218). Log 15. -/
def State.spoil (s : State) (it : QItem) (i : Nat) : QItem × State :=
  let (o, s1) := s.freeOctets 64
  match it with
  | .record r =>
    let r1 := { r with err := true }
    (.record (if i = 0 then
      { r1 with sent := parseSent o r.sent.payload, arrival := sext 64 (octs o 32 8), target := some (octs o 44 8) }
    else { r1 with sent := { r.sent with payload := patch r.sent.payload ((i - 1) * 64) o } }), s1)
  | .gap g =>
    (.gap { g with count := BitVec.ofNat 32 (octs o 0 4), firstStream := BitVec.ofNat 24 (octs o 5 3), firstArrival := octs o 8 8,
                   lastArrival := octs o 16 8 }, s1)

/-- An uncorrectable consumer word of queue `q` has been delivered (R218). -/
def State.badWord (s : State) (p : Plane) (q : Nat) : State :=
  ((s.count (R.STORE_ECC_UNCORR p)).setRb (R.Q_FLAGS p q) 27 true).raiseP p 141

/-- Corrected errors of the store (R218). -/
def State.storeFixed (s : State) (p : Plane) (n : Nat) : State := s.addSat (R.STORE_ECC_CORR p) 31 0 n

/-- The tag of the word at a queue's head, but for ERR (R206, R221). -/
def QueueS.headTag (x : QueueS) : Nat :=
  match x.items with
  | [] => 0
  | .gap _ :: _ => 2 ^ 14 + 2 ^ 13 + 2 ^ 12 + 24
  | .record r :: _ =>
    let last := decide (r.words ≤ x.readPos + 1)
    let n := r.sent.payload.length
    (x.readPos == 0).toNat * 2 ^ 13 + last.toNat * 2 ^ 12 + (if last && n != 0 then (n - 1) % 64 + 1 else 64)

/-- An arrival stamp as PT64 octets (R204). -/
def stampBytes (t : Int) : List Byte := toBE 8 (toPt64 t).toNat

/-- The octets of a record and of a gap marker (R204, R213). -/
def QItem.octets : QItem → List Byte
  | .record r =>
    r.sent.header ++ stampBytes r.arrival ++
      toBE 1 ((r.arrival % 16).toNat * 16 + r.src) ++ toBE 1 (r.keepLate.toNat * 128 + r.reorig.toNat * 64 + r.converted.toNat * 32) ++
      [0, 0] ++ toBE 8 (r.target.getD (2 ^ 64 - 1)) ++ toBE 4 r.qseq.toNat ++ List.replicate 8 0 ++ r.sent.payload
  | .gap g => toBE 4 g.count.toNat ++ toBE 4 g.firstStream.toNat ++ stampBytes g.firstArrival ++ stampBytes g.lastArrival

/-- Consumer word `i` of an item, and its tag, go to the control core where it consumes the queue (R206). -/
def State.deliverWord (s : State) (p : Plane) (q : Nat) (tag i : Nat) (it : QItem) : State :=
  s.when (s.rf (R.Q_CFG p q) 31 30 == 1) fun s => s.emit (.word p q (BitVec.ofNat 16 tag) (slice it.octets (64 * i) 64))

/-- The consumer has read an item to its END word: the dispatcher keeps it for intake; the control core has it. Log 16. -/
def State.itemRead (s : State) (p : Plane) (q : Nat) (i : QItem) : State :=
  if s.qDispatcher p q then s.modPl p fun x => { x with intake := x.intake ++ [(q, i)] } else s

/-- The consumer reads one word of queue `q`, after a flush that is due (R206, R209, R217, R218); `fixed` of its eight protected words
had a single-bit error. -/
def State.readWord (s0 : State) (p : Plane) (q : Nat) (bad : Bool) (fixed : Nat) : State :=
  let s := s0.flushNow p q
  let x := (s.pl p).q q
  match x.items with
  | [] => s
  | it :: rest =>
    let s1 := (s.storeFixed p fixed).when bad fun s => s.badWord p q
    let (it1, s2) := if bad then s1.spoil it x.readPos else (it, s1)
    let s3 := s2.deliverWord p q (x.headTag + bad.toNat * 2 ^ 11) x.readPos it1
    let reserve := match it with | .gap g => g.reserve | .record _ => false
    if it.words ≤ x.readPos + 1 then
      let s4 := s3.modQ p q fun x =>
        { x with items := rest, readPos := 0, head := if reserve then x.head else (x.head + 1) % 4 }.settle
      State.afterQ s (s4.itemRead p q it1) p q
    else
      let s4 := s3.modQ p q fun x => { x with items := it1 :: rest, readPos := x.readPos + 1, head := (x.head + 1) % 4 }
      State.afterQ s s4 p q

/-- Why a queue's committed configuration is refused (R220). -/
def State.badQueueCfg (s : State) (p : Plane) (q : Nat) (cfg limit hi lo : Word) : Bool :=
  let min := fld cfg 16 0
  let old := s.qMin p q
  decide (2 ≤ fld cfg 31 30) || decide (fld limit 18 0 < 2) || decide (358400 < fld limit 18 0) ||
    decide (fld hi 18 0 ≤ fld lo 18 0) || decide (fld limit 18 0 < fld hi 18 0) ||
    decide (queuePool < s.minSum p - old + min) ||
    decide (old + s.sharedFree p + (s.qHeld p q - old) < min)

end Sys2Proof.Machine
end

