-- ==== Sys2Proof/Machine/Burin.lean ====
section
/-!
DEFINITION. Burin engines (chapter 7): the Canvas halves, fields, the transfer profile, curves, merges, and what each move
does. A move is worked field by field; `lim` is the number of writes that reach the Canvas before its window closes (R230).
-/
namespace Sys2Proof.Machine

/-- A half's octets. -/
def PlaneS.cv (x : PlaneS) (h : Bool) : Tab Byte := if h then x.cv1 else x.cv0

def PlaneS.setCv (x : PlaneS) (h : Bool) (t : Tab Byte) : PlaneS := if h then { x with cv1 := t } else { x with cv0 := t }

/-- A STALE line of half `h` (R229). -/
def PlaneS.isStale (x : PlaneS) (h : Bool) (l : Nat) : Bool := x.stale && h == x.half && !x.clean.contains l

/-- Octet `o` of half `h`, a STALE line taken from the other half (R229, R262). -/
def PlaneS.cvRead (x : PlaneS) (h : Bool) (o : Nat) : Byte :=
  Tab.get 0 o (if x.isStale h (o / 64) then x.cv (!h) else x.cv h)

/-- Copies line `l` of half `h` from the other half if it is STALE, and clears its mark (R229, R258). -/
def PlaneS.carryLine (x : PlaneS) (h : Bool) (l : Nat) : PlaneS :=
  if x.isStale h l then
    let x1 := x.setCv h ((List.range 64).foldl (fun t i => Tab.set 0 (l * 64 + i) (Tab.get 0 (l * 64 + i) (x.cv (!h))) t) (x.cv h))
    { x1 with clean := l :: x.clean }
  else x

/-- Carries the lines of octets `a` to `z` of half `h`. -/
def PlaneS.touch (x : PlaneS) (h : Bool) (a z : Nat) : PlaneS :=
  if x.stale then (List.range (z / 64 + 1 - a / 64)).foldl (fun x i => x.carryLine h (a / 64 + i)) x else x

/-- Writes an octet of half `h`, its line carried first (R229). -/
def PlaneS.cvWrite (x : PlaneS) (h : Bool) (o : Nat) (b : Byte) : PlaneS :=
  let x1 := x.carryLine h (o / 64)
  x1.setCv h (Tab.set 0 o b (x1.cv h))

/-- The carry engine has copied every STALE line (R229). -/
def PlaneS.carryAll (x : PlaneS) : PlaneS :=
  if x.stale then
    let keep := Tab.keep (fun o => x.clean.contains (o / 64)) (x.cv x.half)
    let from_ := Tab.keep (fun o => !x.clean.contains (o / 64)) (x.cv (!x.half))
    { x.setCv x.half (from_.foldl (fun t e => Tab.set 0 e.1 e.2 t) keep) with stale := false, clean := [] }
  else x

/-- Words of 8 octets of half `h` taken as 0 (R259). -/
def PlaneS.zeroWords (x : PlaneS) (h : Bool) (ws : List Nat) : PlaneS :=
  if ws = [] then x else x.setCv h (Tab.keep (fun o => !ws.contains (o / 8)) (x.cv h))

/-- The carry engine copies the rest; uncorrectable words of the other half become 0 in the drawing half (R229, R259). -/
def PlaneS.carryRest (x : PlaneS) (bad : List Nat) : PlaneS :=
  x.carryAll.zeroWords x.half (bad.filter fun w => x.isStale x.half (w / 8))

/-- Release memory bank `k mod 2` (R294). -/
def PlaneS.bank (x : PlaneS) (k : Nat) : Tab Byte := if k % 2 = 1 then x.rel1 else x.rel0

def PlaneS.setBank (x : PlaneS) (k : Nat) (t : Tab Byte) : PlaneS :=
  if k % 2 = 1 then { x with rel1 := t } else { x with rel0 := t }

/-- The buffer of a release descriptor in the bank of epoch `k` (R294). -/
def PlaneS.buffer (x : PlaneS) (k : Nat) (rd : BitVec 256) : List Byte :=
  (List.range (nfld rd.toNat 191 178)).map fun i => Tab.get 0 (nfld rd.toNat 174 160 * 64 + i) (x.bank k)

/-- The `w` bits of the field at bit offset `b` in octets `rd` (R232). -/
def extractBits (rd : Nat → Byte) (b w : Nat) (le : Bool) : Nat :=
  if le then ((List.range w).map fun i => ((rd ((b + i) / 8)).getLsbD ((b + i) % 8)).toNat * 2 ^ i).sum
  else (List.range w).foldl (fun a i => a * 2 + ((rd ((b + i) / 8)).getLsbD (7 - (b + i) % 8)).toNat) 0

/-- Octet `o` with those of its bits that the field at `b` names replaced by the field's (R232, R233). -/
def insertOctet (old : Byte) (o b w : Nat) (le : Bool) (v : Nat) : Byte :=
  BitVec.ofNat 8 ((List.range 8).map fun q =>
    let abs := if le then 8 * o + q else 8 * o + (7 - q)
    let named := decide (b ≤ abs) && decide (abs < b + w)
    let i := abs - b
    let val := v / 2 ^ (if le then i else w - 1 - i) % 2
    (if named then val else (old.getLsbD q).toNat) * 2 ^ q).sum

/-- The octets a field write changes, with their new values. -/
def fieldOctets (rd : Nat → Byte) (b w : Nat) (le : Bool) (v : Nat) : List (Nat × Byte) :=
  (List.range ((b + w - 1) / 8 + 1 - b / 8)).map fun i =>
    let o := b / 8 + i
    (o, insertOctet (rd o) o b w le v)

/-- Profile `n`; 0 and 1 are fixed (R244). -/
def Tables.prof (t : Tables) (n : Nat) : Nat :=
  if n = 0 then 2 ^ 224 else if n = 1 then 2 ^ 224 + 2 ^ 127 + 2 ^ 126 else (Tab.get (0 : BitVec 256) n t.profs).toNat

/-- Whether (2t - 1) / 131070 ≤ (num / den) ^ (a / b). -/
def powLe (num den a b t : Nat) : Bool := decide ((2 * t - 1) ^ b * den ^ a ≤ num ^ a * 131070 ^ b)

/-- Whether point value `t` does not exceed 65535 × g(i / 1024) + 1/2 for gamma curve `g` (R251). -/
def gammaLe (g i t : Nat) : Bool :=
  if t = 0 then true
  else if g = 1 then powLe i 1024 9 5 t
  else if g = 2 then powLe i 1024 2 1 t
  else if g = 3 then powLe i 1024 11 5 t
  else if g = 4 then powLe i 1024 12 5 t
  else if g = 5 then powLe i 1024 13 5 t
  else if g = 6 then powLe i 1024 14 5 t
  else if g = 7 then powLe i 1024 3 1 t
  else if g = 8 then
    (if i * 100000 ≤ 4045 * 1024 then powLe (i * 100) (1024 * 1292) 1 1 t else powLe (1000 * i + 55 * 1024) (1055 * 1024) 12 5 t)
  else if g = 9 then powLe i 1024 5 11 t
  else if g = 10 then powLe i 1024 5 12 t
  else
    (if i * 100 ≤ 8 * 1024 then powLe (i * 1000) (1024 * 9033) 1 1 t else powLe (100 * i + 16 * 1024) (116 * 1024) 3 1 t)

/-- The greatest `t` below 2^16 that passes `f`, `f` failing for all greater ones, found bit by bit. -/
def greatest16 (f : Nat → Bool) : Nat :=
  [15, 14, 13, 12, 11, 10, 9, 8, 7, 6, 5, 4, 3, 2, 1, 0].foldl (fun a i => if f (a + 2 ^ i) then a + 2 ^ i else a) 0

/-- T[i] of gamma curve `g` (R251). -/
def gammaPoint (g i : Nat) : Nat := greatest16 (gammaLe g i)

/-- T[i] of a LUT slot (R250). -/
def Tables.lut (t : Tables) (slot i : Nat) : Nat := (Tab.get (0 : BitVec 16) (slot * 2048 + i) t.luts).toNat

/-- A curve's value for `v` in 0..65535 (R249). -/
def curve (pt : Nat → Nat) (v : Nat) : Int :=
  let q := v * 1024
  let i := q / 65535
  let f := q % 65535
  if f = 0 then pt i
  else (pt i : Int) + Int.fdiv (2 * ((pt (i + 1) : Int) - pt i) * f + 65535) 131070

/-- xp of an extracted field of width `w` (R246). -/
def profIn (pr x w : Nat) (sgn : Bool) : Int :=
  let v : Int := if sgn then sext w x else x
  if nfld pr 127 127 = 0 then v
  else if !sgn then Int.fdiv (2 * v * 65535 + (2 ^ w - 1 : Nat)) (2 * (2 ^ w - 1) : Nat)
  else max (-32767) (Int.fdiv (2 * v * 32767 + (2 ^ (w - 1) - 1 : Nat)) (2 * (2 ^ (w - 1) - 1) : Nat))

/-- The working value of xp and whether sat32 clamped (R246). -/
def profMid (t : Tables) (pr : Nat) (xp : Int) : Int × Bool :=
  let p := xp * sext 32 (nfld pr 255 224)
  let sh := nfld pr 117 112
  let y := if sh = 0 then p
    else if nfld pr 119 119 = 0 then Int.fdiv (p + (2 ^ (sh - 1) : Nat)) (2 ^ sh : Nat) else Int.fdiv p (2 ^ sh : Nat)
  let u := y + sext 32 (nfld pr 223 192)
  let wv := clamp (-2147483648) 2147483647 u
  let wv1 := if nfld pr 125 125 = 1 then min (max wv (sext 32 (nfld pr 191 160))) (sext 32 (nfld pr 159 128)) else wv
  let wv2 := if nfld pr 124 124 = 1 then curve (t.lut (nfld pr 111 104)) (clamp 0 65535 wv1).toNat else wv1
  let g := nfld pr 123 120
  let wv3 := if g ≠ 0 then curve (gammaPoint g) (clamp 0 65535 wv2).toNat else wv2
  let sw := nfld pr 85 80
  let wv4 := if sw ≠ 0 then Int.fdiv wv3 (2 ^ nfld pr 92 88 : Nat) % (2 ^ sw : Nat) else wv3
  (wv4, u != wv)

/-- The dither matrix of R248. -/
def ditherM : List Nat := [0, 8, 2, 10, 12, 4, 14, 6, 3, 11, 1, 9, 15, 7, 13, 5]

/-- The value inserted into a destination of width `d`, and whether it was clamped (R247, R248). -/
def profOut (pr : Nat) (wv : Int) (d : Nat) (sgn : Bool) (j e : Nat) : Nat × Bool :=
  if nfld pr 126 126 = 0 then
    let v := if sgn then clamp (-(2 ^ (d - 1) : Nat)) ((2 ^ (d - 1) : Nat) - 1) wv else clamp 0 ((2 ^ d : Nat) - 1) wv
    (toU d v, v != wv)
  else if sgn then
    let v := clamp (-32767) 32767 wv
    (toU d (Int.fdiv (2 * v * (2 ^ (d - 1) - 1 : Nat) + 32767) 65534), v != wv)
  else
    let v := clamp 0 65535 wv
    let o := if nfld pr 97 96 = 1 then
        let t : Nat := (2 * ditherM.getD (j % 4 * 4 + e % 4) 0 + 1) * 65535 / 32
        (v.toNat * (2 ^ d - 1) + t) / 65535
      else (2 * v.toNat * (2 ^ d - 1) + 65535) / 131070
    (o, v != wv)

/-- Lines spanned by a run of `n` fields of `w` bits from bit `b` (R257). -/
def runLines (b stride w n : Nat) : Nat := (b + (n - 1) * stride + w - 1) / 512 - b / 512 + 1

/-- A move entry's fields (R237). -/
def mvOp (m : Nat) : Nat := nfld m 127 124
def mvSrc (m : Nat) : Nat := nfld m 123 122
def mvSlot (m : Nat) : Nat := nfld m 121 118
def mvSrcBit (m : Nat) : Nat := nfld m 117 92
def mvSrcW (m : Nat) : Nat := nfld m 91 87 + 1
def mvSrcSgn (m : Nat) : Bool := nfld m 86 86 == 1
def mvSrcLe (m : Nat) : Bool := nfld m 85 85 == 1
def mvList (m : Nat) : Nat := nfld m 104 92
def mvDstBit (m : Nat) : Nat := nfld m 84 59
def mvDstW (m : Nat) : Nat := nfld m 58 54 + 1
def mvDstSgn (m : Nat) : Bool := nfld m 53 53 == 1
def mvDstLe (m : Nat) : Bool := nfld m 52 52 == 1
def mvOut (m : Nat) : Bool := nfld m 51 51 == 1
def mvN (m : Nat) : Nat := nfld m 50 39 + 1
def mvProf (m : Nat) : Nat := nfld m 38 27
def mvSrcStride (m : Nat) : Nat := nfld m 26 14
def mvDstStride (m : Nat) : Nat := nfld m 13 1

/-- The header, and input `i`, of a merge list (R252). -/
def mlHead (l : Nat) : Nat := l / 2 ^ 896
def mlIn (l i : Nat) : Nat := l / 2 ^ (896 - 128 * i) % 2 ^ 128
def mlN (l : Nat) : Nat := nfld (mlHead l) 125 123 + 1

/-- The merge list of a number. -/
def Tables.merge (t : Tables) (n : Nat) : Nat := (Tab.get (0 : BitVec 1024) n t.merges).toNat

/-- The stream-table entry an engine sees. -/
def Tables.stream (t : Tables) (st : Nat) : Nat := (Tab.get (0 : BitVec 128) (st % 2 ^ 18) t.streams).toNat

/-- No applied state (R236). -/
def Applied.none_ : Applied := { base := 0, lastEpoch := none, lastArrival := 0, lastPt := 0, live := false, prev := false }

/-- A stream's applied state. -/
def PlaneS.ap (x : PlaneS) (st : Nat) : Applied := Tab.get Applied.none_ (st % 2 ^ 18) x.applied

/-- Every fragment has its base flag (R236). -/
def baseAll (e : Nat) (a : Applied) : Bool :=
  (List.range (nfld e 83 76 + 1)).all fun i => a.base.getLsbD i

/-- LIVE and LIVE_PREV of a stream as judged at the opening of the draw epoch (R236). -/
def PlaneS.live (x : PlaneS) (t : Tables) (st : Nat) : Bool := entryValid (t.stream st) st && (x.ap st).live
def PlaneS.livePrev (x : PlaneS) (t : Tables) (st : Nat) : Bool := entryValid (t.stream st) st && (x.ap st).prev

/-- Reads a field of half `h`, its lines carried. -/
def PlaneS.readField (x : PlaneS) (h : Bool) (b w : Nat) (le : Bool) : Nat × PlaneS :=
  let x1 := x.touch h (b / 8) ((b + w - 1) / 8)
  (extractBits (fun o => Tab.get 0 o (x1.cv h)) b w le, x1)

/-- Writes a field of half `h`, or of the release buffer of an instance (R237, R238). -/
def PlaneS.writeField (x : PlaneS) (i : Inst) (out : Bool) (b w : Nat) (le : Bool) (v : Nat) : PlaneS :=
  if out then
    let base := nfld i.rdesc.toNat 174 160 * 64
    let os := fieldOctets (fun o => Tab.get 0 (base + o) (x.bank i.epoch)) b w le v
    x.setBank i.epoch (os.foldl (fun t e => Tab.set 0 (base + e.1) e.2 t) (x.bank i.epoch))
  else
    let x1 := x.touch i.half (b / 8) ((b + w - 1) / 8)
    x1.setCv i.half ((fieldOctets (fun o => Tab.get 0 o (x1.cv i.half)) b w le v).foldl (fun t e => Tab.set 0 e.1 e.2 t) (x1.cv i.half))

/-- The half a Canvas source names: CUR or PREV (R238). -/
def srcHalf (i : Inst) (src : Nat) : Bool := if src = 1 then !i.half else i.half

/-- The payload an INPUT source reads (R239). -/
def inputOf (i : Inst) (slot : Nat) : Option (List Byte) := ((i.slots.getD slot []).getLast?).map fun r => r.sent.payload

/-- A FIELD move over its first `n` fields, of which the first `lim` reach their destination: plane, fields clamped, writes discarded (R230,
R246). -/
def moveField (x : PlaneS) (t : Tables) (i : Inst) (m n lim : Nat) : PlaneS × Nat × Nat :=
  let pr := t.prof (mvProf m)
  (List.range n).foldl (fun (acc : PlaneS × Nat × Nat) j =>
    let (x, sat, late) := acc
    let b := mvSrcBit m + j * mvSrcStride m
    let (raw, x1) := if mvSrc m = 2 then
        (extractBits (fun o => ((inputOf i (mvSlot m)).getD []).getD o 0) b (mvSrcW m) (mvSrcLe m), x)
      else x.readField (srcHalf i (mvSrc m)) b (mvSrcW m) (mvSrcLe m)
    let (wv, s1) := profMid t pr (profIn pr raw (mvSrcW m) (mvSrcSgn m))
    let (v, s2) := profOut pr wv (mvDstW m) (mvDstSgn m) j i.epoch
    let sat1 := if s1 || s2 then sat + 1 else sat
    if j < lim then
      (x1.writeField i (mvOut m) (mvDstBit m + j * mvDstStride m) (mvDstW m) (mvDstLe m) v, sat1, late)
    else (x1, sat1, late + 1)) (x, 0, 0)

/-- A CONST move (R246). -/
def moveConst (x : PlaneS) (t : Tables) (i : Inst) (m n lim : Nat) : PlaneS × Nat × Nat :=
  let pr := t.prof (mvProf m)
  (List.range n).foldl (fun (acc : PlaneS × Nat × Nat) j =>
    let (x, sat, late) := acc
    let (wv, s1) := profMid t pr 0
    let (v, s2) := profOut pr wv (mvDstW m) (mvDstSgn m) j i.epoch
    let sat1 := if s1 || s2 then sat + 1 else sat
    if j < lim then
      (x.writeField i (mvOut m) (mvDstBit m + j * mvDstStride m) (mvDstW m) (mvDstLe m) v, sat1, late)
    else (x, sat1, late + 1)) (x, 0, 0)

/-- A COPY move, octet by octet in pieces of one line (R230, R239). -/
def moveCopy (x : PlaneS) (i : Inst) (m n lim : Nat) : PlaneS × Nat :=
  let src := mvSrcBit m / 8
  let dst := mvDstBit m / 8
  let x1 := (List.range n).foldl (fun (x : PlaneS) j =>
    let (b, x1) := if mvSrc m = 2 then (((inputOf i (mvSlot m)).getD []).getD (src + j) 0, x)
      else
        let h := srcHalf i (mvSrc m)
        let x1 := x.touch h (src + j) (src + j)
        (Tab.get 0 (src + j) (x1.cv h), x1)
    if (dst + j) / 64 - dst / 64 < lim then x1.writeField i (mvOut m) (8 * (dst + j)) 8 false b.toNat else x1) x
  (x1, (if n = 0 then 0 else (dst + n - 1) / 64 - dst / 64 + 1) - lim)

/-- Input `k` of a merge for field `j` from half `h`: working value and whether it clamped. -/
def mergeIn (x : PlaneS) (t : Tables) (l k j : Nat) (h : Bool) : Int × Bool × PlaneS :=
  let inp := mlIn l k
  let w := nfld inp 30 26 + 1
  let (raw, x1) := x.readField h (nfld inp 79 54 + j * nfld inp 11 0) w (nfld inp 24 24 == 1)
  let pr := t.prof (nfld inp 23 12)
  let (wv, s) := profMid t pr (profIn pr raw w (nfld inp 25 25 == 1))
  (wv, s, x1)

/-- q_i of R254. -/
def mergePrio (x : PlaneS) (t : Tables) (l k j : Nat) (h : Bool) : Nat × PlaneS :=
  let inp := mlIn l k
  let ps := nfld inp 103 80
  let sp := nfld (t.stream (nfld inp 127 104)) 34 27
  if ps ≠ 0 && x.live t ps then
    let o := nfld inp 53 31 + j
    let x1 := x.touch h o o
    let q := (Tab.get 0 o (x1.cv h)).toNat
    (if 200 < q then 0 else q, x1)
  else (sp, x)

/-- The better of two (key, value, input) candidates: greatest key, then greatest value. -/
def better (a b : Int × Int × Nat) : Int × Int × Nat :=
  if a.1 < b.1 then b else if b.1 < a.1 then a else if a.2.1 < b.2.1 then b else a

/-- The best of a list of candidates. -/
def best : List (Int × Int × Nat) → Option (Int × Int × Nat)
  | [] => none
  | c :: cs => some (cs.foldl better c)

/-- The winner of field `j` of a merge: its value and input number; whether a value clamped; the LTP tag read (R253-R256). -/
def mergeField (x : PlaneS) (t : Tables) (i : Inst) (l j : Nat) : Option (Int × Nat) × Bool × PlaneS :=
  let h := i.half
  let rule := nfld (mlHead l) 127 126
  let ks := ((List.range (mlN l)).map (· + 1)).filter fun k => x.live t (nfld (mlIn l k) 127 104)
  let (vals, sat, x1) : List (Nat × Int) × Bool × PlaneS := ks.foldl (fun (acc : List (Nat × Int) × Bool × PlaneS) k =>
    let (w, s, y) := mergeIn acc.2.2 t l k j h
    (acc.1 ++ [(k, w)], acc.2.1 || s, y)) ([], false, x)
  if rule = 0 then
    ((best (vals.map fun e => (e.2, e.2, e.1))).map fun b => (b.2.1, b.2.2), sat, x1)
  else if rule = 2 then
    ((best (vals.map fun e => ((nfld (t.stream (nfld (mlIn l e.1) 127 104)) 34 27 : Int), e.2, e.1))).map
      fun b => (b.2.1, b.2.2), sat, x1)
  else if rule = 3 then
    let (cs, x2) := vals.foldl (fun (acc : List (Int × Int × Nat) × PlaneS) (e : Nat × Int) =>
      let (q, y) := mergePrio acc.2 t l e.1 j h
      (if q = 0 then acc.1 else acc.1 ++ [((q : Int), e.2, e.1)], y)) ([], x1)
    ((best cs).map fun b => (b.2.1, b.2.2), sat, x2)
  else
    let o := nfld (mlHead l) 121 99 + j
    let x2 := x1.touch h o o
    let tag := (Tab.get 0 o (x2.cv h)).toNat
    let changed := vals.filter fun (e : Nat × Int) =>
      let st := nfld (mlIn l e.1) 127 104
      !x2.livePrev t st || (mergeIn x2 t l e.1 j (!h)).1 != e.2
    let latest := changed.foldl (fun (a : Option (Nat × Int)) (e : Nat × Int) =>
      match a with
      | none => some e
      | some b => if (x2.ap (nfld (mlIn l b.1) 127 104)).lastPt < (x2.ap (nfld (mlIn l e.1) 127 104)).lastPt then some e else a) none
    let win : Option (Nat × Int) := match latest with
      | some e => some e
      | none => match vals.find? fun (e : Nat × Int) => e.1 == tag with
        | some e => some e
        | none => vals.head?
    (win.map fun (e : Nat × Int) => (e.2, e.1), sat, x2)

/-- A MERGE move (R253-R256). -/
def moveMerge (x : PlaneS) (t : Tables) (i : Inst) (m n lim : Nat) : PlaneS × Nat × Nat :=
  let l := t.merge (mvList m)
  let pr := t.prof (mvProf m)
  let rule := nfld (mlHead l) 127 126
  (List.range n).foldl (fun (acc : PlaneS × Nat × Nat) j =>
    let (x, sat, late) := acc
    let (win, s0, x1) := mergeField x t i l j
    let put := match win with
      | some (w, k) => some (w, k)
      | none => if nfld (mlHead l) 122 122 = 1 then some ((0 : Int), 0) else none
    match put with
    | none => (x1, if s0 then sat + 1 else sat, late)
    | some (w, k) =>
      let (wv, s1) := profMid t pr w
      let (v, s2) := profOut pr wv (mvDstW m) (mvDstSgn m) j i.epoch
      let sat1 := if s0 || s1 || s2 then sat + 1 else sat
      if j < lim then
        let x2 := x1.writeField i (mvOut m) (mvDstBit m + j * mvDstStride m) (mvDstW m) (mvDstLe m) v
        (if rule = 1 then x2.cvWrite i.half (nfld (mlHead l) 121 99 + j) (BitVec.ofNat 8 k) else x2, sat1, late)
      else (x1, sat1, late + 1)) (x, 0, 0)

/-- The runs of a delta payload as (offset, octets) (R40). -/
def deltaRuns : Nat → List Byte → List (Nat × List Byte)
  | 0, _ => []
  | fuel + 1, bs =>
    if bs.length < 4 then [] else
      let len := octs bs 2 2
      (octs bs 0 2, slice bs 4 len) :: deltaRuns fuel (bs.drop ((4 + len + 3) / 4 * 4))

/-- Octets cut at 64-octet lines: pieces of (octet, value) (R230). -/
def pieces : Nat → Nat → List Byte → List (List (Nat × Byte))
  | 0, _, _ => []
  | fuel + 1, a, bs =>
    if bs = [] then [] else
      let n := 64 - a % 64
      ((bs.take n).zipIdx.map fun e => (a + e.2, e.1)) :: pieces fuel (a + n) (bs.drop n)

/-- What applying one sentence does (R234-R236): pieces written, its cost without lines, truncated, in error, delta without
base, the new applied state. A sentence queued under another FRAG_LEN is cut to the present one: log 167. -/
def applyOne (e : Nat) (a : Applied) (r : Rec) (base n k : Nat) (pt : Int) (pEk : Int) (st : Nat) :
    List (List (Nat × Byte)) × Nat × Bool × Bool × Bool × Applied :=
  let sub := r.sent.sub.toNat
  let fl := nfld e 97 84
  if !entryValid e st || decide (nfld e 83 76 < sub) || r.err then ([], 0, false, true, false, a)
  else if !r.sent.key && !a.base.getLsbD sub then ([], 0, false, false, true, a)
  else
    let timed := r.target.isSome
    let a1 := { a with lastEpoch := some (r.target.getD k), lastArrival := r.arrival, lastPt := if timed then pt else pEk }
    let pay := r.sent.payload
    if r.sent.key then
      let img := if fl = 0 then slice pay 0 (2 * n) else pay.take fl
      (pieces 260 (base + (if fl = 0 then 0 else sub * fl)) img, (pay.length + 31) / 32,
        fl == 0 && decide (2 * n < pay.length), false, false, { a1 with base := a1.base ||| BitVec.ofNat 256 (2 ^ sub) })
    else
      let runs := deltaRuns 2048 pay
      (runs.flatMap fun q => pieces 260 (base + sub * fl + q.1) q.2,
        (runs.map fun q => 4 + (q.2.length + 31) / 32).sum, false, false, false, a1)

/-- Lines covered by pieces. -/
def pieceLines (ps : List (List (Nat × Byte))) : Nat :=
  ((ps.flatMap fun q => q.map fun e => e.1 / 64).eraseDups).length

/-- The cycles of a move other than APPLY (R257). -/
def moveCost (t : Tables) (m : Nat) : Nat :=
  let n := mvN m
  let dst := if mvOut m then 0 else runLines (mvDstBit m) (mvDstStride m) (mvDstW m) n
  let src := if mvSrc m = 2 then 0 else runLines (mvSrcBit m) (mvSrcStride m) (mvSrcW m) n
  if mvOp m = 0 then 1
  else if mvOp m = 2 then 8 + 2 * n + 2 * (src + dst)
  else if mvOp m = 4 then 8 + 2 * n + 2 * dst
  else if mvOp m = 5 then
    8 + (n + 31) / 32 + 2 * ((if mvSrc m = 2 then 0 else runLines (mvSrcBit m) 8 8 n) + if mvOut m then 0 else runLines (mvDstBit m) 8 8 n)
  else
    let l := t.merge (mvList m)
    let rule := nfld (mlHead l) 127 126
    let nIn := mlN l
    let ins := ((List.range nIn).map fun k =>
      let inp := mlIn l (k + 1)
      let run := runLines (nfld inp 79 54) (nfld inp 11 0) (nfld inp 30 26 + 1) n
      (if rule = 1 then 2 * run else run) +
        (if rule = 3 && nfld inp 103 80 ≠ 0 then runLines (nfld inp 53 31 * 8) 8 8 n else 0)).sum
    let tag := if rule = 1 then runLines (nfld (mlHead l) 121 99 * 8) 8 8 n else 0
    let per := if rule = 1 then 2 + 4 * nIn else if rule = 3 then 2 + 3 * nIn else 2 + 2 * nIn
    8 + per * n + 2 * (ins + dst + tag)

/-- Whether a move reads the Canvas (R230). -/
def readsCanvas (m : Nat) : Bool := mvOp m == 3 || ((mvOp m == 2 || mvOp m == 5) && mvSrc m != 2)

/-- The profiles a move uses, those of its merge list's inputs included (R246, R253). -/
def profsOf (t : Tables) (m : Nat) : List Nat :=
  if mvOp m = 3 then mvProf m :: (List.range (mlN (t.merge (mvList m)))).map fun k => nfld (mlIn (t.merge (mvList m)) (k + 1)) 23 12
  else if mvOp m = 2 ∨ mvOp m = 4 then [mvProf m] else []

/-- A move reads beyond the payload of its INPUT slot (R239). -/
def shortSource (i : Inst) (m : Nat) : Bool :=
  mvSrc m == 2 && (mvOp m == 2 || mvOp m == 5) && match inputOf i (mvSlot m) with
    | none => false
    | some pay => decide (8 * pay.length <
        if mvOp m = 5 then mvSrcBit m + 8 * mvN m else mvSrcBit m + (mvN m - 1) * mvSrcStride m + mvSrcW m)

/-- A move that reads an INPUT slot with no sentence (R239). -/
def emptyInput (i : Inst) (m : Nat) : Bool :=
  mvSrc m == 2 && (mvOp m == 2 || mvOp m == 5) && (inputOf i (mvSlot m)).isNone

end Sys2Proof.Machine
end

