-- ==== Sys2Proof/Machine/Jobs.lean ====
section
/-!
DEFINITION. The dispatcher (chapter 8): job descriptors, instances from opening to completion record, intake, cancellation, the
Canvas boundaries, and admission.
-/
namespace Sys2Proof.Machine

/-- The 32-bit word of a job descriptor that begins at octet `o` (R266). -/
def jw (d : BitVec 1024) (o : Nat) : Nat := nfld d.toNat (1023 - 8 * o) (992 - 8 * o)

def jValid (d : BitVec 1024) : Bool := nfld (jw d 0) 31 31 == 1
def jBuild (d : BitVec 1024) : Bool := nfld (jw d 0) 30 30 == 1
def jPrio (d : BitVec 1024) : Nat := nfld (jw d 0) 29 27
def jLog (d : BitVec 1024) : Bool := nfld (jw d 0) 26 26 == 1
def jFb (d : BitVec 1024) : Bool := nfld (jw d 0) 25 25 == 1
def jFirst (d : BitVec 1024) : Nat := nfld (jw d 0) 19 0
def jBuf (d : BitVec 1024) : Nat := nfld (jw d 4) 31 20
def jCount (d : BitVec 1024) : Nat := nfld (jw d 4) 19 0 + 1
def jFbFirst (d : BitVec 1024) : Nat := nfld (jw d 8) 19 0
def jFbCount (d : BitVec 1024) : Nat := nfld (jw d 12) 19 0 + 1
/-- TIMEOUT_OFS and DEADLINE_OFS in µs. -/
def jTimeout (d : BitVec 1024) : Int := sext 24 (nfld (jw d 16) 23 0)
def jDeadline (d : BitVec 1024) : Int := sext 24 (nfld (jw d 20) 23 0)
/-- The jobs named by valid AFTER fields. -/
def jAfter (d : BitVec 1024) : List Nat :=
  ((List.range 4).map fun i => nfld d.toNat (831 - 16 * i) (816 - 16 * i)).filterMap fun a =>
    if nfld a 15 15 = 1 then some (nfld a 11 0) else none
/-- Input slot `s` (R267). -/
def jSlot (d : BitVec 1024) (s : Nat) : Nat := nfld d.toNat (767 - 48 * s) (720 - 48 * s)
def slEn (x : Nat) : Bool := nfld x 47 47 == 1
def slWait (x : Nat) : Bool := nfld x 46 46 == 1
def slBase (x : Nat) : Bool := nfld x 45 45 == 1
def slDelta (x : Nat) : Bool := nfld x 44 44 == 1
def slMax (x : Nat) : Nat := nfld x 39 32
def slStream (x : Nat) : Nat := nfld x 23 0

/-- The enabled slots of a job. -/
def jSlots (d : BitVec 1024) : List Nat := (List.range 16).filter fun s => slEn (jSlot d s)

/-- The slot of a job to which a stream is bound (R267). -/
def slotOf (d : BitVec 1024) (st : Nat) : Option Nat := (jSlots d).find? fun s => slStream (jSlot d s) == st

/-- Release descriptor fields (R291). -/
def rdValid (r : BitVec 256) : Bool := nfld r.toNat 255 255 == 1
def rdKind (r : BitVec 256) : Nat := nfld r.toNat 254 252
def rdTarget (r : BitVec 256) : Nat := nfld r.toNat 251 246
def rdFormat (r : BitVec 256) : Nat := nfld r.toNat 245 244
def rdIdx (r : BitVec 256) : Nat := nfld r.toNat 235 224
def rdOfs (r : BitVec 256) : Int := sext 32 (nfld r.toNat 223 192)
def rdLen (r : BitVec 256) : Nat := nfld r.toNat 191 178
def rdAddr (r : BitVec 256) : Nat := nfld r.toNat 174 160
def rdStream (r : BitVec 256) : Nat := nfld r.toNat 151 128
def rdLead (r : BitVec 256) : Nat := nfld r.toNat 127 112
def rdEvery (r : BitVec 256) : Nat := nfld r.toNat 111 104
def rdPhase (r : BitVec 256) : Nat := nfld r.toNat 103 96
def rdObj (r : BitVec 256) : Nat := nfld r.toNat 95 88

/-- A release is declared in epoch `k` (R293). -/
def rdDeclared (r : BitVec 256) (k : Nat) : Bool := rdValid r && decide (0 < rdEvery r) && k % rdEvery r == rdPhase r

/-- The pin output number of a pin release: serial 0-31, CAN 32-39, pulse 40-55, LTC 56-57 (R60). -/
def outOf (r : BitVec 256) : Nat :=
  if rdKind r = 1 then rdTarget r else if rdKind r = 2 then 32 + rdTarget r else if rdKind r = 3 then 40 + rdTarget r
  else 56 + rdTarget r

/-- OSEQ of a pin release (R60, R293). -/
def oseqOf (k idx : Nat) : Word := BitVec.ofNat 32 (k % 2 ^ 20 * 4096 + idx)

def PlaneS.job (x : PlaneS) (j : Nat) : BitVec 1024 := Tab.get 0 j x.jobs
def PlaneS.desc (x : PlaneS) (d : Nat) : BitVec 256 := Tab.get 0 d x.descs
def PlaneS.instOf (x : PlaneS) (j : Nat) : Option Inst := Tab.find j x.inst
def PlaneS.modInst (x : PlaneS) (j : Nat) (f : Inst → Inst) : PlaneS :=
  match x.instOf j with
  | none => x
  | some i => { x with inst := Tab.put j (f i) x.inst }

/-- A descriptor with no release yet. -/
def DescS.none_ : DescS := { last := 0, launch := 0, prep := none, built := [], seq := none, done := none }

/-- A descriptor's last release. -/
def PlaneS.dst (x : PlaneS) (d : Nat) : DescS := Tab.get DescS.none_ d x.descSt
def PlaneS.modDst (x : PlaneS) (d : Nat) (f : DescS → DescS) : PlaneS :=
  { x with descSt := Tab.set DescS.none_ d (f (x.dst d)) x.descSt }
def PlaneS.setLast (x : PlaneS) (d l : Nat) : PlaneS := x.modDst d fun y => { y with last := l }

/-- Jobs run in this plane (R265). -/
def PlaneS.runsJobs (x : PlaneS) : Bool := decide (x.st = .active) || decide (x.st = .relearn)

/-- Every WAIT slot satisfied (R271). -/
def allSat (i : Inst) : Bool := (jSlots i.desc).all fun s => !slWait (jSlot i.desc s) || i.sat.getLsbD s

/-- WAIT slots not satisfied, as SLOT_MISS (R278). -/
def slotMiss (i : Inst) : BitVec 16 :=
  BitVec.ofNat 16 (((jSlots i.desc).filter fun s => slWait (jSlot i.desc s) && !i.sat.getLsbD s).map fun s => 2 ^ s).sum

/-- Every job named in AFTER has ended its instance of the epoch (R271). -/
def PlaneS.afterDone (x : PlaneS) (i : Inst) : Bool :=
  (jAfter i.desc).all fun a => match x.instOf a with | none => true | some b => b.epoch != i.epoch

/-- Moves an instance from WAIT to READY when R271 is met (R274). -/
def PlaneS.wakeInst (x : PlaneS) (j : Nat) : PlaneS :=
  match x.instOf j with
  | none => x
  | some i =>
    if i.st = .wait ∧ (allSat i || i.timedOut) ∧ x.afterDone i then
      { x with inst := Tab.put j { i with st := .ready, timedOut := !allSat i, slotMiss := slotMiss i } x.inst }
    else x

/-- Looks at every waiting instance again. -/
def PlaneS.wakeAll (x : PlaneS) : PlaneS := (x.inst.map Prod.fst).foldl PlaneS.wakeInst x

/-- The completion record of 16 octets (R278). -/
def complRec (j : Nat) (i : Inst) (outcome : Nat) (now : Int) : List Byte :=
  let flags := i.timedOut.toNat * 128 + i.late.toNat * 64 + i.ovf.toNat * 32 + i.gap.toNat * 16 + i.ecc.toNat * 8
  toBE 1 outcome ++ toBE 1 flags ++ toBE 2 j ++ toBE 4 i.epoch ++ toBE 2 i.slotMiss.toNat ++ toBE 2 i.slotGap.toNat ++
    toBE 2 (toU 16 (clamp (-32767) 32767 (Int.fdiv (i.deadline - now) unitsPerUs))) ++ toBE 2 (min (i.cycles / 64) 0xFFFF)

/-- Writes a record of four words, laid out as ING_RULE_DATA: word n holds octets 4n to 4n + 3 (R198). -/
def State.setWords (s : State) (off : Nat) (bs : List Byte) : State :=
  (List.range (bs.length / 4)).foldl (fun s i => s.setReg (off + 4 * i) (BitVec.ofNat 32 (octs bs (4 * i) 4))) s

/-- Enters a record in the completion log (R279). -/
def State.logCompl (s : State) (p : Plane) (bs : List Byte) : State :=
  let head := s.rf (R.DSP_LOG_HEAD p) 10 0
  let held := s.logHeld p
  if held = 1024 && !s.rb (R.DSP_CTL p) 0 then s.count (R.DSP_COUNTERS p 11)
  else
    let s1 := (s.setWords (R.DSP_LOG p (head % 1024) 0) bs).setRf (R.DSP_LOG_HEAD p) 10 0 (head + 1)
    if held = 1024 then
      (s1.setRf (R.DSP_LOG_TAIL p) 10 0 (s.rf (R.DSP_LOG_TAIL p) 10 0 + 1)).count (R.DSP_COUNTERS p 11)
    else s1.raiseIf (held == 767) (evOf p 148)

/-- Entries of a run. -/
def PlaneS.run (x : PlaneS) (first n : Nat) : List Nat :=
  (List.range n).map fun i => (Tab.get (0 : BitVec 128) (first + i) x.tabs.moves).toNat

/-- Every entry a job can run: main run and, with FB_EN, fallback run (R268). -/
def PlaneS.jobMoves (x : PlaneS) (d : BitVec 1024) : List Nat :=
  x.run (jFirst d) (jCount d) ++ if jFb d then x.run (jFbFirst d) (jFbCount d) else []

/-- The octets of a stream's image under an APPLY (R234). -/
def imageLen (e m : Nat) : Nat := if nfld e 97 84 = 0 then 2 * mvN m else nfld e 97 84 * (nfld e 83 76 + 1)

/-- Canvas bits of CUR that a run of fields names, as (first bit, length). -/
def runBits (b stride w n : Nat) : List (Nat × Nat) := (List.range n).map fun j => (b + j * stride, w)

/-- The bits of CUR a move writes, and reads (R243). -/
def PlaneS.moveBits (x : PlaneS) (d : BitVec 1024) (m : Nat) : List (Nat × Nat) × List (Nat × Nat) :=
  let op := mvOp m
  let n := mvN m
  let w := if mvOut m ∧ op ≠ 1 then []
    else if op = 1 then [(mvDstBit m, 8 * imageLen (x.streamEntry (slStream (jSlot d (mvSlot m)))) m)]
    else if op = 5 then [(mvDstBit m, 8 * n)]
    else if op = 0 then [] else runBits (mvDstBit m) (mvDstStride m) (mvDstW m) n
  let r := if op = 2 ∧ mvSrc m = 0 then runBits (mvSrcBit m) (mvSrcStride m) (mvSrcW m) n
    else if op = 5 ∧ mvSrc m = 0 then [(mvSrcBit m, 8 * n)]
    else []
  if op = 3 then
    let l := x.tabs.merge (mvList m)
    let tag := if nfld (mlHead l) 127 126 = 1 then [(8 * nfld (mlHead l) 121 99, 8 * n)] else []
    let ins := (List.range (mlN l)).flatMap fun k =>
      let i := mlIn l (k + 1)
      runBits (nfld i 79 54) (nfld i 11 0) (nfld i 30 26 + 1) n ++
        if nfld (mlHead l) 127 126 = 3 ∧ nfld i 103 80 ≠ 0 then [(8 * nfld i 53 31, 8 * n)] else []
    (w ++ tag, ins ++ tag)
  else (w, r)

/-- Two runs of bits share a bit. -/
def bitsMeet (a b : List (Nat × Nat)) : Bool := a.any fun p => b.any fun q => decide (p.1 < q.1 + q.2) && decide (q.1 < p.1 + p.2)

/-- Everything a move reads of the Canvas, PREV included, and the streams it takes from the job's slots (R87). -/
def PlaneS.moveFeeds (x : PlaneS) (d : BitVec 1024) (m : Nat) : List (Nat × Nat) × List Nat :=
  let op := mvOp m
  let n := mvN m
  let old := if op = 2 ∧ mvSrc m = 1 then runBits (mvSrcBit m) (mvSrcStride m) (mvSrcW m) n
    else if op = 5 ∧ mvSrc m = 1 then [(mvSrcBit m, 8 * n)] else []
  let slot := if op = 1 ∨ ((op = 2 ∨ op = 5) ∧ mvSrc m = 2) then [slStream (jSlot d (mvSlot m))] else []
  ((x.moveBits d m).2 ++ old, slot)

/-- Moves, as (written, read, streams), that write what a set of bits needs join it, until none does. -/
def growFeeds (ms : List (List (Nat × Nat) × List (Nat × Nat) × List Nat)) : Nat → List (Nat × Nat) × List Nat →
    List (Nat × Nat) × List Nat
  | 0, acc => acc
  | fuel + 1, acc =>
    let (hit, rest) := ms.partition fun m => bitsMeet m.1 acc.1
    if hit = [] then acc
    else growFeeds rest fuel (acc.1 ++ hit.flatMap (fun m => m.2.1), acc.2 ++ hit.flatMap (fun m => m.2.2))

/-- The streams that feed what build job `d` reads (R87). -/
def PlaneS.feedsOf (x : PlaneS) (d : BitVec 1024) : List Nat :=
  let own := (x.jobMoves d).map (x.moveFeeds d)
  let draws := ((x.jobs.filter fun e => jValid e.2 && !jBuild e.2).map Prod.snd).flatMap fun q => (x.jobMoves q).map fun m =>
    ((x.moveBits q m).1, x.moveFeeds q m)
  (growFeeds draws (draws.length + 1) (own.flatMap Prod.fst, own.flatMap Prod.snd)).2

/-- Every fragment that feeds build job `d` has a base image (R87). -/
def PlaneS.canCompute (x : PlaneS) (d : BitVec 1024) : Bool :=
  (x.feedsOf d).all fun st => baseAll (x.streamEntry st) (x.ap st)

/-- Every output of the image can be computed (R87). -/
def PlaneS.outputsReady (x : PlaneS) : Bool :=
  (x.jobs.filter fun e => jValid e.2 && jBuild e.2).all fun e => x.canCompute e.2

/-- LO_CFG.RATE as frames counted in a second (R318). -/
def ltcFps (rate : Nat) : Nat := if rate = 0 then 24 else if rate = 1 then 25 else 30

/-- The label of frame `n` of the day at 29.97 frame/s: SMPTE ST 12-1 drop-frame (R307). Log 28. -/
def dropLabel (n : Nat) : List Byte :=
  let d := n / 17982
  let m := n % 17982
  let k := n + 18 * d + if m < 2 then 0 else 2 * ((m - 2) / 1798)
  toBE 1 (k / 108000 % 24) ++ toBE 1 (k / 1800 % 60) ++ toBE 1 (k / 30 % 60) ++ toBE 1 (k % 30)

/-- The time address of release time `t` with TDd_LTC_OFS `ofs` (R307). -/
def ltcAddress (rate : Nat) (ofs : Int) (t : Int) : List Byte :=
  let sec := (((t.toNat / unitsPerSec : Nat) : Int) - ofs) % 86400
  let ns := t.toNat % unitsPerSec / 16
  if rate = 2 then dropLabel ((sec.toNat * 1000000000 + ns) * 30000 / 1001000000000)
  else toBE 1 (sec.toNat / 3600) ++ toBE 1 (sec.toNat / 60 % 60) ++ toBE 1 (sec.toNat % 60) ++
    toBE 1 (ns * ltcFps rate / 1000000000)

/-- The content of the frame copy of a release of epoch `k`: its buffer, with the address computed in AUTO format (R297, R307). -/
def State.copyData (s : State) (p : Plane) (k : Nat) (r : BitVec 256) : List Byte :=
  let buf := (s.pl p).buffer k r
  if rdKind r = 4 ∧ rdFormat r = 1 then
    ltcAddress (s.rf (R.LO_CFG (rdTarget r)) 30 29) (s.sreg (R.TD_LTC_OFS p (s.sel p))) (s.eK p k + rdOfs r * 16) ++ slice buf 4 4
  else buf

/-- Copies travel in the order in which their instances end, then in ascending descriptor order (R297). Log 146. -/
def enterPath (c : PathC) : List PathC → List PathC
  | [] => [c]
  | d :: ds => if d.cycle = c.cycle ∧ c.desc < d.desc then c :: d :: ds else d :: enterPath c ds

/-- The datapath cycle of release time. -/
def State.cycleOf (s : State) (p : Plane) : Int := Int.fdiv (s.release p) 16

/-- How a build instance ended, kept with its descriptor for two epochs (R294). -/
def PlaneS.noteBuilt (x : PlaneS) (d k : Nat) (ok : Bool) (r : BitVec 256) : PlaneS :=
  x.modDst d fun y => { y with built := (y.built.filter fun e => decide (e.1 ≠ k) && decide (k ≤ e.1 + 1)) ++ [(k, ok, r)] }

/-- A release descriptor of epoch `k` as it stood when its build instance opened, or as it stands where none has opened (R294). -/
def PlaneS.descAt (x : PlaneS) (d k : Nat) : BitVec 256 :=
  match (x.dst d).built.find? fun e => e.1 == k with
  | some e => e.2.2
  | none => match x.inst.find? fun e => jBuild e.2.desc && jBuf e.2.desc == d && e.2.epoch == k with
    | some e => e.2.rdesc
    | none => x.desc d

/-- The descriptors of which a release may be due. -/
def PlaneS.descKeys (x : PlaneS) : List Nat :=
  x.descs.map Prod.fst ++ (x.descSt.map Prod.fst).filter fun d => !x.descs.any fun e => e.1 == d

/-- What a build instance delivers at its end (R87, R297): a frame copy, a SKIP copy, or nothing; for an Ethernet release, that
its buffer is ready (R300). -/
def State.deliver (s0 : State) (p : Plane) (i : Inst) (outcome : Nat) : State :=
  let r := i.rdesc
  let d := jBuf i.desc
  let ok := outcome == 0 || outcome == 1 || outcome == 2 || outcome == 5
  let due := jBuild i.desc && rdDeclared r i.epoch
  let s := s0.when due fun s => s.modPl p fun x => x.noteBuilt d i.epoch ok r
  if !due || rdKind r == 0 then s
  else if (s.pl p).st = .relearn ∧ !(s.pl p).canCompute i.desc then s.modPl p fun x => x.setLast d 3
  else
    let c : Option (List Byte) := if ok then some (s.copyData p i.epoch r) else none
    if ok || outcome == 3 then
      let copy : Copy := { plane := p, oseq := oseqOf i.epoch (rdIdx r), obj := BitVec.ofNat 8 (rdObj r), data := c }
      let s1 := s.modPl p fun x => { x.setLast d (if ok then 1 else 2) with path := enterPath ⟨s.cycleOf p, d, outOf r, copy⟩ x.path }
      s1.count (R.REL_COUNTERS p (if ok then 4 else 5))
    else s.modPl p fun x => x.setLast d 3

/-- Ends an open instance with an outcome; one that ends in WAIT has not left it by timeout: completion record, counters, log, events, delivery (R274, R278, R279, R297).
`quiet` keeps the record out of the log (R438). -/
def State.finishInst (s : State) (p : Plane) (j end_ : Nat) (quiet0 : Bool) : State :=
  match (s.pl p).instOf j with
  | none => s
  | some i0 =>
    let i := if i0.st = .wait then { i0 with timedOut := false, slotMiss := slotMiss i0 } else i0
    let outcome := if end_ = 11 then 3 else end_
    let quiet := quiet0 || end_ == 11
    let bs := complRec j i outcome (s.release p)
    let s1 := s.modPl p fun x =>
      ({ x with inst := Tab.erase j x.inst, recs := Tab.set [] j bs x.recs,
                engs := x.engs.map fun e => match e with
                  | some g => if g.job = j then none else some g
                  | none => none } : PlaneS).wakeAll
    let s2 := s1.deliver p i outcome
    let s3 := if 1 ≤ outcome ∧ outcome ≤ 7 then s2.count (R.DSP_COUNTERS p (outcome - 1)) else s2
    let s4 := if !quiet && (outcome != 0 || jLog i.desc || s.rb (R.DSP_CTL p) 1) then s3.logCompl p bs else s3
    let s5 := s4.raiseIf (outcome == 4 || outcome == 5 || outcome == 6) (evOf p 145)
    s5.raiseIf (outcome == 1 || outcome == 2) (evOf p 146)

/-- Applies a cancellation to a job (R277). -/
def State.cancelJob (s : State) (p : Plane) (j : Nat) : State :=
  match (s.pl p).instOf j with
  | none => s.modPl p fun x => { x with cancel := if x.cancel.contains j then x.cancel else x.cancel ++ [j] }
  | some i =>
    if i.st = .run then s.modPl p fun x => x.modInst j fun i => { i with ending := some 3 }
    else s.finishInst p j 3 false

/-- A descriptor as an instance that opens takes it: as it stood before a change of this cycle (R242, R281, R314). -/
def PlaneS.openJob (x : PlaneS) (j : Nat) : BitVec 1024 := match x.before with | some t => Tab.get 0 j t.1 | none => x.job j
def PlaneS.openDesc (x : PlaneS) (d : Nat) : BitVec 256 := match x.before with | some t => Tab.get 0 d t.2 | none => x.desc d

/-- Opens the instance of job `j` for epoch `k` (R264, R265, R277, R481). -/
def State.openInst (s : State) (p : Plane) (j k : Nat) : State :=
  let x := s.pl p
  let d := x.openJob j
  let sat := BitVec.ofNat 16 (((jSlots d).filter fun q => x.obs.contains (BitVec.ofNat 24 (slStream (jSlot d q)), k)).map
    fun q => 2 ^ q).sum
  let i : Inst :=
    { epoch := k, st := .wait, desc := d, rdesc := x.openDesc (jBuf d),
      deadline := if jBuild d then s.eK p k + jDeadline d * unitsPerUs else s.gK p k,
      half := x.half, sat := sat, timedOut := false, late := false, ovf := false, gap := false, ecc := false, slotMiss := 0,
      slotGap := 0, fallback := false, slots := List.replicate 16 [], cycles := 0, ending := none }
  s.modPl p fun x => { x with inst := Tab.put j i x.inst }

/-- The valid jobs of a kind. -/
def PlaneS.jobsOf (x : PlaneS) (build : Bool) : List Nat :=
  (x.jobs.filter fun e => jValid e.2 && jBuild e.2 == build).map Prod.fst

/-- The jobs of a kind that are valid as instances open. -/
def PlaneS.openOf (x : PlaneS) (build : Bool) : List Nat :=
  match x.before with | some t => ({ x with jobs := t.1 } : PlaneS).jobsOf build | none => x.jobsOf build

/-- Opens the instances of one kind for epoch `k`; cancelled ones end at once (R264, R277, R438). None opens in IDLE, before
the canvas boundaries that follow it (R481), or while a FULL image is being written (R443). -/
def State.openJobs (s : State) (p : Plane) (build : Bool) (k : Nat) : State :=
  if !(s.pl p).runsJobs || s.rf R.AON_PWR_STATUS 31 30 == 1 || s.imgPause || (s.pl p).noOpen != 0 then s
  else
    let js := (s.pl p).openOf build
    let s1 := js.foldl (fun s j => s.openInst p j k) s
    let s2 := js.foldl (fun (s : State) j =>
      if (s.pl p).cancel.contains j then
        (s.finishInst p j 3 false).modPl p fun x => { x with cancel := x.cancel.filter (· != j) }
      else if s.snf.hold && !build then (s.finishInst p j 3 true).count (R.SNF_HOLD_CANCEL p)
      else s) s1
    s2.modPl p PlaneS.wakeAll

/-- Ends every open instance that `f` picks with SKIPPED, or with a cancellation that has taken effect (R264, R265, R278, R481). -/
def State.skipInsts (s : State) (p : Plane) (f : Inst → Bool) : State :=
  ((s.pl p).inst.filter fun e => f e.2).foldl (fun s e => match e.2.ending with
    | some 3 => s.finishInst p e.1 3 false
    | some 11 => s.finishInst p e.1 11 false
    | _ => s.finishInst p e.1 7 false) s

/-- The move at which an engine stands. -/
def EngS.move (g : EngS) : Nat := (Tab.get (0 : BitVec 128) g.entry g.tabs.moves).toNat

/-- Records in SEQ order (R234). -/
def insertSeq (r : Rec) : List Rec → List Rec
  | [] => [r]
  | q :: qs => if serial 32 r.sent.seq.toNat q.sent.seq.toNat < 0 then r :: q :: qs else q :: insertSeq r qs

def bySeq (rs : List Rec) : List Rec := rs.foldl (fun a r => insertSeq r a) []

/-- An APPLY move of which `lim` pieces reach the Canvas (R230, R234-R236, R257, R438): state, cycles, writes discarded. Discarded pieces
leave the applied state as they would have: log 168. -/
def State.moveApply (s : State) (p : Plane) (tb : Tables) (i : Inst) (m lim : Nat) : State × Nat × Nat :=
  let base := mvDstBit m / 8
  let (t, c, l, _) := (bySeq (i.slots.getD (mvSlot m) [])).foldl (fun (acc : State × Nat × Nat × Nat) r =>
    let (s, cost, late, room) := acc
    if s.snf.stopped.contains r.sent.stream then acc
    else
      let st := r.sent.stream.toNat
      let x := s.pl p
      let (ps, c, trunc, err, noBase, a) := applyOne (tb.stream st) (x.ap st) r base (mvN m) i.epoch
        (ofPt64 (s.release p) r.sent.pt64) (s.eK p i.epoch) st
      if err then (s.count (R.BU_COUNTERS p 5), cost, late, room)
      else if noBase then (s.count (R.ING_COUNTERS p 11), cost, late, room)
      else
        let ok := ps.take room
        let x1 := ok.foldl (fun x q => q.foldl (fun x e => x.cvWrite i.half e.1 e.2) x) x
        let s1 := s.setPl p { x1 with applied := Tab.set Applied.none_ (st % 2 ^ 18) a x1.applied }
        (s1.when trunc fun s => s.count (R.BU_COUNTERS p 4), cost + c + 2 * pieceLines ps, late + (ps.length - room),
          room - ps.length)) (s, 8, 0, lim)
  (t, c, l)

/-- A move with no errors in what it reads. -/
def noEcc : MoveEcc := ⟨0, false, [], false, [], [], []⟩

/-- The uncorrectable words that a move met (R259). -/
def eccBad (e : MoveEcc) : Nat :=
  e.entry.toNat + e.profs.length + e.list.toNat + e.luts.length + e.canvas.length + e.applied.length

/-- Corrected and uncorrectable words of the Burin memories (R259, R263). -/
def State.buEcc (s : State) (p : Plane) (fixed bad : Nat) : State :=
  ((s.addSat (R.BU_COUNTERS p 6) 31 0 fixed).addSat (R.BU_COUNTERS p 7) 31 0 bad).raiseIf (decide (0 < bad)) (evOf p 143)

/-- The base flags of streams whose applied state was uncorrectable are cleared (R259). -/
def PlaneS.loseBase (x : PlaneS) (sts : List Nat) : PlaneS :=
  { x with applied := x.applied.map fun e => if sts.contains e.1 then (e.1, { e.2 with base := 0 }) else e }

/-- What the uncorrectable words of a move do to the plane before it runs: counted, Canvas octets taken as 0, base flags lost (R259).
Log 142. -/
def State.moveEcc (s : State) (p : Plane) (e : MoveEcc) : State :=
  (s.modPl p fun x => ((x.zeroWords false ((e.canvas.filter fun c => !c.1).map Prod.snd)).zeroWords true
    ((e.canvas.filter fun c => c.1).map Prod.snd)).loseBase e.applied).buEcc p e.fixed (eccBad e)

/-- What they do to the engine for the rest of its job: LUT points taken as 0, profiles and lists not to be used (R259). -/
def EngS.mark (g : EngS) (e : MoveEcc) : EngS :=
  let lost (o : Nat) : Bool := e.luts.any fun l => o / 2048 == l.1 && o % 2048 / 4 == l.2
  { g with tabs := { g.tabs with luts := Tab.keep (fun o => !lost o) g.tabs.luts }, badProfs := g.badProfs ++ e.profs,
           badLists := if e.list then mvList g.move :: g.badLists else g.badLists }

/-- A move skipped for its uncorrectable entry, profile or merge list (R259). -/
def EngS.ruined (g : EngS) (e : MoveEcc) : Bool :=
  e.entry || ((profsOf g.tabs g.move).any fun n => g.badProfs.contains n) || (mvOp g.move == 3 && g.badLists.contains (mvList g.move))

/-- Works the first `n` fields of a move, of which `lim` writes reach the destination: state, cycles, writes discarded (R234-R257). -/
def State.workMove (s : State) (p : Plane) (t : Tables) (i : Inst) (m n lim : Nat) : State × Nat × Nat :=
  let x := s.pl p
  let done (r : PlaneS × Nat × Nat) : State × Nat × Nat :=
    ((s.setPl p r.1).addSat (R.BU_COUNTERS p 2) 31 0 r.2.1, moveCost t m, r.2.2)
  if mvOp m = 1 then s.moveApply p t i m lim
  else if mvOp m = 2 then done (moveField x t i m n lim)
  else if mvOp m = 3 then done (moveMerge x t i m n lim)
  else if mvOp m = 4 then done (moveConst x t i m n lim)
  else if mvOp m = 5 then (s.setPl p (moveCopy x i m n lim).1, moveCost t m, (moveCopy x i m n lim).2)
  else (s, 1, 0)

/-- Engine `e` works the entry it stands at and goes to the next, or stops where the window of its instance is over (R230, R237-R259,
R276, R277). How far a move came that the close of the window met is free. Log 18. -/
def State.runMove (s : State) (p : Plane) (e : Nat) (g0 : EngS) (i : Inst) (ecc : MoveEcc) (over_ : Bool) : State :=
  let g := g0.mark ecc
  let m := g.move
  let op := mvOp m
  let build := jBuild i.desc
  let ruined := g.ruined ecc
  let skip := ruined || emptyInput i m
  let cut := over_ && !skip && op != 0 && (!build || readsCanvas m)
  let (w, s1) := if cut then (s.moveEcc p ecc).free32 else (0, s.moveEcc p ecc)
  let n := if cut && build then w.toNat % mvN m else mvN m
  let lim := if !cut then 2 ^ 32 else if build then n else if op = 1 then w.toNat else w.toNat % (mvN m + 1)
  let (s2, cost, late) := if skip then (s1, 1, 0) else s1.workMove p g.tabs i m n lim
  let s3 := s2.when (!skip && shortSource i m) fun s => (s.count (R.BU_COUNTERS p 3)).raiseP p 144
  let s4 := if build then s3.when cut fun s => (s.count (R.BU_COUNTERS p 1)).raiseP p 142
    else s3.when (decide (0 < late)) fun s => (s.addSat (R.BU_COUNTERS p 0) 31 0 late).raiseP p 142
  let fields := if !skip && (op == 2 || op == 3 || op == 4) then n else 0
  let s5 := if fields = 0 then s4 else s4.setReg64 (R.BU_FIELDS_LO p) (s4.reg64 (R.BU_FIELDS_LO p) + fields)
  let ending := if over_ && i.ending.isNone then some 6 else i.ending
  s5.modPl p fun x =>
    { x.modInst g.job (fun i => { i with cycles := i.cycles + cost, ending := ending, ecc := i.ecc || ruined }) with
      used := x.used + cost
      engs := modAt e (fun _ => some { g with entry := g.entry + 1, left := if ending.isSome then 0 else g.left - 1 }) x.engs }

/-- The engine that runs a job, with its number. -/
def PlaneS.engOf (x : PlaneS) (j : Nat) : Option (Nat × EngS) :=
  x.engs.zipIdx.findSome? fun e => match e.1 with | some g => if g.job = j then some (e.2, g) else none | none => none

/-- Closes the window of job `j`'s instance (R230, R276): a running build stops after the move in progress, a running draw at the end of
its move. -/
def State.closeInst (s : State) (p : Plane) (j : Nat) : State :=
  match (s.pl p).instOf j with
  | none => s
  | some i =>
    if i.st ≠ .run then s.finishInst p j 4 false
    else if jBuild i.desc then
      let s1 := match (s.pl p).engOf j with
        | some (e, g) => if g.left = 0 then s else s.runMove p e g i noEcc true
        | none => s
      s1.finishInst p j (i.ending.getD 6) false
    else s.modPl p fun x => x.modInst j fun i => { i with ending := some (i.ending.getD 6) }

/-- JOB_WINDOW_CLOSE (R228, R276). -/
def State.windowClose (s : State) (p : Plane) (j : Nat) : State := s.when (s.egEn p (s.canvasEg p)) fun s => s.closeInst p j

/-- Closes the windows of all open instances of a kind. -/
def State.closeJobs (s : State) (p : Plane) (build : Bool) : State :=
  ((s.pl p).inst.filter fun e => jBuild e.2.desc == build).foldl (fun s e => s.closeInst p e.1) s

/-- A stream's LIVE for draw epoch `k` (R236, R438). -/
def State.judgeLive (s : State) (p : Plane) (k : Nat) : State :=
  let n := s.rf (R.BU_CTL p) 15 0
  s.modPl p fun x => { x with applied := x.applied.map fun e =>
    let en := (Tab.get (0 : BitVec 128) e.1 x.tabs.streams).toNat
    let fresh := match e.2.lastEpoch with | none => false | some l => decide (k ≤ l + n)
    let stopped := s.snf.stopped.any fun st => st.toNat % 2 ^ 18 == e.1 && entryValid en st.toNat
    (e.1, { e.2 with prev := e.2.live, live := baseAll en e.2 && fresh && !stopped }) }

/-- The canvas at boundary E(n): halves swap, LIVE is judged, draw instances of epoch n + 1 open (R228, R229, R236, R264). -/
def State.canvasBoundary (s : State) (p : Plane) (n : Nat) : State :=
  let s0 := ((s.pl p).inst.filter fun e => !jBuild e.2.desc).foldl (fun s e =>
    s.finishInst p e.1 (if e.2.st = .run then e.2.ending.getD 6 else 4) false) s
  let s1 := s0.modPl p fun x =>
    { x.carryAll with half := if x.started then !x.half else false, started := true, closed := false, stale := true, clean := [] }
  let used := (s1.pl p).used / 16
  let s2 := s1.setReg (R.DSP_USED_LAST p) (BitVec.ofNat 32 (min used 0xFFFFFFFF))
  let s3 := if (s2.reg (R.DSP_USED_PEAK p)).toNat < used then s2.setReg (R.DSP_USED_PEAK p) (BitVec.ofNat 32 (min used 0xFFFFFFFF)) else s2
  let s4 := s3.modPl p fun x => { x with used := 0 }
  ((s4.judgeLive p (n + 1)).openJobs p false (n + 1)).modPl p fun x => { x with before := none }

/-- The canvas at G(k): the drawing half closes, windows close, build instances open (R228, R264, R276); nothing while the canvas
generator is disabled or has had no boundary since it was enabled, or while the Canvas is closed. -/
def State.canvasClose (s : State) (p : Plane) : State :=
  if !(s.egEn p (s.canvasEg p) && s.rb (R.EG_CTL p (s.canvasEg p)) 30) || (s.pl p).closed then s
  else
    let k := ((s.pl p).egS (s.canvasEg p)).next
    let s1 := (s.closeJobs p false).closeJobs p true
    let s2 := s1.modPl p fun x => { x with closed := true }
    let s3 := s2.setRb (R.REL_STATUS p) 31 (k % 2 == 1)
    let s4 := s3.openJobs p true k
    s4.modPl p fun x => { x with obs := x.obs.filter fun o => decide (k < o.2) }

/-- The dispatcher observes word 0 of a completed record (R270). -/
def State.observe (s : State) (p : Plane) (r : Rec) : State :=
  if !r.sent.last then s
  else
    let st := r.sent.stream.toNat
    let x := s.pl p
    let hit := x.inst.filterMap fun e =>
      match slotOf e.2.desc st with
      | some q => if (r.target.getD e.2.epoch) = e.2.epoch then some (e.1, q) else none
      | none => none
    let x1 := hit.foldl (fun x e => x.modInst e.1 fun i => { i with sat := i.sat ||| BitVec.ofNat 16 (2 ^ e.2) }) x
    let x2 := match r.target with
      | some k => { x1 with obs := if x1.obs.contains (r.sent.stream, k) then x1.obs else x1.obs ++ [(r.sent.stream, k)] }
      | none => x1
    s.setPl p x2.wakeAll

/-- The epoch of the instance open for an untimed record's job (R270). -/
def PlaneS.openFor (x : PlaneS) (r : Rec) : Option Nat :=
  (x.inst.find? fun e => (slotOf e.2.desc r.sent.stream.toNat).isSome).map fun e => e.2.epoch

/-- The queues of a job's streams, ascending (R272). -/
def PlaneS.jobQueues (x : PlaneS) (d : BitVec 1024) : List Nat :=
  let qs := (jSlots d).map fun s => nfld (x.streamEntry (slStream (jSlot d s))) 51 43
  (List.range 512).filter fun q => qs.contains q

/-- Intake of one item into an instance (R272, R308). -/
def State.takeItem (s : State) (p : Plane) (i : Inst) (it : QItem) : State × Inst :=
  match it with
  | .gap g =>
    let s1 := s.count (R.DSP_COUNTERS p 9)
    let bitS := match slotOf i.desc g.firstStream.toNat with | some q => BitVec.ofNat 16 (2 ^ q) | none => 0
    (s1, { i with gap := true, slotGap := i.slotGap ||| bitS, cycles := i.cycles + 4 })
  | .record r =>
    let i1 := { i with cycles := i.cycles + 8 + 4 * r.words }
    match slotOf i.desc r.sent.stream.toNat with
    | none => (s.count (R.DSP_COUNTERS p 8), i1)
    | some q =>
      let t := match r.target with | some t => t | none => r.seenIn.getD i.epoch
      let full := decide (slMax (jSlot i.desc q) ≤ (i.slots.getD q []).length)
      let joined := decide (t < i.epoch)
      if joined && decide (t + 1 < i.epoch) && !r.keepLate then
        ((s.count (R.REL_COUNTERS p 0)).raiseP p 150, i1)
      else if full then (s.count (R.DSP_COUNTERS p 7), { i1 with ovf := true })
      else
        let i2 := { i1 with slots := modAt q (· ++ [r]) i1.slots, late := i1.late || joined }
        (s.when joined fun s => s.count (R.DSP_COUNTERS p 10), i2)

/-- Whether intake of epoch `k` stops at an item (R272). -/
def laterThan (k : Nat) : QItem → Bool
  | .gap _ => false
  | .record r => match r.target with | some t => decide (k < t) | none => false

/-- Items read from queue `q` with the uncorrectable words among them (R218): words of `ecc` before `from_` of the first were read
already. -/
def State.readItems (s : State) (p : Plane) (q from_ : Nat) (ecc : StoreEcc) (its : List QItem) : List QItem × State :=
  its.zipIdx.foldl (fun (acc : List QItem × State) e =>
    let ws := (ecc.bad.filter fun b => b.1 == q && b.2.1 == e.2 && decide (b.2.2 < e.1.words) && (e.2 != 0 || decide (from_ ≤ b.2.2))).map
      fun b => b.2.2
    let (it, t) := ws.eraseDups.foldl (fun (a : QItem × State) w => (a.2.badWord p q).spoil a.1 w) (e.1, acc.2)
    (acc.1 ++ [it], t)) ([], s)

/-- Intake from one queue, after a flush that is due: items whose words were read already, then the queue's own while the dispatcher is its
consumer (R208, R217, R218, R272). Log 16. -/
def State.intakeQueue (s0 : State) (p : Plane) (ecc : StoreEcc) (i : Inst) (q : Nat) : State × Inst :=
  let s := s0.flushNow p q
  let x := s.pl p
  let pre := (x.intake.filter fun e => e.1 == q).map Prod.snd
  let own := if s.qDispatcher p q then (x.q q).items else []
  let all := pre ++ own
  let got := all.takeWhile fun it => !laterThan i.epoch it
  let nPre := min got.length pre.length
  let nQ := got.length - nPre
  let left := pre.drop nPre
  let words := (((own.take nQ).filter fun it => match it with | .gap g => !g.reserve | .record _ => true).map
    QItem.words).sum - (if nQ = 0 then 0 else (x.q q).readPos)
  let s1 := s.modPl p fun x => { x with intake := (x.intake.filter fun e => e.1 != q) ++ left.map fun it => (q, it) }
  let s2 := if nQ = 0 then s1 else
    State.afterQ s1 (s1.modQ p q fun y =>
      { y with items := y.items.drop nQ, readPos := 0, head := (y.head + words) % 4 }.settle) p q
  let (mine, s3) := s2.readItems p q (x.q q).readPos ecc (own.take nQ)
  (pre.take nPre ++ mine).foldl (fun acc it => State.takeItem acc.1 p acc.2 it) (s3, i)

/-- The stream of an enabled BASE_REQ slot lacks a base flag, keyframes taken in this intake counted (R273). -/
def PlaneS.lacksBase (x : PlaneS) (i : Inst) : Bool :=
  (jSlots i.desc).any fun q =>
    let sl := jSlot i.desc q
    let st := slStream sl
    let got := (i.slots.getD q []).foldl (fun (b : BitVec 256) r =>
      if r.sent.key then b ||| BitVec.ofNat 256 (2 ^ r.sent.sub.toNat) else b) (x.ap st).base
    slBase sl && !baseAll (x.streamEntry st) { x.ap st with base := got }

/-- The instance an engine takes: highest list, then earliest deadline, then lowest index (R275). -/
def PlaneS.nextReady (x : PlaneS) : Option Nat :=
  ((x.inst.filter fun e => e.2.st == .ready).foldl (fun (a : Option (Nat × Inst)) e =>
    match a with
    | none => some e
    | some b =>
      if jPrio b.2.desc < jPrio e.2.desc ∨ (jPrio b.2.desc = jPrio e.2.desc ∧ e.2.deadline < b.2.deadline) then some e
      else a) none).map Prod.fst

/-- Engine `e` takes job `j`: intake, the choice of run, the release buffer cleared (R241, R242, R272, R273). -/
def State.startJob (s : State) (p : Plane) (e j : Nat) (ecc : StoreEcc) : State :=
  match (s.pl p).instOf j with
  | none => s
  | some i0 =>
    let (s1, i) := ((s.pl p).jobQueues i0.desc).foldl (fun acc q => State.intakeQueue acc.1 p ecc acc.2 q)
      (s.storeFixed p ecc.fixed, { i0 with st := .run, cycles := 16 })
    let x := s1.pl p
    let fb := jFb i.desc && x.lacksBase i
    let i1 := { i with fallback := fb }
    let g : EngS := { job := j, entry := if fb then jFbFirst i.desc else jFirst i.desc,
                      left := if fb then jFbCount i.desc else jCount i.desc, tabs := x.tabs, badProfs := [], badLists := [] }
    let base := rdAddr i.rdesc * 64
    let x1 := if jBuild i.desc then
        x.setBank i.epoch (Tab.keep (fun o => decide (o < base) || decide (base + rdLen i.rdesc ≤ o)) (x.bank i.epoch))
      else x
    s1.setPl p { x1 with inst := Tab.put j i1 x1.inst, used := x1.used + i1.cycles, engs := modAt e (fun _ => some g) x1.engs }

/-- The outcome of an instance whose run has ended (R276, R278). -/
def runOutcome (i : Inst) (now : Int) : Nat :=
  match i.ending with
  | some o => o
  | none =>
    if jBuild i.desc && decide (i.deadline < now) then 5
    else if i.fallback then 2 else if i.slotMiss != 0 then 1 else 0

/-- Release time has reached the end of an instance's window (R230, R264). -/
def State.windowOver (s : State) (p : Plane) (i : Inst) : Bool :=
  if jBuild i.desc then decide (s.gK p (i.epoch + 1) ≤ s.release p)
  else decide (i.deadline ≤ s.release p) || ((s.pl p).closed && i.ending.isSome)

/-- Jobs run only while the canvas generator is enabled; meanwhile open instances stand (R228). Log 143. -/
def State.jobsMove (s : State) (p : Plane) : Bool := s.egEn p (s.canvasEg p)

/-- Engine `e` executes the entry it stands at, if its operation is `op` (R237-R259). -/
def State.execMove (s : State) (p : Plane) (e op : Nat) (ecc : MoveEcc) : State :=
  match (s.pl p).engs.getD e none with
  | none => s
  | some g =>
    match (s.pl p).instOf g.job with
    | none => s
    | some i => if g.left = 0 ∨ mvOp g.move ≠ op ∨ !s.jobsMove p then s else s.runMove p e g i ecc (s.windowOver p i)

end Sys2Proof.Machine
end

