-- ==== Sys2Proof/Machine/Admit.lean ====
section
/-!
DEFINITION. Which sets of tables are refused (R240, R243, R245, R252, R268, R295) and admission (R282-R285). Each check is made
on a state that holds the candidate tables and period. Times of the response test are in units of 1 / (16 × DEN) ns, so that
nothing is rounded.
-/
namespace Sys2Proof.Machine

/-- A profile refused under R245. -/
def badProfile (pr : Nat) : Bool :=
  decide (47 < nfld pr 117 112) || decide (12 ≤ nfld pr 123 120) || decide (2 ≤ nfld pr 97 96) ||
    nfld pr 118 118 != 0 || nfld pr 103 98 != 0 || nfld pr 95 93 != 0 || nfld pr 87 86 != 0 || nfld pr 79 0 != 0 ||
    (nfld pr 125 125 == 1 && decide (sext 32 (nfld pr 159 128) < sext 32 (nfld pr 191 160))) ||
    (nfld pr 85 80 != 0 && nfld pr 126 126 == 1) || decide (32 < nfld pr 92 88 + nfld pr 85 80) ||
    (nfld pr 97 96 != 0 && nfld pr 126 126 == 0)

/-- A run of `n` fields lies within a half (R240). -/
def inHalf (b stride w n : Nat) : Bool := decide (b + (n - 1) * stride + w ≤ 2 ^ 26)

/-- A one-bit signed field read through a FRAC profile (R240, R252). -/
def badFrac (t : Tables) (sgn : Bool) (w prof : Nat) : Bool := sgn && w == 1 && nfld (t.prof prof) 127 127 == 1

/-- A merge list whose header is invalid, for moves of `n` fields (R252). -/
def badMerge (t : Tables) (l n : Nat) : Bool :=
  let h := mlHead l
  nfld h 125 123 == 7 || nfld h 98 0 != 0 ||
    (nfld h 127 126 == 1 && decide (2 ^ 23 < nfld h 121 99 + n)) ||
    ((List.range (mlN l)).any fun k =>
      let i := mlIn l (k + 1)
      !inHalf (nfld i 79 54) (nfld i 11 0) (nfld i 30 26 + 1) n ||
        (nfld h 127 126 == 3 && nfld i 103 80 != 0 && decide (2 ^ 23 < nfld i 53 31 + n)) ||
        badFrac t (nfld i 25 25 == 1) (nfld i 30 26 + 1) (nfld i 23 12))

/-- Fields that an operation does not use and that must be 0 (R237, R239). -/
def strayFields (m : Nat) : Bool :=
  let op := mvOp m
  nfld m 0 0 != 0 || (op == 0 && nfld m 123 1 != 0) ||
    (op == 1 && (nfld m 123 122 != 0 || nfld m 117 85 != 0 || nfld m 58 51 != 0 || nfld m 38 1 != 0)) ||
    (op == 3 && (nfld m 123 118 != 0 || nfld m 117 105 != 0 || nfld m 91 85 != 0 || nfld m 26 14 != 0)) ||
    (op == 4 && (nfld m 123 85 != 0 || nfld m 26 14 != 0)) ||
    (op == 5 && (nfld m 91 85 != 0 || nfld m 58 52 != 0 || nfld m 38 1 != 0))

/-- A move entry refused whatever job runs it (R237, R239, R240, R252). -/
def badEntry (t : Tables) (m : Nat) : Bool :=
  let op := mvOp m
  let n := mvN m
  let dstLen := if op = 5 then 8 * n else (n - 1) * mvDstStride m + mvDstW m
  decide (6 ≤ op) || mvSrc m == 3 || strayFields m ||
    (op == 2 && mvSrc m != 2 && !inHalf (mvSrcBit m) (mvSrcStride m) (mvSrcW m) n) ||
    (op == 2 && mvSrc m == 2 && decide (65536 < mvSrcBit m + (n - 1) * mvSrcStride m + mvSrcW m)) ||
    (op == 5 && mvSrc m != 2 && !inHalf (mvSrcBit m) 0 (8 * n) 1) ||
    (op == 5 && mvSrc m == 2 && decide (65536 < mvSrcBit m + 8 * n)) ||
    ((op == 5 || op == 1) && mvDstBit m % 8 != 0) || (op == 5 && mvSrcBit m % 8 != 0) ||
    (decide (2 ≤ op) && !mvOut m && decide (2 ^ 26 < mvDstBit m + dstLen)) ||
    (op == 3 && badMerge t (t.merge (mvList m)) n) ||
    (op == 2 && badFrac t (mvSrcSgn m) (mvSrcW m) (mvProf m))

/-- A move entry refused in job `d` (R240, R268). Log 122 for LTP in a build job. -/
def PlaneS.badMove (x : PlaneS) (d : BitVec 1024) (m : Nat) : Bool :=
  let op := mvOp m
  let n := mvN m
  let build := jBuild d
  let slot := jSlot d (mvSlot m)
  let reads := op == 2 || op == 5
  let dstLen := if op = 5 then 8 * n else (n - 1) * mvDstStride m + mvDstW m
  badEntry x.tabs m || (op != 0 && (
    (reads && mvSrc m == 1 && build) ||
    (op == 3 && build && nfld (mlHead (x.tabs.merge (mvList m))) 127 126 == 1) ||
    (op != 1 && mvOut m != build) || (op == 1 && build) ||
    ((op == 1 || (reads && mvSrc m == 2)) && !slEn slot) ||
    (op != 1 && mvOut m && decide (8 * rdLen (x.desc (jBuf d)) < mvDstBit m + dstLen)) ||
    (op == 1 && decide (2 ^ 23 < mvDstBit m / 8 + imageLen (x.streamEntry (slStream slot)) m))))

/-- The jobs on which job `j` waits, directly or not (R268). -/
def PlaneS.waits (x : PlaneS) : Nat → Nat → List Nat
  | 0, _ => []
  | fuel + 1, j => let as := jAfter (x.job j); as ++ as.flatMap (x.waits fuel)

/-- The numbers of the valid jobs. -/
def PlaneS.validJobs (x : PlaneS) : List Nat := (x.jobs.filter fun e => jValid e.2).map Prod.fst

/-- Every job some job waits on, over chains no longer than the number of jobs. -/
def PlaneS.waitsOn (x : PlaneS) (j : Nat) : List Nat := x.waits (x.validJobs.length + 1) j

/-- Two draw jobs that touch the same bits without waiting (R243). -/
def PlaneS.conflict (x : PlaneS) : Bool :=
  let js := x.jobsOf false
  let bits := js.map fun j =>
    let ms := (x.jobMoves (x.job j)).map (x.moveBits (x.job j))
    (j, ms.flatMap Prod.fst, ms.flatMap Prod.snd)
  bits.any fun a => bits.any fun b =>
    decide (a.1 < b.1) && !(x.waitsOn a.1).contains b.1 && !(x.waitsOn b.1).contains a.1 &&
      (bitsMeet a.2.1 b.2.1 || bitsMeet a.2.1 b.2.2 || bitsMeet a.2.2 b.2.1)

/-- A job descriptor, VALID or not, with a reserved bit that is not 0, or a draw job's BUF or DEADLINE_OFS that is not 0 (R268). -/
def badJobBits (d : BitVec 1024) : Bool :=
  nfld (jw d 0) 24 20 != 0 || nfld (jw d 8) 31 20 != 0 || nfld (jw d 12) 31 20 != 0 || nfld (jw d 16) 31 24 != 0 ||
    nfld (jw d 20) 31 24 != 0 || ((List.range 4).any fun i => nfld d.toNat (830 - 16 * i) (828 - 16 * i) != 0) ||
    ((List.range 16).any fun q => nfld (jSlot d q) 43 40 != 0 || nfld (jSlot d q) 31 24 != 0) ||
    (!jBuild d && (jBuf d != 0 || jDeadline d != 0))

/-- Whether the candidate job descriptor `j` is refused under R268. -/
def State.badJob (s : State) (p : Plane) (j : Nat) : Bool :=
  let x := s.pl p
  let d := x.job j
  let c := s.canvasEg p
  let num := s.egNum p c
  let den := s.egDen p c
  let g : Int := s.guardUs p
  let perScaled : Int := num * 1000000
  let us (v : Int) : Int := v * den
  let build := jBuild d
  let slots := jSlots d
  let streams := slots.map fun q => slStream (jSlot d q)
  let others := (x.validJobs.filter (· != j)).map x.job
  let queueOf (st : Nat) := nfld (x.streamEntry st) 51 43
  badJobBits d ||
    decide (2 ^ 20 < jFirst d + jCount d) || (jFb d && decide (2 ^ 20 < jFbFirst d + jFbCount d)) ||
    (slots.any fun q => slMax (jSlot d q) == 0) ||
    (streams.any fun st => !entryValid (x.streamEntry st) st || !s.rf (R.Q_CFG p (queueOf st)) 31 30 == 0) ||
    decide (streams.length ≠ streams.eraseDups.length) ||
    (others.any fun o => (jSlots o).any fun q =>
      let st := slStream (jSlot o q)
      streams.contains st || streams.any fun u => queueOf u == queueOf st) ||
    ((jAfter d).any fun a => a == j || !jValid (x.job a) || jBuild (x.job a) != build) ||
    (x.waitsOn j).contains j ||
    (if build then
      decide (us (jDeadline d) < us (1 - g)) || decide (perScaled - us g < us (jDeadline d)) ||
        decide (jTimeout d < -g) || decide (jDeadline d < jTimeout d)
     else decide (us (jTimeout d) < -perScaled) || decide (-g < jTimeout d))

/-- A release descriptor, VALID or not, with a reserved KIND or a reserved bit that is not 0 (R291, R295). -/
def badDescBits (r : BitVec 256) : Bool :=
  let n := r.toNat
  decide (4 < rdKind r) || nfld n 243 236 != 0 || nfld n 177 175 != 0 || nfld n 159 152 != 0 || nfld n 87 0 != 0

/-- P in 1/16 ns, rounded up to a whole unit. -/
def State.ofsLimit (s : State) (p : Plane) (ns : Int) : Bool :=
  let c := s.canvasEg p
  decide (ns < 0) || decide ((s.egNum p c * 1000000000 : Nat) ≤ ns * (s.egDen p c : Nat))

/-- Hand-off bound of a pin release in units of 1/2 ns (R295, R297). -/
def State.handOff (s : State) (p : Plane) (j : Nat) : Nat :=
  let x := s.pl p
  let dl := jDeadline (x.job j)
  1000 + ((x.jobsOf true).map fun i =>
    let r := x.desc (jBuf (x.job i))
    if (i = j ∨ jDeadline (x.job i) ≤ dl) ∧ rdKind r ≠ 0 then rdLen r + 16 else 0).sum

/-- Whether release descriptor `k` is refused on its own or against the others (R291, R292, R295). -/
def State.badDesc (s : State) (p : Plane) (k : Nat) : Bool :=
  let x := s.pl p
  let r := x.desc k
  let kind := rdKind r
  let c := s.canvasEg p
  let num := s.egNum p c
  let den := s.egDen p c
  let others := (x.descs.filter fun e => rdValid e.2 && e.1 != k).map Prod.snd
  let row :=
    if kind = 0 then
      decide (3 < rdTarget r) || decide (1 < rdFormat r) || rdIdx r != 0 ||
        (if rdFormat r = 0 then decide (rdLen r < 14) || decide (9202 < rdLen r) || rdStream r != 0 || rdLead r != 0
         else decide (8192 < rdLen r))
    else if kind = 1 then decide (31 < rdTarget r) || rdFormat r != 0 || decide (rdLen r < 1) || decide (4096 < rdLen r)
    else if kind = 2 then decide (7 < rdTarget r) || rdFormat r != 0 || decide (rdLen r < 8) || decide (72 < rdLen r)
    else if kind = 3 then decide (15 < rdTarget r) || rdFormat r != 0 || rdLen r != 16
    else if kind = 4 then decide (1 < rdTarget r) || decide (1 < rdFormat r) || rdLen r != 8
    else true
  let wire (q : BitVec 256) : Nat := if rdFormat q = 0 then rdLen q + 34 else rdLen q + 80
  let slow := s.rb (R.PORT_CFG p (rdTarget r)) 28
  row || badDescBits r ||
    (kind != 0 && (rdStream r != 0 || rdLead r != 0)) || (kind != 2 && rdObj r != 0) ||
    decide (2 ^ 21 < rdAddr r * 64 + rdLen r) || rdEvery r == 0 || decide (rdEvery r ≤ rdPhase r) ||
    s.ofsLimit p (rdOfs r) ||
    (kind != 0 && others.any fun o => rdKind o != 0 && outOf o == outOf r &&
      (rdIdx o == rdIdx r || rdOfs o == rdOfs r || (decide (rdIdx o < rdIdx r) != decide (rdOfs o < rdOfs r)))) ||
    (kind == 0 && rdFormat r == 0 && s.portMode p (rdTarget r) != 2) ||
    (kind == 0 && rdFormat r == 1 && !entryValid (x.streamEntry (rdStream r)) (rdStream r)) ||
    (kind == 0 && s.portMode p (rdTarget r) == 2 && others.any fun o =>
      rdKind o == 0 && rdTarget o == rdTarget r &&
        (let (a, b) := if rdOfs r ≤ rdOfs o then (r, o) else (o, r)
         decide ((rdOfs b - rdOfs a) * 100 < if slow then (wire a * 80 + 640 : Nat) else (wire a * 32 + 256 : Nat)))) ||
    (kind == 4 && (let rate := s.rf (R.LO_CFG (rdTarget r)) 30 29
      !((rate == 0 && num * 24 == den) || (rate == 1 && num * 25 == den) || (rate == 2 && num * 30000 == 1001 * den) ||
        (rate == 3 && num * 30 == den))))

/-- Whether the builds and the descriptors they name are refused (R295). -/
def State.badBuilds (s : State) (p : Plane) : Bool :=
  let x := s.pl p
  let js := x.jobsOf true
  let bufs := js.map fun j => jBuf (x.job j)
  decide (bufs.length ≠ bufs.eraseDups.length) ||
    js.any fun j =>
      let r := x.desc (jBuf (x.job j))
      let dl := jDeadline (x.job j) * 1000
      !rdValid r ||
        (if rdKind r = 0 then decide (rdOfs r - 1000 < dl)
         else decide (2 * rdOfs r < 2 * dl + s.handOff p j + 200 * s.rf R.LDH_CTL 7 0))

/-- pmax of a slot (R282). -/
def PlaneS.pmax (x : PlaneS) (sl : Nat) : Nat :=
  let fl := nfld (x.streamEntry (slStream sl)) 97 84
  if !slDelta sl && fl != 0 then fl else 8192

/-- The cost of a run in admission (R282). -/
def PlaneS.runCost (x : PlaneS) (d : BitVec 1024) (ms : List Nat) : Nat :=
  (ms.map fun m =>
    if mvOp m = 1 then
      let sl := jSlot d (mvSlot m)
      let len := imageLen (x.streamEntry (slStream sl)) m
      8 + 2 * runLines (mvDstBit m) 0 (8 * len) 1 +
        slMax sl * (if slDelta sl then 5120 else (x.pmax sl + 31) / 32)
    else moveCost x.tabs m).sum

/-- C of a job (R282). -/
def PlaneS.jobCost (x : PlaneS) (j : Nat) : Nat :=
  let d := x.job j
  let intake := ((jSlots d).map fun q =>
    let sl := jSlot d q
    slMax sl * (8 + 4 * (1 + (x.pmax sl + 63) / 64))).sum
  let main := x.runCost d (x.run (jFirst d) (jCount d))
  let fb := if jFb d then x.runCost d (x.run (jFbFirst d) (jFbCount d)) else 0
  16 + intake + max main fb

/-- floor(14.4 × P) in cycles (R283). -/
def State.admitLimit (s : State) (p : Plane) : Nat :=
  let c := s.canvasEg p
  s.egNum p c * 14400000000 / s.egDen p c

/-- A job's window from E(k) in units of 1 / (16 × DEN) ns: opening and deadline (R264, R283). -/
def State.window (s : State) (p : Plane) (j : Nat) : Int × Int :=
  let d := (s.pl p).job j
  let c := s.canvasEg p
  let den : Int := s.egDen p c
  let g : Int := s.guardUs p
  let us (v : Int) : Int := v * 16000 * den
  if jBuild d then (us (-g), us (jDeadline d)) else (-(s.egNum p c * 16000000000 : Nat), us (-g))

/-- Instances of a window repeated at the period that overlap `[a, b)`: those `m` with w.1 + m × per < b and a < w.2 + m × per (R283). -/
def overlaps (w : Int × Int) (a b per : Int) : Nat :=
  if b ≤ a ∨ w.2 ≤ w.1 then 0 else (-Int.fdiv (w.1 - b) per - 1 - Int.fdiv (a - w.2) per).toNat

/-- The 16 largest of a list. -/
def insDesc (x : Nat) : List Nat → List Nat
  | [] => [x]
  | y :: ys => if y ≤ x then x :: y :: ys else y :: insDesc x ys

def largest16 (xs : List Nat) : Nat := ((xs.foldl (fun a x => insDesc x a) []).take 16).sum

/-- f(j) of the response test, in units of 1 / (16 × DEN) ns (R283). -/
def State.respF (s : State) (p : Plane) (costs : List (Nat × Nat)) : Nat → Nat → Int
  | 0, _ => 0
  | fuel + 1, j =>
    let x := s.pl p
    let d := x.job j
    let c := s.canvasEg p
    let den := s.egDen p c
    let per : Int := (s.egNum p c * 16000000000 : Nat)
    let us1 : Int := 16000 * den
    let (a, dl) := s.window p j
    let r0 := if (jSlots d).any fun q => slWait (jSlot d q) then jTimeout d * 16000 * den else a
    let r := (jAfter d).foldl (fun r i => max r (s.respF p costs fuel i)) r0
    let rel := fun i => (x.waitsOn i).contains j || (x.waitsOn j).contains i
    let rivals := (costs.filter fun e => e.1 != j && !rel e.1).map fun e =>
      let w := s.window p e.1
      (e.2, overlaps (w.1, w.2 - us1) a (dl - us1) per, decide (jPrio d ≤ jPrio (x.job e.1)))
    let isum := ((rivals.filter fun e => e.2.2).map fun e => e.1 * e.2.1).sum
    let bsum := largest16 ((rivals.filter fun e => !e.2.2).flatMap fun e => List.replicate e.2.1 e.1)
    let cj := (costs.find? fun e => e.1 == j).elim 0 Prod.snd
    r + ((isum + bsum) * den + cj * 16 * den : Nat)

/-- What admission finds: sum of C, result of 12 octets when refused, smallest slack and its job, slack by job (R283, R284). -/
def State.admission (s : State) (p : Plane) : Nat × Option (List Byte) × Option (Int × Nat) × List (Nat × Nat × Int) :=
  let x := s.pl p
  let js := x.validJobs
  let costs := js.map fun j => (j, x.jobCost j)
  let total := (costs.map Prod.snd).sum
  let lim := s.admitLimit p
  let den : Int := s.egDen p (s.canvasEg p)
  let slacks := costs.map fun e => (e.1, e.2, (s.window p e.1).2 - 16000 * den - s.respF p costs (js.length + 1) e.1)
  let worst := slacks.foldl (fun (a : Option (Int × Nat)) e =>
    match a with
    | none => some (Int.fdiv e.2.2 (16 * den), e.1)
    | some b => if Int.fdiv e.2.2 (16 * den) < b.1 then some (Int.fdiv e.2.2 (16 * den), e.1) else a) none
  let bad := slacks.find? fun e => decide (e.2.2 < 0)
  let res := if lim < total then some (toBE 1 1 ++ [0] ++ toBE 2 0xFFFF ++ toBE 8 (total - lim))
    else bad.map fun e => toBE 1 2 ++ [0] ++ toBE 2 e.1 ++ toBE 8 (-(Int.fdiv e.2.2 (16 * den))).toNat
  (total, res, worst, slacks.map fun e => (e.1, e.2.1, Int.fdiv e.2.2 (16 * den)))

/-- Shows the admitted set in the dispatcher's registers (R287). -/
def State.showAdmission (s : State) (p : Plane) : State :=
  let (total, _, worst, slacks) := s.admission p
  let s1 := (s.setReg64 (R.DSP_ADMIT_SUM_LO p) total).setReg64 (R.DSP_ADMIT_LIMIT_LO p) (s.admitLimit p)
  let s2 := match worst with
    | none => (s1.setReg (R.DSP_MIN_SLACK p) 0).setReg (R.DSP_MIN_SLACK_JOB p) 0
    | some (v, j) => (s1.setReg (R.DSP_MIN_SLACK p) (BitVec.ofNat 32 (min v.toNat 0xFFFFFFFF))).setReg (R.DSP_MIN_SLACK_JOB p) (BitVec.ofNat 32 j)
  s2.modPl p fun x => { x with cost := slacks.map fun e => (e.1, e.2.1, e.2.2) }

/-- Repeats admission at a commit of the period or the guard time (R285). -/
def State.readmit (s : State) (p : Plane) : State :=
  let s1 := s.showAdmission p
  if (s.admission p).2.1.isSome then
    let s2 := s1.setRb (R.DSP_STATUS p) 31 true
    if s.rb (R.DSP_STATUS p) 31 then s2 else s2.raiseP p 149
  else s1.setRb (R.DSP_STATUS p) 31 false

end Sys2Proof.Machine
end

