-- ==== Sys2Proof/Machine/Time.lean ====
section
/-!
DEFINITION. Staged blocks (R13-R16), domain commits and folds, domain switching, time jumps, epoch generators, servo states, and
the Lantern timebase (chapter 3).
-/
namespace Sys2Proof.Machine

/-- The stage copy of a register (R13, R16): what was written since it last equalled the active value. -/
def State.staged (s : State) (off : Nat) : Word := (Tab.find off s.stage).getD (s.reg off)

/-- Writes a stage copy. -/
def State.setStaged (s : State) (off : Nat) (v : Word) : State := { s with stage := Tab.put off v s.stage }

def State.setStaged64 (s : State) (off v : Nat) : State :=
  (s.setStaged off (BitVec.ofNat 32 v)).setStaged (off + 4) (BitVec.ofNat 32 (v / 2 ^ 32))

/-- Stage copies of the registers in `[lo, hi)` reload from the active values. -/
def State.unstage (s : State) (lo hi : Nat) : State :=
  { s with stage := Tab.keep (fun o => decide (o < lo) || decide (hi ≤ o)) s.stage }

/-- PENDING of the block at stage control register `sc` (R13). -/
def State.pendingAt (s : State) (sc : Nat) : Bool := s.rb sc 31

/-- COMMIT: snapshots the stage copy, or OVERRUN while one is pending (R13-R15). -/
def State.commit (s : State) (sc : Nat) : State :=
  if s.pendingAt sc then s.setRb sc 30 true
  else
    let block := s.stage.filter fun e => decide (sc ≤ e.1) && decide (e.1 < stageEnd sc)
    { s with snap := block.foldl (fun t (e : Nat × Word) => Tab.put e.1 e.2 t) s.snap }.setRb sc 31 true

/-- Ends a pending commit: the snapshot is gone and PENDING clears (R14). -/
def State.endCommit (s : State) (sc : Nat) : State :=
  { s with snap := Tab.keep (fun o => decide (o < sc) || decide (stageEnd sc ≤ o)) s.snap }.setRb sc 31 false

/-- DISCARD: the stage copy reloads and a pending commit is cancelled (R13). -/
def State.discard (s : State) (sc : Nat) : State := (s.unstage sc (stageEnd sc)).endCommit sc

/-- Applies the whole snapshot of a block to its active registers (R14). -/
def State.applyBlock (s : State) (sc : Nat) : State :=
  let block := s.snap.filter fun e => decide (sc ≤ e.1) && decide (e.1 < stageEnd sc)
  (block.foldl (fun (s : State) e => s.setReg e.1 e.2) s).endCommit sc

/-- A plane in a cold start folds nothing into BRIDGE (R475). -/
def PlaneS.cold (x : PlaneS) : Bool := match x.relearn with | some r => r.cold | none => false

/-- The consequences of a fold for BRIDGE_MAX (R115). -/
def State.checkBridge (s : State) (p : Plane) : State :=
  if s.bridgeMax p < (s.pl p).bridge.natAbs then
    (s.raise 123).when (s.rb (R.TB_CTL p) 24) fun s => s.modPl p fun x => { x with jump := true }
  else s

/-- A domain commit reaches its raw tick (R99, R100, R112, R127). -/
def State.tdApply (s : State) (p : Plane) (d : Nat) : State :=
  let sc := R.TD_STAGE_CTL p d
  if !s.pendingAt sc then s
  else
    let raw := (s.pl p).raw.toNat
    let dial := s.dial p d
    let kind := fld (s.snapReg (R.TD_KIND p d)) 1 0
    let inc := s.snapReg (R.TD_INC_ADJ p d)
    let step := s.snapReg (R.TD_STEP p d)
    let seed := ((s.pl p).dom.getD d DomS.rest).seed
    let offset : Nat :=
      if seed then s.lantern
      else if kind = 2 then s.snap64 (R.TD_OFFSET_NS_LO p d) * 16 + fld (s.snapReg (R.TD_OFFSET_FRAC p d)) 3 0
      else if kind = 1 then toU 68 ((dial : Int) + sext 32 step.toNat) else dial
    let anchor := if seed then raw else if kind = 2 then s.snap64 (R.TD_ANCHOR_LO p d) else raw
    let s1 := (((s.setReg (R.TD_KIND p d) (s.snapReg (R.TD_KIND p d))).setReg (R.TD_INC_ADJ p d) inc).setReg (R.TD_STEP p d) step)
    let s2 := ((s1.setReg64 (R.TD_OFFSET_NS_LO p d) (offset / 16)).setReg (R.TD_OFFSET_FRAC p d) (BitVec.ofNat 32 (offset % 16)))
    let s3 := (s2.setReg64 (R.TD_ANCHOR_LO p d) anchor).endCommit sc
    let s4 := ((s3.unstage (R.TD_INC_ADJ p d) (R.TD_STEP p d)).unstage (R.TD_OFFSET_NS_LO p d) (R.TD_CFG p d)).setStaged (R.TD_STEP p d) 0
    let s5 := s4.modPl p fun x => { x with dom := modAt d (fun y => { y with seed := false }) x.dom }
    if (kind = 1 ∨ kind = 2) ∧ s.sel p = d ∧ !(s.pl p).cold ∧ !seed then
      let delta := sext 68 (toU 68 ((s5.dial p d : Int) - dial))
      (s5.modPl p fun x => { x with bridge := x.bridge - delta }).checkBridge p
    else s5

/-- Copies the lead plane's generator parameters into the Lantern mirror (R128). -/
def State.mirrorFrom (s : State) (p : Plane) (g : Nat) : State :=
  if s.lead = p then
    { s with mirror := modAt g (fun m => { m with num := s.egNum p g, den := s.egDen p g, base := s.egBase p g,
                                                  origin := s.egOrigin p g }) s.mirror }
  else s

/-- Changes a generator's counter. -/
def State.modEg (s : State) (p : Plane) (g : Nat) (f : EgS → EgS) : State :=
  s.modPl p fun x => { x with eg := modAt g f x.eg }

/-- The enabling of a generator takes effect (R121, R128). -/
def State.egStart (s : State) (p : Plane) (g : Nat) : State :=
  let n := epochAfter (s.egBase p g) (s.egOrigin p g) (s.egNum p g) (s.egDen p g) (s.release p)
  let s1 := s.modEg p g fun e => { e with live := true, next := n }
  if s.lead = p then
    let s2 := s1.mirrorFrom p g
    { s2 with mirror := modAt g (fun m => { m with en := true, next := n }) s2.mirror }
  else s1

/-- A commit of a generator applies (R120, R121, R128); the flag tells that its parameters are new. With a refused commit, an enabling
that waited for it takes effect under the parameters as they stand: log 133. -/
def State.egCommit (s : State) (p : Plane) (g : Nat) : State × Bool :=
  let sc := R.EG_STAGE_CTL p g
  if !s.pendingAt sc then (s, false)
  else
    let num := s.snapReg (R.EG_NUM p g)
    let den := s.snapReg (R.EG_DEN p g)
    if !validPeriod num.toNat den.toNat then
      let s1 := ((s.endCommit sc).setRb (R.EG_CTL p g) 29 true).raise 127
      (if s.egEn p g && !((s.pl p).egS g).live then s1.egStart p g else s1, false)
    else
      let e := (s.pl p).egS g
      let s1 :=
        if e.live then
          let m := e.index
          let s2 := (s.setReg64 (R.EG_BASE_NS_LO p g) (s.egTime p g m / 16)).setReg64 (R.EG_ORIGIN_LO p g) m
          ((s2.setReg (R.EG_NUM p g) num).setReg (R.EG_DEN p g) den).endCommit sc |>.unstage (R.EG_BASE_NS_LO p g) (R.EG_INDEX_LO p g)
        else s.applyBlock sc
      let s3 := s1.mirrorFrom p g
      (if s.egEn p g && !e.live then s3.egStart p g else s3, true)

/-- A commit of a generator applies; admission is repeated for the canvas generator's period (R285). -/
def State.egApply (s : State) (p : Plane) (g : Nat) : State :=
  let (s1, applied) := s.egCommit p g
  if applied && s.canvasEg p == g then s1.readmit p else s1

/-- Epochs of RELEARN counted: boundaries of EG0 and, while EG0 is disabled, 1/60 s each (R87). -/
def State.relearnCount (s : State) (p : Plane) : Nat :=
  match (s.pl p).relearn with
  | some r =>
    if r.loaded && r.counting && !r.suspended && !s.egEn p 0 then
      r.count + ((s.pl p).raw.toNat + 2 ^ 64 - r.since) % 2 ^ 64 * 60 / unitsPerSec
    else r.count
  | none => 0

/-- The count as it stands, before what advances it changes. -/
def State.relearnFold (s : State) (p : Plane) : State :=
  s.modPl p fun x => { x with relearn := x.relearn.map fun r => { r with count := s.relearnCount p, since := x.raw.toNat } }

/-- EN written 0 to 1 (R121); the Lantern ring forgets the last released OSEQ of the outputs on the generator, and the plane which Ethernet
releases it has made. -/
def State.egEnable (s : State) (p : Plane) (g : Nat) : State :=
  if s.egEn p g then s
  else
    let s1 := (((s.when (g == 0) fun s => s.relearnFold p).setRb (R.EG_CTL p g) 31 true).setRb (R.EG_CTL p g) 30 false)
    let s2 := if s.canvasEg p = g then
        let s3 : State := { s1 with outs := s1.outs.map fun o => { o with last := none } }
        s3.modPl p fun x => { x with descSt := x.descSt.map fun e => (e.1, { e.2 with done := none }) }
      else s1
    if s.pendingAt (R.EG_STAGE_CTL p g) then s2 else s2.egStart p g

/-- EN written 1 to 0 (R121, R124). -/
def State.egDisable (s : State) (p : Plane) (g : Nat) : State :=
  if !s.egEn p g then s
  else
    let s1 := (((s.when (g == 0) fun s => s.relearnFold p).setRb (R.EG_CTL p g) 31 false).setRb (R.EG_CTL p g) 30 false)
    let s2 := s1.modEg p g fun e => { e with live := false }
    if s.lead = p then { s2 with mirror := modAt g (fun m => { m with en := false }) s2.mirror } else s2

/-- Configurations of a generator compared in DUPLEX at a boundary of plane `p`, once the peer has come to the same boundary (R122). -/
def State.egCompare (s : State) (p : Plane) (g : Nat) : State :=
  let y := (s.pl (other p)).egS g
  let behind := s.egEn (other p) g && (!y.live || y.next == ((s.pl p).egS g).index)
  let same := s.egNum .a g == s.egNum .b g && s.egDen .a g == s.egDen .b g && s.egBase .a g == s.egBase .b g &&
    s.egOrigin .a g == s.egOrigin .b g && s.egEn .a g == s.egEn .b g
  if s.mode = 3 && !same && !behind then ((s.setRb (R.EG_CTL .a g) 28 true).setRb (R.EG_CTL .b g) 28 true).raise 127 else s

/-- How many epochs up to `n` declare a release with EVERY and PHASE (R293). -/
def declaredUpTo (every phase : Nat) (n : Int) : Nat :=
  if n < phase ∨ every = 0 then 0 else (n.toNat - phase) / every + 1

/-- Ethernet releases of descriptor `r` whose launch time lies after `t0` and not after `t1`; none while the canvas generator produces no
epochs (R121, R312). -/
def State.ethBetween (s : State) (p : Plane) (t0 t1 : Int) (r : BitVec 256) : Nat :=
  let c := s.canvasEg p
  let idx (t : Int) : Int := (epochAfter (s.egBase p c) (s.egOrigin p c) (s.egNum p c) (s.egDen p c) t : Int) - 1
  let o := rdOfs r * 16
  if !(s.egEn p c && ((s.pl p).egS c).live && rdValid r && rdKind r == 0) || t1 ≤ t0 then 0
  else declaredUpTo (rdEvery r) (rdPhase r) (idx (t1 - o)) - declaredUpTo (rdEvery r) (rdPhase r) (idx (t0 - o))

/-- BRIDGE is cleared and release time jumps (R115, R264, R312). -/
def State.jumpNow (s : State) (p : Plane) : State :=
  if !(s.pl p).jump then s
  else
    let t0 := s.release p
    let s1 := s.modPl p fun x => { x with bridge := 0, jump := false }
    let t1 := s1.release p
    let s2 := [0, 1, 2, 3].foldl (fun (s : State) g => s.modEg p g fun e =>
      { e with next := max e.next (epochAfter (s.egBase p g) (s.egOrigin p g) (s.egNum p g) (s.egDen p g) t1) }) s1
    let s3 := s2.each (s.pl p).descs fun t e =>
      let n := s.ethBetween p t0 t1 e.2
      t.when (decide (0 < n)) fun t => ((t.modPl p fun x => (x.modDst e.1 fun y => { y with prep := none }).setLast e.1 4).addSat
        (R.REL_COUNTERS p 7) 31 0 n).raiseP p 153
    let s4 := s3.skipInsts p fun i => decide (i.deadline ≤ t1) && decide (t0 < t1)
    let s5 := (s4.raise 124).record 9 (srcOf p) [2]
    if s.lead = p then { s5 with ltStep := true } else s5

/-- Dial times of the domains differ by no more than BRIDGE_MAX (R114). -/
def State.bridgeOk (s : State) (p : Plane) : Bool := decide (((s.dial p 0 : Int) - s.dial p 1).natAbs ≤ s.bridgeMax p)

/-- Disarms a switch (R114). -/
def State.disarm (s : State) (p : Plane) : State :=
  (s.modPl p fun x => { x with sw := none }).setRb (R.TB_CTL p) 30 false

/-- A switch is due at the boundary of index `n`: an automatic one where its boundary was jumped over at the next multiple of GRID (R114). -/
def Switch.due (w : Switch) (grid n : Nat) : Bool :=
  (match w.auto with | some a => n == a || (decide (a < n) && n % grid == 0) | none => false) ||
    match w.cmd with | some b => decide (b ≤ n) | none => false

/-- GRID (R117). -/
def State.grid (s : State) (p : Plane) : Nat := max 1 (s.rf (R.TB_CTL p) 13 7)

/-- The boundary of a TIME_SWITCH that was given up has come: it ends, and an automatic switch armed since stays (R114). -/
def State.switchGiven (s : State) (p : Plane) (w : Switch) : State × Option Bool :=
  match w.given with
  | some b =>
    if ((s.pl p).egS 0).index < b then (s, none)
    else (s.modPl p fun x => { x with sw := if w.auto.isSome || w.cmd.isSome then some { w with given := none } else none }, some false)
  | none => (s, none)

/-- An armed switch whose boundary has come takes place or is given up (R111, R114); in DUPLEX the lead plane's dials decide, once for
both planes (R116). The flag is the end of an open TIME_SWITCH: true for DONE. EV123 tells of a difference above BRIDGE_MAX here and of a fold
of R112 in R115, not of the fold of the switch itself. Log 134. -/
def State.switchNow (s : State) (p : Plane) : State × Option Bool :=
  match (s.pl p).sw with
  | none => (s, none)
  | some w =>
    if !w.due (s.grid p) ((s.pl p).egS 0).index then s.switchGiven p w
    else
      let good := domGood (s.devDom w.target)
      let near := s.bridgeOk (if s.mode = 3 then s.lead else p)
      let go := w.go.getD (good && near)
      let tell (x : PlaneS) : PlaneS := { x with sw := x.sw.map fun v => if v.target = w.target then { v with go := some go } else v }
      let s0 := (s.raiseIf (w.go.isNone && good && !near) 123).when (s.mode == 3) fun s => s.modPl (other p) tell
      let s1 := s0.disarm p
      let old := s.sel p
      let done := if w.cmd.isSome then some go else if w.given.isSome then some false else none
      if !go || old == w.target then (s1, done)
      else
        let s2 := s1.modPl p fun x => { x with bridge := x.bridge + ((s.dial p old : Int) - s.dial p w.target) }
        (((s2.setRf (R.TB_CTL p) 31 31 w.target).raiseIf w.go.isNone 122).record 9 (srcOf p) [1], done)

/-- Arms a switch; a TIME_SWITCH and an automatic decision for one target merge at the earlier boundary (R114). -/
def State.arm (s : State) (p : Plane) (target at0 : Nat) (byCmd : Bool) : State :=
  let least (o : Option Nat) : Option Nat := some (match o with | some a => min a at0 | none => at0)
  let w0 : Switch := match (s.pl p).sw with
    | some w => if w.target = target then w else ⟨target, none, none, none, none⟩
    | none => ⟨target, none, none, none, none⟩
  let w := if byCmd then { w0 with cmd := least w0.cmd } else { w0 with auto := least w0.auto }
  (s.modPl p fun x => { x with sw := some w }).setRb (R.TB_CTL p) 30 true

/-- The planes on which a decision of plane `p` acts: both in DUPLEX, where the lead decides (R116). -/
def State.deciders (s : State) (p : Plane) : List Plane :=
  if s.mode = 3 then (if s.lead = p then [.a, .b] else []) else if s.active p then [p] else []

/-- The automatic decision, taken by the lead plane in DUPLEX whichever plane's update led to it (R114, R116). The epoch in which it falls
is the one before the boundary to come. -/
def State.autoSwitch (s : State) (p0 : Plane) : State :=
  let p := if s.mode = 3 then s.lead else p0
  let old := s.sel p
  let new := 1 - old
  let g := (s.pl p).egS 0
  if (s.deciders p).isEmpty || !s.rb (R.TB_CTL p) 25 || domGood (s.devDom old) || !domGood (s.devDom new) || !g.live then s
  else if !s.bridgeOk p then s.raise 123
  else
    let grid := s.grid p
    let at0 := (g.next + 1 + grid - 1) / grid * grid
    (s.deciders p).foldl (fun s q => s.arm q new at0 false) s

/-- The automatic decision, wherever one may be taken now (R114, R116). -/
def State.autoAll (s : State) : State := if s.mode = 3 then s.autoSwitch s.lead else (s.autoSwitch .a).autoSwitch .b

/-- The armed switches to a domain that has left LOCKED and LOCKED_PEER do not take place; a TIME_SWITCH among them ends at its boundary
(R114). A switch that the lead has made in DUPLEX its peer makes too (R116). -/
def State.loseSwitch (s : State) (d : Nat) : State :=
  bothPlanes.foldl (fun (s : State) p => match (s.pl p).sw with
    | some w =>
      if w.target ≠ d ∨ w.go.isSome then s
      else
        let given := if w.given.isSome then w.given else w.cmd
        (s.modPl p fun x => { x with sw := given.map fun b => ⟨d, none, none, some b, none⟩ }).setRb (R.TB_CTL p) 30 false
    | none => s) s

/-- What a change of a domain's device state since `s0` brings: its event (R134), and the end of a switch to it (R114). -/
def State.domEvents (s0 s : State) : State :=
  [0, 1].foldl (fun (s : State) d =>
    let s1 := s.when (domGood (s0.devDom d) && !domGood (s.devDom d)) fun s => s.loseSwitch d
    s1.raiseIf (s0.devDom d != s.devDom d) (120 + d)) s

def State.setDom (s : State) (p : Plane) (d st : Nat) : State := s.setRf (R.TD_STATUS p d) 31 28 st

def State.modDom (s : State) (p : Plane) (d : Nat) (f : DomS → DomS) : State :=
  s.modPl p fun x => { x with dom := modAt d f x.dom }

def PlaneS.domS (x : PlaneS) (d : Nat) : DomS := x.dom.getD d DomS.rest

/-- A RATE commit of the servo with a free INC_ADJ (R106). Log 19. -/
def State.servoRate (s : State) (p : Plane) (d kind : Nat) : State :=
  let (w, s1) := s.free32
  let (st, s2) := if kind = 1 then s1.free32 else (0, s1)
  let s3 := ((s2.setStaged (R.TD_KIND p d) (BitVec.ofNat 32 kind)).setStaged (R.TD_INC_ADJ p d) w).setStaged (R.TD_STEP p d) st
  (s3.commit (R.TD_STAGE_CTL p d)).modDom p d fun y => { y with hist := (y.hist ++ [w]).drop (y.hist.length + 1 - 64) }

/-- Entry to HOLDOVER: INC_ADJ frozen at the mean of the last updates by one RATE commit (R106). Log 19. -/
def State.holdover (s : State) (p : Plane) (d : Nat) : State :=
  let h := ((s.pl p).domS d).hist
  let n := max 1 h.length
  let sum := (h.map fun w => sext 32 w.toNat).sum
  let (up, s1) := s.freeB
  let mean := if h = [] then s.sreg (R.TD_INC_ADJ p d) else Int.fdiv sum n + (if up && sum % n != 0 then 1 else 0)
  let s2 := (s1.setStaged (R.TD_KIND p d) 0).setStaged (R.TD_INC_ADJ p d) (BitVec.ofNat 32 (toU 32 mean))
  (s2.commit (R.TD_STAGE_CTL p d)).setDom p d 4 |>.modDom p d fun y => { y with run := 0 }

/-- The peer's same domain can be followed (R106). -/
def State.peerLocked (s : State) (p : Plane) (d : Nat) : Bool := s.mode == 3 && s.domState (other p) d == 2

/-- A change of TDd_LTC_OFS steps the domain's dial time by as many seconds, by a SET commit (R112, R132). Log 135. -/
def State.ltcStep (s : State) (p : Plane) (d : Nat) (sec : Int) : State :=
  let off := toU 68 ((s.tdOffset p d : Int) + sec * unitsPerSec)
  let s1 := (s.setStaged (R.TD_KIND p d) 2).setStaged (R.TD_INC_ADJ p d) (s.reg (R.TD_INC_ADJ p d))
  let s2 := (s1.setStaged64 (R.TD_OFFSET_NS_LO p d) (off / 16)).setStaged (R.TD_OFFSET_FRAC p d) (BitVec.ofNat 32 (off % 16))
  (s2.setStaged64 (R.TD_ANCHOR_LO p d) (s.reg64 (R.TD_ANCHOR_LO p d))).commit (R.TD_STAGE_CTL p d)

/-- SOURCE of a domain's configuration (R103). -/
def srcCfg (c : Word) : Nat := if 4 < fld c 31 28 then 0 else fld c 31 28

/-- What a servo has measured at its update (R105, R106): against the peer's domain, or from the Syncs, edges or frames since the last
update, under an unchanged configuration. -/
def State.measured (s : State) (p : Plane) (d : Nat) : Option Int :=
  let y := (s.pl p).domS d
  if s.domState p d = 3 ∧ !y.ref then some ((s.dial p d : Int) - s.dial (other p) d)
  else if fld (s.reg (R.TD_CFG p d)) 31 11 = fld y.cfg 31 11 then y.meas
  else none

/-- A servo takes up its configuration at its update (R103, R132). -/
def State.servoTakes (s : State) (p : Plane) (d : Nat) : State :=
  let y := (s.pl p).domS d
  let c := s.reg (R.TD_CFG p d)
  let o := s.reg (R.TD_LTC_OFS p d)
  let s1 := s.modDom p d fun y => { y with cfg := c, ofs := o, meas := none }
  s1.when (srcCfg c == 4 && srcCfg y.cfg == 4 && o != y.ofs) fun s => s.ltcStep p d (sext 32 o.toNat - sext 32 y.ofs.toNat)

/-- A servo's update (R103-R106, R114): in LOCKED_PEER only updates against the plane's own reference count towards LOCKED. A
domain in HOLDOVER whose peer's domain becomes LOCKED only later stays in HOLDOVER: log 136. -/
def State.servoUpdate (s : State) (p : Plane) (d : Nat) : State :=
  let st := s.domState p d
  let y := (s.pl p).domS d
  let s0 := s.servoTakes p d
  if !s.present p then s
  else if srcCfg (s.reg (R.TD_CFG p d)) = 0 then 
    (State.domEvents s ((s0.setDom p d 0).modDom p d fun y => { y with run := 0 })).autoAll
  else match s.measured p d with
  | none => if st = 3 ∧ !s.peerLocked p d then (State.domEvents s (s0.holdover p d)).autoSwitch p else s0
  | some offset =>
    let s1 := s0.setRf (R.TD_STATUS p d) 23 0 (toU 24 (clamp (-8388607) 8388607 offset))
    let run := if st = 3 ∧ !y.ref then 0 else if offset.natAbs ≤ 800 then y.run + 1 else 0
    let s2 := s1.modDom p d fun y => { y with run := run }
    let s3 :=
      if st = 3 ∧ !s.peerLocked p d then s2.holdover p d
      else if st = 3 then
        (if y.ref ∧ 16 ≤ run then (s2.setDom p d 2).servoRate p d 0 else s2.servoRate p d 0)
      else if st = 2 then
        (if 16000 < offset.natAbs then
          (s2.setDom p d 1).servoRate p d (if 160000 < offset.natAbs then 1 else 0)
         else s2.servoRate p d 0)
      else if 16 ≤ run ∧ st = 1 then (s2.setDom p d 2).servoRate p d 0
      else (s2.setDom p d 1).servoRate p d (if 160000 < offset.natAbs then 1 else 0)
    (State.domEvents s s3).autoSwitch p

/-- A domain's own reference is lost (R106). One in HOLDOVER or ACQUIRE with no peer to follow stays there, and a peer that locks only later is not
followed: log 136. -/
def State.refLost (s : State) (p : Plane) (d : Nat) : State :=
  let st := s.domState p d
  let s1 := s.modDom p d fun y => { y with ref := false, run := 0 }
  let s2 :=
    if st = 3 then (if s.peerLocked p d then s1 else s1.holdover p d)
    else if (st = 2 ∨ st = 1) ∧ s.peerLocked p d then s1.setDom p d 3
    else if st = 2 then s1.holdover p d
    else s1
  (State.domEvents s s2).autoSwitch p

/-- One 1/16 ns step of the bridge towards 0 (R113). -/
def State.decay (s : State) (p : Plane) : State :=
  s.modPl p fun x => { x with bridge := if 0 < x.bridge then x.bridge - 1 else if x.bridge < 0 then x.bridge + 1 else 0 }

/-- The release-time skew of plane `p` against its peer (R129). Out of DUPLEX nothing is measured, and the run stands: log 137. -/
def State.skew (s : State) (p : Plane) : State :=
  if s.mode ≠ 3 then s
  else
    let v := clamp (-2147483647) 2147483647 (s.release p - s.release (other p))
    let s1 := s.setReg (R.TB_PEER_SKEW p) (BitVec.ofNat 32 (toU 32 v))
    let over_ := decide (s.rf R.LT_CTL 15 8 * 16 < v.natAbs)
    let r := (s.pl p).skewRun
    let r1 := if r < 3 then (if over_ then r + 1 else 0) else if over_ then 3 else if 102 ≤ r then 0 else r + 1
    (s1.modPl p fun x => { x with skewRun := r1 }).raiseIf (r == 2 && over_) 125

/-- A boundary applies the period and the guard time committed for it; admission is repeated once, with both (R285, R296). -/
def State.guardAt (s : State) (p : Plane) (newPeriod : Bool) : State :=
  let rel := s.pendingAt (R.REL_STAGE_CTL p)
  (s.when rel fun s => s.applyBlock (R.REL_STAGE_CTL p)).when (rel || newPeriod) fun s => s.readmit p

/-- A boundary of generator `g` on a plane: index, what waits for it, comparison, the Canvas (R119-R122, R111, R115, R228). Of the instances
that open at it, a jump of release time skips those whose deadline it has passed (R264). -/
def State.boundary (s : State) (p : Plane) (g : Nat) : State × Option Bool :=
  let e := (s.pl p).egS g
  if !(s.present p && s.egEn p g && e.live) then (s, none)
  else
    let s1 := (s.modEg p g fun e => { e with index := e.next, next := e.next + 1 }).setRb (R.EG_CTL p g) 30 true
    let (s1c, period) := s1.egCommit p g
    let s2 := s1c.egCompare p g
    let (s3, done) := if g = 0 then s2.switchNow p else (s2, none)
    let s4 := if g = 0 then (s3.jumpNow p).autoSwitch p else s3
    let jumped := g = 0 && (s3.pl p).jump && decide (s3.release p < s4.release p)
    let s5 := if s.canvasEg p = g then
        let snf := if s4.snf.holdEnds then { s4.snf with hold := false, holdEnds := false } else s4.snf
        (State.guardAt { s4 with snf := snf, snfAon := if s4.snf.holdEnds then snf else s4.snfAon } p period).canvasBoundary p e.next
          |>.when jumped fun s => s.skipInsts p fun i => decide (i.deadline ≤ s4.release p)
      else s4
    (s5, done)

end Sys2Proof.Machine
end

