-- ==== Sys2Proof/Machine/Ring.lean ====
section
/-!
DEFINITION. Ports and the ring (chapter 4): links, wrap and unwrap, forwarding, junction copies, transmission, and the duplicate
window.
-/
namespace Sys2Proof.Machine

/-- A plane in the states that forward ring traffic (R75). -/
def State.forwards (s : State) (p : Plane) : Bool :=
  match (s.pl p).st with
  | .sync | .copy | .relearn | .relearnWait | .active => true
  | _ => false

/-- The ring of a port: 0 for P0 and P1, 1 for P2 and P3. -/
def ringOf (port : Fin 4) : Nat := port.val / 2

/-- P1 and P3 face west (R135). -/
def isWest (port : Fin 4) : Bool := port.val % 2 == 1

/-- WRAPPED of a port. -/
def State.wrapped (s : State) (p : Plane) (i : Nat) : Bool := s.rb (R.PORT_STATUS p i) 30

/-- Some port of the plane is wrapped. -/
def State.anyWrap (s : State) (p : Plane) : Bool := [0, 1, 2, 3].any fun i => s.wrapped p i

/-- Changes what a port keeps beyond its registers. -/
def State.modPort (s : State) (p : Plane) (port : Fin 4) (f : PortS → PortS) : State :=
  s.modPl p fun x => { x with port := modAt port.val f x.port }

def State.turning (s : State) (p : Plane) (port : Fin 4) : Bool := ((s.pl p).port.getD port.val PortS.rest).turning

/-- Puts waiting sentences on their way again on ring `r` (R146, R148). -/
def State.resend (s : State) (p : Plane) (r : Nat) (ts : List TxItem) : State :=
  ts.foldl (fun s t =>
    let (s1, d) := s.sendEast p r t.sent t.fwd t.stomp
    s1.raiseIf d (evOf p 154)) s

/-- The sentences waiting at a port leave its buffers. -/
def State.takeTx (s : State) (p : Plane) (port : Fin 4) : List TxItem × State :=
  ((s.pl p).txq.filter (fun t => t.port == port),
   s.modPl p fun x => { x with txq := x.txq.filter fun t => t.port != port })

/-- The sentences held by the unwrap drain of a port. -/
def State.takeHold (s : State) (p : Plane) (port : Fin 4) : List TxItem × State :=
  ((s.pl p).hold.filter (fun t => t.port == port),
   s.modPl p fun x => { x with hold := x.hold.filter fun t => t.port != port })

/-- A wrap during LINK_CAL on that ring voids the run (R161). -/
def State.voidCal (s : State) (p : Plane) (port : Fin 4) : State :=
  s.modPl p fun x => { x with cal := x.cal.map fun c => if c.side == (2 ≤ port.val : Bool) then { c with void := true } else c }

/-- LOCAL_FAULT and REMOTE_FAULT show the faults that are present (R167). Log 139. -/
def State.showFault (s : State) (p : Plane) (i : Nat) (faults : BitVec 2) : State := s.setRf (R.PORT_STATUS p i) 29 28 faults.toNat

/-- A port in RING mode whose link is declared down wraps its ring (R146). Sentences waiting at the port go round the wrap or are lost:
those that a drain has passed on before those that it still holds (R35). Log 26. -/
def State.wrapAt (s : State) (p : Plane) (port : Fin 4) : State :=
  let i := port.val
  let (waitQ, s3) := s.takeTx p port
  let (heldQ, s4) := s3.takeHold p port
  let s5 := (s4.setRb (R.PORT_STATUS p i) 26 false).modPort p port fun x => { x with turning := false }
  if s.portMode p i = 1 && s.rb (R.PORT_RING p i) 31 && !s.wrapped p i then
    let s6 := ((s5.setRb (R.PORT_STATUS p i) 30 true).raiseP p 132).voidCal p port
    if isWest port then s6 else s6.resend p (ringOf port) (waitQ ++ heldQ)
  else s5

/-- A port that is up declares its link down (R145, R146). -/
def State.goesDown (s : State) (p : Plane) (port : Fin 4) : State :=
  let i := port.val
  if s.portMode p i = 0 || !s.linkUp p i then s
  else
    let s1 := ((s.setRb (R.PORT_STATUS p i) 31 false).setRb (R.PORT_STATUS p i) 27 false).modPort p port fun x => { x with wait := [] }
    ((s1.count (R.PORT_COUNTERS p i 13)).raiseP p (128 + i)).wrapAt p port

/-- LINK_DOWN: the faults present change, and one that is present declares the link down (R145, R146, R167). -/
def State.linkDownAt (s : State) (p : Plane) (port : Fin 4) (faults : BitVec 2) : State :=
  if s.portMode p port.val = 0 then s
  else (s.showFault p port.val faults).when (faults != 0) fun s => s.goesDown p port

/-- A port that is declared down wraps its ring where it does not yet: when a commit or a state copy enables it, without a link event, and
when WRAP_EN is set (R145, R146). -/
def State.wrapDown (s : State) (p : Plane) (port : Fin 4) : State :=
  if s.portMode p port.val = 0 || s.linkUp p port.val || s.wrapped p port.val then s else s.wrapAt p port

/-- A transmit block and an octet of a SPUR port in 1/400 ns: 2.56 and 0.32 ns at 25 Gb/s, 6.4 and 0.8 ns at 10 Gb/s (R302). -/
def State.blockLen (s : State) (p : Plane) (i : Nat) : Nat := if s.rb (R.PORT_CFG p i) 28 then 2560 else 1024
def State.octetLen (s : State) (p : Plane) (i : Nat) : Nat := if s.rb (R.PORT_CFG p i) 28 then 320 else 128

/-- Declares a port's link up (R145); where its transmit blocks lie is free until it restarts (R302). -/
def State.linkUpAt (s : State) (p : Plane) (port : Fin 4) : State :=
  let i := port.val
  if !s.present p || s.portMode p i = 0 || s.linkUp p i then s
  else
    let fec := s.rb (R.PORT_CFG p i) 27 && !(s.portMode p i == 2 && s.rb (R.PORT_CFG p i) 28)
    let st := setFld (setFld (s.reg (R.PORT_STATUS p i)) 29 27 fec.toNat) 31 31 1
    let (w, s1) := (s.setReg (R.PORT_STATUS p i) st).free32
    (s1.modPort p port fun x => { x with busy := 0, phase := w.toNat % s.blockLen p i }).raiseP p (128 + i)

/-- Unwraps a port: drain at an east port, continued turning at a west port (R148). -/
def State.unwrapAt (s : State) (p : Plane) (port : Fin 4) : State :=
  let i := port.val
  if !s.wrapped p i || !s.linkUp p i then s
  else
    let s1 := (s.setRb (R.PORT_STATUS p i) 30 false).raiseP p 132
    if isWest port then s1.modPort p port fun x => { x with turning := true }
    else s1.setRb (R.PORT_STATUS p i) 26 true

/-- DRAIN after an unwrap: held sentences go in order, or turning stops (R148). -/
def State.drainEndAt (s : State) (p : Plane) (port : Fin 4) : State :=
  if isWest port then s.modPort p port fun x => { x with turning := false }
  else if s.rb (R.PORT_STATUS p port.val) 26 then
    (s.setRb (R.PORT_STATUS p port.val) 26 false).feedHold p port (s.pl p).hold.length
  else s

/-- A free PRIO and a free epoch generator for a sentence whose header the manual leaves open in these fields. Log 27. -/
def State.freeHead (s : State) (h : Sent) : Sent × State :=
  let (w, s1) := s.free32
  ({ h with prio := w.truncate 3 }, s1)

/-- Sends a sentence of this device on one ring of one plane, with the plane's next SEQ (R147, R160, R479). -/
def State.sendOwn (s : State) (p : Plane) (r : Nat) (h : Sent) (west : Bool) : State :=
  let (q, s1) := s.takeSeq p h.cls.toNat
  let h1 := ({ h with seq := q }).seal
  let (s2, d) := if west then s1.sendWest p r h1 false false else s1.sendEast p r h1 false false
  s2.raiseIf d (evOf p 154)

/-- A Timing sentence on the native time notice stream, timed now (R147). Log 27. -/
def State.notice (s : State) (p : Plane) (payload : List Byte) : Sent × State :=
  let (h, s1) := s.freeHead (s.blank 1 0 strNotice 0x0081 payload)
  let (g, s2) := s1.free32
  let eg := g.toNat % 4
  let now := s.release p
  ({ h with timed := true, pt64 := toPt64 now,
            tag := BitVec.ofNat 32 (eg * 2 ^ 30 + s.targetEpoch p eg now % 2 ^ 30) }, s2)

/-- A wrap notice on each ring with a wrapped port (R147). -/
def State.wrapNotice (s : State) (p : Plane) : State :=
  if !s.active p then s
  else
    [0, 1].foldl (fun (s : State) r =>
      let e := (eastPort r).val
      let w := (westPort r).val
      if s.wrapped p e || s.wrapped p w then
        let port := if s.wrapped p e then e else w
        let (h, s1) := s.notice p (toBE 1 1 ++ toBE 1 port ++ toBE 2 0 ++ toBE 4 (s.reg R.AON_DEVNUM).toNat)
        s1.sendOwn p r h false
      else s) s

/-- A wrap notice taken in by a port tells of a wrap in its ring: it lifts the PTP cut of the ring's ports (R147) and voids a LINK_CAL that
runs on it (R161). -/
def State.liftCut (s : State) (p : Plane) (port : Fin 4) : State :=
  let r := ringOf port
  if !s.present p || s.portMode p port.val != 1 || !s.linkUp p port.val then s
  else [2 * r, 2 * r + 1].foldl (fun (s : State) i =>
    if s.rb (R.PORT_PTP_CFG p i) 30 then s.setRb (R.PORT_STATUS p i) 25 true else s) (s.voidCal p port)

/-- The 48-bit address in a _LO and _HI pair (R165). -/
def State.addr48 (s : State) (off : Nat) : Nat := (s.reg off).toNat + 2 ^ 32 * s.rf (off + 4) 15 0

/-- The 802.1Q tag that a spur port sends (R137, R166). -/
def State.vlanTag (s : State) (p : Plane) (i : Nat) : List Byte :=
  if s.portMode p i = 2 && s.rb (R.PORT_CFG p i) 25 then
    toBE 2 0x8100 ++ toBE 2 (s.rf (R.PORT_CFG p i) 12 10 * 2 ^ 13 + s.rf (R.PORT_CFG p i) 24 13)
  else []

/-- PRP trailers run on a port (R162). -/
def State.prpOn (s : State) (p : Plane) (i : Nat) : Bool := s.portMode p i == 2 && s.rb (R.PORT_CFG p i) 26

/-- A frame's octets: tag, pad, PRP trailer (R137, R140, R162). Log 28 for LSDUsize, log 140 for the pad of a tagged frame. -/
def State.frameOcts (s : State) (p : Plane) (i : Nat) (f : WireFrame) : List Byte :=
  let prp := s.prpOn p i && !f.ptp
  let pad := f.body ++ List.replicate (60 - (14 + f.body.length + if prp then 6 else 0)) 0
  let seq := (s.pl p).prpSeq.getD i 0
  let lan := match p with | .a => 0xA | .b => 0xB
  let trailer := if prp then toBE 2 seq.toNat ++ toBE 2 (lan * 4096 + (pad.length + 6) % 4096) ++ toBE 2 0x88FB else []
  toBE 6 f.da ++ toBE 6 f.sa ++ s.vlanTag p i ++ toBE 2 f.et ++ pad ++ trailer

/-- What a port keeps beyond its registers. -/
def PlaneS.portS (x : PlaneS) (i : Nat) : PortS := x.port.getD i PortS.rest

/-- The first block boundary of a port's link at or after a time (R302). -/
def State.blockAt (s : State) (p : Plane) (i t : Nat) : Nat :=
  let b := s.blockLen p i
  t + (((s.pl p).portS i).phase + b - t % b) % b

/-- When a frame that starts as soon as the port is free starts, in 1/400 ns of raw time (R302). -/
def State.txStart (s : State) (p : Plane) (i : Nat) : Nat := s.blockAt p i (max ((s.pl p).raw.toNat * 25) ((s.pl p).portS i).busy)

/-- Octet times of a frame of `n` octets, with its FCS, preamble and gap. -/
def State.frameLen (s : State) (p : Plane) (i n : Nat) : Nat := (n + 24) * s.octetLen p i

/-- The launch that a SPUR port must be kept free for, in release time: the next of the declared Ethernet releases on it, of the present
canvas epoch and the next, by their descriptors as their build instances found them (R294); within 1 µs of its launch only one that has
been prepared (R300, R302). -/
def State.nextLaunch (s : State) (p : Plane) (i : Nat) : Option Int :=
  let g := s.canvasEg p
  let x := s.pl p
  let now := s.release p
  if !(s.egEn p g && (x.egS g).live) then none
  else
    let one (d k : Nat) : Option Int :=
      let r := x.descAt d k
      let t := s.eK p k + rdOfs r * 16
      let ready := match (x.dst d).prep with | some e => e.1 == k | none => false
      if rdDeclared r k && rdKind r == 0 && rdTarget r == i && now ≤ t && (decide (now + unitsPerUs < t) || ready) then some t else none
    let ts := x.descKeys.flatMap fun d => [(x.egS g).index, (x.egS g).next].filterMap (one d)
    ts.foldl (fun (a : Option Int) t => match a with | none => some t | some b => some (min t b)) none

/-- A frame of `n` octets would end, preamble and gap included, before the launch that is pending (R302). -/
def State.fits (s : State) (p : Plane) (i n : Nat) : Bool :=
  match s.nextLaunch p i with
  | none => true
  | some t => decide ((s.txStart p i + s.frameLen p i n : Int) < ((s.pl p).raw.toNat : Int) * 25 + (t - s.release p) * 25)

/-- A frame of `n` octets starts on a SPUR port (R302). -/
def State.occupy (s : State) (p : Plane) (port : Fin 4) (n : Nat) : State :=
  if s.portMode p port.val = 2 then
    s.modPort p port fun x => { x with busy := s.txStart p port.val + s.frameLen p port.val n }
  else s

/-- Dial time as TS80, its fraction dropped (R131). -/
def ts80 (dial : Nat) : List Byte := toBE 6 (dial / unitsPerSec) ++ toBE 4 (dial % unitsPerSec / 16)

/-- The raw time at which a frame that starts now crosses a port's balls. -/
def State.egressRaw (s : State) (p : Plane) (i : Nat) : Nat :=
  if s.portMode p i = 2 then (s.txStart p i + 24) / 25 % 2 ^ 64 else (s.pl p).raw.toNat

/-- originTimestamp and the fraction in correctionField of a PTP event message of this device, from its domain's dial time at the egress
(R157); the servo keeps that of its Delay_Req (R158). -/
def State.stampOrig (s : State) (p : Plane) (i : Nat) (f : WireFrame) : WireFrame × State :=
  match f.orig with
  | none => (f, s)
  | some (d, o, req) =>
    let dial := s.dialAt p d (s.egressRaw p i)
    let body := patch (patch f.body (o + 8) (toBE 8 (dial % 16 * 4096))) (o + 34) (ts80 dial)
    let seq := BitVec.ofNat 16 (octs f.body (o + 30) 2)
    ({ f with body := body }, s.when req fun s => s.modPl p fun x => { x with dom := modAt d (fun y => { y with req := some (seq, (dial : Int)) }) x.dom })

/-- Puts a frame on a port's wire, with the counters (R137, R140, R162, R169). -/
def State.wireNow (s0 : State) (p : Plane) (port : Fin 4) (f0 : WireFrame) : State :=
  let i := port.val
  let (f, s) := s0.stampOrig p i f0
  let os := s.frameOcts p i f
  let s1 := s.when (s.prpOn p i && !f.ptp) fun s => s.modPl p fun x => { x with prpSeq := modAt i (· + 1) x.prpSeq }
  let s2 := (s1.count (R.PORT_COUNTERS p i 4)).when f.stomp fun s => s.count (R.PORT_COUNTERS p i 5)
  (s2.occupy p port os.length).emit (.eth p i f.stomp os)

/-- A SPUR port sends the first of its waiting frames that ends before a pending launch (R302). -/
def State.sendWaiting (s : State) (p : Plane) (port : Fin 4) : State :=
  match takeOne (fun f => s.fits p port.val (s.frameOcts p port.val f).length) ((s.pl p).portS port.val).wait with
  | some (f, rest) => (s.modPort p port fun x => { x with wait := rest }).wireNow p port f
  | none => s

/-- Sends a frame that is no sentence; on a SPUR port it waits where it would meet a launch (R302). -/
def State.wireFrame (s : State) (p : Plane) (port : Fin 4) (f : WireFrame) : State :=
  if s.portMode p port.val = 2 then (s.modPort p port fun x => { x with wait := x.wait ++ [f] }).sendWaiting p port
  else s.wireNow p port f

/-- Sends a frame that is no sentence and no event message of this device: `da` to `et` in network order, `body` after the EtherType. The 64
octets of the shortest frame do not count the 802.1Q tag: log 140. -/
def State.wire (s : State) (p : Plane) (port : Fin 4) (da sa et : Nat) (body : List Byte) (ptp stomp : Bool) : State :=
  s.wireFrame p port ⟨da, sa, et, body, ptp, stomp, none⟩

/-- A sentence as the native frame of a port (R140). A forwarded sentence has traversed one link more (R27). -/
def State.sentFrame (s : State) (p : Plane) (i : Nat) (h : Sent) (fwd stomp : Bool) : WireFrame :=
  let h1 := if fwd then { h with hops := if h.hops = 255 then 255 else h.hops + 1, ttl := h.ttl - 1 } else h
  ⟨s.addr48 (R.PORT_NATIVE_DA_LO p i), s.addr48 (R.PORT_MAC_LO p i), s.rf (R.PORT_NATIVE_TYPE p i) 15 0, h1.octets, false, stomp, none⟩

/-- Sends a sentence as one native frame (R140). -/
def State.wireSent (s : State) (p : Plane) (port : Fin 4) (h : Sent) (fwd stomp : Bool) : State :=
  s.wireNow p port (s.sentFrame p port.val h fwd stomp)

/-- Whether `a` is sent before `b`, which arrived earlier (R34). -/
def txBefore (a b : TxItem) : Bool :=
  decide (precedence a.cls.toNat < precedence b.cls.toNat) ||
    (a.cls == b.cls && decide (b.sent.prio.toNat < a.sent.prio.toNat))

/-- The sentence that a port sends next (R34). -/
def nextTx (q : List TxItem) (port : Fin 4) : Option TxItem :=
  (q.filter fun t => t.port == port).foldl (fun (a : Option TxItem) t =>
    match a with
    | none => some t
    | some b => if txBefore t b then some t else some b) none

/-- The heads of each class and PRIO, in arrival order (R302). -/
def txHeads (q : List TxItem) : List TxItem :=
  q.foldl (fun a t => if a.any fun b => b.cls == t.cls && b.sent.prio == t.sent.prio then a else a ++ [t]) []

/-- A port may begin a Snuffer frame: at most one in any 10 µs (R435). -/
def State.snfSlot (s : State) (p : Plane) (i : Nat) : Bool :=
  match ((s.pl p).portS i).snfAt with
  | none => true
  | some t => decide (10 * unitsPerUs ≤ ((s.pl p).raw - t).toNat)

/-- The sentence that a port may send next: on a RING port a Snuffer one only in its slot, on a SPUR port the first head that ends before a pending launch, a Snuffer one whatever is
pending (R34, R302, R435). -/
def State.txChoice (s : State) (p : Plane) (port : Fin 4) : Option TxItem :=
  if s.portMode p port.val = 2 then
    nextTx ((txHeads ((s.pl p).txq.filter fun t => t.port == port)).filter fun t => t.cls == 7 ||
      s.fits p port.val (s.frameOcts p port.val (s.sentFrame p port.val t.sent t.fwd t.stomp)).length) port
  else nextTx ((s.pl p).txq.filter fun t => t.cls != 7 || s.snfSlot p port.val) port

/-- Removes the first occurrence. -/
def removeFirst (t : TxItem) : List TxItem → List TxItem
  | [] => []
  | x :: xs => if x = t then xs else x :: removeFirst t xs

/-- Sentences that a drain has held go on to the transmitter, once it is over (R148). -/
def State.feedPort (s : State) (p : Plane) (port : Fin 4) : State :=
  if s.rb (R.PORT_STATUS p port.val) 26 then s else s.feedHold p port (s.pl p).hold.length

/-- A free transmitter sends its next sentence (R34, R140); on a SPUR port with no sentence to send, the next of its other frames (R302).
Logs 95, 144. -/
def State.transmit (s : State) (p : Plane) (port : Fin 4) : State :=
  if !s.linkUp p port.val then s
  else
    let s0 := s.feedPort p port
    match s0.txChoice p port with
    | none => if s.portMode p port.val = 2 then s0.sendWaiting p port else s0
    | some t =>
      let s1 := s0.modPl p fun x => { x with txq := removeFirst t x.txq }
      (s1.when (t.cls == 7) fun s => s.modPort p port fun x => { x with snfAt := some (s0.pl p).raw }).wireSent p port t.sent t.fwd t.stomp

/-- A sentence of this device's own number (R45). -/
def State.ownSent (s : State) (h : Sent) : Bool := !h.unnum && s.devValid && decide (h.origin.toNat = s.devnum)

/-- Removal of an eastward arrival on ring `r` (R45); a status reply of an unnumbered device is removed by the device that it names
(R51). -/
def State.removes (s : State) (r : Nat) (h : Sent) : Bool :=
  if !s.devValid then false
  else if h.unnum then h.stream.toNat == strReply && decide (octs h.payload 0 2 % 1024 = s.devnum)
  else
    let br := h.origin.toNat / 64
    let me := s.devnum / 64
    if s.junction then (if r = 0 then br == me else decide (h.origin.toNat = s.devnum) || br != me)
    else decide (h.origin.toNat = s.devnum)

/-- A LINK_CAL probe (R160). -/
def isProbe (h : Sent) : Bool := h.stream.toNat == strNotice && h.payload.length == 16 && octs h.payload 0 1 == 2

/-- Forwarding on the ring and the junction's copy (R45, R46, R146, R148). Log 29: a junction copies a sentence once, as eastward
traffic. -/
def State.forward (s : State) (p : Plane) (port : Fin 4) (h : Sent) (stomp : Bool) : State :=
  let r := ringOf port
  let west := isWest port
  let turn := !west && (s.wrapped p (westPort r).val || s.turning p (westPort r))
  if h.ttl = 0 || (west && s.removes r h) then s
  else
    let (s1, d1) := if west || turn then s.sendEast p r h true stomp else s.sendWest p r h true stomp
    let home := h.unnum || h.origin.toNat / 64 == s.devnum / 64
    let (s2, d2) :=
      if s.junction && (west || turn) then
        if r = 1 && home && !s.ownSent h && s.copyUp p h then s1.sendEast p 0 h true stomp
        else if r = 0 && (h.unnum || !home) && s.copyDown p h then s1.sendEast p 1 h true stomp
        else (s1, false)
      else (s1, false)
    s2.raiseIf (d1 || d2) (evOf p 154)

/-- A duplicate-discard window (R143): some true for DUP_DROP, some false for STALE_DROP, none when accepted. -/
def dupCheck (w : Option DupWin) (seq : Word) : Option Bool × DupWin :=
  match w with
  | none => (none, ⟨seq, 1⟩)
  | some w =>
    let d := (seq - w.high).toNat
    if d = 0 then (some true, w)
    else if d < 2 ^ 31 then (none, ⟨seq, (if d < 1024 then w.rec_ <<< d else 0) ||| 1⟩)
    else
      let i := (w.high - seq).toNat
      if 1024 ≤ i then (some false, w)
      else if w.rec_.getLsbD i then (some true, w)
      else (none, { w with rec_ := w.rec_ ||| BitVec.ofNat 1024 (2 ^ i) })

/-- The window's key. -/
def dupKey (h : Sent) : Nat := h.origin.toNat * 8 + h.cls.toNat

/-- Duplicate discard of a sentence received on a port (R143). -/
def State.dupAccept (s : State) (p : Plane) (port : Nat) (h : Sent) : Bool × State :=
  let (why, w) := dupCheck (Tab.find (dupKey h) (s.pl p).dup) h.seq
  match why with
  | some true => (false, s.count (R.PORT_COUNTERS p port 6))
  | some false => (false, s.count (R.PORT_COUNTERS p port 7))
  | none => (true, s.modPl p fun x => { x with dup := Tab.put (dupKey h) w x.dup })

/-- Header errors (R25, R435). -/
def headerErr (h : Sent) (lenOk : Bool) : Bool :=
  h.ver != 1 || BitVec.ofNat 16 (crc16 h.body) != h.hcrc || decide (8192 < h.plen.toNat) || !lenOk ||
    (h.timed && decide (999999999 < h.pt64.toNat % 2 ^ 32)) || (h.cls == 7 && decide (128 < h.plen.toNat))

end Sys2Proof.Machine
end

