-- ==== Sys2Proof/Machine/Ingress.lean ====
section
/-!
DEFINITION. Ingress (chapter 5): the native path, the parsers, the Stencil table, the origination allocator and sACN
synchronisation.
-/
namespace Sys2Proof.Machine

/-- Counts ING counter `i` (R200). -/
def State.ing (s : State) (p : Plane) (i : Nat) : State := s.count (R.ING_COUNTERS p i)

/-- A drop of a stream's sentence, with its counter and DROP (R194). -/
def State.lose (s : State) (p : Plane) (i st : Nat) : State :=
  (s.ing p i).modPl p fun x => x.modSd st fun d => { d with drop := incSat d.drop }

/-- Stream entry fields (R180). -/
def eEg (e : Nat) : Nat := nfld e 111 110
def eFrag (e : Nat) : Nat := nfld e 97 84
def eLocal (e : Nat) : Bool := nfld e 10 10 == 1

/-- The epoch that contains a stamp on an entry's generator (R193). -/
def State.rateEpoch (s : State) (p : Plane) (e : Nat) (stamp : Int) : Option Nat :=
  let g := eEg e
  epochOf (s.egBase p g) (s.egOrigin p g) (s.egNum p g) (s.egDen p g) stamp

/-- Sentences counted in the epoch of a stamp. -/
def StreamDyn.rateCount (d : StreamDyn) (ep : Option Nat) : Nat :=
  match d.rate.find? fun r => r.1 == ep with
  | some r => r.2
  | none => 0

/-- The rate limit (R193): counts the sentence, or drops it. -/
def State.rateTake (s : State) (p : Plane) (e st : Nat) (stamp : Int) : Bool × State :=
  let ep := s.rateEpoch p e stamp
  let n := ((s.pl p).sd st).rateCount ep
  if nfld e 59 52 ≠ 0 ∧ nfld e 59 52 ≤ n then (false, (s.lose p 8 st).raiseP p 137)
  else (true, s.modPl p fun x => x.modSd st fun d => { d with rate := (ep, n + 1) :: d.rate.filter fun r => r.1 != ep })

/-- Whether the runs of a delta payload are valid for a fragment of `fl` octets; after the last run stand at most 3 octets of 0
(R40). -/
def runsOk (fl : Nat) : Nat → List Byte → Bool
  | 0, bs => bs.isEmpty
  | fuel + 1, bs =>
    if bs = [] then true
    else
      let len := octs bs 2 2
      let next := (4 + len + 3) / 4 * 4
      let rest := bs.drop (4 + len)
      decide (4 ≤ bs.length) && decide (1 ≤ len) && decide (len ≤ 8188) && decide (4 + len ≤ bs.length) &&
        decide (octs bs 0 2 + len ≤ fl) &&
        (if rest.length ≤ 3 then rest.all (· == 0)
         else (rest.take (next - (4 + len))).all (· == 0) && runsOk fl fuel (bs.drop next))

/-- Step 12: the counter of a sentence of bad shape (R40, R182). -/
def badShape (e : Nat) (h : Sent) : Option Nat :=
  let fl := eFrag e
  if h.key then (if fl ≠ 0 ∧ h.payload.length ≠ fl then some 9 else none)
  else if fl = 0 ∨ !runsOk fl 2100 h.payload then some 10 else none

/-- A keyframe's arrival (R42). -/
def StreamDyn.keyed (d : StreamDyn) (h : Sent) : StreamDyn :=
  if h.key then { d with keys := Tab.put h.sub.toNat 0 d.keys, overdue := d.overdue.filter (· != h.sub.toNat) } else d

/-- A stream is stopped by the Snuffer (R438). -/
def State.stopped (s : State) (st : BitVec 24) : Bool := s.snf.stopped.contains st

/-- The record that ingress hands to a queue (R204). Log 30 for the source. -/
def mkRec (h : Sent) (e src : Nat) (arrival : Int) (target : Option Nat) (reorig conv : Bool) : Rec :=
  { sent := h, arrival := arrival, src := src, keepLate := nfld e 107 107 == 1, reorig := reorig, converted := conv,
    target := target, qseq := 0, err := false, seenIn := none }

/-- Steps 6-13 of R171 at plane `p` for a sentence stamped `arrival` by its stream's entry `e` as it was read (R195); a re-originated one
has passed the allocator's rate limit. -/
def State.useSent (s : State) (p : Plane) (src : Nat) (arrival : Int) (h : Sent) (e : Nat) (reorig : Bool) : State :=
  let st := h.stream.toNat
  let s1 := s.when (h.ttl == 0) fun s => s.ing p 3
  if !(entryValid e st && eLocal e) then s1.ing p 4
  else if s1.stopped h.stream then s1.count (R.SNF_STOP_DROP p)
  else if h.cls.toNat ≠ nfld e 117 115 ∨ h.prio.toNat ≠ nfld e 114 112 then s1.ing p 5
  else
    let now := s1.release p
    let pt := ofPt64 now h.pt64
    let k := s1.targetEpoch p (eEg e) pt
    let s2 := s1.when (h.timed && decide (h.tag.toNat ≠ eEg e * 2 ^ 30 + k % 2 ^ 30)) fun s => s.ing p 6
    let ahead : Int := (s2.rf (R.ING_CTL p) 31 16 * 1000 * unitsPerUs : Nat)
    if h.timed && decide (now + ahead < pt) then s2.lose p 7 st
    else
      let (ok, s3) := if reorig then (true, s2) else s2.rateTake p e st arrival
      if !ok then s3
      else
        match badShape e h with
        | some i => s3.lose p i st
        | none =>
          let s4 := s3.modPl p fun x => x.modSd st fun d => d.keyed h
          s4.produce p (nfld e 51 43) (mkRec h e src arrival (if h.timed then some k else none) reorig false)

/-- A plane whose ingress takes sentences into its queues (R75, R83, R87). -/
def State.ingressOn (s : State) (p : Plane) : Bool :=
  match (s.pl p).st with
  | .relearn | .relearnWait | .active => true
  | _ => false

/-- A rejoining plane that queues what arrives until the handover (R83 phase 4). -/
def State.finalPass (s : State) (p : Plane) : Bool :=
  (s.pl p).st == .copy && match (s.pl p).rejoin with | some r => r.phase == .final | none => false

/-- A sentence of a singly attached talker goes onto the Taper link with its arrival time (R70, R523). Log 31. -/
def State.cross (s : State) (p : Plane) (arrival : Int) (h : Sent) : State :=
  let e := (s.pl p).streamEntry h.stream.toNat
  if entryValid e h.stream.toNat && nfld e 109 108 == 0 && s.taperUp && (s.active (other p) || s.finalPass (other p)) then
    { s with link := s.link ++ [(other p, arrival, h)] }
  else s

/-- Candidates of a stream whose classification completes in one cycle wait in the order P0, P1, P2, P3, Lantern ring (R173). -/
def enterCand (c : Cand) : List Cand → List Cand
  | [] => [c]
  | d :: ds => if d.stream = c.stream ∧ d.cycle = c.cycle ∧ c.src < d.src then c :: d :: ds else d :: enterCand c ds

/-- Steps 4-13 of R171 for a sentence received on a port, or from step 5 over the Taper link (`src` 5). -/
def State.classify (s : State) (p : Plane) (src : Nat) (arrival : Int) (h : Sent) : State :=
  let (ok, s1) := if src < 4 then s.dupAccept p src h else (true, s)
  if !ok then s1
  else if !h.timed && decide (h.cls.toNat ≤ 1) then
    if !(src < 4 && s.portMode p src == 2) then s1.ing p 2
    else
      let e := (s1.pl p).streamEntry h.stream.toNat
      if !entryValid e h.stream.toNat then s1.ing p 4
      else
        let c : Cand := { stream := h.stream, arrival := arrival, payload := h.payload, talker := BitVec.ofNat 16 (0x40 + src),
                          src := src, pairKey := none, sacn := none, native := some h, entry := BitVec.ofNat 128 e,
                          cycle := Int.fdiv (s.release p) 16 }
        s1.modPl p fun x => { x with cands := enterCand c x.cands }
  else
    let s2 := s1.when (decide (src < 4) && s.portMode p src == 2) fun s => s.cross p arrival h
    s2.useSent p src arrival h ((s2.pl p).streamEntry h.stream.toNat) false

/-- A sentence reaches a plane's ingress at step 4 (R171). -/
def State.arrive (s : State) (p : Plane) (src : Nat) (arrival : Int) (h : Sent) : State :=
  if s.finalPass p then s.modPl p fun x => { x with finalQ := x.finalQ ++ [(src, arrival, h)] }
  else if s.ingressOn p then s.classify p src arrival h
  else s

/-- A sentence queued during the final pass reaches ingress at the handover; the copied windows drop one that the copy already holds,
from the Taper link too (R83). -/
def State.replay (s : State) (p : Plane) (src : Nat) (arrival : Int) (h : Sent) : State :=
  if src = 5 ∧ (dupCheck (Tab.find (dupKey h) (s.pl p).dup) h.seq).1.isSome then s else s.classify p src arrival h

/-- A PRP trailer at the end of a frame: LanId, SeqNr (R162, R163). Log 28. -/
def prpTrailer (body : List Byte) : Option (Nat × Nat) :=
  let n := body.length
  if 6 ≤ n ∧ octs body (n - 2) 2 = 0x88FB ∧ octs body (n - 4) 2 % 4096 = n % 4096 then
    some (octs body (n - 4) 2 / 4096, octs body (n - 6) 2)
  else none

/-- A received frame taken apart: tagged, EtherType, what follows it without PRP trailer, the trailer. -/
def State.takeApart (s : State) (p : Plane) (port : Fin 4) (frame : List Byte) :
    Bool × Nat × List Byte × Option (Nat × Nat) :=
  let tagged := octs frame 12 2 == 0x8100
  let o := if tagged then 16 else 12
  let body := frame.drop (o + 2)
  let tr := if s.prpOn p port.val then prpTrailer body else none
  (tagged, octs frame o 2, if tr.isSome then body.take (body.length - 6) else body, tr)

/-- Counts a PRP trailer whose LanId is not the plane's (R163). -/
def State.lanId (s : State) (p : Plane) (port : Fin 4) (tr : Option (Nat × Nat)) : State :=
  match tr with
  | some (lan, _) => if lan = (match p with | .a => 0xA | .b => 0xB) then s else s.count (R.PORT_COUNTERS p port.val 11)
  | none => s

/-- Where the PTP message begins in a frame that R152 supports, and whether UDP carries it: the multicast destinations, which differ for
peer delay, and messages of at most 1,500 octets. -/
def ptpAt (frame : List Byte) : Option (Nat × Bool) :=
  let o := if octs frame 12 2 = 0x8100 then 16 else 12
  let et := octs frame o 2
  let ihl := octs frame (o + 2) 1 % 16 * 4
  let udp := et == 0x0800
  let a := if udp then o + 2 + ihl + 8 else o + 2
  let typ := octs frame a 1 % 16
  let peer := typ == 2 || typ == 3 || typ == 10
  let port := octs frame (o + 2 + ihl + 2) 2
  let fits := octs frame (a + 2) 2 ≤ 1500
  if et = 0x88F7 ∧ octs frame 0 6 = (if peer then 0x0180C200000E else 0x011B19000000) ∧ fits then some (a, false)
  else if udp ∧ octs frame (o + 11) 1 = 17 ∧ (port = 319 ∨ port = 320) ∧ octs frame (o + 18) 4 = (if peer then 0xE000006B else 0xE0000181) ∧
      fits then some (a, true)
  else none

/-- Largest frame of a port, FCS included (R137). -/
def State.maxFrame (s : State) (p : Plane) (port : Fin 4) : Nat := if s.portMode p port.val = 1 then 8242 else 9216

/-- A native frame received on a port: checks of the port, forwarding, and the steps of R171 up to the handlers of the system
streams, which have rows of their own (log 24). A sentence with a bad FCS that has to wait is kept and sent with its FCS inverted: log 164. -/
def State.nativeReceive (s : State) (p : Plane) (port : Fin 4) (fcsOk : Bool) (frame : List Byte) : State :=
  let i := port.val
  let mode := s.portMode p i
  let size := frame.length + 4
  if !s.present p || mode == 0 then s
  else if !s.linkUp p i then s.count (R.PORT_COUNTERS p i 3)
  else
    let s1 := s.count (R.PORT_COUNTERS p i (if fcsOk then 0 else 1))
    if size < 64 || s.maxFrame p port < size then s1.count (R.PORT_COUNTERS p i 2)
    else
    let (tagged, et, body, tr) := s.takeApart p port frame
    let da := octs frame 0 6
    let native := et == s.rf (R.PORT_NATIVE_TYPE p i) 15 0 &&
      (mode == 1 || da == s.addr48 (R.PORT_NATIVE_DA_LO p i) || da == s.addr48 (R.PORT_MAC_LO p i))
    if (tagged && mode == 1) || (mode == 1 && !native) then s1.when fcsOk fun s => s.count (R.PORT_COUNTERS p i 3)
    else if !native then s1
    else
      let s2 := s1.when fcsOk fun s => s.lanId p port tr
      let plen := octs body 2 2
      let short := size == (if tagged then 68 else 64)
      let delivered := body.length - 32
      let lenOk := plen == delivered || (short && decide (plen ≤ delivered))
      let pay := body.drop 32
      let h := parseSent body (if lenOk then pay.take plen else pay)
      let s3 := if mode = 1 && s.forwards p && !(fcsOk && isProbe h) then s2.forward p port h (!fcsOk) else s2
      if !fcsOk || s.ownSent h || (mode == 1 && isWest port && s.removes (ringOf port) h) || !s.forwards p then s3
      else if headerErr h lenOk then s3.ing p 0
      else
        let st := h.stream.toNat
        if st = 0 ∨ 0xFF0005 ≤ st then s3.ing p 1
        else if strCmd ≤ st then s3
        else s3.arrive p i (s.release p) h

/-! Foreign inputs. -/

/-- The ones' complement sum of octets in 16-bit words. -/
def onesSum (bs : List Byte) : Nat :=
  ((List.range ((bs.length + 1) / 2)).map fun i => octs bs (2 * i) 2).sum

/-- A checksum over octets is right when their ones' complement sum is all ones. -/
def sumOk (bs : List Byte) : Bool := onesSum bs % 65535 == 0 && onesSum bs != 0

/-- A key from KIND, SRC and bits 85:0 (R174). -/
def mkKey (kind src low : Nat) : BitVec 96 := BitVec.ofNat 96 (kind * 2 ^ 92 + src * 2 ^ 86 + low)

def Parsed.plain (kind : Nat) (key : BitVec 96) (payload : List Byte) : Parsed :=
  { kind := kind, key := key, payload := payload, talker := none, preview := false, sacn := none, cid := [], sync := none,
    prp := none, lantern := none }

/-- The stamp as PT64 with its FRAC (R184). -/
def stampOctets (arrival : Int) : List Byte := toBE 8 (toPt64 arrival).toNat

/-- FRAC of a stamp. -/
def fracOf (arrival : Int) : Nat := (arrival % 16).toNat

/-- A PTP message as a foreign input, without what pads its frame (R174, R184). -/
def parsePtp (src : Nat) (arrival : Int) (body : List Byte) : Parsed :=
  let msg := body.take (octs body 2 2)
  let key := mkKey 5 src (octs msg 0 1 % 16 * 2 ^ 82 + octs msg 4 1 * 2 ^ 74 + octs msg 20 8 * 2 ^ 10)
  Parsed.plain 5 key (stampOctets arrival ++ toBE 1 (fracOf arrival) ++ toBE 3 0 ++ msg)

/-- PDU flags and length: flags 0x7, length to the end of the packet. Log 28. -/
def pduLen (u : List Byte) (o : Nat) : Bool := octs u o 2 == 0x7000 + (u.length - o)

/-- An sACN packet, the UDP payload of port 5568 (R175): a parsed input or the index of the counter. Log 28. -/
def parseSacn (src : Nat) (u : List Byte) : Except Nat Parsed :=
  let acn : List Byte := [0x00, 0x10, 0x00, 0x00, 0x41, 0x53, 0x43, 0x2D, 0x45, 0x31, 0x2E, 0x31, 0x37, 0, 0, 0]
  let cid := slice u 22 16
  let cidLo := octs u 34 4
  let root := octs u 18 4
  let framing := octs u 40 4
  if u.take 16 ≠ acn ∨ !pduLen u 16 ∨ !pduLen u 38 then .error 16
  else if root = 8 ∧ framing = 2 then .error 17
  else if root = 8 ∧ framing = 1 then
    if u.length ≠ 49 then .error 16
    else
      let addr := octs u 45 2
      .ok { Parsed.plain 3 (mkKey 3 src (addr * 2 ^ 70 + cidLo * 2 ^ 38)) [] with
              cid := cid, sync := some (BitVec.ofNat 8 (octs u 44 1), BitVec.ofNat 16 addr) }
  else if root = 4 ∧ framing = 2 then
    let univ := octs u 113 2
    let prio := octs u 108 1
    let count := octs u 123 2
    let opt := octs u 112 1
    if u.length < 126 ∨ !pduLen u 115 ∨ octs u 117 1 ≠ 2 ∨ octs u 118 1 ≠ 0xA1 ∨ octs u 119 2 ≠ 0 ∨ octs u 121 2 ≠ 1 ∨
        count < 1 ∨ 513 < count ∨ u.length ≠ 125 + count ∨ univ < 1 ∨ 63999 < univ ∨ 200 < prio then .error 16
    else
      let sync := octs u 109 2
      let sc := octs u 125 1
      let seq := BitVec.ofNat 8 (octs u 111 1)
      .ok { Parsed.plain 2 (mkKey 2 src (univ * 2 ^ 70 + prio * 2 ^ 62 + sc * 2 ^ 54 + cidLo * 2 ^ 22 + sync * 2 ^ 6))
              (u.drop 126) with
              preview := nfld opt 7 7 == 1, cid := cid,
              sacn := some ⟨seq, nfld opt 6 6 == 1, nfld opt 5 5 == 1, BitVec.ofNat 16 sync⟩,
              sync := some (seq, BitVec.ofNat 16 sync) }
  else .error 16

/-- An IPv4 packet (R175). -/
def State.parseIp (s : State) (p : Plane) (port : Fin 4) (arrival : Int) (ip whole : List Byte) : Except Nat Parsed :=
  let ihl := octs ip 0 1 % 16 * 4
  let total := octs ip 2 2
  let dst := octs ip 16 4
  let u := slice ip ihl (total - ihl)
  let src := port.val
  if ip.length < 20 ∨ octs ip 0 1 / 16 ≠ 4 ∨ ihl < 20 ∨ total < ihl ∨ ip.length < total ∨ !sumOk (ip.take ihl) ∨
      octs ip 6 2 % 0x4000 ≠ 0 ∨ (dst / 2 ^ 28 ≠ 14 ∧ dst ≠ (s.reg (R.PORT_IPV4 p port.val)).toNat) then .error 21
  else if octs ip 9 1 ≠ 17 then .ok (Parsed.plain 6 (mkKey 6 src (0x0800 * 2 ^ 70 + octs whole 0 6 * 2 ^ 22)) whole)
  else
    let ulen := octs u 4 2
    let pseudo := slice ip 12 8 ++ [0, 17] ++ toBE 2 ulen ++ u
    if u.length < 8 ∨ ulen ≠ u.length ∨
        (s.rb (R.ING_CTL p) 0 && octs u 6 2 != 0 && !sumOk pseudo) then .error 21
    else
      let dport := octs u 2 2
      let body := u.drop 8
      if dport = 5568 then parseSacn src body
      else if dport = 319 ∨ dport = 320 then .ok (parsePtp src arrival body)
      else .ok (Parsed.plain 4 (mkKey 4 src (dst * 2 ^ 54 + dport * 2 ^ 38 + octs ip 12 4 * 2 ^ 6)) body)

/-- A frame of a spur port that is not native (R142, R175). -/
def State.parseEth (s : State) (p : Plane) (port : Fin 4) (arrival : Int) (frame : List Byte) : Except Nat Parsed :=
  let (_, et, body, tr) := s.takeApart p port frame
  let whole := frame.take 12 ++ toBE 2 et ++ body
  let key := tr.map fun t => slice frame 6 6 ++ toBE 2 t.2
  let r : Except Nat Parsed :=
    if et = 0x88F7 then .ok (parsePtp port.val arrival body)
    else if et = 0x0800 then s.parseIp p port arrival body whole
    else .ok (Parsed.plain 6 (mkKey 6 port.val (et * 2 ^ 70 + octs frame 0 6 * 2 ^ 22)) whole)
  r.map fun x => { x with prp := key }

/-- A Lantern input's pairing key: its number in TALKER form and its input sequence (R187). -/
def lanternKey (talker : Nat) (inseq : Word) : Option (List Byte) := some (toBE 2 talker ++ toBE 4 inseq.toNat)

/-- The parsers (R172 step 1, R174, R175). -/
def State.parse (s : State) (p : Plane) (arrival : Int) (f : Foreign) : Except Nat Parsed :=
  match f with
  | .eth port frame => s.parseEth p port arrival frame
  | .serPkt n bad os inseq =>
    if bad || decide (4096 < os.length) then .error 22
    else .ok { Parsed.plain 8 (mkKey 8 n.val (octs os 0 4 * 2 ^ 54 + os.length * 2 ^ 41)) os with
                 talker := some (BitVec.ofNat 16 n.val), lantern := lanternKey n.val inseq }
  | .serTel n bad chk os inseq =>
    if bad then .error 22
    else
      let fmt := s.reg (R.SL_TEL_FMT n.val)
      let ids := (slice os (fld fmt 13 11) (fld fmt 16 14)).take (os.length - fld fmt 13 11)
      .ok { Parsed.plain 9 (mkKey 9 n.val (octs os 0 1 * 2 ^ 78 + octs ids 0 4 * 2 ^ 46 + (os.length - 1) % 1024 * 2 ^ 36 +
              chk.toNat * 2 ^ 35)) (os.drop 1) with
              talker := some (BitVec.ofNat 16 n.val), lantern := lanternKey n.val inseq }
  | .can n rtr desc data inseq =>
    let w := octs desc 0 4
    .ok { Parsed.plain 10 (mkKey 10 n.val (nfld w 31 31 * 2 ^ 85 + nfld w 28 0 * 2 ^ 56 + nfld w 30 30 * 2 ^ 55 +
            nfld w 29 29 * 2 ^ 54 + octs desc 4 1 % 16 * 2 ^ 50 + rtr.toNat * 2 ^ 49 + octs data 0 4 * 2 ^ 17))
            (slice desc 0 8 ++ data) with
            talker := some (BitVec.ofNat 16 (0x20 + n.val)), lantern := lanternKey (0x20 + n.val) inseq }
  | .capture i rising count =>
    .ok { Parsed.plain 11 (mkKey 11 i.val (rising.toNat * 2 ^ 85))
            (stampOctets arrival ++ toBE 1 (rising.toNat * 128 + fracOf arrival) ++ toBE 3 0 ++ toBE 4 count.toNat) with
            talker := some (BitVec.ofNat 16 (0x28 + i.val)), lantern := lanternKey (0x28 + i.val) count }
  | .ltc i rate hms ub inseq =>
    .ok { Parsed.plain 12 (mkKey 12 i.val (rate.toNat * 2 ^ 84 + ub.toNat * 2 ^ 52))
            (stampOctets arrival ++ slice hms 0 4 ++ toBE 4 ub.toNat) with
            talker := some (BitVec.ofNat 16 (0x30 + i.val)), lantern := lanternKey (0x30 + i.val) inseq }

/-- Rule fields (R177). -/
def rlValue (r : BitVec 256) : BitVec 96 := BitVec.ofNat 96 (nfld r.toNat 255 160)
def rlMask (r : BitVec 256) : BitVec 96 := BitVec.ofNat 96 (nfld r.toNat 159 64)
def rlAct (r : BitVec 256) : Nat := r.toNat % 2 ^ 64

/-- A rule matches a key (R178). -/
def ruleMatch (r : BitVec 256) (key : BitVec 96) : Bool :=
  nfld (rlAct r) 63 63 == 1 && ((key ^^^ rlValue r) &&& rlMask r) == 0

/-- The rule that decides (R178). -/
def PlaneS.ruleFor (x : PlaneS) (key : BitVec 96) : Option (Nat × BitVec 256) := x.rules.find? fun e => ruleMatch e.2 key

/-- The stream that an action gives a key (R178). -/
def ruleStream (a : Nat) (key : BitVec 96) : Nat :=
  let base := nfld a 23 0
  if nfld a 62 60 = 2 then (base + key.toNat / 2 ^ nfld a 59 53 % 2 ^ nfld a 52 48) % 2 ^ 24 else base

/-- The plane whose allocator serves plane `p` (R185). -/
def State.allocPlane (s : State) (p : Plane) : Plane := if s.mode = 3 then s.lead else p

/-- In DUPLEX both planes hold the state of the one allocator (R185). Log 32. -/
def State.mirrorAlloc (s : State) (q : Plane) (st : Nat) : State :=
  if s.mode = 3 then
    let x := s.pl q
    let d := x.sd st
    s.modPl (other q) fun y =>
      { y.modSd st (fun f => { f with lastSeq := d.lastSeq, terminated := d.terminated, held := d.held, rate := d.rate }) with
        sync := x.sync }
  else s

/-- The payload of a conversion: padded or cut to FRAG_LEN (R184). Log 33 for payloads above 8,192 octets. -/
def State.fitPayload (s : State) (q : Plane) (e : Nat) (pay : List Byte) : List Byte × State :=
  let fl := eFrag e
  if fl ≠ 0 ∧ pay.length < fl then (slice pay 0 fl, s.ing q 23)
  else if (fl ≠ 0 ∧ fl < pay.length) ∨ 8192 < pay.length then (pay.take (if fl = 0 then 8192 else fl), s.ing q 24)
  else (pay, s)

/-- The planes that queue and originate what the allocator of plane `q` finishes (R185). -/
def State.allocPlanes (s : State) (q : Plane) : List Plane := if s.mode = 3 then [.a, .b] else [q]

/-- Rate limit, SEQ, conversion, queueing and origination of a candidate whose presentation counts from `from_` (R172, R183, R186,
R188). -/
def State.finish (s : State) (q : Plane) (c : Cand) (from_ : Int) : State :=
  let e := c.entry.toNat
  let st := c.stream.toNat
  let (ok, s0) := s.rateTake q e st c.arrival
  if !ok then s0
  else
    let (pay, s1) := if c.native.isSome then (c.payload, s0) else s0.fitPayload q e c.payload
    let base := match c.native with
      | some h => { s1.blank h.cls.toNat h.prio.toNat st c.talker.toNat pay with key := h.key, sub := h.sub, last := h.last }
      | none => s1.blank (nfld e 117 115) (nfld e 114 112) st c.talker.toNat pay
    let pt := from_ + (nfld e 75 60 * unitsPerUs : Nat)
    let k := s1.targetEpoch q (eEg e) pt
    let (seq, s2) := s1.takeSeq q base.cls.toNat
    let h := ({ base with timed := true, pt64 := toPt64 pt, tag := BitVec.ofNat 32 (eEg e * 2 ^ 30 + k % 2 ^ 30), seq := seq }).seal
    (s2.allocPlanes q).foldl (fun (s : State) p =>
      let s3 :=
        if c.native.isSome then s.useSent p 6 c.arrival h e true
        else if !eLocal e then s
        else
          let k' := s.targetEpoch p (eEg e) pt
          ((s.modPl p fun x => x.modSd st fun d => d.keyed h).produce p (nfld e 51 43)
            (mkRec h e (if c.src = 4 then 4 else 6) c.arrival (some k') false true))
      if (c.native.isSome || nfld e 120 120 == 1) && s.devValid && s.active p then
        let (s4, d) := s3.originateBy p e h
        s4.raiseIf d (evOf p 154)
      else s3) s2

/-- An sACN sequence number is refused (R186). -/
def seqRefused (last : Option Byte) (new : Byte) : Bool :=
  match last with
  | none => false
  | some l =>
    let d := sext 8 ((new.toNat + 256 - l.toNat) % 256)
    decide (-19 ≤ d) && decide (d ≤ 0)

/-- A sync group (R190). -/
def SyncGrp.never : SyncGrp := ⟨0, none, 0, none⟩
def PlaneS.grp (x : PlaneS) (g : Nat) : SyncGrp := Tab.get SyncGrp.never g x.sync

/-- The allocator's stages for one candidate (R186). A data packet stamped as the group's last synchronisation packet goes before that
packet, which releases it (R197). Log 121. -/
def State.allocOne (s : State) (q : Plane) (c : Cand) : State :=
  let st := c.stream.toNat
  let e := c.entry.toNat
  let paired := match c.pairKey with | some k => (s.pl q).pairs.contains k | none => false
  if paired then s.lose q 15 st
  else
    let s1 := match c.pairKey with
      | some k => s.modPl q fun x => { x with pairs := x.pairs ++ [k] }
      | none => s
    match c.sacn with
    | none => s1.finish q c c.arrival
    | some a =>
      if seqRefused ((s1.pl q).sd st).lastSeq a.seq then s1.lose q 19 st
      else
        let s2 := s1.modPl q fun x => x.modSd st fun d => { d with lastSeq := some a.seq, terminated := a.terminated }
        if a.terminated then s2.raiseP q 135
        else
          let g := nfld e 42 35
          let y := (s2.pl q).grp g
          if g ≠ 0 ∧ a.syncAddr ≠ 0 ∧ (y.st ≠ 2 ∨ a.force) ∧ y.stamp ≠ some c.arrival then
            let s3 := if ((s2.pl q).sd st).held.isSome then s2.lose q 20 st else s2
            s3.modPl q fun x => x.modSd st fun d => { d with held := some c }
          else s2.finish q c c.arrival

/-- ALLOCATE_CANDIDATE: the allocator takes the first candidate of plane `p`. -/
def State.allocate (s : State) (p : Plane) : State :=
  match (s.pl p).cands with
  | [] => s
  | c :: rest =>
    let q := s.allocPlane p
    ((s.modPl p fun x => { x with cands := rest }).allocOne q c).mirrorAlloc q c.stream.toNat

/-- The allocator takes the candidates of group `g` at plane `p` that go before a synchronisation packet stamped `arrival`: data before
synchronisation (R197). Log 121. -/
def State.dataBefore (s : State) (p : Plane) (g : Nat) (arrival : Int) : State :=
  let before (c : Cand) : Bool := nfld c.entry.toNat 42 35 == g && decide (c.arrival ≤ arrival)
  let q := s.allocPlane p
  ((s.pl p).cands.filter before).foldl (fun (s : State) c => (s.allocOne q c).mirrorAlloc q c.stream.toNat)
    (s.modPl p fun x => { x with cands := x.cands.filter fun c => !before c })

/-- Held sentences in ascending stream order. -/
def insCand (c : Cand) : List Cand → List Cand
  | [] => [c]
  | d :: ds => if c.stream.toNat < d.stream.toNat then c :: d :: ds else d :: insCand c ds

/-- The sentences held in a group that satisfy `f`, in ascending stream order (R191). -/
def PlaneS.heldIn (x : PlaneS) (g : Nat) (f : Cand → Bool) : List Cand :=
  ((x.sdyn.filterMap fun e => e.2.held).filter fun c => nfld c.entry.toNat 42 35 == g && f c).foldl (fun a c => insCand c a) []

/-- A synchronisation packet of group `g` (R190, R191). Log 34 for inputs other than sACN. -/
def State.syncPacket (s : State) (q : Plane) (g : Nat) (sync : Option (Byte × BitVec 16)) (arrival : Int) : State :=
  let x := s.pl q
  let y := x.grp g
  if (match sync with | some (n, _) => seqRefused y.lastSeq n | none => false) then s.ing q 19
  else
    let y1 : SyncGrp := match sync with
      | some (n, a) => ⟨1, some n, a, some arrival⟩
      | none => { y with st := 1, stamp := some arrival }
    let s1 := s.modPl q fun x => { x with sync := Tab.set SyncGrp.never g y1 x.sync }
    let s1 := if s.mode = 3 then s1.modPl (other q) fun z => { z with sync := (s1.pl q).sync } else s1
    (x.heldIn g fun c => decide (c.arrival ≤ arrival)).foldl (fun (s : State) c =>
      ((s.modPl q fun x => x.modSd c.stream.toNat fun d => { d with held := none }).finish q c arrival).mirrorAlloc q c.stream.toNat)
      s1

/-- A SYNCED group without a packet becomes UNSYNCED (R192). -/
def State.syncTimeout (s : State) (p : Plane) (g : Nat) : State :=
  let y := (s.pl p).grp g
  if y.st ≠ 1 then s
  else
    let s1 := (s.modPl p fun x => { x with sync := Tab.set SyncGrp.never g { y with st := 2 } x.sync }).raiseP p 136
    ((s.pl p).heldIn g fun _ => true).foldl (fun (s : State) c =>
      (s.lose p 20 c.stream.toNat).modPl p fun x => x.modSd c.stream.toNat fun d => { d with held := none }) s1

/-- The pairing key of an input under its stream's ATTACH (R187). -/
def pairKeyOf (attach : Nat) (x : Parsed) (univ : Nat) : Option (List Byte) :=
  if x.lantern.isSome then x.lantern
  else if attach = 1 then
    match x.sacn with
    | some a => some (x.cid ++ toBE 2 univ ++ [a.seq])
    | none => none
  else if attach = 2 then x.prp
  else none

/-- The stream of a Lantern input whose queue is under back-pressure (R280). -/
def State.inputHeld (s : State) (p : Plane) (x : Parsed) : Bool :=
  match (s.pl p).ruleFor x.key with
  | none => false
  | some (_, r) =>
    let a := rlAct r
    let st := ruleStream a x.key
    let e := (s.pl p).streamEntry st
    (nfld a 62 60 == 1 || nfld a 62 60 == 2) && entryValid e st && eLocal e &&
      bothPlanes.any fun q => s.present q && s.bp q (nfld e 51 43)

/-- Matching and hand-over to the allocator (R172 steps 2-5). -/
def State.matched (s : State) (p : Plane) (arrival : Int) (src : Nat) (x : Parsed) : State :=
  match (s.pl p).ruleFor x.key with
  | none => s.ing p 12
  | some (i, r) =>
    let s1 := s.modPl p fun y => { y with hits := Tab.set 0 i (incSat (Tab.get 0 i y.hits)) y.hits }
    let a := rlAct r
    if nfld a 62 60 = 0 then s1.ing p 13
    else if nfld a 62 60 = 3 then
      let s2 := (s.allocPlanes (s.allocPlane p)).foldl (fun (s : State) q => s.dataBefore q (nfld a 7 0) arrival) s1
      s2.syncPacket (s.allocPlane p) (nfld a 7 0) x.sync arrival
    else
      let st := ruleStream a x.key
      let e := (s.pl p).streamEntry st
      if !entryValid e st then s1.ing p 14
      else if s.stopped (BitVec.ofNat 24 st) then s1.count (R.SNF_STOP_DROP p)
      else if x.preview && nfld e 106 106 == 0 then s1.ing p 18
      else
        let univ := nfld x.key.toNat 85 70
        let c : Cand := { stream := BitVec.ofNat 24 st, arrival := arrival, payload := x.payload,
                          talker := x.talker.getD (BitVec.ofNat 16 (nfld e 26 11)), src := src,
                          pairKey := pairKeyOf (nfld e 109 108) x univ, sacn := x.sacn, native := none,
                          entry := BitVec.ofNat 128 e, cycle := Int.fdiv (s.release p) 16 }
        s1.modPl p fun y => { y with cands := enterCand c y.cands }

/-- PRP_SUPERVISION_RECEIVE (R142, R145, R163, R164, R169): any SPUR port accepts a supervision frame, a RING port drops it. LanId of its
trailer is not looked at: log 153. -/
def State.prpSupIn (s : State) (p : Plane) (port : Nat) : State :=
  if !s.present p || s.portMode p port == 0 then s
  else if !s.linkUp p port then s.count (R.PORT_COUNTERS p port 3)
  else
    let s1 := s.count (R.PORT_COUNTERS p port 0)
    if s.portMode p port = 1 then s1.count (R.PORT_COUNTERS p port 3)
    else s1.when (s.prpOn p port) fun s => s.count (R.PORT_COUNTERS p port 12)

/-- A frame of a spur port before its parser: the port's own checks (R137, R142, R145, R163, R169). What is no foreign input, a native
frame for the port or a supervision frame, is left to its own row or taken as such. -/
def State.spurFrame (s : State) (p : Plane) (port : Fin 4) (frame : List Byte) : Bool × State :=
  let i := port.val
  let (_, et, body, tr) := s.takeApart p port frame
  let size := frame.length + 4
  let da := octs frame 0 6
  let sized := 64 ≤ size ∧ size ≤ 9216
  if !s.present p || s.portMode p i != 2 then (false, s)
  else if !s.linkUp p i then (false, s.count (R.PORT_COUNTERS p i 3))
  else if (ptpAt frame).isSome then (decide sized, s)
  else if ¬ sized then (false, (s.count (R.PORT_COUNTERS p i 0)).count (R.PORT_COUNTERS p i 2))
  else if et = 0x8808 ∧ octs body 0 2 = 1 then (false, (s.count (R.PORT_COUNTERS p i 0)).count (R.PORT_COUNTERS p i 3))
  else if et = 0x88FB ∧ da = 0x01154E000100 then (false, s.prpSupIn p i)
  else if et = s.rf (R.PORT_NATIVE_TYPE p i) 15 0 ∧ (da = s.addr48 (R.PORT_NATIVE_DA_LO p i) ∨ da = s.addr48 (R.PORT_MAC_LO p i)) then (false, s)
  else (true, (s.count (R.PORT_COUNTERS p i 0)).lanId p port tr)

/-- FOREIGN_INPUT at plane `p` (R172). -/
def State.foreign (s : State) (p : Plane) (arrival : Int) (f : Foreign) : State :=
  let (go, src, s1) := match f with
    | .eth port frame => let (g, t) := s.spurFrame p port frame; (g, port.val, t)
    | _ => (true, 4, s)
  if !go || !s.ingressOn p then s1
  else
    match s1.parse p arrival f with
    | .error i => s1.ing p i
    | .ok x => if x.lantern.isSome && s1.inputHeld p x then s1 else s1.matched p arrival src x

/-- KEY_OVERDUE_CHECK at a boundary of generator `g` (R42). -/
def State.keyCheck (s : State) (p : Plane) (g : Nat) : State :=
  (s.pl p).sdyn.foldl (fun (s : State) e =>
    let en := (Tab.get (0 : BitVec 128) e.1 (s.pl p).tabs.streams).toNat
    if nfld en 127 127 = 0 ∨ eEg en ≠ g then s
    else
      let ki := nfld en 105 98
      let frags := e.2.keys.filter fun k => decide (k.1 ≤ nfld en 83 76)
      let late := (frags.filter fun k => decide (ki ≤ k.2) && !e.2.overdue.contains k.1).map Prod.fst
      let keys := e.2.keys.map fun k => (k.1, min (k.2 + 1) 256)
      let d := { e.2 with keys := keys, overdue := e.2.overdue ++ late }
      let s1 := s.modPl p fun x => { x with sdyn := Tab.set StreamDyn.none_ e.1 d x.sdyn }
      s1.each late fun s _ => s.raiseP p 134) s

end Sys2Proof.Machine
end

