-- ==== Sys2Proof/Machine/Reply.lean ====
section
/-!
DEFINITION. Status replies (R22, R425, R426): the reply ring of a host queue (R418, R420), the reply sentence on the ring
(R428), and commands that run on until their completion record.
-/
namespace Sys2Proof.Machine

/-- The status codes (R22). -/
def stDone : Nat := 0x00
def stAccepted : Nat := 0x01
def stQueued : Nat := 0x02
def stBadOpcode : Nat := 0x10
def stBadParam : Nat := 0x11
def stNoResource : Nat := 0x12
def stOverBudget : Nat := 0x13
def stConflict : Nat := 0x14
def stNotPermitted : Nat := 0x15
def stPlaneAbsent : Nat := 0x20
def stTimeout : Nat := 0x21
def stFarError : Nat := 0x22

/-- A host queue that has seen nothing. -/
def HqS.rest : HqS := ⟨0, 0, false, 0, false, false⟩

def State.hqS (s : State) (q : Nat) : HqS := s.hq.getD q HqS.rest

def State.modHq (s : State) (q : Nat) (f : HqS → HqS) : State := { s with hq := modAt q f s.hq }

/-- Entries of the submission and reply rings (R421). -/
def State.sqSize (s : State) (q : Nat) : Nat := 2 ^ s.rf (R.HQ_CTL q) 27 24
def State.rqSize (s : State) (q : Nat) : Nat := 2 ^ s.rf (R.HQ_CTL q) 19 16

def State.rqTail (s : State) (q : Nat) : Nat := s.rf (R.HQ_STATUS q) 27 16
def State.sqHead (s : State) (q : Nat) : Nat := s.rf (R.HQ_STATUS q) 11 0

/-- Room in the reply ring (R420). -/
def State.rqRoom (s : State) (q : Nat) : Nat := ((s.hqS q).head + 2 * s.rqSize q - s.rqTail q - 1) % s.rqSize q

/-- Commands that may return ACCEPTED or QUEUED_MAINT (R420, R430-R434, R442, R445). -/
def mayAccept (op : Nat) : Bool :=
  op == 0x0103 || op == 0x0603 || op == 0x0604 || op == 0x0605 || op == 0x0702 || op == 0x0705 || op == 0x0A01 ||
    op == 0x0A03 || (decide (0x0901 ≤ op) && decide (op ≤ 0x0908))

/-- Replies a command is counted as owing (R420). A timed Snuffer command may run on. Log 84. -/
def owes (op : Nat) (timed : Bool) : Nat := if mayAccept op || (timed && op / 256 == 0xF) then 2 else 1

/-- The number in SOURCE of this device's own replies (R418). -/
def State.sourceNum (s : State) : Nat := if s.devValid then s.devnum else 0

/-- HQ_STATUS.FAULT with its cause and entry index (R420, R421). -/
def State.hqFault (s : State) (q cause idx : Nat) : State :=
  ((s.setRb (R.HQ_STATUS q) 31 true).setReg (R.HQ_FAULT q) (BitVec.ofNat 32 (cause * 2 ^ 28 + idx % 4096))).raise 25

/-- Writes a reply at RQ_TAIL of queue `q`, advances it and raises the queue's event; a write that fails stops the queue instead
(R418, R420). Log 150. -/
def State.writeReply (s : State) (q : Nat) (rep : List Byte) (source : Nat) : State :=
  let tail := s.rqTail q
  let entry := slice rep 0 16 ++ toBE 2 source ++ toBE 1 ((s.hqS q).phase.toNat * 128 + q) ++ List.replicate 5 0 ++
    toBE 8 (toPt64 s.lantern).toNat
  let next := (tail + 1) % s.rqSize q
  if (s.hqS q).wfail then (s.modHq q fun h => { h with wfail := false }).hqFault q 2 tail
  else
  let s1 := (s.emit (.hostWrite (s.reg64 (R.HQ_RQ_BASE_LO q) + 32 * tail) entry)).setRf (R.HQ_STATUS q) 27 16 next
  (s1.when (next == 0) fun s => s.modHq q fun h => { h with phase := !h.phase }).raise (21 + q)

/-- The 16 octets of a status reply (R425). -/
def replyOctets (tag status flags : Nat) (res : List Byte) : List Byte := toBE 2 tag ++ toBE 1 status ++ toBE 1 flags ++ slice res 0 12

/-- A command of this device's host with ALL = 1 is forwarded as well as executed (R424). -/
def fwdHost (c : Cmd) : Bool := match c.src with | .hostQ _ => c.all | .ring .. => false

/-- The plane that originates a device's reply (R428): in SPLIT the plane that executed its own copy. -/
def State.replier (s : State) (acting : List Plane) : Plane := if s.mode = 4 then acting.headD s.lead else s.lead

/-- The classes in which ACKREQ has effect, commands being on stream 0xFF0000: Snuffer, Service-request, Posted and Bulk (R32). -/
def ackHeeded (cls : Nat) : Bool := cls == 7 || cls == 3 || cls == 5 || cls == 6

/-- Sends a reply to the source of command `c` (R420, R424, R428). Where forwarding fails, both planes being absent, the local reply
is PLANE_ABSENT. -/
def State.sendReply (s : State) (c : Cmd) (by_ : Plane) (status flags : Nat) (res : List Byte) (first final : Bool) : State :=
  match c.src with
  | .hostQ q =>
    if fwdHost c && !first then s
    else
      let fin := final || fwdHost c
      let fails := fwdHost c && !s.present .a && !s.present .b
      let rep := replyOctets c.tag.toNat (if fails then stPlaneAbsent else status) (fin.toNat * 128 + flags + (fwdHost c).toNat * 8) res
      let bad := (s.hqS q.val).wfail
      let freed := if fin && first then owes c.op.toNat c.timed else 1
      let s1 := (s.writeReply q.val rep s.sourceNum).modHq q.val fun h =>
        { h with busy := if first then false else h.busy, owed := h.owed - freed }
      s1.when (fin && !bad) fun s => s.count (R.HQ_DONE q.val)
  | .ring cls origin _ ackreq =>
    if ackreq && ackHeeded cls.toNat then
      let rep := replyOctets c.tag.toNat status (final.toNat * 128 + flags) res
      let (h, s1) := s.freeHead (s.blank 4 0 strReply 0x0081 (toBE 2 origin.toNat ++ [0, 0] ++ rep))
      s1.orig by_ h
    else s

/-- A plane's part in a command. -/
def partOf (p : Plane) (parts : List (Plane × Nat × List Byte)) : Option (Plane × Nat × List Byte) :=
  parts.find? fun e => decide (e.1 = p)

/-- STATUS, the OK and DIVERGED flags, and RESULT of a command from its planes' parts (R426, R459). -/
def combine (lead : Plane) (parts : List (Plane × Nat × List Byte)) (split : Bool) : Nat × Nat × List Byte :=
  let ps := bothPlanes.filterMap fun p => partOf p parts
  let status := match ps.find? fun e => e.2.1 != stDone with
    | some e => e.2.1
    | none => if split then stNotPermitted else stDone
  let ok (p : Plane) : Bool := match partOf p parts with | some e => e.2.1 == stDone | none => false
  let diverged := match ps with | [a, b] => decide (a.2 ≠ b.2) | _ => false
  let res := match partOf lead parts with
    | some e => e.2.2
    | none => match ps with | e :: _ => e.2.2 | [] => []
  (status, (ok .a).toNat * 64 + (ok .b).toNat * 32 + diverged.toNat * 16, res)

/-- Answers a command that completes at once (R426). -/
def State.answer (s : State) (c : Cmd) (parts : List (Plane × Nat × List Byte)) (split : Bool) : State :=
  let (status, flags, res) := combine s.lead parts split
  s.sendReply c (s.replier (parts.map Prod.fst)) status flags res true true

/-- IMAGE_COMMIT, IMAGE_VERIFY. -/
def imageCmd (c : Cmd) : Bool := c.op == 0x0A01 || c.op == 0x0A03

/-- Refuses a command: one final reply with no plane's part (R416, R423); of an image command it raises IMAGE_REFUSED (R448). -/
def State.refuse (s : State) (c : Cmd) (by_ : Plane) (status : Nat) : State :=
  (s.sendReply c by_ status 0 [] true true).raiseIf (imageCmd c) 30

/-- A command that runs on returns ACCEPTED or QUEUED_MAINT (R426). -/
def State.accept (s : State) (c : Cmd) (acting : List Plane) (split : Bool) (status : Nat) : State :=
  let s1 := s.sendReply c (s.replier acting) status 0 [] true false
  if fwdHost c then s1
  else { s1 with opens := s1.opens ++ [{ cmd := c, acting := acting, parts := [], split := split, first := false }] }

/-- A command whose one reply waits for what it has begun (R433: WIN_READ, WIN_WRITE). -/
def State.hold (s : State) (c : Cmd) (acting : List Plane) (split : Bool) : State :=
  { s with opens := s.opens ++ [{ cmd := c, acting := acting, parts := [], split := split, first := true }] }

/-- The first open entry of a command, and the others. -/
def takeOpen (c : Cmd) : List OpenS → Option (OpenS × List OpenS)
  | [] => none
  | o :: os => if o.cmd = c then some (o, os) else (takeOpen c os).map fun e => (e.1, o :: e.2)

/-- Plane `p` has done its part in an open command; the last part completes it (R426). -/
def State.part (s : State) (c : Cmd) (p : Plane) (status : Nat) (res : List Byte) : State :=
  match takeOpen c s.opens with
  | none => s
  | some (o, rest) =>
    if (partOf p o.parts).isSome then s
    else
      let parts := o.parts ++ [(p, status, res)]
      if o.acting.all fun q => (partOf q parts).isSome then
        let (st, flags, r) := combine s.lead parts o.split
        { s with opens := rest }.sendReply c (s.replier o.acting) st flags r o.first true
      else { s with opens := { o with parts := parts } :: rest }

/-- Completes an open command whose work was done once for the device. -/
def State.complete (s : State) (c : Cmd) (status : Nat) (res : List Byte) : State :=
  match takeOpen c s.opens with
  | none => s
  | some (o, _) => o.acting.foldl (fun s p => s.part c p status res) s

/-- A plane that can carry an image commit on, if the command names it: an ACTIVE one, or one in RELEARN (R459, R462). -/
def State.carries (s : State) (p : Plane) (c : Cmd) : Bool :=
  (planesOf c.planes).contains p && (s.active p || decide ((s.pl p).st = .relearn) || decide ((s.pl p).st = .relearnWait))

/-- Commands open at plane `p` complete with PLANE_ABSENT when it is lost (R77); an IMAGE_COMMIT goes on without it, if its peer acts on
it or is left to carry it on (R462). -/
def State.lostParts (s : State) (p : Plane) (keep : Option Cmd) : State :=
  let drop (o : OpenS) : OpenS :=
    if imageCmd o.cmd && (o.acting.contains (other p) || s.carries (other p) o.cmd) then { o with acting := [other p] } else o
  let s1 := { s with opens := s.opens.map drop }
  s1.opens.foldl (fun s o => if o.acting.contains p && decide (some o.cmd ≠ keep) then s.part o.cmd p stPlaneAbsent [] else s) s1

/-- A reply of another device enters the reply ring of the queue that issued its tag, or is lost when no room is left beside
the replies owed (R420, R428). -/
def State.remoteReply (s : State) (origin : Nat) (rep : List Byte) : State :=
  match Tab.find (octs rep 0 2) s.fwdTags with
  | none => s
  | some q =>
    if s.rqRoom q ≤ (s.hqS q).owed then s.count (R.HQ_RQ_LOST q)
    else s.writeReply q rep (2 ^ 15 + origin)

end Sys2Proof.Machine
end

