-- ==== Sys2Proof/Machine/Serial.lean ====
section
/-!
DEFINITION. Serial lines (chapter 10): receiving characters, packets and telegrams, the receive and transmit queues, RDM
transactions, flow control, line faults.
-/
namespace Sys2Proof.Machine

def State.slS (s : State) (n : Nat) : SlS := s.sl.getD n SlS.rest

def State.modSl (s : State) (n : Nat) (f : SlS → SlS) : State := { s with sl := modAt n f s.sl }

def State.slMode (s : State) (n : Nat) : Word := s.reg (R.SL_MODE n)
def State.slEn (s : State) (n : Nat) : Bool := bit (s.slMode n) 31
def State.slTel (s : State) (n : Nat) : Bool := bit (s.slMode n) 30
def State.slData (s : State) (n : Nat) : Nat := fld (s.slMode n) 29 26
def State.slRtsMode (s : State) (n : Nat) : Nat := fld (s.slMode n) 20 19
def State.slRoute (s : State) (n : Nat) : Nat := fld (s.slMode n) 17 16

/-- A counter of a line, by its place in R345 from SL_TX_FRAMES on. -/
def State.slCount (s : State) (n i : Nat) : State := s.count (R.SL_COUNTERS n i)

/-- Sets bit `b` of SL_EVENT; a change from 0 to 1 while enabled raises EV32 + n (R349). -/
def State.slEvent (s : State) (n b : Nat) : State :=
  if s.rb (R.SL_EVENT n) b then s
  else (s.setRb (R.SL_EVENT n) b true).raiseIf (s.rb (R.SL_EV_EN n) b) (32 + n)

/-- Clocks of the first `m` cells of a character (R321). -/
def cellSum (div : Word) (m : Nat) : Nat := m * fld div 31 16 + m * fld div 15 8 / 256

/-- Clocks of a character of `bits` data and parity bits with STOP code `stop` (R321, R322). -/
def charClocks (div : Word) (bits stop : Nat) : Nat :=
  let n := 1 + bits
  if stop = 0 then cellSum div (n + 1)
  else if stop = 1 then cellSum div (n + 1) + (cellSum div (n + 2) - cellSum div (n + 1)) / 2
  else cellSum div (n + 2)

/-- A telegram is length-coded (R333). -/
def lenCoded (fmt : Word) (os : List Byte) : Bool := fld fmt 20 17 != 0 && os != [] && octs os 0 1 == fld fmt 28 21

/-- Octets of checksum (R333). -/
def sumLen (fmt : Word) : Nat := if fld fmt 31 30 = 1 then 1 else if fld fmt 31 30 = 2 then 2 else 0

/-- The checksum of covered octets in `c` octets (R333). -/
def telSum (c : Nat) (os : List Byte) : List Byte := toBE c (os.foldl (fun a b => a + b.toNat) 0)

/-- Octets a length-coded telegram covers. -/
def telCount (fmt : Word) (os : List Byte) : Nat := octs os (fld fmt 20 17) 1

/-- A telegram with its checksum appended, and how many octets that is (R333). -/
def withSum (fmt : Word) (os : List Byte) : List Byte :=
  if lenCoded fmt os then os ++ telSum (sumLen fmt) (os.take (telCount fmt os))
  else if bit fmt 29 then os ++ telSum (sumLen fmt) os
  else os

/-- A received telegram is complete (R334). -/
def telComplete (fmt : Word) (os : List Byte) : Bool :=
  if lenCoded fmt os then
    decide (fld fmt 20 17 < os.length) && decide (max (telCount fmt os) (fld fmt 20 17 + 1) + sumLen fmt ≤ os.length)
  else decide (fld fmt 10 0 ≤ os.length)

/-- CHK_OK of a received telegram and its octets of checksum (R333). -/
def telCheck (fmt : Word) (os : List Byte) : Bool × Nat :=
  let c := sumLen fmt
  if lenCoded fmt os then
    let k := telCount fmt os
    (decide (slice os k c = telSum c (os.take k)), c)
  else if bit fmt 29 then
    let k := os.length - c
    (decide (os.drop k = telSum c (os.take k)), c)
  else (true, 0)

/-- The character and its tags as a queue entry (R326). -/
def slEntry (fe pe : Bool) (ch : BitVec 9) : BitVec 16 := BitVec.ofNat 16 (fe.toNat * 2 ^ 15 + pe.toNat * 2 ^ 14 + ch.toNat)

/-- Entries with a character in the holding register last. -/
def SlS.all (x : SlS) : List (BitVec 16) := x.rxq ++ x.hold.toList

/-- The entries of the item being received. -/
def SlS.cur (x : SlS) : List (BitVec 16) := x.all.drop (x.all.length - x.curLen)

/-- A character's octets as ingress and the bridge see them (R329). -/
def chOctets (nine : Bool) (e : BitVec 16) : List Byte := if nine then toBE 2 (e.toNat % 512) else toBE 1 e.toNat

/-- A plane that takes inputs (R329). -/
def State.takes (s : State) (p : Plane) : Bool :=
  match (s.pl p).st with
  | .sync | .copy | .relearn | .relearnWait | .active => true
  | _ => false

/-- An item that no destination has still to take (R329). -/
def SlItem.gone (i : SlItem) : Bool := !i.toA && !i.toB && !i.toHost

/-- Removes the items nothing waits for, with their entries; `es` begins with the first item's (R329). -/
def sweep : List SlItem → List (BitVec 16) → List SlItem × List (BitVec 16)
  | [], es => ([], es)
  | i :: is, es =>
    let (is', es') := sweep is (es.drop i.len)
    if i.gone then (is', es') else (i :: is', es.take i.len ++ es')

/-- Entries with at most 2,048 in the queue, and the holding register: the last entry waits there while the queue is full, or while its
item awaits one of the 64 descriptors (R326, R328). -/
def SlS.place (x : SlS) (es : List (BitVec 16)) : SlS :=
  let wait := decide (2048 < es.length) || (decide (64 ≤ x.items.length) && (x.pend.isSome || x.curLen == 1) && es != [])
  if wait then { x with rxq := es.dropLast, hold := es.getLast? } else { x with rxq := es, hold := none }

/-- The receive queue after items have been taken, or one has ended; an item that awaited a descriptor gets the one that is free. -/
def SlS.swept (x : SlS) : SlS :=
  let (is, es) := sweep x.items x.all
  match x.pend with
  | none => { x with items := is }.place es
  | some i =>
    if i.gone then { x with items := is, pend := none }.place es.dropLast
    else if is.length < 64 then { x with items := is ++ [i], pend := none }.place es
    else { x with items := is }.place es

/-- The item being received has ended as `i` (R326, R328). -/
def SlS.enter (x : SlS) (i : SlItem) : SlS :=
  let y := { x with curLen := 0, curCount := 0, curOcts := [], curErr := false }
  (if x.items.length < 64 then { y with items := y.items ++ [i] } else { y with pend := some i }).swept

/-- The entries of an item. -/
def SlS.itemEntries (x : SlS) (k : Nat) : List (BitVec 16) :=
  (x.all.drop (((x.items.take k).map SlItem.len).sum)).take ((x.items.getD k ⟨false, false, false, false, 0, 0, 0, false, false, false, 0, 0⟩).len)

/-- An item as ingress receives it (R172, R329). -/
def slForeign (n : Fin 32) (nine : Bool) (i : SlItem) (es : List (BitVec 16)) : Foreign :=
  let os := es.flatMap (chOctets nine)
  if i.tel then .serTel n i.charErr i.chk (os.take (os.length - i.sum)) i.inseq
  else .serPkt n (i.charErr || !i.idle) os i.inseq

/-- The items of line `n` that plane `p` has still to take, as foreign inputs. -/
def State.slInputs (s : State) (p : Plane) (n : Fin 32) : List (Nat × Foreign) :=
  let x := s.slS n.val
  (List.range x.items.length).filterMap fun k =>
    match x.items[k]? with
    | some i => if (if p = .a then i.toA else i.toB) then some (k, slForeign n (s.slData n.val == 9) i (x.itemEntries k)) else none
    | none => none

/-- Back-pressure holds an input of the line (R280, R330). -/
def State.slHeld (s : State) (n : Fin 32) : Bool :=
  bothPlanes.any fun p => s.ingressOn p && (s.slInputs p n).any fun e =>
    match s.parse p 0 e.2 with | .ok x => s.inputHeld p x | .error _ => false

/-- RTS under FLOW by the level at the end of the cycle (R330). -/
def State.slFlow (s : State) (n : Fin 32) : State :=
  if s.slEn n.val && s.slRtsMode n.val == 1 then
    let flow := s.reg (R.SL_FLOW n.val)
    let lvl := (s.slS n.val).rxq.length
    let held := s.slHeld n
    if held || decide (fld flow 27 16 ≤ lvl) then s.modSl n.val fun x => { x with rts := false }
    else if lvl ≤ fld flow 11 0 then s.modSl n.val fun x => { x with rts := true }
    else s
  else s

/-- The item being received is dropped with its entries. -/
def SlS.dropCur (x : SlS) : SlS :=
  { x with hold := none, curLen := 0, curCount := 0, curOcts := [], curErr := false, curLost := false }.place
    (x.all.take (x.all.length - x.curLen))

/-- The item being received is dropped; what was ignored until a break still is. -/
def SlS.cutRx (x : SlS) : SlS :=
  { x.dropCur with phase := if x.phase = .deaf ∨ x.phase = .ignore then x.phase else .idle }

/-- A character enters the item being received (R328). -/
def SlS.push (x : SlS) (e : BitVec 16) (err : Bool) (edge : Int) : SlS :=
  let y := { x with curCount := x.curCount + 1, curOcts := x.curOcts ++ [BitVec.ofNat 8 e.toNat], curErr := x.curErr || err,
                    curStamp := if x.curCount = 0 then edge else x.curStamp }
  if x.hold.isSome then { y with curLost := true }
  else if 2048 ≤ x.rxq.length ∨ (x.curLen = 0 ∧ 64 ≤ x.items.length) then { y with hold := some e, curLen := x.curLen + 1 }
  else { y with rxq := x.rxq ++ [e], curLen := x.curLen + 1 }

/-- The item being received has ended and goes where ROUTE sends it, or is discarded as LOST (R327-R329). -/
def State.slDeliver (s : State) (n : Fin 32) (tel idle chk : Bool) (sum : Nat) : State :=
  let x := s.slS n.val
  if x.curLost then ((s.modSl n.val SlS.dropCur).slCount n.val 8).slEvent n.val 3
  else
    let route := s.slRoute n.val
    let ing := route == 0 || route == 2
    let seq := s.reg (R.SL_INSEQ n.val) + 1
    let it : SlItem :=
      { tel := tel, idle := idle, chk := chk, charErr := x.curErr, sum := sum, len := x.curLen, stamp := x.curStamp,
        toA := ing && s.takes .a, toB := ing && s.takes .b, toHost := route == 1 || route == 2, hostPos := 0, inseq := seq }
    ((s.setReg (R.SL_INSEQ n.val) seq).slCount n.val 7).modSl n.val fun x => x.enter it

/-- A line's transaction ends at `at_` (R338, R339). -/
def State.slTxnEnd (s : State) (n : Nat) (o : Owner) (result : Nat) (octets : List Byte) (at_ : Int) : State :=
  let s1 := (s.setRf (R.SL_TXN n) 31 28 result).slEvent n (if result = 1 ∨ result = 2 then 2 else 1)
  { s1.modSl n (fun x => { x with await := none, lastEnd := some at_ }) with todo := s1.todo ++ [.sl o result octets] }

/-- EXPECT of a header word: 0 NONE, 1 RESPONSE, 2 DUB (R337). -/
def hdrExpect (h : Word) : Nat := fld h 31 30
def hdrTel (h : Word) : Bool := bit h 29
def hdrLen (h : Word) : Nat := fld h 12 0

/-- The bridge takes the response (R175, R396). -/
def SlAwait.byBridge (a : SlAwait) : Bool := match a.frame.owner with | .bridge .. => true | _ => false

/-- A telegram ends at `at_`: complete, or discarded as incomplete, which a LOST one is under R328 as well (R328, R334, R339). -/
def State.slEndTel (s : State) (n : Fin 32) (complete : Bool) (at_ : Int) : State :=
  let x := s.slS n.val
  let os := x.curOcts
  let (chk, sum) := telCheck (s.reg (R.SL_TEL_FMT n.val)) os
  let wait := match x.await with | some a => if hdrExpect a.frame.hdr = 1 && a.got then some a else none | none => none
  let s1 :=
    if !complete then
      ((s.when x.curLost fun s => (s.slCount n.val 8).slEvent n.val 3).modSl n.val fun x => { x.dropCur with phase := .idle }).slCount n.val 9
    else
      let s0 := s.modSl n.val fun x => { x with phase := .ignore }
      if wait.any SlAwait.byBridge && !x.curLost then s0.modSl n.val SlS.dropCur else s0.slDeliver n true true chk sum
  match wait with
  | some a =>
    if complete then s1.slTxnEnd n.val a.frame.owner (if chk && !x.curErr && !x.curLost then 2 else 6) os at_
    else s1.slTxnEnd n.val a.frame.owner 6 [] at_
  | none => s1

/-- An asynchronous packet ends (R327). -/
def State.slEndPkt (s : State) (n : Fin 32) (idle : Bool) : State :=
  (s.modSl n.val fun x => { x with phase := .idle }).slDeliver n false idle true 0

/-- The line listens for a discovery response, or has received it and DUB_WAIT still runs (R339). -/
def SlS.inDub (x : SlS) : Bool := x.await.any fun a => hdrExpect a.frame.hdr == 2

/-- The characters of a discovery response end, by silence or not (R339). Log 41. -/
def State.slEndDub (s : State) (n : Fin 32) (idle : Bool) : State :=
  let x := s.slS n.val
  let keep (y : SlS) : SlS := { y with phase := .ignore, await := y.await.map fun a => { a with octets := x.curOcts, err := x.curErr } }
  (s.modSl n.val keep).slDeliver n false idle true 0

/-- The receiver listens: EN, not deaf while DE is active, not stuck (R320, R330, R342). -/
def State.slListens (s : State) (n : Nat) : Bool :=
  s.pinOn && s.slEn n && !(s.slRtsMode n == 2 && (s.slS n).rts) && !s.rb (R.SL_STATUS n) 28

/-- Runs of equal level, none beside one of its own level. -/
def mergeRuns : List (Bool × Nat) → List (Bool × Nat)
  | [] => []
  | (l, k) :: r =>
    match mergeRuns r with
    | (l', m) :: r' => if l = l' then (l, k + m) :: r' else (l, k) :: (l', m) :: r'
    | [] => [(l, k)]

/-- The three-sample filter: a run of fewer than three samples does not change the level (R323). -/
def filterRuns : Bool → List (Bool × Nat) → List (Bool × Nat)
  | _, [] => []
  | was, (l, k) :: r => let v := if 3 ≤ k then l else was; (v, k) :: filterRuns v r

/-- Levels at a ball, in clocks of 500 MHz, as the filter passes them from level `was` on (R323, R510). -/
def rxWaveFrom (was : Bool) (levels : List (Bool × Nat)) : List (Bool × Nat) := mergeRuns (filterRuns was (mergeRuns levels))

/-- The level at clock `t`: mark once the runs are over. -/
def levelAt : List (Bool × Nat) → Nat → Bool
  | [], _ => true
  | (l, k) :: r, t => if t < k then l else levelAt r (t - k)

/-- RXD after inversion and filter, from the levels at the ball, in clocks of the receiver from a falling edge on: a pulse that the filter
ignores divides no run (R320, R323, R510). Log 147. -/
def rxWave (inv : Bool) (wave : List (Bool × Nat)) : List (Bool × Nat) :=
  mergeRuns (filterRuns true (mergeRuns (wave.map fun e => (e.1 != inv, e.2))))

/-- The clock at which cell `i` is sampled: floor(cell(i) / 2) into the cell (R321, R323). -/
def sampleAt (div : Word) (i : Nat) : Nat := cellSum div i + (cellSum div (i + 1) - cellSum div i) / 2

/-- Data bits from level samples, least significant first. -/
def bitsLE (bs : List Bool) : Nat := bs.foldr (fun b a => b.toNat + 2 * a) 0

/-- A parity sample of the wrong level: even, odd, mark, space (R324, R346). -/
def parityBad (par : Nat) (data : List Bool) (p : Bool) : Bool :=
  let even := data.foldl (fun a b => a != b) false
  if par = 1 then p != even else if par = 2 then p == even else if par = 3 then !p else if par = 4 then p else false

/-- A character as the receiver samples it (R323, R324): its bits, the FE and PE tags, and whether the line stayed low throughout. -/
structure RxChar where
  bits : Nat
  fe : Bool
  pe : Bool
  low : Bool
deriving DecidableEq, Repr

/-- The cell of the first stop bit. -/
def stopCell (mode : Word) : Nat := 1 + fld mode 29 26 + if fld mode 25 23 = 0 then 0 else 1

/-- Samples a character; none for a false start (R323). -/
def sampleChar (mode div : Word) (wave : List (Bool × Nat)) : Option RxChar :=
  let w := rxWave (bit mode 14) wave
  let at_ (i : Nat) : Bool := levelAt w (sampleAt div i)
  let n := fld mode 29 26
  let data := (List.range n).map fun i => at_ (1 + i)
  if at_ 0 then none
  else
    some { bits := bitsLE data, fe := !at_ (stopCell mode), pe := parityBad (fld mode 25 23) data (at_ (1 + n)),
           low := match w with | (l, k) :: _ => !l && decide (sampleAt div (stopCell mode) < k) | [] => false }

/-- A character goes to the item that the line is receiving (R327, R334, R339). -/
def State.slTake (s : State) (n : Fin 32) (edge : Int) (c : RxChar) : State :=
  let x := s.slS n.val
  let err := c.fe || c.pe
  let e := slEntry c.fe c.pe (BitVec.ofNat 9 c.bits)
  if x.inDub then
    if x.phase = .ignore then s
    else
      let got (y : SlS) : SlS := { y.push e err edge with phase := .dub, await := y.await.map fun a => { a with got := true } }
      let t := s.modSl n.val got
      if 24 ≤ (t.slS n.val).curCount then t.slEndDub n true else t
  else if s.slTel n.val then
    match x.phase with
    | .telegram =>
      if x.curCount ≠ 0 && telComplete (s.reg (R.SL_TEL_FMT n.val)) x.curOcts then (s.slEndTel n true x.endAt).slCount n.val 9
      else s.modSl n.val fun y => y.push e err edge
    | .ignore => s.slCount n.val 9
    | _ => s
  else
    let t := s.modSl n.val fun y => { y.push e err edge with phase := .packet }
    if 4096 ≤ (t.slS n.val).curCount then t.slEndPkt n false else t

/-- A low that proved a character was no response break: the wait that ran out meanwhile ends the transaction (R339). -/
def State.slDue (s : State) (n : Nat) : State :=
  match (s.slS n).await with
  | some a => if a.due then s.slTxnEnd n a.frame.owner 3 [] s.lantern else s
  | none => s

/-- SL_CHAR_RECEIVE: RXD from a falling edge on, as levels at the ball in clocks of 2 ns. An armed receiver takes a character from it,
unless it is a false start or, in telegram mode, a break or on a line ignored until one (R323-R328, R334, R339). -/
def State.slChar (s : State) (n : Fin 32) (edge : Nat) (wave : List (Bool × Nat)) : State :=
  let x := s.slS n.val
  let m := s.slMode n.val
  let div := s.reg (R.SL_DIVIDER n.val)
  let armed := if x.blind then decide (x.armAt < (edge : Int)) else decide (x.armAt ≤ (edge : Int))
  let brk := s.slTel n.val && match rxWave (bit m 14) wave with
    | (l, k) :: _ => !l && decide (s.rf (R.SL_TEL_RX n.val) 31 24 * 500 ≤ k)
    | [] => false
  if !s.slListens n.val || !armed || brk || x.phase == .deaf then s
  else
    let samp (i : Nat) : Int := (edge : Int) + 32 * sampleAt div i
    match sampleChar m div wave with
    | none => s.modSl n.val fun x => { x with armAt := samp 0, blind := false }
    | some c =>
      let ends : Int := edge + 32 * charClocks div (stopCell m - 1) (fld m 22 21)
      let t := s.modSl n.val fun x => { x with armAt := samp (stopCell m), blind := c.fe, low := c.low, endAt := ends }
      let t1 := ((t.slCount n.val 3).when c.fe fun s => s.slCount n.val 4).when c.pe fun s => s.slCount n.val 5
      ((((t1.when (c.fe || c.pe) fun s => s.slEvent n.val 4).slDue n.val).slTake n edge c))

/-- SL_BREAK_DETECT: the line has been low for a character time since its start edge, reported once for each low period. It ends the
packet, or the discovery response, that the line receives (R327, R341). Log 41. -/
def State.slBreak (s : State) (n : Fin 32) : State :=
  if !s.slListens n.val || s.slTel n.val || !(s.slS n.val).low then s
  else
    let s1 := match (s.slS n.val).phase with
      | .packet => s.slEndPkt n false
      | .dub => s.slEndDub n false
      | _ => s
    let host := s.slRoute n.val == 1 || s.slRoute n.val == 2
    let mark (x : SlS) : SlS :=
      let y := { x with low := false }.push (BitVec.ofNat 16 (2 ^ 13)) false 0
      if y.curLen = 0 then { y with curCount := 0, curOcts := [], curLost := false }
      else y.enter ⟨false, false, true, false, 0, 1, x.curStamp, false, false, host, 0, 0⟩
    (((s1.modSl n.val mark).slCount n.val 6).slEvent n.val 5)

/-- SL_IDLE_MARK (R327). -/
def State.slIdle (s : State) (n : Fin 32) : State :=
  if (s.slS n.val).phase = .packet && !s.slTel n.val then (s.slEndPkt n true) else s

/-- A telegram not yet complete ends by a break or by silence at `at_` (R334). -/
def State.slCutTel (s : State) (n : Fin 32) (at_ : Int) : State :=
  let x := s.slS n.val
  let fmt := s.reg (R.SL_TEL_FMT n.val)
  if x.phase = .telegram then
    s.slEndTel n (x.curCount != 0 && (telComplete fmt x.curOcts || !lenCoded fmt x.curOcts)) at_
  else s

/-- RESP_TIMEOUT of a line in units of 1/16 ns. -/
def State.slRespTime (s : State) (n : Nat) : Nat := s.rf (R.SL_RDM n) 31 16 * unitsPerUs

/-- The response begins with a break at `edge`, when it comes in time (R339). -/
def State.slBegun (s : State) (n : Nat) (edge : Int) : State :=
  let got (a : SlAwait) : SlAwait :=
    if hdrExpect a.frame.hdr = 1 ∧ edge ≤ a.start + s.slRespTime n then { a with got := true, due := false } else a
  s.modSl n fun y => { y with await := y.await.map got }

/-- SL_TEL_BREAK: a low that began at `edge` and the high after it, in clocks of 2 ns, on a line in telegram mode. BRK_MIN makes the low a
break, MAB_MIN the high a mark-after-break (R334, R336, R339). Until DUB_WAIT ends a line that awaits a discovery response takes no
break. Log 41. -/
def State.slTelBreak (s : State) (n : Fin 32) (edge low high : Nat) : State :=
  if !s.slListens n.val || !s.slTel n.val || (s.slS n.val).inDub || decide (low < s.rf (R.SL_TEL_RX n.val) 31 24 * 500) then s
  else
    let s1 := (s.slCutTel n edge).slBegun n.val edge
    let arm (y : SlS) (ph : RxPhase) : SlS := { y.dropCur with phase := ph, armAt := (edge : Int) + 32 * low, blind := false, low := false }
    if high < s.rf (R.SL_TEL_RX n.val) 23 16 * 500 then
      let s2 := (s1.modSl n.val fun y => arm y .deaf).slCount n.val 9
      match (s2.slS n.val).await with
      | some a => if hdrExpect a.frame.hdr = 1 && a.got then (s2.slTxnEnd n.val a.frame.owner 6 [] s.lantern) else s2
      | none => s2
    else (s1.modSl n.val fun y => arm y .telegram)

/-- SL_TELEGRAM_END: the telegram being received is complete (R334). -/
def State.slTelegramEnd (s : State) (n : Fin 32) : State :=
  let x := s.slS n.val
  if x.phase = .telegram && x.curCount != 0 && telComplete (s.reg (R.SL_TEL_FMT n.val)) x.curOcts then
    (s.slEndTel n true x.endAt)
  else s

/-- SL_TEL_GAP: mark for TEL_GAP after a character (R334, R339). -/
def State.slTelGap (s : State) (n : Fin 32) : State :=
  let x := s.slS n.val
  match x.phase with
  | .telegram => (s.slCutTel n s.lantern)
  | .dub => if x.curCount = 0 then s else s.slEndDub n true
  | _ => s

/-- SL_STUCK: the low period can no longer prove a response's break (R339, R342). -/
def State.slStuck (s : State) (n : Fin 32) : State :=
  if s.pinOn && s.slEn n.val && !s.rb (R.SL_STATUS n.val) 28 then
    ((((s.slDue n.val).slCutTel n s.lantern).modSl n.val fun x => { x with low := false }).setRb (R.SL_STATUS n.val) 28 true).slEvent n.val 6
  else s

/-- SL_STUCK_CLEAR (R342). -/
def State.slUnstuck (s : State) (n : Fin 32) : State :=
  if s.rb (R.SL_STATUS n.val) 28 then
    (s.setRb (R.SL_STATUS n.val) 28 false).modSl n.val fun x => { x with armAt := s.lantern, blind := false }
  else s

/-- CTS after inversion (R320). -/
def State.slCtsOn (s : State) (n : Nat) : Bool := (s.slS n).cts != bit (s.slMode n) 12

/-- A character waits for CTS (R331). -/
def State.ctsWait (s : State) (n : Nat) : Bool := !s.slTel n && bit (s.slMode n) 18 && !s.slCtsOn n

/-- CTS as it now stands holds the characters of the frame under way not yet started, or lets them go (R331). -/
def State.slGate (s : State) (n : Nat) : State :=
  match (s.slS n).tx with
  | none => s
  | some t =>
    let hold := !t.tel && s.ctsWait n
    if hold = (t.wait || t.stall) then s
    else
      (s.modSl n fun x => { x with tx := some { t with wait := false, stall := hold } }).emit (.serialHold n hold)

/-- SL_CTS_CHANGE: the levels at the ball since the row before, in clocks of 500 MHz; those that pass the filter of R323 gate the
characters one after the other (R320, R331, R510). -/
def State.slCts (s : State) (n : Fin 32) (levels : List (Bool × Nat)) : State :=
  s.each (rxWaveFrom (s.slS n.val).cts levels) fun s e => (s.modSl n.val fun x => { x with cts := e.1 }).slGate n.val

/-- Octets of data in the transmit queue (R337). -/
def SlS.txOctets (x : SlS) : Nat := (x.txq.map fun f => f.data.length).sum + x.part.elim 0 fun f => hdrLen f.hdr

/-- Room for a frame (R337). -/
def SlS.txRoom (x : SlS) (len : Nat) : Bool :=
  decide (x.txq.length + (if x.part.isSome then 1 else 0) < 64) && decide (x.txOctets + len ≤ 4096)

/-- A header the line discards (R337). -/
def badHdr (h : Word) : Bool := hdrLen h == 0 || hdrExpect h == 3 || (!hdrTel h && hdrExpect h != 0)

/-- A frame is complete in the queue, or discarded (R337). -/
def State.slQueued (s : State) (n : Nat) (f : SlFrame) : State :=
  if badHdr f.hdr then (s.slCount n 1).setRf (R.SL_TXN n) 31 28 6
  else s.modSl n fun x => { x with txq := x.txq ++ [f] }

/-- A write of SL_TXQ_DATA (R337). -/
def State.slTxqData (s : State) (n : Nat) (v : Word) : State :=
  let x := s.slS n
  if 0 < x.partDrop then (s.modSl n fun x => { x with partDrop := x.partDrop - 1 }).slEvent n 0
  else
    match x.part with
    | none =>
      let len := hdrLen v
      if !x.txRoom len then
        (((s.modSl n fun x => { x with partDrop := (len + 3) / 4 }).slCount n 1).setRf (R.SL_TXN n) 31 28 6).slEvent n 0
      else if len = 0 then s.slQueued n ⟨v, [], .host⟩
      else s.modSl n fun x => { x with part := some ⟨v, [], .host⟩ }
    | some f =>
      let data := f.data ++ (toLE 4 v.toNat).take (hdrLen f.hdr - f.data.length)
      if data.length = hdrLen f.hdr then (s.modSl n fun x => { x with part := none }).slQueued n { f with data := data }
      else s.modSl n fun x => { x with part := some { f with data := data } }

/-- The head item for the host and its place. -/
def SlS.hostHead (x : SlS) : Option (Nat × SlItem) := x.items.zipIdx.findSome? fun e => if e.1.toHost then some (e.2, e.1) else none

/-- Discards `k` entries of the head item for the host (R329, R345). -/
def SlS.popHost (x : SlS) (k : Nat) : SlS :=
  match x.hostHead with
  | none => x
  | some (i, it) =>
    let pos := it.hostPos + k
    if it.len ≤ pos then { x with items := modAt i (fun y => { y with toHost := false }) x.items }.swept
    else if it.toA || it.toB then { x with items := modAt i (fun y => { y with hostPos := pos }) x.items }
    else
      let skip := ((x.items.take i).map SlItem.len).sum
      let es := x.all.take skip ++ x.all.drop (skip + pos)
      { x with items := modAt i (fun y => { y with len := y.len - pos, hostPos := 0 }) x.items }.place es

/-- Discards entries of successive items. -/
def SlS.popMany : Nat → Nat → SlS → SlS
  | 0, _, x => x
  | fuel + 1, k, x =>
    match x.hostHead with
    | none => x
    | some (_, it) =>
      let left := it.len - it.hostPos
      if k = 0 then x else (x.popHost (min k left)).popMany fuel (k - min k left)

/-- A write of SL_RXQ_POP (R345). -/
def State.slPop (s : State) (n : Fin 32) (v : Word) : State :=
  (s.modSl n.val fun x => if bit v 31 then x.popHost 4096 else x.popMany 64 (fld v 11 0))

/-- Plane `p` takes item `k` of a line (R329). -/
def State.slTaken (s : State) (p : Plane) (n : Fin 32) (k : Nat) : State :=
  let clear (i : SlItem) : SlItem := match p with | .a => { i with toA := false } | .b => { i with toB := false }
  (s.modSl n.val fun x => { x with items := modAt k clear x.items }.swept)

/-- A plane that no longer takes inputs holds no item back (R329). -/
def State.slPurge (s : State) (p : Plane) : State :=
  let clear (i : SlItem) : SlItem := match p with | .a => { i with toA := false } | .b => { i with toB := false }
  { s with sl := s.sl.map fun x => { x with items := x.items.map clear, pend := x.pend.map clear }.swept }

/-- Units of 1/16 ns that a frame takes on the line (R332, R338). -/
def State.slTxTime (s : State) (n : Nat) (f : SlFrame) : Nat :=
  let m := s.slMode n
  let div := s.reg (R.SL_DIVIDER n)
  if hdrTel f.hdr then
    let k := (withSum (s.reg (R.SL_TEL_FMT n)) f.data).length
    (s.rf (R.SL_TEL_TX n) 31 16 + s.rf (R.SL_TEL_TX n) 15 0 + (k - 1) * s.rf (R.SL_GAP n) 31 16) * unitsPerUs +
      k * charClocks div 8 (fld m 22 21) * 32
  else
    let chars := if fld m 29 26 = 9 then f.data.length / 2 else f.data.length
    chars * charClocks div (fld m 29 26 + if fld m 25 23 = 0 then 0 else 1) (fld m 22 21) * 32

/-- The span of a frame (R338). -/
def State.slSpan (s : State) (n : Nat) (f : SlFrame) : Nat :=
  let e := hdrExpect f.hdr
  let us := s.rf (R.SL_GAP n) 15 0 +
    (if e = 1 then s.rf (R.SL_RDM n) 31 16 + fld f.hdr 28 13 else if e = 2 then s.rf (R.SL_RDM n) 15 0 else 0)
  s.slTxTime n f + us * unitsPerUs

/-- The window allows the frame to start now (R338). -/
def State.slWindow (s : State) (n : Nat) (f : SlFrame) : Bool :=
  let wo := s.reg (R.SL_WIN_OPEN n)
  let op := fld wo 19 0
  let cl := s.rf (R.SL_WIN_CLOSE n) 19 0
  if op = 0 ∧ cl = 0 then true
  else
    let m := s.mirror.getD (fld wo 31 30) ⟨false, 1, 60, 0, 0, 0, 0⟩
    let t := s.lantern
    match epochOf m.base m.origin m.num m.den t with
    | some k =>
      let e := epochTime m.base m.origin m.num m.den k
      m.en && decide (e + op * unitsPerUs ≤ t) && decide (t + s.slSpan n f ≤ e + cl * unitsPerUs)
    | none => false

/-- The transmitter begins a frame or a release. -/
def State.slStart (s : State) (n : Nat) (frame : Option SlFrame) (tel : Bool) (octets : List Byte) : State :=
  let os := if tel then withSum (s.reg (R.SL_TEL_FMT n)) octets else octets
  let de := s.slRtsMode n == 2
  let go (x : SlS) : SlS := { x with tx := some ⟨frame, tel, !tel && s.ctsWait n, false⟩, deLag := false, rts := if de then true else x.rts }
  (s.emit (.serial n (bit (s.slMode n) 15) tel os)).modSl n go

/-- NEXT_GAP µs have passed since the last transaction ended (R338). -/
def State.slGapOver (s : State) (n : Nat) : Bool :=
  (s.slS n).lastEnd.all fun e => decide (e + (s.rf (R.SL_GAP n) 15 0 * unitsPerUs : Nat) ≤ (s.lantern : Int))

/-- SL_TXQ_FRAME_START (R338). -/
def State.slFrameStart (s : State) (n : Fin 32) : State :=
  let x := s.slS n.val
  match x.txq with
  | [] => s
  | f :: rest =>
    if s.pinOn && s.slEn n.val && x.tx.isNone && x.await.isNone && s.slGapOver n.val && (s.outs.getD n.val OutS.rest).chosen == [] && s.slWindow n.val f then
      (s.modSl n.val fun x => { x with txq := rest }).slStart n.val (some f) (hdrTel f.hdr) f.data
    else s

/-- SL_TX_FRAME_END (R330, R339). -/
def State.slTxEnd (s : State) (n : Fin 32) : State :=
  match (s.slS n.val).tx with
  | none => s
  | some t =>
    if t.wait then s else
    let lag := s.slRtsMode n.val == 2
    let s1 := s.modSl n.val fun x => { x with tx := none, deLag := lag }
    match t.frame with
    | none => s1
    | some f =>
      let s2 := (s1.slCount n.val 0).setRf (R.SL_TXN n.val) 15 0 (s1.rf (R.SL_TXN n.val) 15 0 + 1)
      if hdrExpect f.hdr = 0 then s2.slTxnEnd n.val f.owner 1 [] s.lantern
      else
        let await : SlAwait := ⟨f, s.lantern, false, false, false, []⟩
        if hdrExpect f.hdr = 2 then (s2.modSl n.val fun x => { x.dropCur with await := some await, phase := .dub })
        else s2.modSl n.val fun x => { x with await := some await }

/-- SL_DE_LAG_END (R330). -/
def State.slDeLagEnd (s : State) (n : Fin 32) : State :=
  if (s.slS n.val).deLag then s.modSl n.val fun x => { x with deLag := false, rts := false, armAt := s.lantern, blind := false } else s

/-- SL_RESPONSE_TIMEOUT: RESP_TIMEOUT has run out. A low that began in time, under way, may still prove the response's break (R339,
R344). -/
def State.slRespTimeout (s : State) (n : Fin 32) (low : Bool) : State :=
  match (s.slS n.val).await with
  | some a =>
    if hdrExpect a.frame.hdr = 1 && !a.got then
      if low && !s.rb (R.SL_STATUS n.val) 28 then s.modSl n.val fun x => { x with await := some { a with due := true } } else s.slTxnEnd n.val a.frame.owner 3 [] s.lantern
    else s
  | none => s

/-- SL_DUB_WAIT_END (R339). -/
def State.slDubEnd (s : State) (n : Fin 32) : State :=
  match (s.slS n.val).await with
  | some a =>
    if hdrExpect a.frame.hdr = 2 then
      let s1 := if (s.slS n.val).phase == .dub && a.got then s.slEndDub n true else s
      let b := ((s1.slS n.val).await).getD a
      let s2 := s1.modSl n.val fun x => { x with phase := .idle }
      s2.slTxnEnd n.val b.frame.owner (if !b.got then 3 else if b.err then 4 else 2) b.octets s.lantern
    else s
  | none => s

/-- A copy of a release that a line cannot send (R320, R335). -/
def State.slBadCopy (s : State) (n : Nat) : State := (s.slCount n 1).slEvent n 0

/-- Whether a line accepts a copy's octets (R335). -/
def State.slCopyOk (s : State) (n : Nat) (data : List Byte) : Bool :=
  s.slEn n && data != [] && (if s.slTel n then decide (data.length ≤ 1024)
    else !(s.slData n == 9 && data.length % 2 == 1))

/-- A chosen copy goes out on a line at its release time (R298, R299, R331, R335, R339). A frame of the transmit queue under way ends
ABORTED and gives way to it, as R339 says; the flag says whether the line was still transmitting a release. Log 157. -/
def State.slRelease (s : State) (n : Nat) (data : List Byte) : State × Bool :=
  let x := s.slS n
  if !s.slCopyOk n data then (s.slBadCopy n, false)
  else if x.tx.any fun t => t.frame.isNone then (s, true)
  else
    let s1 := match x.tx, x.await with
      | some ⟨some f, _, _, _⟩, _ => ((s.emit (.serialCut n)).modSl n fun x => { x with tx := none }).slTxnEnd n f.owner 5 [] s.lantern
      | _, some a => (s.modSl n SlS.cutRx).slTxnEnd n a.frame.owner 5 [] s.lantern
      | _, none => s
    let wait := !s1.slTel n && s1.ctsWait n
    let s2 := if wait then (s1.slCount n 2).slEvent n 0 else s1
    (s2.slStart n none (s2.slTel n) data, false)

/-- The safe state ZERO, and BLACKOUT, of a telegram line: every data octet 0, start code, identifier octets and the length
octet kept (R335, R438). -/
def zeroTelegram (fmt : Word) (data : List Byte) : List Byte :=
  let idp := fld fmt 13 11
  let idl := fld fmt 16 14
  data.zipIdx.map fun e =>
    if e.2 = 0 ∨ (idp ≤ e.2 ∧ e.2 < idp + idl) ∨ (lenCoded fmt data ∧ e.2 = fld fmt 20 17) then e.1 else 0

/-- A staged line configuration that a commit refuses (R345); `g` gives the registers as they would stand. A value outside a range that
R345 or R346 states, for which neither names a consequence, is accepted and taken as it stands: INT below 40, BREAK, MAB, BRK_MIN and
MAB_MIN 0, TEL_GAP below 44, DE_LEAD above 5, RTS_ON and RTS_OFF outside 1-2,048, ID_LEN above 4, ID_POS 0, MAX_LEN outside 2-1,024
(DESIGN CHOICE, log 158). -/
def badSlCfg (n : Nat) (g : Nat → Word) : Bool :=
  let m := g (R.SL_MODE n)
  let data := fld m 29 26
  let par := fld m 25 23
  let op := fld (g (R.SL_WIN_OPEN n)) 19 0
  let cl := fld (g (R.SL_WIN_CLOSE n)) 19 0
  decide (4 < par) || fld m 22 21 == 3 || fld m 20 19 == 3 || fld m 17 16 == 3 || fld (g (R.SL_TEL_FMT n)) 31 30 == 3 ||
    decide (data < 5) || decide (9 < data) || (data == 9 && par != 0) || (bit m 30 && (data != 8 || par != 0)) ||
    (decide (cl ≤ op) && !(op == 0 && cl == 0))

/-- A line that stops: TXD goes to mark, its transaction ends ABORTED (R320). Log 42. -/
def State.slStop (s : State) (n : Nat) : State :=
  let x := s.slS n
  let owner := match x.tx with | some t => t.frame.map SlFrame.owner | none => x.await.map fun a => a.frame.owner
  let s1 := if x.tx.isSome then s.emit (.serialCut n) else s
  let s2 := s1.modSl n fun x => { x with tx := none, deLag := false }
  match owner with | some o => s2.slTxnEnd n o 5 [] s.lantern | none => s2

/-- What a line's commit does beside its registers: it drops the item being received when the line stops, starts or changes mode, and
RTS and the gate of CTS follow the new registers (R320, R330, R331, R344). Log 42. -/
def State.slReconf (old s : State) (n : Fin 32) : State :=
  let same := s.slEn n.val && old.slEn n.val && s.slTel n.val == old.slTel n.val
  let s1 := if same then s else s.modSl n.val fun x => { x.dropCur with phase := .idle, blind := false, low := false, armAt := s.lantern }
  let s2 := if s.slEn n.val then s1 else s1.slStop n.val
  let de := s.slRtsMode n.val == 2
  let rts (x : SlS) : SlS :=
    { x with deLag := x.deLag && de,
             rts := s.slEn n.val && (if de then x.tx.isSome || x.deLag else s.slRtsMode n.val == 1 && old.slRtsMode n.val == 1 && x.rts) }
  ((s2.modSl n.val rts).slGate n.val)

end Sys2Proof.Machine
end

