-- ==== Sys2Proof/Machine/Can.lean ====
section
/-!
DEFINITION. CAN FD controllers (chapter 11): reception and the host buffers, transmit objects, the schedule matrix, error
confinement, sleep and wake.
-/
namespace Sys2Proof.Machine

def State.canS (s : State) (n : Nat) : CanS := s.can.getD n CanS.rest

def State.modCan (s : State) (n : Nat) (f : CanS → CanS) : State := { s with can := modAt n f s.can }

def State.canEn (s : State) (n : Nat) : Bool := s.rb (R.CAN_CTL n) 31
def State.canCfg (s : State) (n : Nat) : Word := s.reg (R.CAN_CFG n)
/-- CAN_ERR.STATE: 0 ERROR_ACTIVE, 1 ERROR_PASSIVE, 2 BUS_OFF, 3 INTEGRATING (R377). -/
def State.canState (s : State) (n : Nat) : Nat := s.rf (R.CAN_ERR n) 31 30
def State.tec (s : State) (n : Nat) : Nat := s.rf (R.CAN_ERR n) 24 16
def State.rec_ (s : State) (n : Nat) : Nat := s.rf (R.CAN_ERR n) 15 8
def State.canMonitor (s : State) (n : Nat) : Bool := bit (s.canCfg n) 29
def State.canRole (s : State) (n : Nat) : Bool := bit (s.canCfg n) 30

/-- A counter of a controller, by its place in R374 from CAN_RX_FRAMES on. -/
def State.canCount (s : State) (n i : Nat) : State := s.count (R.CAN_COUNTERS n i)

/-- Sets bit `b` of CAN_EVENT; a change from 0 to 1 while enabled raises EV64 + n (R379). -/
def State.canEvent (s : State) (n b : Nat) : State :=
  if s.rb (R.CAN_EVENT n) b then s
  else (s.setRb (R.CAN_EVENT n) b true).raiseIf (s.rb (R.CAN_EV_EN n) b) (64 + n)

/-- Data octets of a DLC (R359). -/
def dlcLen (fdf : Bool) (dlc : Nat) : Nat :=
  if dlc ≤ 8 then dlc else if !fdf then 8 else [12, 16, 20, 24, 32, 48, 64].getD (dlc - 9) 64

/-- The descriptor's first word and fields (R184). -/
def frWord (fr : List Byte) : Nat := octs fr 0 4
def frIde (fr : List Byte) : Bool := nfld (frWord fr) 31 31 == 1
def frFdf (fr : List Byte) : Bool := nfld (frWord fr) 30 30 == 1
def frBrs (fr : List Byte) : Bool := nfld (frWord fr) 29 29 == 1
def frId (fr : List Byte) : Nat := nfld (frWord fr) 28 0
def frDlc (fr : List Byte) : Nat := octs fr 4 1 % 16

/-- A frame that a controller refuses whatever its object (R359). -/
def State.badFrame (s : State) (n : Nat) (fr : List Byte) : Bool :=
  decide (fr.length ≠ 8 + octs fr 5 1) || decide (octs fr 5 1 ≠ dlcLen (frFdf fr) (octs fr 4 1)) || decide (15 < octs fr 4 1) ||
    (frBrs fr && !frFdf fr) || (frFdf fr && !bit (s.canCfg n) 31)

/-- SRC of an object: 0 NONE, 1 RELEASE, 2 HOST (R378). -/
def State.txoSrc (s : State) (n m : Nat) : Nat := s.rf (R.CAN_TXO_CFG n m) 31 30

def CanS.obj (x : CanS) (m : Nat) : TxObj := Tab.get ⟨none, none⟩ m x.objs

/-- Changes an object and shows it in CAN_TXO_STATUS (R378). -/
def State.modObj (s : State) (n m : Nat) (f : TxObj → TxObj) : State :=
  let s1 := s.modCan n fun x => { x with objs := Tab.set ⟨none, none⟩ m (f (x.obj m)) x.objs }
  let o := (s1.canS n).obj m
  (s1.setRb (R.CAN_TXO_STATUS n m) 31 o.pend.isSome).setRb (R.CAN_TXO_STATUS n m) 30 o.next.isSome

/-- A frame's owner learns that it was sent or discarded. -/
def State.canTold (s : State) (f : Option TxFrame) (sent : Bool) (start : Nat) : State :=
  match f with
  | some f => { s with todo := s.todo ++ [.can f.owner sent start] }
  | none => s

/-- A frame enters an object (R358, R373). -/
def State.canEnter (s : State) (n m : Nat) (f : TxFrame) : State :=
  let o := (s.canS n).obj m
  if o.pend.isNone then (s.modObj n m fun o => { o with pend := some f }).setRf (R.CAN_TXO_STATUS n m) 15 0 0
  else
    let s1 := if o.next.isSome then (s.canCount n 7).canTold o.next false 0 else s
    s1.modObj n m fun o => { o with next := some f }

/-- A frame or copy that is not sent (R350, R359). -/
def State.canBad (s : State) (n : Nat) : State := (s.canCount n 6).canEvent n 1

/-- A chosen copy enters its object at its release time (R298, R350, R359). -/
def State.canRelease (s : State) (n : Nat) (obj : Nat) (fr : List Byte) : State :=
  if !s.canEn n || decide (63 < obj) || s.txoSrc n obj != 1 || s.badFrame n fr then s.canBad n
  else s.canEnter n obj ⟨fr, .host⟩

/-- The host frame in CAN_TXW0-17 (R359). -/
def State.txwFrame (s : State) (n : Nat) : List Byte :=
  let all := (List.range 18).flatMap fun i => toBE 4 (s.reg (R.CAN_TXW n i)).toNat
  all.take (8 + octs all 5 1)

/-- A host frame, or one of a command or a bridge, enters a HOST object (R359, R393). The flag says whether it did. -/
def State.canHostFrame (s : State) (n m : Nat) (fr : List Byte) (o : Owner) : State × Bool :=
  if s.txoSrc n m != 2 || s.badFrame n fr then (s.canBad n, false) else (s.canEnter n m ⟨fr, o⟩, true)

/-- Discards PEND and NEXT of an object; a frame on the bus runs on (R360). -/
def State.canDiscard (s : State) (n m last : Nat) : State :=
  let o := (s.canS n).obj m
  if o.pend.isNone then s
  else
    let mark (x : CanS) : CanS := { x with onBus := x.onBus.map fun b => if b.obj = m then { b with gone := true } else b }
    let s1 := (((s.modObj n m fun _ => ⟨none, none⟩).modCan n mark).setRf (R.CAN_TXO_STATUS n m) 27 24 last).setRf
      (R.CAN_TXO_STATUS n m) 15 0 0 |>.setRb (R.CAN_TXO_STATUS n m) 29 false
    (s1.canTold o.pend false 0).canTold o.next false 0

/-- The Snuffer path clears every RELEASE object of a controller (R360, R438). -/
def State.canSnuff (s : State) (n : Nat) : State :=
  (List.range 64).foldl (fun s m => if s.txoSrc n m = 1 then s.canDiscard n m 3 else s) s

/-- A write of CAN_TXW_CMD (R359, R360). -/
def State.canTxw (s : State) (n : Nat) (v : Word) : State :=
  if bit v 31 then s.canDiscard n (fld v 5 0) 2
  else (s.canHostFrame n (fld v 5 0) (s.txwFrame n) .host).1

/-- The mirror of the basic cycle's generator (R361). -/
def State.cycMirror (s : State) (n : Nat) : MirrorS := s.mirror.getD (fld (s.canCfg n) 25 24) ⟨false, 1, 60, 0, 0, 0, 0⟩

/-- The basic cycle index of the mirror's epoch (R361). -/
def State.cycle (s : State) (n : Nat) : Nat := (s.cycMirror n).index % (fld (s.canCfg n) 23 18 + 1)

/-- The output starts no frame from a RELEASE object (R369, R438). -/
def State.canQuiet (s : State) (n : Nat) : Bool :=
  (((s.outs.getD (32 + n) OutS.rest).safe || s.snf.safe.getLsbD (32 + n)) && s.rf (R.LDH_OUT_CFG (32 + n)) 1 0 != 2) ||
    s.snf.black.getLsbD (32 + n)

/-- Objects with a PEND that are eligible in slot `sl` now, whatever the output's state (R362). -/
def State.scheduled (s : State) (n sl : Nat) : List Nat :=
  let kind := s.rf (R.CAN_SLOT_START n sl) 31 30
  let c := s.cycle n
  (((s.canS n).objs.filter fun e => e.2.pend.isSome).map Prod.fst).filter fun m =>
    let cfg := s.reg (R.CAN_TXO_CFG n m)
    let src := fld cfg 31 30
    if kind = 3 then src == 2 && bit cfg 29
    else kind != 0 && src != 0 && fld cfg 7 0 == sl && c % 2 ^ fld cfg 18 16 == fld cfg 13 8

/-- Objects with a PEND that may start in slot `sl` now (R362, R369). -/
def State.eligible (s : State) (n sl : Nat) : List Nat :=
  (s.scheduled n sl).filter fun m => !(s.txoSrc n m == 1 && s.canQuiet n)

/-- The arbitration field as a number, dominant lowest: identifier, SRR or RTR, IDE, extension (R362). -/
def arbKey (fr : List Byte) : Nat :=
  if frIde fr then (nfld (frId fr) 28 18 * 4 + 3) * 2 ^ 18 + frId fr % 2 ^ 18 else nfld (frId fr) 28 18 * 4 * 2 ^ 18

/-- The object whose PEND goes first (R362). -/
def State.pickObj (s : State) (n sl : Nat) : Option (Nat × TxFrame) :=
  (s.eligible n sl).foldl (fun (a : Option (Nat × TxFrame)) m =>
    match ((s.canS n).obj m).pend, a with
    | some f, none => some (m, f)
    | some f, some (k, g) => if arbKey f.octets < arbKey g.octets then some (m, f) else some (k, g)
    | none, _ => a) none

/-- The controller takes part on its bus. -/
def State.canLive (s : State) (n : Nat) : Bool := s.pinOn && s.canEn n && decide (s.canState n < 2)

/-- CAN_SLOT_OPEN (R361, R362). -/
def State.canSlotOpen (s : State) (n : Nat) (sl : Nat) : State :=
  if s.pinOn && s.canEn n && (s.cycMirror n).en && s.rf (R.CAN_SLOT_START n sl) 31 30 != 0 then
    let s1 := (s.setRf (R.CAN_STATUS n) 15 8 sl).setRf (R.CAN_STATUS n) 23 18 (s.cycle n)
    s1.modCan n fun x => { x with slot := some sl }
  else s

/-- A frame as the controller sends it: ESI by the error state, bits 17:0 of a base identifier ignored (R351, R359). -/
def State.sentAs (s : State) (n : Nat) (fr : List Byte) : List Byte :=
  let w := if frIde fr then frWord fr else frWord fr / 2 ^ 18 * 2 ^ 18
  patch (patch fr 0 (toBE 4 w)) 6 (toBE 1 (frFdf fr && s.canState n == 1).toNat)

/-- The loop delay that the controller measures in an FD frame with BRS = 1, free; below TDCF the previous one stands (R353). A frame that
ended early may have met the measurement or not. Log 50. -/
def State.canTdc (s : State) (n : Nat) (fr : List Byte) (early : Bool) : State :=
  if bit (s.reg (R.CAN_TDC n)) 31 && frFdf fr && frBrs fr then
    let (w, s1) := s.free32
    let v := fld w 8 0
    if v < s.rf (R.CAN_TDC n) 15 8 ∨ (early ∧ bit w 9) then s1 else s1.setRf (R.CAN_TDC_STATUS n) 8 0 v
  else s

/-- A frame of this controller or of another node is on the bus. No row begins another node's frame, so that whether one is under way is
free where the controller has not lost arbitration to it (R371, R375). Log 49. -/
def State.canBusy (s : State) (n : Nat) : Bool × State :=
  let x := s.canS n
  if x.onBus.isSome || x.rx then (true, s)
  else if s.pinOn && s.canEn n && s.canState n != 2 then
    let (w, s1) := s.free32
    (bit w 0, s1.modCan n fun x => { x with rx := bit w 0 })
  else (false, s)

/-- A bus-idle instant: EN cleared or SLEEP set while a frame was on the bus takes effect (R371, R375). -/
def State.canIdle (s : State) (n : Nat) : State :=
  let s1 := s.modCan n fun x => { x with rx := false }
  let s2 := if (s1.canS n).stopAtEnd then
      (s1.setRb (R.CAN_CTL n) 31 false).modCan n fun x => { x with stopAtEnd := false, slot := none }
    else s1
  if s2.rb (R.CAN_CTL n) 30 then s2.modCan n fun x => { x with asleep := true } else s2

/-- The controller sends flags and acknowledges: neither in MONITOR nor asleep (R351, R354, R371). -/
def State.canSpeaks (s : State) (n : Nat) : Bool := s.canLive n && !s.canMonitor n && !(s.canS n).asleep

/-- The error flag of an error just met, by the error state it was met in (R365). -/
def State.canFlags (s : State) (n : Nat) : State := s.when (s.canSpeaks n) fun s => s.emit (.canFlag n (s.canState n == 0))

/-- CAN_FRAME_START: the start-of-frame leaves on the 2 ns grid (R363). -/
def State.canStart (s : State) (n : Nat) : State :=
  let x := s.canS n
  match x.slot with
  | none => s
  | some sl =>
    if !s.canLive n || !(s.cycMirror n).en || s.canMonitor n || x.asleep || s.rb (R.CAN_CTL n) 30 || x.onBus.isSome || x.rx || x.stopAtEnd then s
    else
      match s.pickObj n sl with
      | none => s
      | some (m, f) =>
        let s1 := ((s.emit (.can n (s.sentAs n f.octets))).addSat (R.CAN_TXO_STATUS n m) 15 0 1).setRb (R.CAN_TXO_STATUS n m) 29 true
        s1.modCan n fun x => { x with onBus := some ⟨m, f, s.lantern / 32 * 32, false⟩ }

/-- Changes STATE, with its events (R365, R366, R379). -/
def State.canSetState (s : State) (n st : Nat) : State :=
  if s.canState n = st then s
  else
    let s1 := (s.setRf (R.CAN_ERR n) 31 30 st).canEvent n 6
    if st = 2 then
      let auto := !s.canRole n
      ((s1.canCount n 9).canEvent n 7).modCan n fun x => { x with recovering := auto }
    else s1

/-- STATE follows TEC and REC (R365). -/
def State.canJudge (s : State) (n : Nat) : State :=
  if 2 ≤ s.canState n then s
  else if 255 < s.tec n then s.canSetState n 2
  else if 127 < s.tec n ∨ 127 < s.rec_ n then s.canSetState n 1
  else s.canSetState n 0

/-- Stores TEC and REC, with WARN in the SERVICE role (R365, R366). -/
def State.canErrs (s : State) (n t r : Nat) : State :=
  let tw := s.rf (R.CAN_WARN n) 15 8
  let rw := s.rf (R.CAN_WARN n) 7 0
  let warn := s.canRole n && ((decide (s.tec n < tw) && decide (tw ≤ t)) || (decide (s.rec_ n < rw) && decide (rw ≤ r)))
  let s1 := (s.setRf (R.CAN_ERR n) 24 16 (min t 511)).setRf (R.CAN_ERR n) 15 8 (min r 255)
  (s1.when warn fun s => s.canEvent n 5).canJudge n

/-- Enters INTEGRATING with TEC = REC = 0; the row of ACK errors of R367 runs on (R365). -/
def State.canIntegrate (s : State) (n : Nat) : State :=
  (((s.setRf (R.CAN_ERR n) 24 16 0).setRf (R.CAN_ERR n) 15 0 0).canSetState n 3).modCan n fun x =>
    { x with recovering := false, rx := false }

/-- An acknowledged transmission or a valid frame received ends LONE and its counting (R367). -/
def State.canHeard (s : State) (n : Nat) : State :=
  (s.setRb (R.CAN_STATUS n) 26 false).modCan n fun x => { x with acks := 0 }

/-- The controller's attempt is over; its frame leaves the object's status. -/
def State.canYield (s : State) (n : Nat) : State :=
  match (s.canS n).onBus with
  | none => s
  | some b => (s.setRb (R.CAN_TXO_STATUS n b.obj) 29 false).modCan n fun x => { x with onBus := none }

/-- The controller's frame on the bus has ended, and with it the bus is idle. -/
def State.canOffBus (s : State) (n : Nat) : State := if (s.canS n).onBus.isSome then (s.canYield n).canIdle n else s

/-- CAN_TX_SUCCESS (R358, R360, R365, R367). -/
def State.canSent (s : State) (n : Nat) : State :=
  match (s.canS n).onBus with
  | none => s
  | some b =>
    let s1 := (((s.canTdc n b.frame.octets false).canCount n 3).canHeard n).canErrs n (s.tec n - 1) (s.rec_ n)
    let s2 := (s1.setReg64 (R.CAN_TXO_STAMP_LO n b.obj) (b.start / 16)).setRf (R.CAN_TXO_STATUS n b.obj) 27 24 1
    let s3 := if b.gone then s2
      else ((s2.modObj n b.obj fun o => ⟨o.next, none⟩).setRf (R.CAN_TXO_STATUS n b.obj) 15 0 0).canTold (some b.frame) true b.start
    s3.canOffBus n

/-- An attempt that ended otherwise than by an ACK error ends the row of such attempts (R367). -/
def State.canOther (s : State) (n : Nat) : State := s.modCan n fun x => { x with acks := 0 }

/-- CAN_ARB_LOST: the winner's frame is on the bus (R363). -/
def State.canArbLost (s : State) (n : Nat) : State :=
  if (s.canS n).onBus.isSome then (((s.canCount n 5).canOther n).canYield n).modCan n fun x => { x with rx := true } else s

/-- Records the last error of a phase (R377). -/
def State.lec (s : State) (n : Nat) (code : Nat) (dataPhase : Bool) : State :=
  if dataPhase then s.setRf (R.CAN_STATUS n) 3 0 code else s.setRf (R.CAN_STATUS n) 7 4 code

/-- An error met as receiver (R365). -/
def State.canRxError (s : State) (n : Nat) (code : Nat) (dp : Bool) : State :=
  ((((s.canFlags n).canCount n 2).lec n code dp).canErrs n (s.tec n) (s.rec_ n + 1)).canIdle n

/-- An error met as transmitter, with what it adds to TEC; it ends the row of ACK errors unless it is one (R365, R367). -/
def State.canTxError (s : State) (n code : Nat) (dp ack : Bool) (up : Nat) : State :=
  match (s.canS n).onBus with
  | none => s
  | some b =>
    let s1 := (((s.canTdc n b.frame.octets (!dp && !ack)).canFlags n).canCount n 4).lec n code dp
    let s2 := if ack then (s1.canCount n 11).modCan n fun x => { x with acks := x.acks + 1 } else s1.canOther n
    (s2.canErrs n (s.tec n + up) (s.rec_ n)).canOffBus n

/-- CAN_BUS_ERROR, with the counts of ISO 11898-1; a recessive res bit is a form error unless PXE makes it a protocol exception (R351, R354,
R365, R367, R368). Log 159. -/
def State.canError (s : State) (n : Nat) (k : CanErr) : State :=
  if !s.canLive n then s
  else
    match k with
    | .tx code dp => s.canTxError n code.toNat dp false 8
    | .txStuffArb => s.canTxError n 1 false false 0
    | .txDominant => s.canErrs n (s.tec n + 8) (s.rec_ n)
    | .ack dominant => s.canTxError n 3 false true (if s.canState n = 1 && !dominant then 0 else 8)
    | .rx code dp => s.canRxError n code.toNat dp
    | .rxDominant => s.canErrs n (s.tec n) (s.rec_ n + 8)
    | .overload => (s.when (s.canSpeaks n) fun s => s.emit (.canFlag n true)).canCount n 2
    | .protocolException => if bit (s.canCfg n) 28 then s.canCount n 10 else s.canRxError n 2 false

/-- CAN_LONE (R367). -/
def State.canLone (s : State) (n : Nat) : State :=
  if 64 ≤ (s.canS n).acks && !s.rb (R.CAN_STATUS n) 26 then (s.setRb (R.CAN_STATUS n) 26 true).canEvent n 4 else s

/-- CAN_SLOT_CLOSE (R363). Log 47. -/
def State.canSlotClose (s : State) (n : Nat) : State :=
  match (s.canS n).slot with
  | none => s
  | some sl =>
    let busy := (s.canS n).onBus.map OnBus.obj
    let miss := (s.scheduled n sl).any fun m => busy != some m
    let s1 := s.modCan n fun x => { x with slot := none }
    if miss && s.canLive n && (s.cycMirror n).en && !s.canMonitor n && !(s.canS n).asleep then (s1.canCount n 8).canEvent n 2 else s1

/-- The first entry of the receive queue for the host, and the queue without that claim (R355, R356). -/
def takeHost : List CanRx → Option (CanRx × List CanRx)
  | [] => none
  | r :: rs =>
    if r.toHost then some (r, if r.toA || r.toB then { r with toHost := false } :: rs else rs)
    else (takeHost rs).map fun e => (e.1, r :: e.2)

/-- The 80 octets of a receive entry (R355). -/
def CanRx.octets (r : CanRx) : List Byte :=
  slice r.desc 0 8 ++ toBE 8 (r.stamp.toNat / 16) ++ slice r.data 0 64

/-- The shadow refills from the queue, and an empty RXB from the shadow (R356). -/
def State.canRefill (s : State) (n : Nat) : State :=
  let fill (x : CanS) : CanS :=
    match x.shadow, takeHost x.rxq with
    | none, some (r, rest) => { x with shadow := some r.octets, rxq := rest }
    | _, _ => x
  let s1 := s.modCan n fill
  match (s1.canS n).rxb, (s1.canS n).shadow with
  | none, some o => ((s1.modCan n fun x => fill { x with rxb := some o, shadow := none })).canEvent n 0
  | _, _ => s1

/-- A write of CAN_RXB_POP (R356). -/
def State.canPop (s : State) (n : Nat) : State := (s.modCan n fun x => { x with rxb := none }).canRefill n

/-- Whether a received frame answers the open transaction of a CANOBJ window of plane `p`: its tracker entry (R393). -/
def State.canAnswers (s : State) (p : Plane) (n : Nat) (desc data : List Byte) : Option Nat :=
  (s.pl p).trk.findSome? fun e =>
    let t := e.2
    let cfg := s.reg (R.BRG_WIN_CFG p t.win)
    let tgt0 := s.reg (R.BRG_WIN_TGT0 p t.win)
    let addr := octs t.param 0 3
    if fld cfg 30 28 = 1 && fld cfg 9 0 == n && (t.ph == .reading || t.ph == .writing) && frIde desc == bit tgt0 31 &&
        frId desc == s.rf (R.BRG_WIN_TGT1 p t.win) 28 0 && octs data 0 1 % 64 == t.tn && octs data 1 3 == addr &&
        data.length == 8 then some e.1 else none

/-- Whether a received frame answers a transaction of a CANOBJ window of plane `p` that its timeout has removed: the window (R397,
R410). -/
def State.canStale (s : State) (p : Plane) (n : Nat) (desc data : List Byte) : Option Nat :=
  (s.pl p).win.findSome? fun e =>
    let cfg := s.reg (R.BRG_WIN_CFG p e.1)
    match e.2.gone with
    | some (txn, addr) =>
      if fld cfg 30 28 = 1 && fld cfg 9 0 == n && frIde desc == s.rb (R.BRG_WIN_TGT0 p e.1) 31 &&
          frId desc == s.rf (R.BRG_WIN_TGT1 p e.1) 28 0 && octs data 0 1 % 64 == txn && slice data 1 3 == addr && data.length == 8
      then some e.1 else none
    | none => none

/-- A valid frame of another node: acknowledged, counted, and the bus idle after it (R354, R365, R367). -/
def State.canValid (s : State) (n : Nat) : State :=
  let r0 := s.rec_ n
  let (w, s0) := s.free32
  let r := if 127 < r0 then 119 + w.toNat % 9 else r0 - 1
  let s1 := (if 127 < r0 then s0 else s).when (s.canSpeaks n) fun s => s.emit (.canAck n)
  (((s1.canCount n 0).canHeard n).canErrs n (s.tec n) r).canIdle n

/-- CAN_FRAME_RECEIVE, stamped on the 2 ns grid (R354-R357, R365, R367, R393). -/
def State.canReceive (s : State) (n : Nat) (stamp : Nat) (rtr : Bool) (desc data : List Byte) : State :=
  if !s.canLive n then s
  else
    let s1 := s.canValid n
    let ans := bothPlanes.findSome? fun p => (s.canAnswers p n desc data).map fun e => (p, e)
    let old := bothPlanes.findSome? fun p => (s.canStale p n desc data).map fun w => (p, w)
    match ans, old with
    | some (p, e), _ => { s1 with todo := s1.todo ++ [.canResp p e data] }
    | none, some (p, w) =>
      (s1.modPl p fun x => x.modWin w fun y => { y with gone := none }).count (R.BRG_COUNTERS p 2)
    | none, none =>
      if 128 ≤ (s1.canS n).rxq.length then (s1.canCount n 1).canEvent n 3
      else
        let route := fld (s.canCfg n) 27 26
        let ing := route == 0 || route == 2
        let seq := s1.reg (R.CAN_INSEQ n) + 1
        let it : CanRx := { rtr := rtr, desc := desc, data := data, stamp := stamp / 32 * 32, toA := ing && s.takes .a,
                            toB := ing && s.takes .b, toHost := route == 1 || route == 2, inseq := seq }
        let add (x : CanS) : CanS := if it.toA || it.toB || it.toHost then { x with rxq := x.rxq ++ [it] } else x
        ((s1.setReg (R.CAN_INSEQ n) seq).modCan n add).canRefill n

/-- The frames of controller `n` that plane `p` has still to take. -/
def State.canInputs (s : State) (p : Plane) (n : Fin 8) : List (Word × Foreign) :=
  (s.canS n.val).rxq.filterMap fun r =>
    if (if p = .a then r.toA else r.toB) then some (r.inseq, .can n r.rtr r.desc r.data r.inseq) else none

/-- Plane `p` no longer has to take the entries that `f` picks. -/
def CanS.taken (x : CanS) (p : Plane) (f : CanRx → Bool) : CanS :=
  let clear (r : CanRx) : CanRx := if f r then (match p with | .a => { r with toA := false } | .b => { r with toB := false }) else r
  { x with rxq := (x.rxq.map clear).filter fun r => r.toA || r.toB || r.toHost }

/-- A plane that no longer takes inputs holds no frame back (R355). -/
def State.canPurge (s : State) (p : Plane) : State := { s with can := s.can.map fun x => x.taken p fun _ => true }

/-- CAN_RECOVER (R366, R373). -/
def State.canRecover (s : State) (n : Nat) : State :=
  if s.canState n = 2 then s.modCan n fun x => { x with recovering := true } else s

/-- CAN_RECOVERY_DONE (R366). -/
def State.canRecovered (s : State) (n : Nat) : State :=
  if s.pinOn && s.canEn n && s.canState n = 2 && (s.canS n).recovering then s.canIntegrate n else s

/-- CAN_INTEGRATION_DONE: the bus is idle (R363, R365). -/
def State.canJoin (s : State) (n : Nat) : State :=
  if s.pinOn && s.canEn n && s.canState n == 3 then (s.canSetState n 0).canIdle n else s

/-- EN from 0 to 1, or 1 to 0 (R375). -/
def State.canSetEn (s : State) (n : Nat) (en : Bool) : State :=
  let x := s.canS n
  if en then
    if x.stopAtEnd then s.modCan n fun x => { x with stopAtEnd := false }
    else if s.canEn n then s else (s.setRb (R.CAN_CTL n) 31 true).canIntegrate n
  else if !s.canEn n || x.stopAtEnd then s
  else
    let (busy, s1) := s.canBusy n
    if busy then s1.modCan n fun x => { x with stopAtEnd := true }
    else (s1.setRb (R.CAN_CTL n) 31 false).modCan n fun x => { x with slot := none }

/-- SLEEP written: sleep begins at the next bus-idle instant, and waking raises EV72 + n (R371). Log 49. -/
def State.canSetSleep (s : State) (n : Nat) (v : Bool) : State :=
  if v then
    if s.rb (R.CAN_CTL n) 30 then s
    else
      let (busy, s1) := s.canBusy n
      (s1.setRb (R.CAN_CTL n) 30 true).modCan n fun x => { x with asleep := !busy }
  else if s.rb (R.CAN_CTL n) 30 then
    let woke := (s.canS n).asleep
    let s1 := (s.setRb (R.CAN_CTL n) 30 false).modCan n fun x => { x with asleep := false }
    if woke then (s1.canIntegrate n).raise (72 + n) else s1
  else s

/-- A frame meets a wake filter: IDE, the identifier and its mask, data octets 0-3 and their mask (R371). -/
def wakeFrame (ide : Bool) (id idMask dat datMask : Word) (desc data : List Byte) : Bool :=
  frIde desc == ide && ((BitVec.ofNat 32 (frId desc) ^^^ id) &&& idMask) == 0 && ((BitVec.ofNat 32 (octs data 0 4) ^^^ dat) &&& datMask) == 0

/-- What a sleeping controller meets wakes it (R371, R374). -/
def State.canWakesOn (s : State) (n : Nat) (h : CanHeard) : Bool :=
  let cfg := s.reg (R.CAN_WAKE_CFG n)
  match bit cfg 31, h with
  | false, .dominant clocks => decide (fld cfg 7 0 * 50 ≤ clocks)
  | true, .frame desc data =>
    wakeFrame (bit cfg 30) (s.reg (R.CAN_WAKE_ID n)) (s.reg (R.CAN_WAKE_IDMASK n)) (s.reg (R.CAN_WAKE_DATA n))
      (s.reg (R.CAN_WAKE_DMASK n)) desc data
  | _, _ => false

/-- CAN_WAKE (R350, R371). -/
def State.canWake (s : State) (n : Nat) (h : CanHeard) : State :=
  if s.pinOn && s.canEn n && (s.canS n).asleep && s.canWakesOn n h then s.canSetSleep n false else s

/-- A write of CAN_CTL (R366, R371, R375). -/
def State.canCtl (s : State) (n : Nat) (v : Word) : State :=
  let s1 := (s.canSetEn n (bit v 31)).canSetSleep n (bit v 30)
  if bit v 29 then s1.canRecover n else s1

/-- A phase's timing is out of range or its rate outside R351 (R352, R364, R376). -/
def badTiming (brp t1 t2 sjw half lo hi : Nat) : Bool :=
  let d := 2 * (brp * (1 + t1 + t2)) + half
  decide (t2 < sjw) || decide (1000000000 < lo * d) || decide (hi * d < 1000000000)

/-- Whether a staged configuration of a controller is refused (R364); `g` gives the registers as they would stand, `mirrors` the
generators' mirrors. -/
def badCanBy (mirrors : List MirrorS) (n : Nat) (g : Nat → Word) : Bool :=
  let cfg := g (R.CAN_CFG n)
  let nb := g (R.CAN_NBT n)
  let db := g (R.CAN_DBT n)
  let m := mirrors.getD (fld cfg 25 24) ⟨false, 1, 60, 0, 0, 0, 0⟩
  let ncyc := fld cfg 23 18 + 1
  let slots := (List.range 256).filterMap fun i =>
    let st := g (R.CAN_SLOT_START n i)
    if fld st 31 30 = 0 then none else some (fld st 19 0, fld (g (R.CAN_SLOT_WIN n i)) 19 0)
  let objs := (List.range 64).filterMap fun i =>
    let c := g (R.CAN_TXO_CFG n i)
    if c = 0 then none else some c
  let kind (sl : Nat) : Nat := fld (g (R.CAN_SLOT_START n sl)) 31 30
  fld cfg 27 26 == 3 || fld nb 26 19 == 0 ||
    badTiming (fld nb 31 27 + 1) (fld nb 26 19 + 1) (fld nb 18 12 + 1) (fld nb 11 5 + 1) (fld nb 4 4) 50000 1000000 ||
    badTiming (fld db 31 27 + 1) (fld db 26 20 + 1) (fld db 19 14 + 1) (fld db 13 8 + 1) (fld db 7 7) 500000 8000000 ||
    ((slots.zip (slots.drop 1)).any fun e => decide (e.2.1 ≤ e.1.1 + e.1.2)) ||
    (slots.any fun e => decide (m.num * 1000000 ≤ (e.1 + e.2) * m.den)) ||
    (objs.any fun c => fld c 31 30 == 3 || fld c 18 16 == 7 ||
      (fld c 31 30 != 0 && (kind (fld c 7 0) == 0 || kind (fld c 7 0) == 3)) || ncyc % 2 ^ fld c 18 16 != 0 ||
        decide (2 ^ fld c 18 16 ≤ fld c 13 8)) ||
    ((List.range objs.length).any fun i => (List.range i).any fun j =>
      let a := objs.getD i 0
      let b := objs.getD j 0
      let k := 2 ^ min (fld a 18 16) (fld b 18 16)
      fld a 31 30 != 0 && fld b 31 30 != 0 && fld a 7 0 == fld b 7 0 && kind (fld a 7 0) == 1 &&
        fld a 13 8 % k == fld b 13 8 % k)

/-- Whether a staged configuration of a controller is refused by the generators as they run (R364). -/
def State.badCanCfg (s : State) (n : Nat) (g : Nat → Word) : Bool := badCanBy s.mirror n g

end Sys2Proof.Machine
end

