-- ==== Sys2Proof/Machine/Ptp.lean ====
section
/-!
DEFINITION. PTP, LINK_CAL and PRP supervision on the ports (chapter 4). Layouts of IEEE 1588-2019 and IEC 62439-3: log 28.
-/
namespace Sys2Proof.Machine

/-- The PTP cut of a port stands (R156). -/
def State.cutStands (s : State) (p : Plane) (i : Nat) : Bool := s.rb (R.PORT_PTP_CFG p i) 30 && !s.rb (R.PORT_STATUS p i) 25

/-- A port that sends and accepts PTP (R155, R156, R168). -/
def State.ptpOpen (s : State) (p : Plane) (i : Nat) : Bool :=
  decide (s.portMode p i ≠ 0) && s.linkUp p i && s.rb (R.PORT_PTP_CFG p i) 31 && !s.cutStands p i

/-- MECH = P2P (R168). -/
def State.p2p (s : State) (p : Plane) (i : Nat) : Bool := s.rb (R.PORT_PTP_CFG p i) 28

/-- The domains that follow a PTP domain number, by the configuration their servos have taken up (R103, R154). -/
def State.followers (s : State) (p : Plane) (dom : Nat) : List Nat :=
  [0, 1].filter fun d =>
    let c := ((s.pl p).domS d).cfg
    srcCfg c == 1 && fld c 27 20 == dom

/-- The first of them, by whose rate a residence is measured (R154). -/
def State.followed (s : State) (p : Plane) (dom : Nat) : Option Nat := (s.followers p dom).head?

/-- correctionField after a message's passage (R154); a fraction is cut off towards earlier time (R131). -/
def State.newCorrection (s : State) (p : Plane) (ing eg typ dom : Nat) (corr : Int) (residence : Nat) : Int :=
  let res : Int := match s.followed p dom with
    | some d => (residence * 4096 : Nat) + Int.fdiv ((residence : Int) * s.sreg (R.TD_INC_ADJ p d)) (2 ^ 28)
    | none => (residence * 4096 : Nat)
  let delay := s.reg (R.PORT_LINK_DELAY p ing)
  let link : Int := if typ = 0 ∧ s.p2p p ing ∧ delay ≠ 0xFFFFFFFF then delay.toNat else 0
  let out : Int := if typ = 1 ∧ s.rb (R.PORT_PTP_CFG p eg) 29 then s.sreg (R.PORT_ASYM p eg) else 0
  corr + res + s.sreg (R.PORT_ASYM p ing) + link - out

/-- Forwards a PTP message to one port (R154, R155). -/
def State.ptpForward (s : State) (p : Plane) (ing eg : Fin 4) (frame : List Byte) (o : Nat) (udp stomp : Bool) (residence : Nat) : State :=
  let typ := octs frame o 1 % 16
  let event := typ == 0 || typ == 1
  let corr := sext 64 (octs frame (o + 8) 8)
  let f1 := if event then
      patch frame (o + 8) (toBE 8 (toU 64 (s.newCorrection p ing.val eg.val typ (octs frame (o + 4) 1) corr residence)))
    else frame
  let f2 := if event && udp then patch f1 (o - 2) [0, 0] else f1
  let t := if octs f2 12 2 = 0x8100 then 16 else 12
  (s.count (R.PORT_COUNTERS p eg.val 9)).wire p eg (octs f2 0 6) (octs f2 6 6) (octs f2 t 2) (f2.drop (t + 2)) true stomp

/-- The filter's key (R155). -/
def ptpKey (m : List Byte) : List Byte := slice m 4 1 ++ slice m 20 10 ++ toBE 1 (octs m 0 1 % 16) ++ slice m 30 2

/-- A message that the plane has forwarded in the last second (R155). -/
def PlaneS.ptpDone (x : PlaneS) (k : List Byte) : Bool :=
  x.ptpSeen.any fun e => e.1 == k && decide ((x.raw - e.2).toNat ≤ unitsPerSec)

/-- The fields of an Announce by which the default comparison ranks its sender, smaller being better (R152). -/
def announceRank (m : List Byte) : List Byte := slice m 47 1 ++ slice m 48 4 ++ slice m 52 1 ++ slice m 53 8 ++ slice m 61 2 ++ slice m 20 10

/-- The portIdentity of a port of this device (R158). Log 39. -/
def State.portId (_ : State) (p : Plane) (i : Nat) : List Byte :=
  toBE 8 (Config.clockId (planeNum p)).toNat ++ toBE 2 (i + 1)

/-- The TS80 at octet 34 of a message in 1/16 ns (R131). -/
def tsOf (m : List Byte) : Int := (octs m 34 6 : Int) * unitsPerSec + octs m 40 4 * 16

/-- What a Sync that arrives now shows of domain `d`: on a P2P port with the link's delay, on an E2E port with the mean path delay, once it
is known (R105, R158, R159). Log 135. -/
def State.ptpSync (s : State) (p : Plane) (port : Fin 4) (m : List Byte) (y : DomS) (d : Nat) : DomS :=
  let x : Int := s.dial p d - tsOf m - Int.fdiv (sext 64 (octs m 8 8) + s.sreg (R.PORT_ASYM p port.val)) 4096
  if s.p2p p port.val then { y with ref := true, meas := some (x - (s.reg (R.PORT_LINK_DELAY p port.val)).toNat / 4096) }
  else { y with ref := true, sync := some x, meas := match y.path with | some l => some (x - l) | none => y.meas }

/-- A Delay_Resp to the servo's Delay_Req gives the mean path delay, and with it what the last Sync showed (R105). Log 135. -/
def State.ptpDelay (s : State) (p : Plane) (port : Fin 4) (m : List Byte) (y : DomS) : DomS :=
  match y.req, y.sync with
  | some (q, t3), some x =>
    if q.toNat ≠ octs m 30 2 ∨ slice m 44 10 ≠ s.portId p port.val then y
    else
      let asym := if s.rb (R.PORT_PTP_CFG p port.val) 29 then s.sreg (R.PORT_ASYM p port.val) else 0
      let l := Int.fdiv (x + (tsOf m - t3 - Int.fdiv (sext 64 (octs m 8 8) - asym) 4096)) 2
      { y with req := none, path := some l, meas := some (x - l) }
  | _, _ => y

/-- The part of domain `d`'s servo of a received message (R152, R158). The last 256 sequenceIds used are kept: log 140. -/
def State.ptpServoOf (s : State) (p : Plane) (port : Fin 4) (m : List Byte) (d : Nat) : State :=
  let typ := octs m 0 1 % 16
  let two := nfld (octs m 6 1) 1 1 == 1
  let id := slice m 20 10
  let cur := (s.pl p).masters.getD d none
  let put (x : Master) : State := s.modPl p fun y => { y with masters := modAt d (fun _ => some x) y.masters }
  if typ = 0xB then
    let r := announceRank m
    match cur with
    | none => put ⟨r, id, port, []⟩
    | some c =>
      if c.identity = id then put { c with dataset := r }
      else if beNat r < beNat c.dataset then put ⟨r, id, port, []⟩
      else s
  else if typ = 0 && !two then
    match cur with
    | none => s
    | some c =>
      let seq := BitVec.ofNat 16 (octs m 30 2)
      if c.identity ≠ id ∨ c.syncs.contains seq ∨
          (s.p2p p port.val ∧ s.reg (R.PORT_LINK_DELAY p port.val) = 0xFFFFFFFF) then s
      else (put { c with port := port, syncs := (c.syncs ++ [seq]).drop (c.syncs.length + 1 - 256) }).modDom p d fun y => s.ptpSync p port m y d
  else if typ = 9 then
    match cur with
    | some c => if c.identity = id then s.modDom p d fun y => s.ptpDelay p c.port m y else s
    | none => s
  else s

/-- The servos' part of a received message (R152, R158). -/
def State.ptpServo (s : State) (p : Plane) (port : Fin 4) (m : List Byte) : State :=
  s.each (s.followers p (octs m 4 1)) fun s d => s.ptpServoOf p port m d

/-- The 34-octet header of a message this device originates; domain, correction, sequence, control and log interval given. -/
def State.ptpHeader (s : State) (p : Plane) (i typ len dom : Nat) (corr : Int) (seq : BitVec 16) (ctl : Nat) (log : Byte) :
    List Byte :=
  toBE 1 typ ++ toBE 1 0x12 ++ toBE 2 len ++ toBE 1 dom ++ toBE 1 0 ++ toBE 2 0 ++ toBE 8 (toU 64 corr) ++ toBE 4 0 ++
    s.portId p i ++ toBE 2 seq.toNat ++ toBE 1 ctl ++ [log]

/-- Sends a message that this device originates, by the port's transport (R152, R168). `orig` names the domain whose dial time an event
message takes at its egress, and tells a Delay_Req (R157). Fields of the IPv4 header that the manual leaves open are free (log 39). -/
def State.ptpSend (s : State) (p : Plane) (port : Fin 4) (peer : Bool) (msg : List Byte) (orig : Option (Nat × Bool)) : State :=
  let stampAt (o : Nat) : Option (Nat × Nat × Bool) := orig.map fun e => (e.1, o, e.2)
  let i := port.val
  let sa := s.addr48 (R.PORT_MAC_LO p i)
  let s1 := s.count (R.PORT_COUNTERS p i 9)
  if s.rf (R.PORT_PTP_CFG p i) 27 26 = 1 then
    let (o, s2) := s1.freeOctets 4
    let dst := if peer then 0xE000006B else 0xE0000181
    let udp := toBE 2 319 ++ toBE 2 319 ++ toBE 2 (8 + msg.length) ++ toBE 2 0 ++ msg
    let head (sum : Nat) := [0x45, o.getD 0 0] ++ toBE 2 (28 + msg.length) ++ [o.getD 1 0, o.getD 2 0, 0, 0, o.getD 3 0, 17] ++
      toBE 2 sum ++ toBE 4 (s.reg (R.PORT_IPV4 p i)).toNat ++ toBE 4 dst
    let t := onesSum (head 0)
    let sum := 65535 - (if t % 65535 = 0 then 65535 else t % 65535)
    s2.wireFrame p port ⟨if peer then 0x01005E00006B else 0x01005E000181, sa, 0x0800, head sum ++ udp, true, false, stampAt 28⟩
  else s1.wireFrame p port ⟨if peer then 0x0180C200000E else 0x011B19000000, sa, 0x88F7, msg, true, false, stampAt 0⟩

/-- A Pdelay_Resp in one step (R157, R158). `turn` is the egress stamp less the ingress stamp. -/
def State.pdelayResp (s : State) (p : Plane) (port : Fin 4) (m : List Byte) (turn : Nat) : State :=
  let h := s.ptpHeader p port.val 3 54 (octs m 4 1) ((turn * 4096 : Nat) : Int) (BitVec.ofNat 16 (octs m 30 2)) 5 0x7F
  s.ptpSend p port true (h ++ toBE 10 0 ++ slice m 20 10) none

/-- A valid Pdelay_Resp gives the mean link delay (R158). `trip` is its receipt stamp less the request's transmit stamp. -/
def State.pdelayDone (s : State) (p : Plane) (port : Fin 4) (m : List Byte) (trip : Nat) : State :=
  let i := port.val
  let seq := ((s.pl p).port.getD i PortS.rest).pdSeq
  if nfld (octs m 6 1) 1 1 = 1 ∨ slice m 44 10 ≠ s.portId p i ∨ octs m 30 2 ≠ seq.toNat then s
  else
    let d := Int.fdiv ((trip * 4096 : Nat) - sext 64 (octs m 8 8)) 2
    s.setReg (R.PORT_LINK_DELAY p i) (BitVec.ofNat 32 (clamp 0 0xFFFFFFFE d).toNat)

/-- A message goes on to the other ports (R154, R155); one with a bad FCS only by cut-through between the ports of rings (R138, R139). -/
def State.ptpOut (s : State) (p : Plane) (port : Fin 4) (frame : List Byte) (o : Nat) (udp e2e stomp : Bool) (stamps : List Nat) : State :=
  ([0, 1, 2, 3] : List (Fin 4)).foldl (fun (s : State) g =>
    if g = port ∨ !s.ptpOpen p g.val ∨ (e2e ∧ s.p2p p g.val) ∨ (stomp ∧ s.portMode p g.val ≠ 1) then s
    else s.ptpForward p port g frame o udp stomp (stamps.getD g.val 0)) s

/-- A PTP message with a good FCS at an open port: answered, used by a servo, and forwarded once (R152-R158). Delay_Req and Delay_Resp at a
P2P port are dropped and counted in RX_DROP_TYPE: log 140. -/
def State.ptpTake (s : State) (p : Plane) (port : Fin 4) (frame : List Byte) (o : Nat) (udp : Bool) (stamps : List Nat) : State :=
  let i := port.val
  let m := frame.drop o
  let typ := octs m 0 1 % 16
  if typ = 2 then (if s.p2p p i then s.pdelayResp p port m (stamps.getD i 0) else s)
  else if typ = 3 then (if s.p2p p i then s.pdelayDone p port m (stamps.getD i 0) else s)
  else
    let all := typ == 0 || typ == 8 || typ == 0xB || typ == 0xC || typ == 0xD
    let e2e := typ == 1 || typ == 9
    let k := ptpKey m
    if e2e && s.p2p p i then s.count (R.PORT_COUNTERS p i 3)
    else
      let s1 := s.ptpServo p port m
      if !(all || e2e) || (s.pl p).ptpDone k then s1
      else
        (s1.modPl p fun x => { x with ptpSeen := (x.ptpSeen ++ [(k, x.raw)]).drop (x.ptpSeen.length + 1 - 4096) }).ptpOut p port
          frame o udp e2e false stamps

/-- PTP_MESSAGE_RECEIVE (R137-R158, R163), as the message arrives. One passed on with a bad FCS does not enter the filter: log 154. `stamps` holds, by port, the egress stamp less the ingress stamp in 1/16 ns of raw time of
the copy or answer sent there; for a Pdelay_Resp the entry of its port is the trip of the request. A frame that R152 does not support is
dropped by a RING port, and left to the parsers by a SPUR port (R142). -/
def State.ptpReceive (s : State) (p : Plane) (port : Fin 4) (fcsOk : Bool) (frame0 : List Byte) (stamps : List Nat) : State :=
  let i := port.val
  let mode := s.portMode p i
  if !s.present p || mode == 0 then s
  else if !s.linkUp p i then s.count (R.PORT_COUNTERS p i 3)
  else
    let (tagged, _, _, tr) := s.takeApart p port frame0
    let frame := if tr.isSome then frame0.take (frame0.length - 6) else frame0
    let size := frame0.length + 4
    if size < 64 ∨ s.maxFrame p port < size then
      (s.count (R.PORT_COUNTERS p i (if fcsOk then 0 else 1))).count (R.PORT_COUNTERS p i 2)
    else match if tagged && mode == 1 then none else ptpAt frame with
    | none => s.when (mode == 1) fun s => if fcsOk then (s.count (R.PORT_COUNTERS p i 0)).count (R.PORT_COUNTERS p i 3)
        else s.count (R.PORT_COUNTERS p i 1)
    | some (o, udp) =>
      let m := frame.drop o
      let typ := octs m 0 1 % 16
      let e2e := typ == 1 || typ == 9
      let opens := s.ptpOpen p i && s.forwards p
      if !fcsOk then
        let goes := opens && mode == 1 && (typ == 0 || typ == 8 || decide (0xB ≤ typ ∧ typ ≤ 0xD) || (e2e && !s.p2p p i))
        (s.count (R.PORT_COUNTERS p i 1)).when (goes && !(s.pl p).ptpDone (ptpKey m)) fun s =>
          s.ptpOut p port frame o udp e2e true stamps
      else
        let s1 := ((s.count (R.PORT_COUNTERS p i 0)).count (R.PORT_COUNTERS p i 8)).lanId p port tr
        let s2 := s1.when (typ == 0 && nfld (octs m 6 1) 1 1 == 1) fun s => s.count (R.PORT_COUNTERS p i 10)
        if opens then s2.ptpTake p port frame o udp stamps else s2

/-- A Delay_Req of the servo of domain `d`, on the port where its timeTransmitter's Sync arrives (R157, R158). Its logMessageInterval is the
interval in use: log 39. -/
def State.delayReq (s : State) (p : Plane) (d : Nat) : State :=
  match (s.pl p).masters.getD d none with
  | none => s
  | some c =>
    let i := c.port.val
    let cfg := ((s.pl p).domS d).cfg
    if c.syncs.isEmpty || !s.forwards p || srcCfg cfg != 1 || !s.ptpOpen p i || s.p2p p i then s
    else
      let seq := ((s.pl p).domS d).drSeq
      let log := s.rf (R.PORT_PTP_CFG p i) 15 12
      let h := s.ptpHeader p i 1 44 (fld cfg 27 20) 0 seq 1
        (BitVec.ofNat 8 (if log = 0 then (if bit cfg 19 then 0 else 0xFD) else toU 8 (sext 4 log)))
      (s.modDom p d fun y => { y with drSeq := y.drSeq + 1 }).ptpSend p c.port false (h ++ toBE 10 0) (some (d, true))

/-- A Pdelay_Req of a P2P port, stamped with the dial time of the domain that it names (R157, R158). Which of the two domains that is, and
logMessageInterval, are free (log 39). -/
def State.pdelayReq (s : State) (p : Plane) (port : Fin 4) : State :=
  let i := port.val
  if !s.forwards p || !s.ptpOpen p i || !s.p2p p i then s
  else
    let (w, s1) := s.free32
    let d := fld w 8 8
    let seq := ((s.pl p).port.getD i PortS.rest).pdSeq + 1
    let h := s1.ptpHeader p i 2 54 (s.rf (R.TD_CFG p d) 27 20) 0 seq 5 (w.truncate 8)
    (s1.modPort p port fun x => { x with pdSeq := seq }).ptpSend p port true (h ++ toBE 20 0) (some (d, false))

/-- Three Pdelay intervals without a valid answer (R158). -/
def State.peerLost (s : State) (p : Plane) (port : Fin 4) : State :=
  if s.present p && s.portMode p port.val != 0 && s.p2p p port.val then
    (s.setReg (R.PORT_LINK_DELAY p port.val) 0xFFFFFFFF).raiseP p 133
  else s

/-- A PRP-1 supervision frame (R164). Log 28. -/
def State.prpSupervise (s : State) (p : Plane) (port : Fin 4) : State :=
  let i := port.val
  if s.active p && s.prpOn p i && s.linkUp p i && s.rb (R.PORT_PRP p i) 31 then
    let seq := ((s.pl p).port.getD i PortS.rest).supSeq
    let sa := s.addr48 (R.PORT_MAC_LO p i)
    (s.modPort p port fun x => { x with supSeq := x.supSeq + 1 }).wire p port 0x01154E000100 sa 0x88FB
      (toBE 2 1 ++ toBE 2 seq.toNat ++ toBE 1 20 ++ toBE 1 6 ++ toBE 6 sa ++ toBE 2 0) false false
  else s

/-- The next probe of LINK_CAL (R160). A device without a number originates none (R51), so its run ends with TIMEOUT (R161). -/
def State.calProbe (s : State) (p : Plane) : State :=
  match (s.pl p).cal with
  | none => s
  | some c =>
    let c1 := if c.east && c.sent == c.probes then { c with east := false, sent := 0 } else c
    if c1.sent = c1.probes then s
    else
      let (h, s1) := s.notice p (toBE 1 2 ++ toBE 7 0 ++ toBE 8 0)
      let s2 := s1.modPl p fun x => { x with cal := some { c1 with sent := c1.sent + 1 } }
      s2.when s.devValid fun s => s.sendOwn p c.side.toNat h (!c1.east)

/-- A probe at a ring port: returned to its origin, or passed on with ACC (R160). `residence` is the residence of a probe passed on,
and the return stamp less the send stamp of a returned one. -/
def State.calReceive (s : State) (p : Plane) (port : Fin 4) (octets : List Byte) (residence : Nat) : State :=
  let i := port.val
  let h := parseSent octets (octets.drop 32)
  if !s.present p || s.portMode p i != 1 || !isProbe h then s
  else if !s.linkUp p i then s.count (R.PORT_COUNTERS p i 3)
  else
    let s1 := s.count (R.PORT_COUNTERS p i 0)
    let acc := sext 64 (octs h.payload 8 8)
    if s.ownSent h then
      let r := ringOf port
      let loop : Int := (residence * 4096 : Nat) - acc
      let f : CalS → CalS := fun c =>
        if c.side.toNat ≠ r then c
        else if isWest port then { c with sumE := c.sumE + loop, nE := c.nE + 1, members := h.hops.toNat + 1 }
        else { c with sumW := c.sumW + loop, nW := c.nW + 1 }
      s1.modPl p fun x => { x with cal := x.cal.map f }
    else if !s.forwards p then s1
    else
      let acc1 := acc + (residence * 4096 : Nat) + s.sreg (R.PORT_ASYM p i)
      s1.forward p port { h with payload := h.payload.take 8 ++ toBE 8 (toU 64 acc1) } false

/-- STATUS and the 12-octet result of a LINK_CAL run (R160, R161): true for DONE. Means and halves are rounded down: log 38. -/
def calResult (c : CalS) : Bool × List Byte :=
  let e := Int.fdiv c.sumE (max 1 c.nE)
  let w := Int.fdiv c.sumW (max 1 c.nW)
  (decide (c.probes ≤ 2 * c.nE) && decide (c.probes ≤ 2 * c.nW),
   toBE 4 (toU 32 (Int.fdiv (e - w) 2)) ++ toBE 4 (toU 32 (Int.fdiv (e + w) 8192)) ++ toBE 2 c.members ++
     toBE 1 (min (c.nE + c.nW) 255) ++ toBE 1 c.void.toNat)

/-- A frame that a port drops and counts (R137, R142, R145, R169): 0 bad FCS, 1 bad size, 2 PAUSE, 3 tagged, 4 type, 5 bad size and bad FCS,
6 an RS-FEC codeword that could not be corrected. Log 141. -/
def State.discarded (s : State) (p : Plane) (port : Fin 4) (why : Nat) : State :=
  let i := port.val
  if !s.present p || s.portMode p i == 0 then s
  else if why = 6 then s.when (s.rb (R.PORT_STATUS p i) 27) fun s => s.count (R.PORT_COUNTERS p i 15)
  else if !s.linkUp p i then s.count (R.PORT_COUNTERS p i 3)
  else if why = 0 then s.count (R.PORT_COUNTERS p i 1)
  else if why = 1 then (s.count (R.PORT_COUNTERS p i 0)).count (R.PORT_COUNTERS p i 2)
  else if why = 5 then (s.count (R.PORT_COUNTERS p i 1)).count (R.PORT_COUNTERS p i 2)
  else
    let s1 := s.count (R.PORT_COUNTERS p i 0)
    if why = 2 ∨ s.portMode p i = 1 then s1.count (R.PORT_COUNTERS p i 3) else s1

end Sys2Proof.Machine
end

