-- ==== Sys2Proof/Machine/Release.lean ====
section
/-!
DEFINITION. Pin copies, decision points and pin releases (R60-R69, R298, R299), pulse programmes (R304-R306, R310, R311), LTC output
(R307), Ethernet launches (R300-R303), captures and LTC inputs (R313, R318), and the Lantern timebase (R125-R128).
-/
namespace Sys2Proof.Machine

def State.outS (s : State) (n : Nat) : OutS := s.outs.getD n OutS.rest

def State.modOut (s : State) (n : Nat) (f : OutS → OutS) : State := { s with outs := modAt n f s.outs }

/-- A release that has been decided or performed, or one before the last performed (R63). -/
def OutS.past (o : OutS) (oseq : Word) : Bool :=
  (o.chosen.any fun e => e.1 == oseq) ||
    match o.last with | none => false | some l => decide (serial 32 oseq.toNat l.toNat ≤ 0)

/-- A descriptor that makes the pin release `idx` of output `n`. -/
def rdMakes (n idx : Nat) (r : BitVec 256) : Bool := rdValid r && rdKind r != 0 && outOf r == n && rdIdx r == idx

/-- The release time, on Lantern time, of a pin release of output `n`, where a command or a descriptor tells it, as the build instance found
it in the lead plane or in the other (R294, R298, R312, R314). -/
def State.releaseTime (s : State) (n : Nat) (oseq : Word) : Option Int :=
  match (s.outS n).cmds.find? fun e => e.1 == oseq with
  | some e => some e.2.1
  | none =>
    let m := s.mirror.getD (s.canvasEg s.lead) ⟨false, 1, 60, 0, 0, 0, 0⟩
    let k : Int := m.index + serial 20 (oseq.toNat / 4096) (m.index % 2 ^ 20)
    let ofs (p : Plane) : Option Int := (s.pl p).descKeys.findSome? fun d =>
      let r := (s.pl p).descAt d k.toNat
      if rdMakes n (oseq.toNat % 4096) r then some (rdOfs r) else none
    let at_ (o : Int) : Int := (epochTime m.base m.origin m.num m.den k.toNat : Int) + o * 16
    match ofs s.lead with
    | some o => some (at_ o)
    | none => (ofs (other s.lead)).map at_

/-- The decision point of a release lies behind the present cycle of the Lantern ring (R61, R63, R312). -/
def State.decidedBy (s : State) (n : Nat) (oseq : Word) : Bool :=
  match s.releaseTime n oseq with
  | some r => decide (r - (s.rf R.LDH_CTL 7 0 * 1600 : Nat) < s.lantern)
  | none => false

/-- PIN_COPY_RECEIVE (R60-R63): the copy at the head of the plane's copy path becomes complete, or stops partway. -/
def State.copyReceive (s : State) (p : Plane) (n : Nat) (oseq : Word) (obj : Byte) (k : CopyKind) : State :=
  if !s.pinOn || !s.present p then s
  else
    let is (e : PathC) : Bool := e.out == n && e.copy.oseq == oseq && match k with
      | .frame d => e.copy.obj == obj && e.copy.data == some d
      | .skip => e.copy.data.isNone
      | .partialCopy => true
    match (s.pl p).path with
    | [] => s
    | e :: rest =>
      if !is e then s
      else
        let s1 := s.modPl p fun x => { x with path := rest }
        if k = .partialCopy then s1.count R.LDH_PARTIAL_CNT
        else if (s1.outS n).past oseq || s1.decidedBy n oseq then (s1.count R.LDH_LATE_CNT).raise 19
        else s1.modOut n fun o => { o with copies := o.copies ++ [e.copy] }

/-- A serial output in telegram mode. -/
def State.outTel (s : State) (n : Nat) : Bool := decide (n < 32) && s.slTel n

/-- What an output in its safe state does at a release (R65). Log 52. -/
def State.safeChoice (s : State) (n : Nat) : Choice :=
  let m := s.rf (R.LDH_OUT_CFG n) 1 0
  if m = 2 then .hold else if m = 1 ∧ s.outTel n then .zero else .quiet

/-- BLACKOUT or SAFE_STATE holds the output (R438): pulse and LTC outputs are not blacked out. -/
def State.snuffed (s : State) (n : Nat) : Bool := (s.snf.black.getLsbD n && decide (n < 40)) || s.snf.safe.getLsbD n

/-- What a held copy becomes under the Snuffer state (R438). -/
def State.snuffCopy (s : State) (n : Nat) (c : Copy) : Choice :=
  match c.data with
  | none => .skip
  | some d =>
    if s.snf.safe.getLsbD n then s.safeChoice n
    else if s.snuffed n then (if s.outTel n then .black c.obj d else .skip)
    else .send c.obj d

/-- Missed-epoch accounting when the releases of a new epoch begin (R64): the count so far. -/
def OutS.tally (o : OutS) (k : Nat) : Nat × Bool :=
  if o.epoch = some k then (o.missed, o.miss)
  else (if o.epoch.isNone then o.missed else if o.miss then min (o.missed + 1) 255 else 0, false)

/-- An output enters its safe state (R64, R485). -/
def State.enterSafe (s : State) (n : Nat) : State := (s.raise 18).record 10 1 [BitVec.ofNat 8 n]

/-- The output's releases by jobs are missed, in IDLE (R481); those of commands go on. A decision taken before stands: log 155. -/
def State.idleMiss (s : State) (o : OutS) (oseq : Word) : Bool :=
  s.rf R.AON_PWR_STATUS 31 30 == 1 && !o.cmds.any fun e => e.1 == oseq

/-- DECISION_POINT (R61, R64, R65, R438, R481). -/
def State.decide_ (s : State) (n : Nat) (oseq : Word) : State :=
  let o := s.outS n
  if !s.pinOn || o.past oseq then s
  else
    let k := oseq.toNat / 4096
    let (missed, miss) := o.tally k
    let cs := if s.idleMiss o oseq then [] else o.copies.filter fun c => c.oseq == oseq
    let rest := o.copies.filter fun c => c.oseq != oseq
    let mine := cs.find? fun c => c.plane == s.lead
    let theirs := cs.find? fun c => c.plane != s.lead
    let done (s : State) (c : Choice) (miss holding safe : Bool) : State :=
      s.modOut n fun o => { o with copies := rest, chosen := o.chosen ++ [(oseq, c, cs.length)], missed := missed, epoch := some k,
                                    miss := miss, holding := holding, safe := safe }
    match mine, theirs with
    | some a, some b =>
      let s1 := if a.obj = b.obj ∧ a.data = b.data then s
        else ((s.count R.LDH_MISMATCH_CNT).setRb (if n < 32 then R.LDH_DIV_LO else R.LDH_DIV_HI) (n % 32) true).raise 16
      done s1 (s.snuffCopy n a) miss false false
    | some a, none => done s (s.snuffCopy n a) miss false false
    | none, some b =>
      done (s.when (s.active s.lead && s.active (other s.lead)) fun s => s.count R.LDH_FALLBACK_CNT) (s.snuffCopy n b) miss false false
    | none, none =>
      if s.snuffed n then
        let c := if s.snf.safe.getLsbD n then s.safeChoice n else if s.outTel n then .zero else .skip
        done s c miss o.holding o.safe
      else if o.safe || !s.rb (R.LDH_OUT_CFG n) 2 || decide (s.rf R.LDH_CTL 15 8 ≤ missed) then
        let s1 := if o.safe then s else s.enterSafe n
        done s1 (s.safeChoice n) true false true
      else done (s.raiseIf (!o.holding) 17) .hold true true false

/-- The content last released under a release index (R64). -/
def OutS.kept (o : OutS) (oseq : Word) : Option (Byte × List Byte) := Tab.find (oseq.toNat % 4096) o.content

def State.keep (s : State) (n : Nat) (oseq : Word) (obj : Byte) (d : List Byte) : State :=
  s.modOut n fun o => { o with content := Tab.put (oseq.toNat % 4096) (obj, d) o.content }

/-- A serial frame at its release time (R298, R299). -/
def State.serialOut (s : State) (n : Nat) (d : List Byte) : State :=
  let (s1, busy) := s.slRelease n d
  if busy then (s1.count R.LDH_BUSY_CNT).raise 20 else s1

/-- Shows a pulse output in PO_STATUS and PO_NEXT (R317, R318). Log 53. -/
def State.pulseShow (s : State) (i : Nat) : State :=
  let x := s.po.getD i ⟨none, none⟩
  let left : Nat := match x.prog with
    | none => 0
    | some g => if g.period = 0 then 1 - g.m else if g.count = 0 then 0x0FFFFFFF else min (g.count - g.m) 0x0FFFFFFF
  let next : Int := match x.prog with
    | none => 0
    | some g => if left = 0 then 0 else Int.fdiv (g.t0 + g.m * g.period * 32) 16
  let w := setFld (setFld (setFld (s.reg (R.PO_STATUS i)) 31 31 x.prog.isSome.toNat) 30 30 x.trail.isSome.toNat) 27 0 left
  (s.setReg (R.PO_STATUS i) w).setReg64 (R.PO_NEXT_NS_LO i) next.toNat

def State.modPo (s : State) (i : Nat) (f : PulseS → PulseS) : State := ({ s with po := modAt i f s.po }).pulseShow i

/-- LATE of a pulse output (R310, R311). -/
def State.pulseLate (s : State) (i : Nat) : State := (s.setRb (R.PO_STATUS i) 29 true).raise 88

/-- A programme refused under R304. -/
def badProg (d : List Byte) : Bool :=
  let per := octs d 0 4
  let w := octs d 4 4
  octs d 12 4 != 0 || w == 0 ||
    if per = 0 then decide (500000000 < w) else decide (per < 10) || decide (500000000 < per) || decide (per ≤ w)

/-- The first pulse at or after `t` (R311). -/
def firstPulse (t0 : Int) (period : Nat) (t : Int) : Nat :=
  if t ≤ t0 ∨ period = 0 then 0 else ((t - t0).toNat + period * 32 - 1) / (period * 32)

/-- The programme that copy content `d` gives at time `t`, with the pulses passed over (R304, R311). -/
def progOf (d : List Byte) (now t : Int) : Option Prog × Nat :=
  if d = [] then (none, 0)
  else
    let per := octs d 0 4
    let cnt := octs d 8 4
    let t0 := if per != 0 && d.length == 24 then ofPt64 now (BitVec.ofNat 64 (octs d 16 8)) else t
    let m := firstPulse t0 per t
    (if per ≠ 0 ∧ cnt ≠ 0 ∧ cnt ≤ m then none else some ⟨t0, per, octs d 4 4, cnt, m⟩, m)

/-- A pulse programme takes effect at `t` (R305, R306, R311). -/
def State.pulseOut (s : State) (i : Nat) (d : List Byte) (t : Int) : State :=
  if d != [] && badProg d then
    ((s.modPo i fun x => { x with prog := none }).setRb (R.PO_STATUS i) 28 true).raise 89
  else
    let (g, passed) := progOf d s.lantern t
    let s1 := s.modPo i fun x => { x with prog := g }
    if 0 < passed then s1.pulseLate i else s1

/-- The level of a pulse output that is active or inactive (R305). -/
def State.pulseLevel (s : State) (i : Nat) (active : Bool) : Bool := active != s.rb (R.PO_CFG i) 31

/-- A decided release of a pulse output takes effect at or before `t`: from there no edge of the old programme occurs (R305, R314). -/
def State.pulseOver (s : State) (i : Nat) (t : Int) : Bool :=
  (s.outS (40 + i)).chosen.any fun e => (match e.2.1 with | .send .. => true | .quiet => true | _ => false) &&
    match s.releaseTime (40 + i) e.1 with | some r => decide (Int.fdiv r 32 * 32 ≤ t) | none => false

/-- PULSE_EDGE (R305, R314). -/
def State.pulseEdge (s : State) (i : Nat) (leading : Bool) : State :=
  let x := s.po.getD i ⟨none, none⟩
  if leading then
    match x.prog with
    | none => s
    | some g =>
      let spent := if g.period = 0 then decide (0 < g.m) else g.count != 0 && decide (g.count ≤ g.m)
      let t := g.t0 + g.m * g.period * 32
      if spent || s.pulseOver i t then s
      else
        let e := t + g.width * 32
        let tr := match x.trail with | some u => max u e | none => e
        let s1 := if x.trail.isSome then s else s.emit (.pulse i (s.pulseLevel i true))
        s1.modPo i fun _ => { prog := some { g with m := g.m + 1 }, trail := some tr }
  else if x.trail.isNone then s
  else
    let ended (g : Prog) : Bool := if g.period = 0 then decide (0 < g.m) else g.count != 0 && decide (g.count ≤ g.m)
    (s.emit (.pulse i (s.pulseLevel i false))).modPo i fun x => { prog := x.prog.filter fun g => !ended g, trail := none }

/-- Running programmes align after a jump: edges passed over count (R311, R312). -/
def State.pulseAlign (s : State) (i : Nat) : State :=
  match (s.po.getD i ⟨none, none⟩).prog with
  | none => s
  | some g =>
    let m := firstPulse g.t0 g.period s.lantern
    if m ≤ g.m then s
    else
      let g1 := if g.count ≠ 0 ∧ g.count ≤ m then none else some { g with m := m }
      (s.modPo i fun x => { x with prog := g1 }).pulseLate i

/-- An active pulse ends at once (R438). -/
def State.pulseCut (s : State) (i : Nat) : State :=
  s.when (s.po.getD i ⟨none, none⟩).trail.isSome fun s => (s.emit (.pulse i (s.pulseLevel i false))).modPo i fun x => { x with trail := none }

/-- The output rests inactive: the programme stops; `cut` ends an active pulse at once (R65, R438). -/
def State.pulseStop (s : State) (i : Nat) (cut : Bool) : State :=
  (s.when cut fun s => s.pulseCut i).modPo i fun x => { x with prog := none }

/-- A time address in range (R307). -/
def ltcOk (rate : Nat) (a : List Byte) : Bool :=
  decide (octs a 0 1 < 24) && decide (octs a 1 1 < 60) && decide (octs a 2 1 < 60) && decide (octs a 3 1 < ltcFps rate)

/-- The next frame's address (R307). -/
def ltcNext (rate : Nat) (a : List Byte) : List Byte :=
  let h := octs a 0 1
  let m := octs a 1 1
  let sec := octs a 2 1
  let f := octs a 3 1 + 1
  if f < ltcFps rate then toBE 1 h ++ toBE 1 m ++ toBE 1 sec ++ toBE 1 f
  else
    let t := (h * 3600 + m * 60 + sec + 1) % 86400
    let first := if rate = 2 ∧ t % 60 = 0 ∧ t / 60 % 10 ≠ 0 then 2 else 0
    toBE 1 (t / 3600) ++ toBE 1 (t / 60 % 60) ++ toBE 1 (t % 60) ++ toBE 1 first

/-- The low `n` bits of a number, bit 0 first. -/
def bitsLe (n v : Nat) : List Bool := (List.range n).map fun i => v / 2 ^ i % 2 == 1

/-- The 80 bits of an SMPTE ST 12-1 frame, bit 0 first: BCD digits and binary groups, drop-frame flag at 29.97 frame/s, the other flags 0,
the polarity-correction bit at 59 for 25 frame/s and at 27 otherwise, the sync word (R307). Log 145 for the places. -/
def ltcBits (rate : Nat) (a ub : List Byte) : List Bool :=
  let g (k : Nat) : List Bool := bitsLe 4 (octs ub 0 4 / 16 ^ (8 - k))
  let ones (k : Nat) : List Bool := bitsLe 4 (octs a k 1 % 10)
  let tens (n k : Nat) : List Bool := bitsLe n (octs a k 1 / 10)
  let make (pol : Bool) : List Bool :=
    ones 3 ++ g 1 ++ tens 2 3 ++ [rate == 2, false] ++ g 2 ++ ones 2 ++ g 3 ++ tens 3 2 ++ [pol && rate != 1] ++ g 4 ++
      ones 1 ++ g 5 ++ tens 3 1 ++ [false] ++ g 6 ++ ones 0 ++ g 7 ++ tens 2 0 ++ [false, pol && rate == 1] ++ g 8 ++ bitsLe 16 0xBFFC
  make (((make false).filter fun b => b).length % 2 == 1)

/-- The cells of an LTC frame that begins at `r` in Lantern time, ns: cell i at R + floor(i × P / 80), rounded down to the 2 ns grid
(R307). -/
def State.ltcCells (s : State) (r : Nat) (bits : List Bool) : List (Nat × Bool) :=
  let m := s.mirror.getD (s.canvasEg s.lead) ⟨false, 1, 60, 0, 0, 0, 0⟩
  bits.zipIdx.map fun e => ((r + e.2 * m.num * 1000000000 / (80 * m.den)) / 2 * 32, e.1)

/-- The level of an LTC output at rest (R318). -/
def State.ltcRest (s : State) (i : Nat) : Bool := s.rb (R.LO_CFG i) 31

/-- An LTC frame begins (R307). The polarity-correction bit makes the line end at the level at which it began. -/
def State.ltcOut (s : State) (i : Nat) (addr ub : List Byte) : State :=
  let rate := s.rf (R.LO_CFG i) 30 29
  let a := if ltcOk rate addr then slice addr 0 4 else toBE 4 0
  let level := (s.lo.getD i none).getD (s.ltcRest i)
  let s1 := { s with lo := modAt i (fun _ => some level) s.lo }
  (s1.setReg (R.LO_STATUS i) (BitVec.ofNat 32 (octs a 0 4))).emit (.ltc i level (s.ltcCells (s.lantern / 32 * 2) (ltcBits rate a (slice ub 0 4))))

/-- An LTC output rests at its idle level in the QUIET safe state (R65, R318). -/
def State.ltcQuiet (s : State) (i : Nat) : State :=
  { s with lo := modAt i (fun _ => none) s.lo }.emit (.ltcIdle i (s.ltcRest i))

/-- Sends content at output `n` (R298). `fresh` tells a copy from the repetition of a hold (R64). -/
def State.drive (s : State) (n : Nat) (obj : Byte) (d : List Byte) (fresh : Bool) : State :=
  if n < 32 then s.serialOut n d
  else if n < 40 then s.canRelease (n - 32) obj.toNat d
  else if n < 56 then (if fresh then s.pulseOut (n - 40) d (Int.fdiv s.lantern 32 * 32) else s)
  else if fresh then s.ltcOut (n - 56) (slice d 0 4) (slice d 4 4)
  else
    let i := n - 56
    s.ltcOut i (ltcNext (s.rf (R.LO_CFG i) 30 29) (toBE 4 (s.reg (R.LO_STATUS i)).toNat)) (slice d 4 4)

/-- The commands that complete with a release (R310): the first edge, or the time of the release, and LATE. -/
def State.pulseReplies (s : State) (n : Nat) (oseq : Word) (passed : Bool) : State :=
  let o := s.outS n
  let mine := o.cmds.filter fun e => e.1 == oseq
  let s1 := s.modOut n fun o => { o with cmds := o.cmds.filter fun e => e.1 != oseq }
  mine.foldl (fun s e =>
    let g := (s.po.getD (n - 40) ⟨none, none⟩).prog
    let t : Int := match g with | some g => g.t0 + g.m * g.period * 32 | none => e.2.1
    let late := e.2.2.2 || passed
    s.complete e.2.2.1 stDone (toBE 8 (toPt64 t).toNat ++ toBE 1 late.toNat)) s1

/-- PIN_RELEASE (R65, R298, R299, R307, R438). -/
def State.release_ (s : State) (n : Nat) (oseq : Word) : State :=
  match (s.outS n).chosen.find? fun e => e.1 == oseq with
  | none => s
  | some (_, c, _) =>
    if !s.pinOn then s
    else
      let s1 := s.modOut n fun o => { o with last := some oseq, chosen := o.chosen.filter fun e => e.1 != oseq }
      let s2 := match c with
        | .send obj d => (s1.keep n oseq obj d).drive n obj d true
        | .black obj d => (s1.keep n oseq obj d).drive n obj (zeroTelegram (s.reg (R.SL_TEL_FMT n)) d) true
        | .hold => match (s1.outS n).kept oseq with
          | some (obj, d) => s1.drive n obj d false
          | none => s1
        | .zero => match (s1.outS n).kept oseq with
          | some (obj, d) => s1.drive n obj (zeroTelegram (s.reg (R.SL_TEL_FMT n)) d) false
          | none => s1
        | .quiet => if 40 ≤ n ∧ n < 56 then s1.pulseStop (n - 40) false else if 56 ≤ n then s1.ltcQuiet (n - 56) else s1
        | .skip => s1
      let passed := match c with
        | .send _ d => decide (40 ≤ n) && decide (0 < (progOf d s.lantern (Int.fdiv s.lantern 32 * 32)).2)
        | _ => false
      s2.pulseReplies n oseq passed

/-- The waiting pulse command of output `i` with the earliest time, over both planes (R310). -/
def State.nextPulse (s : State) (i : Nat) : Option PulseCmd :=
  (((s.pA.pulses ++ s.pB.pulses)).filter fun c => c.out == i).foldl (fun (a : Option PulseCmd) c =>
    match a with | none => some c | some b => if c.at_ < b.at_ then some c else some b) none

/-- PULSE_TURN (R310): the lead's control core fixes epoch and release index for the planes that hold the command. -/
def State.pulseTurn (s : State) (i : Nat) : State :=
  match s.nextPulse i with
  | none => s
  | some c =>
    let g := s.canvasEg s.lead
    let k := (epochOf (s.egBase s.lead g) (s.egOrigin s.lead g) (s.egNum s.lead g) (s.egDen s.lead g) c.at_).getD (s.egOrigin s.lead g)
    let (k0, n0) := Tab.get (0, 0) i s.pulseIx
    let idx := if k0 = k then n0 else 0
    let oseq := oseqOf k idx
    let s1 := { s with pulseIx := Tab.set (0, 0) i (k, idx + 1) s.pulseIx }
    let holders := bothPlanes.filter fun p => (s.pl p).pulses.contains c
    let s2 := holders.foldl (fun (s : State) p =>
      (s.modPl p fun x => { x with pulses := x.pulses.filter (· != c),
                                   path := enterPath ⟨s.cycleOf p, 4096, 40 + i, { plane := p, oseq := oseq, obj := 0, data := some c.data }⟩
                                     x.path }).count
        (R.REL_COUNTERS p 4)) s1
    s2.modOut (40 + i) fun o => { o with cmds := o.cmds ++ [(oseq, c.at_, c.cmd, c.late)] }

/-- The epoch whose launch of a release with OFS `ofs` is 1 µs away (R300). Log 54. -/
def State.launchEpoch (s : State) (p : Plane) (ofs : Int) : Option Nat :=
  let g := s.canvasEg p
  epochOf (s.egBase p g) (s.egOrigin p g) (s.egNum p g) (s.egDen p g)
    (s.release p + unitsPerUs - ofs * 16 + (s.egPeriod p g / 2 : Nat))

/-- The release of descriptor `d` due now: its epoch, its descriptor as it stood when its build instance opened (R294), and
whether its buffer is ready (R300). -/
def State.launchOf (s : State) (p : Plane) (d : Nat) : Option (Nat × BitVec 256 × Bool) :=
  let x := s.pl p
  let due (r : BitVec 256) (k : Nat) : Bool := s.launchEpoch p (rdOfs r) == some k && rdKind r == 0 && rdDeclared r k
  let open_ := x.inst.findSome? fun e => if jBuild e.2.desc && jBuf e.2.desc == d && due e.2.rdesc e.2.epoch then
    some (e.2.epoch, e.2.rdesc, false) else none
  let built := (x.dst d).built.findSome? fun e => if due e.2.2 e.1 then some (e.1, e.2.2, e.2.1) else none
  match built with
  | some e => some e
  | none =>
    match open_ with
    | some e => some e
    | none =>
      let r := x.desc d
      match s.launchEpoch p (rdOfs r) with
      | some k => if due r k then some (k, r, false) else none
      | none => none

/-- A release of epoch `k` has come up before, and release time has since jumped back (R312). -/
def DescS.again (y : DescS) (k : Nat) : Bool := match y.done with | some l => decide (k ≤ l) | none => false

/-- ETH_LAUNCH_PREPARE (R300, R301, R303, R312, R438, R481). -/
def State.ethPrepare (s0 : State) (p : Plane) (d : Nat) : State :=
  let g := s0.canvasEg p
  if !s0.present p || !s0.egEn p g then s0
  else
    match s0.launchOf p d with
    | none => s0
    | some (k, r, ok) =>
      if ((s0.pl p).dst d).again k then s0
      else
      let s := s0.modPl p fun x => x.modDst d fun y => { y with done := some k }
      let port := rdTarget r
      let native := rdFormat r == 1
      let cls := nfld ((s.pl p).streamEntry (rdStream r)) 117 115
      let s1 :=
        if native && s.active p then
          let peer := ((s.pl (other p)).dst d).seq
          let (q, s1) := match s.mode == 3, peer with
            | true, some (k', q) => if k' = k then (q, s) else s.takeSeq p cls
            | _, _ => s.takeSeq p cls
          s1.modPl p fun x => x.modDst d fun y => { y with seq := some (k, q) }
        else s
      let mode := s.portMode p port
      if !ok || s.imgPause || !s.linkUp p port || (if native then mode == 0 || !s.devValid else mode != 2) ||
          !s.active p || s.rf R.AON_PWR_STATUS 31 30 == 1 then
        ((s1.modPl p fun x => (x.modDst d fun y => { y with prep := none }).setLast d 4).count (R.REL_COUNTERS p 2)).raiseP p 151
      else if s.snf.pSafe.getLsbD port || (!native && s.snf.pBlack.getLsbD port) then
        (s1.modPl p fun x => (x.modDst d fun y => { y with prep := none }).setLast d 4).raiseP p 151
      else
        let buf := (s.pl p).buffer k r
        let buf := if s.snf.pBlack.getLsbD port then List.replicate buf.length 0 else buf
        s1.modPl p fun x => x.modDst d fun y => { y with prep := some (k, buf, r) }

/-- A released NATIVE sentence (R301). -/
def State.nativeRelease (s : State) (p : Plane) (k : Nat) (buf : List Byte) (r : BitVec 256) (seq : Word) : Sent :=
  let e := (s.pl p).streamEntry (rdStream r)
  let pt := s.eK p k + rdOfs r * 16 + (rdLead r * unitsPerUs : Nat)
  let eg := nfld e 111 110
  ({ s.blank (nfld e 117 115) (nfld e 114 112) (rdStream r) 0x0082 buf with
      timed := true, pt64 := toPt64 pt, tag := BitVec.ofNat 32 (eg * 2 ^ 30 + s.targetEpoch p eg pt % 2 ^ 30), seq := seq }).seal

/-- Keeps what a plane released on a port for the digest of its epoch (R71): a frame's buffer, or the sentence, before what its own
lane adds. Log 131. -/
def PlaneS.noteRelease (x : PlaneS) (k port : Nat) (octets : List Byte) : PlaneS :=
  { x with rlsd := (x.rlsd.filter fun e => decide (k < e.1 + 4)) ++ [(k, port, octets)] }

/-- ETH_LAUNCH (R300-R303, R481). On a RING port the sentence enters the Show queue. On a SPUR port the timestamp point crosses at the first block boundary at or after the launch time, or after
a frame still on the wire, which is then late. -/
def State.ethLaunch (s : State) (p : Plane) (d : Nat) : State :=
  match ((s.pl p).dst d).prep with
  | none => s
  | some (k, buf, r) =>
    let port : Fin 4 := Fin.ofNat 4 (rdTarget r)
    let i := port.val
    let spur := s.portMode p i == 2
    let s1 := s.modPl p fun x => x.modDst d fun y => { y with prep := none }
    if !s.active p || !s.linkUp p i || (rdFormat r == 0 && !spur) || s.rf R.AON_PWR_STATUS 31 30 == 1 then
      ((s1.modPl p fun x => x.setLast d 4).count (R.REL_COUNTERS p 2)).raiseP p 151
    else
      let seq := match ((s.pl p).dst d).seq with | some (_, q) => q | none => 0
      let h := s.nativeRelease p k buf r seq
      let at_ := s.eK p k + rdOfs r * 16
      let due : Int := (((s.pl p).raw.toNat : Int) + (at_ - s.release p)) * 25
      let free := ((s.pl p).portS i).busy
      let late := spur && decide (due < free)
      let cross := s.blockAt p i (max due.toNat free)
      let s2 := s1.modPl p fun x => x.noteRelease k i (if rdFormat r = 0 then buf else h.octets)
      let s3 := if spur then
          let t := s2.modPort p port fun x => { x with busy := max due.toNat free }
          if rdFormat r = 0 then t.wireNow p port ⟨octs buf 0 6, octs buf 6 6, octs buf 12 2, buf.drop 14, false, false, none⟩
          else t.wireSent p port h false false
        else
          let (t, drop) := s2.enqueueAs p port 0 h false false
          t.raiseIf drop (evOf p 154)
      let s4 := (s3.modPl p fun x => x.setLast d (if late then 5 else 1)).count (R.REL_COUNTERS p 1)
      let s5 := s4.when late fun s => (s.count (R.REL_COUNTERS p 3)).raiseP p 151
      if spur then s5.modPl p fun x => x.modDst d fun y => { y with launch := (at_ + Int.fdiv (cross - due) 25).toNat } else s5

/-- A Lantern stamp as release time, by the latest discipline sample (R105, R176). Log 135. -/
def State.toRelease (s : State) (stamp : Int) : Int := stamp + s.ltPhase

/-- The boundary of generator `g` nearest a release time, the earlier of two equally near (R105). -/
def State.nearEpoch (s : State) (p : Plane) (g : Nat) (t : Int) : Nat :=
  let n := epochAtOrAfter (s.egBase p g) (s.egOrigin p g) (s.egNum p g) (s.egDen p g) t
  if n = s.egOrigin p g then n else if t - s.egTime p g (n - 1) ≤ s.egTime p g n - t then n - 1 else n

/-- WC_RATE in Hz; 0 where reserved (R103). -/
def wcHz (r : Nat) : Nat := ([44100, 48000, 88200, 96000, 176400, 192000] : List Nat).getD r 0

/-- The offset that an edge at a domain's dial time `t` shows: against the nearest boundary of GEN_EG, for word clock one that lies a
whole number of word-clock periods from BASE (R105). Log 135. -/
def State.edgeOffset (s : State) (p : Plane) (c : Word) (t : Int) : Option Int :=
  let g := fld c 15 14
  let n := s.nearEpoch p g t
  let f := wcHz (fld c 13 11)
  if !((s.pl p).egS g).live then none
  else if srcCfg c = 3 ∧ (f = 0 ∨ (n - s.egOrigin p g) * s.egNum p g * f % s.egDen p g ≠ 0) then none
  else some (t - s.egTime p g n)

/-- The time of day of an LTC label in 1/16 ns: 24, 25, 29.97 drop-frame and 30 frame/s (R105). -/
def ltcTod (rate : Nat) (hms : List Byte) : Nat :=
  let m := octs hms 0 1 * 60 + octs hms 1 1
  let sec := m * 60 + octs hms 2 1
  let f := octs hms 3 1
  if rate = 2 then (sec * 30 + f - 2 * (m - m / 10)) * 1001 * unitsPerSec / 30000
  else sec * unitsPerSec + f * unitsPerSec / (if rate = 0 then 24 else if rate = 1 then 25 else 30)

/-- The offset that an LTC frame at dial time `t` shows, on the domain's current day (R105, R132). -/
def ltcOffset (ofs : Word) (t : Int) (tod : Nat) : Int :=
  let o : Int := sext 32 ofs.toNat * unitsPerSec
  let day : Int := (86400 * unitsPerSec : Nat)
  t - (Int.fdiv (t - o) day * day + tod + o)

/-- The servos whose SOURCE and INPUT name an input (R103, R105): their reference is present, and `meas` makes what they measure of what
they have measured since their last update. -/
def State.refSeen (s : State) (is : Nat → Nat → Bool) (meas : Plane → Nat → DomS → Option Int) : State :=
  bothPlanes.foldl (fun (s : State) p => [0, 1].foldl (fun (s : State) d =>
    let c := ((s.pl p).domS d).cfg
    if s.present p && is (srcCfg c) (fld c 18 16) then s.modDom p d fun y => { y with ref := true, meas := meas p d y } else s) s) s

/-- Of the edges since an update the one nearest its boundary counts (R105). -/
def nearer (old new : Option Int) : Option Int :=
  match old, new with
  | some a, some b => if b.natAbs < a.natAbs then some b else some a
  | some a, none => some a
  | none, b => b

/-- A capture edge or an LTC frame waits for the planes that take inputs (R280, R313). -/
def State.lanEnter (s : State) (stamp : Int) (f : Foreign) : State :=
  if s.takes .a || s.takes .b then { s with lanIn := s.lanIn ++ [⟨stamp, f, s.takes .a, s.takes .b⟩] } else s

/-- Plane `p` no longer has to take the inputs that `f` picks. -/
def State.lanTaken (s : State) (p : Plane) (f : LanIn → Bool) : State :=
  let clear (e : LanIn) : LanIn := if f e then (match p with | .a => { e with toA := false } | .b => { e with toB := false }) else e
  { s with lanIn := (s.lanIn.map clear).filter fun e => e.toA || e.toB }

/-- A plane that no longer takes inputs holds none back. -/
def State.lanPurge (s : State) (p : Plane) : State := s.lanTaken p fun _ => true

/-- CAPTURE_EDGE (R313, R314, R318): the stamp is the first 2 ns tick at or after the edge, less the input's fused delay. -/
def State.captureEdge (s : State) (i : Fin 8) (rising : Bool) : State :=
  let c := s.reg (R.CI_CFG i.val)
  let edges := fld c 30 29
  let t : Int := ((s.lantern + 31) / 32 * 32 : Nat) - (Config.captureDelay i.val : Nat)
  let x := s.ci.getD i.val ⟨none, 0⟩
  let near := match x.last with | some l => decide (l ≤ t) && decide (t ≤ l + (fld c 27 20 * 32 : Nat)) | none => false
  if !s.pinOn || !bit c 31 || near || !(if edges = 3 then true else if edges = 2 then !rising else rising) then s
  else
    let n := s.reg (R.CI_COUNT i.val) + 1
    let s1 := { s with ci := modAt i.val (fun x => { x with last := some t }) s.ci }
    let s2 := (s1.setReg64 (R.CI_LAST_LO i.val) (t.toNat / 16)).setReg (R.CI_COUNT i.val) n
    let s3 := ((s2.setRb (R.CI_STATUS i.val) 31 rising).setRb (R.CI_STATUS i.val) 30 true).raise (80 + i.val)
    let s4 := s3.refSeen (fun src inp => (src == 2 || (src == 3 && rising)) && inp == i.val)
      fun p d y => nearer y.meas (s.edgeOffset p y.cfg (s.toDial p d (s.toRelease t)))
    s4.when (bit c 28) fun s => s.lanEnter t (.capture i rising n)

/-- LTC_FRAME_RECEIVE (R105, R175, R176, R318): a frame whose bit 0 began at `start` in Lantern time. -/
def State.ltcReceive (s : State) (i : Fin 2) (rate : BitVec 2) (hms : List Byte) (ub : BitVec 32) (start : Nat) : State :=
  if !s.pinOn then s
  else
    let was := s.rb (R.LI_STATUS i.val) 31
    let n := (s.li.getD i.val ⟨none, 0⟩).inseq + 1
    let s1 := ((s.setRb (R.LI_STATUS i.val) 31 true).setRf (R.LI_STATUS i.val) 30 29 rate.toNat).setReg (R.LI_ADDR i.val)
      (BitVec.ofNat 32 (octs hms 0 4))
    let s2 := { s1 with li := modAt i.val (fun _ => { last := some (start : Int), inseq := n }) s1.li }
    ((s2.raiseIf (!was) (90 + i.val)).refSeen (fun src inp => src == 4 && inp % 2 == i.val)
      fun p d y => some (ltcOffset y.ofs (s.toDial p d (s.toRelease start)) (ltcTod rate.toNat hms))).lanEnter start (.ltc i rate hms ub n)

/-- LTC_LOCK_LOST (R318, R319). -/
def State.ltcLost (s : State) (i : Nat) : State :=
  if s.rb (R.LI_STATUS i) 31 then (s.setRb (R.LI_STATUS i) 31 false).raise (90 + i) else s

/-- Lantern time is set (R126): boundaries passed over are not made up, pin releases jumped over are discarded, running pulse
programmes align (R312). -/
def State.lanternSet (s : State) (t : Int) : State :=
  let t0 : Int := s.lantern
  let s1 := { s with lt := t.toNat * 2 ^ 40, ltStep := false, ltPhase := 0,
                     mirror := s.mirror.map fun m => { m with next := max m.next (epochAfter m.base m.origin m.num m.den t) } }
  let over_ (n : Nat) (q : Word) : Bool := match s.releaseTime n q with
    | some r => decide (t0 < r) && decide (r ≤ t)
    | none => false
  let s2 := (List.range 58).foldl (fun (s : State) n =>
    let o := s.outS n
    let lost := (o.copies.filter fun c => over_ n c.oseq).length + ((o.chosen.filter fun e => over_ n e.1).map fun e => e.2.2).sum
    let s1 := s.modOut n fun o => { o with copies := o.copies.filter fun c => !over_ n c.oseq, chosen := o.chosen.filter fun e => !over_ n e.1 }
    s1.when (decide (0 < lost)) fun s => (s.addSat R.LDH_LATE_CNT 31 0 lost).raise 19) s1
  (List.range 16).foldl (fun (s : State) i => s.pulseAlign i) s2

/-- LANTERN_SAMPLE (R125-R127). Log 11. -/
def State.lanternSample (s : State) : State :=
  let p := s.lead
  if !s.pinOn || !s.active p then s
  else
    let x := s.release p
    let err := x - s.lantern
    let st := s.rf R.LT_STATUS 31 30
    let s1 := ((s.setReg R.LT_PHASE_ERR (BitVec.ofNat 32 (toU 32 (clamp (-2147483648) 2147483647 err)))).setRf R.LT_STATUS 31 30 1).setRf
      R.LT_STATUS 29 29 (planeNum p)
    let s2 := { s1 with ltPhase := err }
    if st = 0 ∨ s.ltStep then s2.lanternSet x
    else
      let (f, s3) := s2.free32
      let (w, s4) := s3.free32
      let adj := clamp (-219902325) 219902325 (sext 32 f.toNat)
      let d := min (w.toNat % 17) err.natAbs
      let step : Int := ((d * 2 ^ 40 : Nat) : Int)
      let lt : Int := (s.lt : Int) + (if err < 0 then -step else step)
      { s4 with lt := lt.toNat }.setReg R.LT_FREQ_ADJ (BitVec.ofNat 32 (toU 32 adj))

/-- LANTERN_HOLDOVER (R126). -/
def State.lanternHold (s : State) : State :=
  if s.pinOn && s.rf R.LT_STATUS 31 30 == 1 then ((s.setRf R.LT_STATUS 31 30 2).raise 126).record 9 1 [3] else s

/-- LANTERN_EPOCH_BOUNDARY (R128). -/
def State.lanternBoundary (s : State) (g : Nat) : State :=
  if s.pinOn && (s.mirror.getD g ⟨false, 1, 60, 0, 0, 0, 0⟩).en then
    { s with mirror := modAt g (fun m => { m with index := m.next, next := m.next + 1 }) s.mirror }
  else s

end Sys2Proof.Machine
end

