-- ==== Sys2Proof/Machine/RegCore.lean ====
section
/-!
DEFINITION. What a read of a register shows and leaves (R6-R18, R96, R198, R287, R401), and the parts of a register write that all
blocks share.
-/
namespace Sys2Proof.Machine

/-- A requester's number: host 0, control core A 1, control core B 2 (R10, R414). -/
def reqNum : Req → Nat
  | .host => 0
  | .coreA => 1
  | .coreB => 2

/-- Words of a field from (value, lowest bit) pairs. -/
def pack (fs : List (Nat × Nat)) : Word := BitVec.ofNat 32 (fs.map fun f => f.1 * 2 ^ f.2).sum

/-- The low word of outputs with a property, or the high word (R69). -/
def outMask (hi : Bool) (f : Nat → Bool) : Word :=
  BitVec.ofNat 32 (((List.range 32).map fun i => let n := if hi then i + 32 else i; if n < 58 ∧ f n then 2 ^ i else 0).sum)

/-- A host access error: its event and what EV_ACC_INFO and EV_ACC_ADDR hold (R6, R18, R454). -/
def State.accErr (s : State) (bar off cause : Nat) (write : Bool) : State :=
  ((s.setReg R.EV_ACC_INFO (pack [(bar, 30), (cause, 24), (write.toNat, 0)])).setReg R.EV_ACC_ADDR (BitVec.ofNat 32 off)).raise 14

/-- Registers of the global and AON ranges that follow the state (R78, R421, R447, R453, R518). -/
def State.viewTop (s : State) (off i : Nat) (w : Word) : Word :=
  if off = R.GID_MNT_STATUS then
    pack (((List.range 8).map fun k => ((s.maint.any fun m => m.op == k).toNat, 24 + k)) ++ [(s.maintQ.length, 20)])
  else if off = R.GID_TEMP then
    setFld (setFld w 31 24 (if s.present .a then fld w 31 24 else 0x80)) 23 16 (if s.present .b then fld w 23 16 else 0x80)
  else if off = R.HQ_STATUS i ∧ i < 4 then setBit w 30 (s.rqRoom i == 0 && s.rb (R.HQ_CTL i) 31)
  else if off = R.EV_COND i ∧ i < 8 then pack ((List.range 32).map fun j => ((s.condBit (32 * i + j)).toNat, j))
  else if off = R.EV_PEND i ∧ i < 8 then s.pendWord i
  else if off = R.EV_VEC_ACTIVE_LO then s.activeVecs.truncate 32
  else if off = R.EV_VEC_ACTIVE_HI then BitVec.ofNat 32 (s.activeVecs.toNat / 2 ^ 32)
  else if off = R.EV_IRQ_STATE then
    pack ((List.range 4).map fun p =>
      ((s.irqOn p).toNat, p))
  else if off = R.AON_PSUP_STATUS then
    pack [(s.taperUp.toNat, 23), (planeNum s.lead, 22), (s.mode, 16), ((s.pl .b).st.code, 8), ((s.pl .a).st.code, 0)]
  else w

/-- The values TX_STATE and RX_STATE may have: several where the moment inside a character or break counts (R347). -/
def SlS.txStates (x : SlS) : List Nat :=
  match x.tx with
  | some t => if t.wait then [4] else if t.tel then [1, 2, 3] else if t.stall then [3, 4] else [3]
  | none => if x.deLag then [5] else [0]

def State.rxStates (s : State) (n : Nat) : List Nat :=
  let x := s.slS n
  if !s.slListens n then (if x.await.isSome then [5, 0] else [0])
  else if x.phase = .telegram then [4, 2, 3]
  else if x.await.isSome then [5, 1, 2, 3]
  else [0, 1, 2, 3]

/-- One of the values that a field may have, drawn by `f`. -/
def pickOf (f : Nat) (l : List Nat) : Nat := l.getD (f % l.length) 0

/-- The head item for the host, with its entries still to take. -/
def SlS.headEntries (x : SlS) : List (BitVec 16) :=
  match x.hostHead with
  | none => []
  | some (k, i) => (x.itemEntries k).drop i.hostPos

/-- A line's registers that follow the state (R345, R347). Log 44. -/
def State.viewLine (s : State) (n : Nat) (off : Nat) (w : Word) : Word :=
  let x := s.slS n
  if off = R.SL_STATUS n then
    pack [((s.slCtsOn n).toNat, 30), (x.rts.toNat, 29), ((bit w 28).toNat, 28), (pickOf 0 (s.rxStates n), 25), (pickOf 0 x.txStates, 22)]
  else if off = R.SL_QLEVEL n then
    pack [((x.txq.map fun f => f.data.length).sum + x.part.elim 0 (fun f => f.data.length), 16), (x.rxq.length, 0)]
  else if off = R.SL_RXP_HEAD n then
    match x.hostHead with
    | none => 0
    | some (_, i) => pack [(1, 31), (i.tel.toNat, 30), (i.idle.toNat, 29), (i.chk.toNat, 28), (i.len - i.hostPos, 0)]
  else if off = R.SL_RXP_STAMP_LO n then BitVec.ofNat 32 (x.hostHead.elim 0 fun e => toU 68 e.2.stamp / 16)
  else if off = R.SL_RXP_STAMP_HI n then BitVec.ofNat 32 (x.hostHead.elim 0 fun e => toU 68 e.2.stamp / 16 / 2 ^ 32)
  else if off = R.SL_RXQ_HEAD n then
    match x.headEntries with
    | [] => 0
    | e :: _ => pack [(1, 31), (e.toNat, 0)]
  else if off = R.SL_TXQ_FRAMES n then pack [(x.txq.length + x.part.isSome.toNat, 0)]
  else w

/-- A controller's registers that follow the state (R374, R377). -/
def State.viewCan (s : State) (n : Nat) (off j : Nat) (w : Word) : Word :=
  let x := s.canS n
  if off = R.CAN_STATUS n then
    let m := s.cycMirror n
    let warn := decide (s.rf (R.CAN_WARN n) 15 8 ≤ s.tec n) || decide (s.rf (R.CAN_WARN n) 7 0 ≤ s.rec_ n)
    pack [(x.onBus.isSome.toNat, 30), (x.asleep.toNat, 28), ((m.en && s.canEn n).toNat, 27), ((bit w 26).toNat, 26),
      (warn.toNat, 25), (if m.en && s.canEn n then s.cycle n else 0, 18), (fld w 15 8, 8), (fld w 7 0, 0)]
  else if off = R.CAN_RXQ_LEVEL n then pack [(x.rxb.isSome.toNat, 31), (x.shadow.isSome.toNat, 30), (x.rxq.length, 0)]
  else if off = R.CAN_RXB n j ∧ j < 20 then BitVec.ofNat 32 (octs (x.rxb.getD []) (4 * j) 4)
  else if off = R.CAN_TXO_STATUS n j ∧ j < 64 then
    setBit (setBit w 31 (x.obj j).pend.isSome) 30 (x.obj j).next.isSome
  else w

/-- Registers of the Lantern ring that follow the state (R69, R130, R439, R519). -/
def State.viewPin (s : State) (off i : Nat) (w : Word) : Word :=
  if off = R.GPIO_IN then s.reg R.GPIO_OE &&& s.reg R.GPIO_OUT
  else if off = R.LT_TIME_NS_LO then BitVec.ofNat 32 (s.lantern / 16)
  else if off = R.LT_TIME_NS_HI then BitVec.ofNat 32 (s.lantern / 16 / 2 ^ 32)
  else if off = R.LT_EG_INDEX_LO i ∧ i < 4 then BitVec.ofNat 32 ((s.mirror.getD i ⟨false, 1, 60, 0, 0, 0, 0⟩).index)
  else if off = R.LT_EG_INDEX_HI i ∧ i < 4 then BitVec.ofNat 32 ((s.mirror.getD i ⟨false, 1, 60, 0, 0, 0, 0⟩).index / 2 ^ 32)
  else if off = R.LDH_HOLD_LO then outMask false fun n => (s.outS n).holding
  else if off = R.LDH_HOLD_HI then outMask true fun n => (s.outS n).holding
  else if off = R.LDH_SAFE_LO then outMask false fun n => (s.outS n).safe || s.snf.safe.getLsbD n
  else if off = R.LDH_SAFE_HI then outMask true fun n => (s.outS n).safe || s.snf.safe.getLsbD n
  else if off = R.SNF_STATUS then
    pack [(s.snf.hold.toNat, 31), (s.snf.pBlack.toNat, 20), (s.snf.pSafe.toNat, 16), (s.snf.stopped.length, 0)]
  else if off = R.SNF_BLACK_LO then outMask false fun n => s.snf.black.getLsbD n
  else if off = R.SNF_BLACK_HI then outMask true fun n => s.snf.black.getLsbD n
  else if off = R.SNF_SAFE_LO then outMask false fun n => s.snf.safe.getLsbD n
  else if off = R.SNF_SAFE_HI then outMask true fun n => s.snf.safe.getLsbD n
  else if off = R.SNF_STOP_ENTRY then
    match s.snf.stopped[s.rf R.SNF_STOP_SEL 7 0]? with
    | none => 0
    | some st => pack [(1, 31), (st.toNat, 0)]
  else w

/-- Code of a job's state (R274). -/
def PlaneS.jobState (x : PlaneS) (j : Nat) : Nat :=
  match x.instOf j with
  | none => 0
  | some i => match i.st with | .wait => 1 | .ready => 2 | .run => 3

/-- Jobs in a state. -/
def PlaneS.jobsIn (x : PlaneS) (st : JState) : Nat := (x.inst.filter fun e => decide (e.2.st = st)).length

/-- Accesses of a window that are open. -/
def PlaneS.openOn (x : PlaneS) (n : Nat) : Nat := (x.trk.filter fun e => e.2.win == n).length

/-- Registers of a plane that follow the state. `i` is the register's first index. Log 137 for TB_PEER_SKEW. -/
def State.viewPlane (s : State) (p : Plane) (off i : Nat) (w : Word) : Word :=
  let x := s.pl p
  if off < R.EG_STAGE_CTL p 0 then
    if off = R.TB_PEER_SKEW p then (if s.mode = 3 then w else 0x80000000) else w
  else if off < R.PORT_STAGE_CTL p 0 then
    let e := x.egS i
    let next := if e.live then s.egTime p i e.next / 16 else 0
    if off = R.EG_INDEX_LO p i then BitVec.ofNat 32 e.index
    else if off = R.EG_INDEX_HI p i then BitVec.ofNat 32 (e.index / 2 ^ 32)
    else if off = R.EG_NEXT_NS_LO p i then BitVec.ofNat 32 next
    else if off = R.EG_NEXT_NS_HI p i then BitVec.ofNat 32 (next / 2 ^ 32)
    else w
  else if off = R.ING_SYNC_STATUS p then
    let g := x.grp (s.rf (R.ING_SYNC_SEL p) 7 0)
    pack [(g.st, 30), ((g.lastSeq.getD 0).toNat, 22), (g.addr.toNat, 0)]
  else if R.Q_STAGE_CTL p 0 ≤ off ∧ off < R.STORE_STATUS p then
    let q := x.q i
    if off = R.Q_STATUS p i then
      pack [((bit w 31).toNat, 31), ((q.items.any fun it => !it.isRecord).toNat, 30), ((q.readPos != 0).toNat, 29), (q.pkts, 0)]
    else if off = R.Q_OCC p i then BitVec.ofNat 32 q.occ
    else if off = R.Q_CELLS p i then BitVec.ofNat 32 (s.qHeld p i)
    else if off = R.Q_FLAGS p i then setBit (setBit w 1 (s.hiLive p i)) 0 (s.loLive p i)
    else if off = R.Q_HEAD_TAG p i then BitVec.ofNat 32 q.headTag
    else w
  else if off = R.STORE_STATUS p then BitVec.ofNat 32 (s.sharedFree p)
  else if off = R.STORE_MIN_SUM p then BitVec.ofNat 32 (s.minSum p)
  else if off = R.Q_SUM_WM p i ∧ i < 16 then s.qSum p i 31 30
  else if off = R.Q_SUM_GAP p i ∧ i < 16 then s.qSum p i 29 29
  else if off = R.Q_SUM_FAULT p i ∧ i < 16 then s.qSum p i 28 27
  else if off = R.BU_STATUS p then
    pack [(x.half.toNat, 31), (x.closed.toNat, 30), (x.stale.toNat, 29), (if x.stale then 131072 - x.clean.length else 0, 0)]
  else if off = R.BU_ENG_BUSY p then pack ((List.range 16).map fun e => ((x.engs.getD e none).isSome.toNat, e))
  else if off = R.DSP_STATUS p then
    pack [((bit w 31).toNat, 31), ((s.planeCond p 147).toNat, 30), (x.jobsIn .wait, 16), (x.jobsIn .ready, 0)]
  else if off = R.REL_STATUS p then pack [((bit w 31).toNat, 31), (s.guardUs p, 0)]
  else if off = R.BRG_STATUS p then pack [((s.active p && decide (s.lead = p)).toNat, 31), (x.trk.length, 0)]
  else if R.BRG_WIN_STAGE_CTL p 0 ≤ off ∧ off < R.BRG_WIN_STAGE_CTL p 0 + 0x1000 then
    let wn := x.winS i
    if off = R.BRG_WIN_STATUS p i then
      pack [(wn.lock.isSome.toNat, 31), (wn.lock.getD 0, 29), (wn.sem.isSome.toNat, 28), (wn.pf.isSome.toNat, 27),
        ((s.pendingAt (R.BRG_WIN_STAGE_CTL p i)).toNat, 26), (x.openOn i, 0)]
    else if off = R.BRG_WIN_FENCE p i then pack [(min wn.failed 255, 24), (wn.first, 20)]
    else w
  else w

/-- The present value of the register at `off`: its active value, without any effect of a read (R8). -/
def State.view (s : State) (off : Nat) : Word :=
  match rowOf off with
  | none => 0
  | some row =>
    let w := s.reg off
    let i := row.ix1 off
    if off < 0x200000 then s.viewTop off i w
    else if off < 0x240000 then s.viewLine i off w
    else if off < 0x280000 then s.viewCan i off (row.ix2 off) w
    else if off < 0x400000 then s.viewPin off i w
    else match planeOf off with
      | some p => s.viewPlane p off i w
      | none => w

/-- STAGE_VIEW of the block of `off` (R13). -/
def State.stageView (s : State) (off : Nat) : Bool := s.rb (stageCtlOf off) 1

/-- What a read shows: staged values under STAGE_VIEW (R8), nothing in WO fields. -/
def State.shown (s : State) (off : Nat) : Word :=
  match rowOf off with
  | none => 0
  | some row =>
    let v := s.view off
    let m := BitVec.ofNat 32 row.st
    if row.st ≠ 0 ∧ s.stageView off then (v &&& ~~~m) ||| (s.staged off &&& m) else v

/-- Q_HEAD_TAG of some queue (R221). -/
def isHeadTag (off : Nat) : Bool :=
  match planeOf off with
  | some p => decide (R.Q_HEAD_TAG p 0 ≤ off) && decide (off < R.Q_HEAD_TAG p 512) && off % 64 == R.Q_HEAD_TAG p 0 % 64
  | none => false

/-- Bits of a level at a ball that the block does not drive or of a moment inside a character that no row fixes are free (R347, R377, R519), as is ERR of a word that has not been read (R206, R218). Logs 15, 50. -/
def State.freeBits (s : State) (off : Nat) (v : Word) : Word × State :=
  if off = R.GPIO_IN then
    let (f, s1) := s.free32
    (v ||| (~~~(s.reg R.GPIO_OE) &&& f), s1)
  else if isHeadTag off then
    let (f, s1) := s.free32
    (if v = 0 then v else setBit v 11 (bit f 11), s1)
  else if off < 0x200000 ∨ 0x280000 ≤ off then (v, s)
  else
    let n := (off - 0x200000) / 0x1000
    let c := (off - 0x240000) / 0x2000
    if off = R.SL_STATUS n ∧ n < 32 then
      let (f, s1) := s.free32
      let v1 := setBit v 31 (bit f 31)
      (setFld (setFld v1 27 25 (pickOf (fld f 7 0) (s.rxStates n))) 24 22 (pickOf (fld f 15 8) (s.slS n).txStates), s1)
    else if off = R.CAN_STATUS c ∧ c < 8 then
      let (f, s1) := s.free32
      (setBit (setBit v 31 (bit f 31)) 29 ((bit f 29 || (s.canS c).rx) && s.canLive c && (s.canS c).onBus.isNone), s1)
    else if off = R.CAN_ERR c ∧ c < 8 ∧ (s.canS c).recovering then
      let (f, s1) := s.free32
      let seqs := fld v 7 0 + f.toNat % (129 - fld v 7 0)
      (setFld v 7 0 seqs, s1.setRf (R.CAN_ERR c) 7 0 seqs)
    else (v, s)

/-- The key of a requester's latch of a register (R10). -/
def latchKey (r : Req) (off : Nat) : Nat := off * 4 + reqNum r

def State.latched (s : State) (r : Req) (off : Nat) : Word := Tab.get (resetOf off) (latchKey r off) s.hiLatch

def State.latch (s : State) (r : Req) (off : Nat) (v : Word) : State :=
  { s with hiLatch := Tab.set (resetOf off) (latchKey r off) v s.hiLatch }

/-- Where the other half of a pair stands: BRG_RDM_UID has its _HI half first (R411). -/
def hiOf (off : Nat) : Nat := if normOff off = 0x5C000C then off - 4 else off + 4
def loOf (off : Nat) : Nat := if normOff off = 0x5C0008 then off + 4 else off - 4

/-- The timebase snapshot of a plane: offset of each latched register and its value (R96). -/
def State.tbSnap (s : State) (p : Plane) : List (Nat × Nat) :=
  let t0 := s.dial p 0
  let t1 := s.dial p 1
  let t := toU 68 (s.release p)
  let b := toU 64 (s.pl p).bridge
  [(R.TB_RAW_HI p, (s.pl p).raw.toNat / 2 ^ 32), (R.TB_SNAP_TD0_NS_LO p, t0 / 16), (R.TB_SNAP_TD0_NS_HI p, t0 / 16 / 2 ^ 32),
   (R.TB_SNAP_TD1_NS_LO p, t1 / 16), (R.TB_SNAP_TD1_NS_HI p, t1 / 16 / 2 ^ 32), (R.TB_DIAL_NS_LO p, t / 16),
   (R.TB_DIAL_NS_HI p, t / 16 / 2 ^ 32), (R.TB_SNAP_FRAC p, t % 16 * 256 + t1 % 16 * 16 + t0 % 16), (R.TB_BRIDGE_LO p, b),
   (R.TB_BRIDGE_HI p, b / 2 ^ 32)]

/-- A read of TB_RAW_LO (R96). -/
def State.tbRawRead (s : State) (r : Req) (p : Plane) : Word × State :=
  ((s.pl p).raw.truncate 32, s.each (s.tbSnap p) fun s e => s.latch r e.1 (BitVec.ofNat 32 e.2))

/-- Whether the register is one of a plane's timebase snapshot (R96). -/
def isTbSnap (off : Nat) : Bool := decide (R.TB_RAW_HI .a ≤ normOff off) && decide (normOff off ≤ R.TB_BRIDGE_HI .a) &&
  (planeOf off).isSome

/-- A read of a _LO register latches _HI; CI_LAST_LO latches CI_COUNT too (R10, R317). -/
def State.readLo (s : State) (r : Req) (off : Nat) : Word × State :=
  let s1 := s.latch r (hiOf off) (s.shown (hiOf off))
  let i := (off - 0x280100) / 16
  let s2 := if off = R.CI_LAST_LO i ∧ i < 8 then s1.latch r (R.CI_COUNT i) (s.reg (R.CI_COUNT i)) else s1
  (s.shown off, s2)

/-- Clears what a read of an RS field clears; a read through a snapshot clears the live counter by the amount shown
(R8, R198, R224, R518). -/
def State.rsClear (s : State) (off rs : Nat) : State :=
  let s1 := s.setReg off (s.reg off &&& ~~~(BitVec.ofNat 32 rs))
  if off = R.GID_TEMP_MAX then
    let t := s.reg R.GID_TEMP
    let present := (if s.present .a then [sext 8 (fld t 31 24)] else []) ++ (if s.present .b then [sext 8 (fld t 23 16)] else [])
    s1.setRf off 7 0 (toU 8 (present.foldl max (sext 8 (fld t 15 8))))
  else match planeOf off with
    | none => s1
    | some p =>
      let shown := s.reg off
      let q := (off - R.Q_STAGE_CTL p 0) / 64
      if off = R.STORE_LOW_MARK p then s1.setReg off (BitVec.ofNat 32 (s.sharedFree p))
      else if off = R.Q_PEAK p q ∧ q < 512 then s1.setReg off (BitVec.ofNat 32 ((s.pl p).q q).occ)
      else if off = R.ING_RULE_HITS p then
        s1.modPl p fun x => match x.ruleSnap with
          | some (i, n) => { x with hits := Tab.set 0 i (Tab.get 0 i x.hits - n) x.hits, ruleSnap := none }
          | none => x
      else if off = R.ING_STREAM_ACC p then
        s1.modPl p fun x => x.modSd (s.rf (R.ING_STREAM_SEL p) 17 0) fun d => { d with acc := d.acc - shown }
      else if off = R.ING_STREAM_DROP p then
        s1.modPl p fun x => x.modSd (s.rf (R.ING_STREAM_SEL p) 17 0) fun d => { d with drop := d.drop - shown }
      else s1

/-- Appends a record to the posted-error or the discard log, or loses it (R402, R405). -/
def State.brgLog (s : State) (p : Plane) (discard : Bool) (rec_ : List Byte) : State :=
  let head := if discard then R.BRG_DLOG_HEAD p else R.BRG_PLOG_HEAD p
  let tail := if discard then R.BRG_DLOG_TAIL p else R.BRG_PLOG_TAIL p
  let size := if discard then 16 else 64
  let h := (s.reg head).toNat
  if size ≤ (h + 2 * size - (s.reg tail).toNat) % (2 * size) then
    (s.count (R.BRG_COUNTERS p (if discard then 11 else 10))).raise 103
  else
    let put (s : State) (j : Nat) : State :=
      s.setReg (if discard then R.BRG_DLOG p (h % size) j else R.BRG_PLOG p (h % size) j) (BitVec.ofNat 32 (octs rec_ (4 * j) 4))
    ((s.each [0, 1, 2, 3] put).setReg head (BitVec.ofNat 32 ((h + 1) % (2 * size)))).raise (if discard then 98 else 97)

/-- WHEN of a bridge record (R402, R405). -/
def State.when32 (s : State) : List Byte := toBE 4 (s.lantern / 16)

/-- A window's prefetch buffer is discarded for a reason (R404, R405). -/
def State.pfDrop (s : State) (p : Plane) (n reason : Nat) : State :=
  match ((s.pl p).winS n).pf with
  | none => s
  | some b =>
    let s1 := s.modPl p fun x => x.modWin n fun w => { w with pf := none }
    if b.read.all id then s1
    else
      let s2 := s1.count (R.BRG_COUNTERS p 9)
      if s.rb (R.BRG_WIN_CFG p n) 25 then
        let unread := ((List.range 32).map fun g =>
          if ((b.read.drop (8 * g)).take 8).isEmpty || ((b.read.drop (8 * g)).take 8).any id then 0 else 2 ^ g).sum
        s2.brgLog p true (toBE 1 n ++ toBE 1 reason ++ [0, 0] ++ toBE 4 b.off ++ toBE 4 unread ++ s.when32)
      else s2

/-- BRG_WIN_LOCK_READ (R401). -/
def State.lockRead (s : State) (r : Req) (p : Plane) (n : Nat) : Word × State :=
  let k := reqNum r
  match ((s.pl p).winS n).lock with
  | none => (pack [(k, 1), (1, 0)], ((s.modPl p fun x => x.modWin n fun w => { w with lock := some k }).pfDrop p n 3))
  | some j => (pack [(j, 1), ((j == k).toNat, 0)], s)

/-- BRG_WIN_LOCK_RELEASE (R401). -/
def State.lockWrite (s : State) (r : Req) (p : Plane) (n : Nat) (v : Word) : State :=
  if bit v 0 && ((s.pl p).winS n).lock == some (reqNum r) then s.modPl p fun x => x.modWin n fun w => { w with lock := none } else s

/-- A FENCE read that waits for nothing: what it returns, and the counting starts again (R403, R404). -/
def State.fenceRead (s : State) (p : Plane) (n : Nat) : Word × State :=
  (s.view (R.BRG_WIN_FENCE p n), (s.pfDrop p n 4).modPl p fun x => x.modWin n fun w => { w with failed := 0, first := 0 })

/-- A read of the Canvas or recorder aperture (R262, R485, R486). -/
def State.aperture (s : State) (off : Nat) : Word × State :=
  if off < 0xE00000 then
    let c := s.reg R.GID_CV_APER
    let p : Plane := if bit c 31 then .b else .a
    let x := s.pl p
    if !s.present p then (0xFFFFFFFF, s.accErr 0 off 2 false)
    else
      let h := if fld c 30 29 = 0 then false else if fld c 30 29 = 1 then true else if fld c 30 29 = 2 then x.half else !x.half
      let a := fld c 1 0 * 2 ^ 21 + (off - 0xC00000)
      (BitVec.ofNat 32 (leNat ((List.range 4).map fun i => x.cvRead h (a + i))), s)
  else if off < 0xE10000 then
    let i := (off - 0xE00000) / 16
    (BitVec.ofNat 32 (nfld (Tab.get (0 : BitVec 128) i s.fr).toNat (127 - 8 * (off % 16)) (96 - 8 * (off % 16))), s)
  else (0, s)

/-- The registers at `off` are there to be accessed: those of a plane while it is present (R18). -/
def State.there (s : State) (off : Nat) : Bool := match planeOf off with | some p => s.present p | none => true

/-- A 32-bit aligned read of BAR0, except of a BRG_WIN_FENCE that must wait (R8-R10, R18, R96). -/
def State.readReg (s : State) (r : Req) (off : Nat) : Word × State :=
  if 0xC00000 ≤ off then s.aperture off
  else
    if !s.there off then (0xFFFFFFFF, s.accErr 0 off 2 false)
    else match rowOf off with
      | none => (0, s)
      | some row =>
        let i := row.ix1 off
        match planeOf off with
        | some p =>
          if off = R.TB_RAW_LO p then s.tbRawRead r p
          else if isTbSnap off then (s.latched r off, s)
          else if off = R.BRG_WIN_LOCK p i ∧ i < 64 then s.lockRead r p i
          else if off = R.BRG_WIN_FENCE p i ∧ i < 64 then s.fenceRead p i
          else if row.pair = .lo then s.readLo r off
          else if row.pair = .hi then (s.latched r off, s)
          else if row.rs ≠ 0 then (s.shown off, s.rsClear off row.rs)
          else s.freeBits off (s.shown off)
        | none =>
          if off = R.CI_COUNT i ∧ i < 8 then (s.latched r off, s)
          else if row.pair = .lo then s.readLo r off
          else if row.pair = .hi then (s.latched r off, s)
          else if row.rs ≠ 0 then (s.shown off, s.rsClear off row.rs)
          else s.freeBits off (s.shown off)

end Sys2Proof.Machine
end

