-- ==== Sys2Proof/Machine/RegWrite.lean ====
section
/-!
DEFINITION. What a write of a register does (R8-R16, R67, R198, R220, R222, R287, R345, R359, R375, R411), and the boundary of a
staged block. Writes of the global and AON ranges that reach power, resets or host queues stand in Machine/Register.lean.
-/
namespace Sys2Proof.Machine

/-- Fields of a written value outside their range keep the old value (R8). -/
def RegRow.fit (row : RegRow) (old v : Word) : Word :=
  row.ranges.foldl (fun (v : Word) r =>
    let f := fld v r.1 r.2.1
    if f < r.2.2.1 ∨ r.2.2.2 < f then setFld v r.1 r.2.1 (fld old r.1 r.2.1) else v) v

/-- Writes a register by its row's masks: RW fields, staged fields, W1C bits; `hw` are W1C bits hardware sets in the same
cycle (R8, R9, R12). -/
def State.put (s : State) (row : RegRow) (off : Nat) (v hw : Word) : State :=
  let w := s.reg off
  let m := BitVec.ofNat 32 row.rw
  let c := BitVec.ofNat 32 row.w1c
  let s1 := s.setReg off ((((w &&& ~~~m) ||| (row.fit w v &&& m)) &&& ~~~(v &&& c &&& ~~~hw)) ||| (hw &&& c))
  if row.st = 0 then s1
  else
    let t := BitVec.ofNat 32 row.st
    let g := s.staged off
    s1.setStaged off ((g &&& ~~~t) ||| (row.fit g v &&& t))

/-- The halves of a pair that a write can change take effect together (R10). Log 12. -/
def RegRow.holds (row : RegRow) : Bool := row.pair != .single && (row.rw != 0 || row.st != 0 || row.w1c != 0)

/-- A write of the _LO half is held (R10). -/
def State.holdLo (s : State) (off : Nat) (v : Word) : State := { s with loHeld := Tab.put off v s.loHeld }

/-- A write of the _HI half takes effect with the held _LO (R10). -/
def State.putHi (s : State) (row : RegRow) (off : Nat) (v : Word) : State :=
  let lo := loOf off
  match Tab.find lo s.loHeld, rowOf lo with
  | some l, some lrow => ({ s with loHeld := Tab.erase lo s.loHeld }.put lrow lo l 0).put row off v 0
  | _, _ => s.put row off v 0

/-- No commit of window `n` is pending any more: what came after it is as any other access (R413). -/
def PlaneS.winFresh (x : PlaneS) (n : Nat) : PlaneS :=
  { x with trk := x.trk.map fun e => if e.2.win = n then (e.1, { e.2 with late := false }) else e,
           posted := x.posted.map fun w => if w.off / 2 ^ 26 = n then { w with late := false } else w }

/-- The plane and window whose stage control register stands at `sc` (R413). -/
def winOfStage (sc : Nat) : Option (Plane × Nat) :=
  match planeOf sc, rowOf sc with
  | some p, some row => if sc = R.BRG_WIN_STAGE_CTL p (row.ix1 sc) ∧ row.ix1 sc < 64 then some (p, row.ix1 sc) else none
  | _, _ => none

/-- DISCARD, after which no commit is pending (R13, R413). -/
def State.discardAt (s : State) (sc : Nat) : State :=
  match winOfStage sc with
  | some (p, n) => (s.discard sc).modPl p fun x => x.winFresh n
  | none => s.discard sc

/-- A write of a stage control register (R13-R15). -/
def State.stageWrite (s : State) (sc : Nat) (v : Word) : State :=
  let s1 := (s.when (bit v 30) fun s => s.setRb sc 30 false).setRb sc 1 (bit v 1)
  if bit v 2 then s1.discardAt sc else if bit v 0 then s1.commit sc else s1

/-- Whether a register is a block's stage control register. -/
def isStageCtl (off : Nat) : Bool :=
  match rowOf off with
  | some row => stageCtlOf off == off && row.wo == 5
  | none => false

/-- A snapshot of an entry of `n` octets, shown in registers laid out as ING_RULE_DATA (R198). -/
def State.showEntry (s : State) (off n : Nat) (v : Nat) : State :=
  s.each (List.range (n / 4)) fun s i => s.setReg (off + 4 * i) (BitVec.ofNat 32 (v / 2 ^ (8 * n - 32 * (i + 1))))

/-- ING_RULE_SEL_WRITE (R198). -/
def State.selRule (s : State) (p : Plane) (v : Word) : State :=
  let i := fld v 13 0
  let x := s.pl p
  let n := Tab.get 0 i x.hits
  let s1 := s.modPl p fun x => { x with ruleSnap := some (i, n) }
  ((s1.setReg (R.ING_RULE_SEL p) (BitVec.ofNat 32 i)).setReg (R.ING_RULE_HITS p) n).showEntry (R.ING_RULE_DATA p 0) 32
    (Tab.get (0 : BitVec 256) i x.rules).toNat

/-- ING_STREAM_SEL_WRITE (R198, R199). RATE_COUNT shows 255 for more: log 166. -/
def State.selStream (s : State) (p : Plane) (v : Word) : State :=
  let i := fld v 17 0
  let x := s.pl p
  let e := x.streamEntry i
  let d := x.sd i
  let st := pack [(nfld e 127 127, 31), (d.terminated.toNat, 30), ((!d.overdue.isEmpty).toNat, 29), (d.held.isSome.toNat, 28),
    ((d.lastSeq.getD 0).toNat, 20), (min 255 (d.rateCount (s.rateEpoch p e (s.release p))), 12)]
  ((((s.setReg (R.ING_STREAM_SEL p) (BitVec.ofNat 32 i)).setReg (R.ING_STREAM_STATE p) st).setReg (R.ING_STREAM_ACC p) d.acc).setReg
    (R.ING_STREAM_DROP p) d.drop).showEntry (R.ING_STREAM_DATA p 0) 16 e

/-- A time as BU_APPLY and the like show it: nanoseconds low, seconds high (R260). -/
def pt64Swapped (t : Int) : Nat := (toPt64 t).toNat % 2 ^ 32 + (toPt64 t).toNat / 2 ^ 32 * 2 ^ 32

/-- BU_APPLY_SEL_WRITE (R260, R261). -/
def State.selApply (s : State) (p : Plane) (v : Word) : State :=
  let i := fld v 17 0
  let x := s.pl p
  let e := x.streamEntry i
  let a := x.ap i
  let cnt := ((List.range 256).filter fun k => a.base.getLsbD k).length
  let valid := nfld e 127 127 == 1
  let st := pack [((valid && a.live).toNat, 31), ((valid && a.prev).toNat, 30), ((valid && baseAll e a).toNat, 29), (cnt, 20)]
  ((((s.setReg (R.BU_APPLY_SEL p) (BitVec.ofNat 32 i)).setReg (R.BU_APPLY_STATE p) st).setReg64 (R.BU_APPLY_EPOCH_LO p)
    (a.lastEpoch.getD 0)).setReg64 (R.BU_APPLY_ARRIVAL_LO p) (pt64Swapped a.lastArrival)).setReg64 (R.BU_APPLY_PT_LO p)
    (pt64Swapped a.lastPt)

/-- DSP_JOB_SEL_WRITE (R287, R288). -/
def State.selJob (s : State) (p : Plane) (v : Word) : State :=
  let j := fld v 11 0
  let x := s.pl p
  let d := x.job j
  let (c, sl) := Tab.get ((0, 0) : Nat × Int) j x.cost
  let sat : Nat := match x.instOf j with | some i => i.sat.toNat | none => 0
  let st := pack [(x.jobState j, 28), ((jValid d).toNat, 27), ((jBuild d).toNat, 26), (jPrio d, 23), (sat, 0)]
  ((((s.setReg (R.DSP_JOB_SEL p) (BitVec.ofNat 32 j)).setReg (R.DSP_JOB_STATE p) st).showEntry (R.DSP_JOB_REC p 0) 16
    (beNat (slice (Tab.get [] j x.recs) 0 16))).setReg (R.DSP_JOB_COST p) (BitVec.ofNat 32 (min c 0xFFFFFFFF))).setReg (R.DSP_JOB_SLACK p)
    (BitVec.ofNat 32 (toU 32 (clamp (-2147483648) 2147483647 sl)))

/-- REL_DESC_SEL_WRITE (R315, R316). -/
def State.selDesc (s : State) (p : Plane) (v : Word) : State :=
  let k := fld v 11 0
  let x := s.pl p
  let d := x.desc k
  let y := x.dst k
  let job := x.jobs.find? fun e => jValid e.2 && jBuild e.2 && jBuf e.2 == k
  let st := pack [((rdValid d).toNat, 31), (rdKind d, 28), (y.last, 24), (job.isSome.toNat, 12), (job.elim 0 Prod.fst, 0)]
  (((s.setReg (R.REL_DESC_SEL p) (BitVec.ofNat 32 k)).setReg (R.REL_DESC_STATE p) st).setReg64 (R.REL_DESC_LAUNCH_LO p)
    (y.launch / 16)).showEntry (R.REL_DESC_DATA p 0) 32 d.toNat

/-- BRG_MAP_SEL_WRITE (R411). -/
def State.selMap (s : State) (p : Plane) (v : Word) : State :=
  let i := fld v 13 0
  (s.setReg (R.BRG_MAP_SEL p) (BitVec.ofNat 32 i)).showEntry (R.BRG_MAP_DATA p 0) 16 (Tab.get (0 : BitVec 128) i (s.pl p).maps).toNat

/-- A write of a log's tail: ignored when it would pass the head (R287, R411, R453). -/
def State.tailWrite (s : State) (head tail bits : Nat) (v : Word) : State :=
  let h := (s.reg head).toNat % 2 ^ bits
  let t := (s.reg tail).toNat % 2 ^ bits
  let n := v.toNat % 2 ^ bits
  if unread n t bits ≤ unread h t bits then s.setReg tail (BitVec.ofNat 32 n) else s

/-- The logs: head, tail and bits of their indices. -/
def logOf (off : Nat) : Option (Nat × Nat) :=
  if off = R.EV_COLLECT_TAIL then some (R.EV_COLLECT_HEAD, 7)
  else match planeOf off with
    | none => none
    | some p =>
      if off = R.DSP_LOG_TAIL p then some (R.DSP_LOG_HEAD p, 11)
      else if off = R.BRG_PLOG_TAIL p then some (R.BRG_PLOG_HEAD p, 7)
      else if off = R.BRG_DLOG_TAIL p then some (R.BRG_DLOG_HEAD p, 5)
      else none

/-- A write of Q_CTL: EN, then FLUSH, which takes effect at once when no record is being written (R214, R215, R222). -/
def State.qCtl (s : State) (p : Plane) (q : Nat) (v : Word) : State :=
  let s1 := if bit v 31 then (if s.qEn p q then s else s.queueOn p q) else s.queueOff p q
  if bit v 30 then (s1.flushRequest p q).flushNow p q else s1

/-- A write of EGn_CTL (R121, R124). -/
def State.egCtl (s : State) (row : RegRow) (p : Plane) (g : Nat) (v : Word) : State :=
  let s1 := s.put { row with rw := 0 } (R.EG_CTL p g) v 0
  if bit v 31 then s1.egEnable p g else s1.egDisable p g

/-- A write of BRG_WIN_ERR: clearing VALID clears CODE and DETAIL (R414). -/
def State.winErrWrite (s : State) (row : RegRow) (off : Nat) (v : Word) : State :=
  let s1 := s.put row off v 0
  if bit v 31 then s1.setReg off (s1.reg off &&& 0x40000000) else s1

/-- A write to a plane's register that a row does not cover by its masks alone. -/
def State.writePlane (s : State) (r : Req) (row : RegRow) (p : Plane) (off i : Nat) (v : Word) : State :=
  if off = R.EG_CTL p i ∧ i < 4 then s.egCtl row p i v
  else if off = R.ING_RULE_SEL p then s.selRule p v
  else if off = R.ING_STREAM_SEL p then s.selStream p v
  else if off = R.Q_CTL p i ∧ i < 512 then s.qCtl p i v
  else if off = R.BU_APPLY_SEL p then s.selApply p v
  else if off = R.DSP_CANCEL p then s.cancelJob p (fld v 11 0)
  else if off = R.DSP_JOB_SEL p then s.selJob p v
  else if off = R.REL_DESC_SEL p then s.selDesc p v
  else if off = R.BRG_MAP_SEL p then s.selMap p v
  else if off = R.BRG_WIN_ERR p i ∧ i < 64 then s.winErrWrite row off v
  else if h : off = R.PORT_RING p i ∧ i < 4 then (s.put row off v 0).wrapDown p ⟨i, h.2⟩
  else if off = R.BRG_WIN_LOCK p i ∧ i < 64 then s.lockWrite r p i v
  else s.put row off v 0

/-- A write of SL_FLOW, unless RTS_ON is not below RTS_OFF (R330). -/
def State.putFlow (s : State) (row : RegRow) (n : Fin 32) (v : Word) : State :=
  if fld v 11 0 < fld v 27 16 then (s.put row (R.SL_FLOW n.val) v 0) else s

/-- A write to a line's, controller's or other Lantern-ring register. -/
def State.writePin (s : State) (row : RegRow) (off i : Nat) (v : Word) : State :=
  if h : off < 0x240000 ∧ i < 32 then
    let n : Fin 32 := ⟨i, h.2⟩
    if off = R.SL_TXQ_DATA i then s.slTxqData i v
    else if off = R.SL_RXQ_POP i then s.slPop n v
    else if off = R.SL_FLOW i then s.putFlow row n v
    else s.put row off v 0
  else if off = R.CAN_CTL i ∧ i < 8 then s.canCtl i v
  else if off = R.CAN_RXB_POP i ∧ i < 8 then s.canPop i
  else if off = R.CAN_TXW_CMD i ∧ i < 8 then s.canTxw i v
  else if off = R.PO_CFG i ∧ i < 16 then
    let s1 := s.put row off v 0
    s1.when (s1.rb off 31 != s.rb off 31) fun s => s.emit (.pulse i (s.pulseLevel i (s.rb (R.PO_STATUS i) 30)))
  else if off = R.LO_CFG i ∧ i < 2 then
    let s1 := s.put row off v 0
    s1.when (s1.rb off 31 != s.rb off 31 && (s.lo.getD i none).isNone) fun s => s.emit (.ltcIdle i (s.ltcRest i))
  else if off = R.CI_CFG i ∧ i < 8 then s.put row off (if fld v 30 29 = 0 then setFld v 30 29 1 else v) 0
  else if off = R.GPIO_SET then s.setReg R.GPIO_OUT (s.reg R.GPIO_OUT ||| v)
  else if off = R.GPIO_CLR then s.setReg R.GPIO_OUT (s.reg R.GPIO_OUT &&& ~~~v)
  else s.put row off v 0

/-- A 32-bit aligned write at or above BAR0 offset 0x0020_0000 (R8-R16, R18). -/
def State.writeReg (s : State) (r : Req) (off : Nat) (v : Word) : State :=
  if 0xC00000 ≤ off then s.accErr 0 off 3 true
  else
    if !s.there off then s.accErr 0 off 2 true
    else match rowOf off with
      | none => s
      | some row =>
        let i := row.ix1 off
        if isStageCtl off then s.stageWrite off v
        else match logOf off with
          | some (head, bits) => s.tailWrite head off bits v
          | none =>
            if row.holds then (if row.pair = .lo then s.holdLo off v else s.putHi row off v)
            else match planeOf off with
              | some p => s.writePlane r row p off i v
              | none => s.writePin row off i v

/-- Whether a window's candidate configuration is refused (R413); `g` gives the registers as they would stand. -/
def State.badWin (s : State) (p : Plane) (n : Nat) (g : Nat → Word) : Bool :=
  let cfg := g (R.BRG_WIN_CFG p n)
  let typ := fld cfg 30 28
  let t2 := g (R.BRG_WIN_TGT2 p n)
  let map := g (R.BRG_WIN_MAP p n)
  decide (4 ≤ typ) || (typ == 2 && decide (31 < fld cfg 9 0)) || (typ == 1 && decide (7 < fld cfg 9 0)) ||
    decide (16384 < fld map 31 18 + fld map 14 0) || fld t2 15 9 == 0 ||
    ((typ == 0 || typ == 3) && decide (2 ^ 24 < fld (g (R.BRG_WIN_TGT0 p n)) 23 2 * 4 + 4)) ||
    (bit cfg 31 && typ == 1 && (List.range 64).any fun m =>
      let c := s.reg (R.BRG_WIN_CFG p m)
      m != n && bit c 31 && fld c 30 28 == 1 && fld c 9 0 == fld cfg 9 0 && s.rf (R.BRG_WIN_TGT2 p m) 5 0 == fld t2 5 0)

/-- BAD_CFG of a window, raising EV96 when it is new (R413, R415). -/
def State.winBad (s : State) (p : Plane) (n : Nat) : State :=
  (s.setRb (R.BRG_WIN_ERR p n) 30 true).raiseIf (!s.rb (R.BRG_WIN_ERR p n) 30) 96

/-- The boundary of a window's block has come: no open access, none received before the COMMIT, a free semaphore (R413). -/
def PlaneS.winQuiet (x : PlaneS) (n : Nat) : Bool :=
  !(x.trk.any fun e => e.2.win == n && !e.2.late) && !(x.posted.any fun e => e.off / 2 ^ 26 == n && !e.late) && (x.winS n).sem.isNone

/-- A window's commit applies or is refused (R404, R413). -/
def State.winApply (s : State) (p : Plane) (n : Nat) : State :=
  let sc := R.BRG_WIN_STAGE_CTL p n
  if !s.pendingAt sc || !(s.pl p).winQuiet n then s
  else if s.badWin p n s.snapReg then ((s.endCommit sc).winBad p n).modPl p fun x => x.winFresh n
  else ((s.applyBlock sc).pfDrop p n 5).modPl p fun x => x.winFresh n

/-- A port leaves its mode: its ring is no longer wrapped by it, and what waits at it is lost when it is disabled, which raises no link
event (R145, R166). Log 26. -/
def State.portLeaves (s : State) (p : Plane) (port : Fin 4) : State :=
  let i := port.val
  let s1 := (s.setRb (R.PORT_STATUS p i) 30 false).raiseIf (s.wrapped p i) (evOf p 132)
  if s1.portMode p i ≠ 0 then s1
  else
    let s2 := (((s1.takeTx p port).2.takeHold p port).2).modPort p port fun x => { x with turning := false }
    s2.setReg (R.PORT_STATUS p i) (s2.reg (R.PORT_STATUS p i) &&& 0x02000000)

/-- A port's commit applies; a change of MODE, SPEED or FEC restarts the link, which is declared down unless the port is disabled
(R145, R146, R166). -/
def State.portApply (s : State) (p : Plane) (port : Fin 4) : State :=
  let sc := R.PORT_STAGE_CTL p port.val
  if !s.pendingAt sc then s
  else
    let s1 := s.applyBlock sc
    let cfg := R.PORT_CFG p port.val
    if fld (s.reg cfg) 31 27 = fld (s.snapReg cfg) 31 27 then s1
    else
      let s2 := if s.portMode p port.val = s1.portMode p port.val then s1 else s1.portLeaves p port
      (s2.goesDown p port).wrapDown p port

/-- A queue's commit applies at a producer sentence boundary, or is refused (R220); new watermarks set no sticky bit (R216). -/
def State.qApply (s : State) (p : Plane) (q : Nat) : State :=
  let sc := R.Q_STAGE_CTL p q
  if !s.pendingAt sc || ((s.pl p).q q).writing.isSome then s
  else if s.badQueueCfg p q (s.snapReg (R.Q_CFG p q)) (s.snapReg (R.Q_LIMIT p q)) (s.snapReg (R.Q_WM_HI p q)) (s.snapReg (R.Q_WM_LO p q)) then
    ((s.endCommit sc).setRb (R.Q_FLAGS p q) 28 true).raiseP p 141
  else
    let t := s.judgeNow p q
    State.levelQ t (t.applyBlock sc) p q

/-- A line's commit applies or is refused (R345). -/
def State.slApply (s : State) (n : Nat) : State :=
  let sc := R.SL_STAGE_CTL n
  if !s.pendingAt sc then s
  else if badSlCfg n s.snapReg then (s.endCommit sc).slEvent n 7
  else if h : n < 32 then State.slReconf s (s.applyBlock sc) ⟨n, h⟩
  else s.applyBlock sc

/-- A controller's commit applies at a bus-idle instant, or is refused (R364). -/
def State.canApply (s : State) (n : Nat) : State :=
  let sc := R.CAN_STAGE_CTL n
  if !s.pendingAt sc || (s.canEn n && ((s.canS n).onBus.isSome || (s.canS n).rx)) then s
  else if s.badCanCfg n s.snapReg then (s.endCommit sc).canEvent n 8
  else s.applyBlock sc

/-- STAGE_COMMIT_APPLY: the boundary of the block whose stage control register stands at `off` (R14, and the rules of each
block). -/
def State.blockApply (s : State) (off : Nat) : State :=
  match rowOf off with
  | none => s
  | some row =>
    let i := row.ix1 off
    if !isStageCtl off then s
    else match planeOf off with
      | none => if off < 0x240000 then s.slApply i else s.canApply i
      | some p =>
        if off = R.TD_STAGE_CTL p i then s.tdApply p i
        else if off = R.EG_STAGE_CTL p i then s.egApply p i
        else if h : off = R.PORT_STAGE_CTL p i ∧ i < 4 then s.portApply p ⟨i, h.2⟩
        else if off = R.Q_STAGE_CTL p i then s.qApply p i
        else if off = R.REL_STAGE_CTL p then s.guardAt p false
        else if off = R.BRG_WIN_STAGE_CTL p i then s.winApply p i
        else s

end Sys2Proof.Machine
end

