-- ==== Sys2Proof/Machine/Tables.lean ====
section
/-!
DEFINITION. Writes of the configuration tables with what they clear, and the entry rules that commands and images check
(R177-R181, R195, R196, R220, R227, R236, R244-R252, R284, R295, R389). Checks are made on a state that holds the candidate tables.
-/
namespace Sys2Proof.Machine

/-- The streams a rule names, VALID or not: none, or the lowest and the highest (R178, R181). -/
def ruleRange (r : BitVec 256) : Option (Nat × Nat) :=
  let a := rlAct r
  if nfld a 62 60 = 1 then some (nfld a 23 0, nfld a 23 0)
  else if nfld a 62 60 = 2 then some (nfld a 23 0, nfld a 23 0 + 2 ^ nfld a 52 48 - 1)
  else none

/-- A rule refused under R179. -/
def badRule (r : BitVec 256) : Bool :=
  let a := rlAct r
  let act := nfld a 62 60
  let lo := nfld a 23 0
  let hi := if act = 2 then lo + 2 ^ nfld a 52 48 - 1 else lo
  decide (3 < act) || decide (86 < nfld a 59 53 + nfld a 52 48) || nfld a 47 24 != 0 ||
    ((act == 1 || act == 2) && (decide (lo < 1) || decide (0xFEFFFF < hi))) || (act == 3 && nfld a 7 0 == 0)

/-- A stream entry refused by itself under R181. -/
def badStream (e : Nat) : Bool :=
  nfld e 105 98 == 0 || decide (8192 < nfld e 97 84) || decide (200 < nfld e 34 27) ||
    (nfld e 120 120 == 1 && (decide (nfld e 26 11 < 0x100) || nfld e 26 11 == 0xFFFF)) || nfld e 109 108 == 3 || nfld e 9 0 != 0

/-- An entry that any rule names must have one fragment and class Show, Timing or Event (R181). -/
def PlaneS.badNamed (x : PlaneS) : Bool :=
  x.tabs.streams.any fun e =>
    let n := e.2.toNat
    (nfld n 83 76 != 0 || decide (2 < nfld n 117 115)) &&
      x.rules.any fun r => match ruleRange r.2 with
        | none => false
        | some (lo, hi) => decide (lo ≤ nfld n 126 121 * 2 ^ 18 + e.1) && decide (nfld n 126 121 * 2 ^ 18 + e.1 ≤ hi)

/-- VALID and TAG of an entry (R196). -/
def vtOf (e : BitVec 128) : Nat := nfld e.toNat 127 121

/-- A change of VALID or TAG clears a stream's dynamic and applied state; a held sentence counts in ING_SYNC_DROP and DROP (R194, R196,
R236). ACC and DROP count on. -/
def State.settleStreams (s : State) (p : Plane) (old : Tab (BitVec 128)) : State :=
  let x := s.pl p
  let same (i : Nat) : Bool := vtOf (Tab.get 0 i old) == vtOf (Tab.get 0 i x.tabs.streams)
  let lost := (x.sdyn.filter fun e => !same e.1 && e.2.held.isSome).length
  let clear (t : Tab StreamDyn) (e : Nat × StreamDyn) : Tab StreamDyn :=
    let drop := if e.2.held.isSome then incSat e.2.drop else e.2.drop
    if same e.1 then t else Tab.set StreamDyn.none_ e.1 { StreamDyn.none_ with acc := e.2.acc, drop := drop } t
  (s.modPl p fun x => { x with sdyn := x.sdyn.foldl clear x.sdyn, applied := Tab.keep same x.applied }).addSat (R.ING_COUNTERS p 20) 31 0 lost

/-- Octets of an entry as a number, most significant first. -/
def entryNat (body : List Byte) (i size : Nat) : Nat := octs body (i * size) size

/-- Entries `first` onward of a table, `size` octets each, written by `f`. -/
def putAll {α : Type} (x : α) (first n size : Nat) (body : List Byte) (f : α → Nat → Nat → α) : α :=
  (List.range n).foldl (fun x i => f x (first + i) (entryNat body i size)) x

def PlaneS.modTabs (x : PlaneS) (f : Tables → Tables) : PlaneS := { x with tabs := f x.tabs }

/-- Points of a LUT slot. -/
def putPoints (t : Tables) (slot first n : Nat) (body : List Byte) : Tables :=
  { t with luts := (List.range n).foldl (fun l i => Tab.set 0 (slot * 2048 + first + i) (BitVec.ofNat 16 (octs body (2 * i) 2)) l) t.luts }

/-- Writes the entries of one plane table, numbered as the image sections (R441): 1 rules, 2 streams, 4 moves, 5 profiles, 6 LUT
slots, 7 merge lists, 8 jobs, 9 release descriptors, 11 field maps. Rewriting a rule clears its hit counter (R196). -/
def PlaneS.putTable (x : PlaneS) (typ first n : Nat) (body : List Byte) : PlaneS :=
  if typ = 1 then putAll x first n 32 body fun x i v => { x with rules := Tab.set 0 i (BitVec.ofNat 256 v) x.rules, hits := Tab.erase i x.hits,
                                                                   ruleSnap := x.ruleSnap.filter fun r => r.1 != i }
  else if typ = 2 then putAll x first n 16 body fun x i v => x.modTabs fun t => { t with streams := Tab.set 0 i (BitVec.ofNat 128 v) t.streams }
  else if typ = 4 then putAll x first n 16 body fun x i v => x.modTabs fun t => { t with moves := Tab.set 0 i (BitVec.ofNat 128 v) t.moves }
  else if typ = 5 then putAll x first n 32 body fun x i v => x.modTabs fun t => { t with profs := Tab.set 0 i (BitVec.ofNat 256 v) t.profs }
  else if typ = 6 then
    x.modTabs fun t => (List.range n).foldl (fun t i => putPoints t (first + i) 0 1025 (slice body (4096 * i) 2050)) t
  else if typ = 7 then putAll x first n 128 body fun x i v => x.modTabs fun t => { t with merges := Tab.set 0 i (BitVec.ofNat 1024 v) t.merges }
  else if typ = 8 then putAll x first n 128 body fun x i v => { x with jobs := Tab.set 0 i (BitVec.ofNat 1024 v) x.jobs }
  else if typ = 9 then putAll x first n 32 body fun x i v => { x with descs := Tab.set 0 i (BitVec.ofNat 256 v) x.descs }
  else if typ = 11 then putAll x first n 16 body fun x i v => { x with maps := Tab.set 0 i (BitVec.ofNat 128 v) x.maps }
  else x

/-- A field-map entry refused (R389): its unit is that of the windows that map it. -/
def State.badMap (s : State) (p : Plane) (i : Nat) (m : Nat) : Bool :=
  let t := (s.pl p).tabs
  let last := nfld m 99 89 + nfld m 88 84 + 1
  let mapped := (List.range 64).any fun n =>
    let b := s.rf (R.BRG_WIN_MAP p n) 31 18
    s.rb (R.BRG_WIN_CFG p n) 24 && s.rf (R.BRG_WIN_CFG p n) 30 28 != 2 && decide (b ≤ i) &&
      decide (i < b + s.rf (R.BRG_WIN_MAP p n) 14 0)
  nfld m 46 0 != 0 || decide (32 < nfld m 81 77 + nfld m 76 72 + 1) || decide (2048 < last) || (mapped && decide (32 < last)) ||
    badFrac t (nfld m 83 83 == 1) (nfld m 88 84 + 1) (nfld m 70 59) || badFrac t (nfld m 71 71 == 1) (nfld m 76 72 + 1) (nfld m 58 47)

/-- A merge list with an input that pairs a one-bit signed field with a FRAC profile (R252). -/
def badPair (t : Tables) (l : Nat) : Bool :=
  (List.range (mlN l)).any fun k =>
    let i := mlIn l (k + 1)
    badFrac t (nfld i 25 25 == 1) (nfld i 30 26 + 1) (nfld i 23 12)

/-- Some move is refused, by itself or in a job that runs it (R240). -/
def PlaneS.badMoves (x : PlaneS) : Bool := (x.tabs.moves.any fun e => badEntry x.tabs e.1) || x.validJobs.any fun j => (x.jobMoves (x.job j)).any (x.badMove (x.job j))

/-- Some job or release descriptor is refused (R268, R295). -/
def State.badJobs (s : State) (p : Plane) : Bool := (s.pl p).validJobs.any (s.badJob p)
def State.badDescs (s : State) (p : Plane) : Bool := ((s.pl p).descs.filter fun e => rdValid e.2).any fun e => s.badDesc p e.1

/-- A profile whose field pairings are refused in moves, merge lists or field maps (R240, R252, R389). -/
def State.badProfUse (s : State) (p : Plane) : Bool :=
  let x := s.pl p
  x.badMoves || (x.tabs.merges.any fun e => badPair x.tabs e.2.toNat) || x.maps.any fun e =>
    badFrac x.tabs (nfld e.2.toNat 83 83 == 1) (nfld e.2.toNat 88 84 + 1) (nfld e.2.toNat 70 59) ||
      badFrac x.tabs (nfld e.2.toNat 71 71 == 1) (nfld e.2.toNat 76 72 + 1) (nfld e.2.toNat 58 47)

/-- Indices of a plane table (R441). -/
def tableLo (typ : Nat) : Nat := if typ = 5 then 2 else 0
def tableEnd (typ : Nat) : Nat :=
  if typ = 1 then 16384 else if typ = 2 then 262144 else if typ = 3 then 512 else if typ = 4 then 1048576 else if typ = 5 then 4096
  else if typ = 6 then 256 else if typ = 7 then 8192 else if typ = 8 then 4096 else if typ = 9 then 4096 else if typ = 10 then 4
  else if typ = 11 then 16384 else if typ = 12 then 64 else if typ = 13 then 32 else if typ = 14 then 8 else if typ = 15 then 8
  else if typ = 16 then 65536 else 0

/-- Octets of an entry (R441). -/
def tableSize (typ : Nat) : Nat :=
  if typ = 1 then 32 else if typ = 2 then 16 else if typ = 3 then 20 else if typ = 4 then 16 else if typ = 5 then 32
  else if typ = 6 then 4096 else if typ = 7 then 128 else if typ = 8 then 128 else if typ = 9 then 32 else if typ = 10 then 32
  else if typ = 11 then 16 else if typ = 12 then 20 else if typ = 13 then 48 else if typ = 14 then 24 else if typ = 15 then 2304
  else if typ = 16 then 8 else 0

/-- An entry of a plane table refused by its own rule, in a state that holds the candidate tables. -/
def State.badTableEntry (s : State) (p : Plane) (typ i v : Nat) : Bool :=
  let t := (s.pl p).tabs
  if typ = 1 then badRule (BitVec.ofNat 256 v)
  else if typ = 2 then badStream v
  else if typ = 4 then badEntry t v
  else if typ = 5 then badProfile v
  else if typ = 7 then badPair t v
  else if typ = 9 then badDescBits (BitVec.ofNat 256 v) || (rdValid (BitVec.ofNat 256 v) && s.badDesc p i)
  else if typ = 8 then badJobBits (BitVec.ofNat 1024 v) || (jValid (BitVec.ofNat 1024 v) && s.badJob p i)
  else if typ = 11 then s.badMap p i v
  else false

/-- The set that a table command leaves is refused (R181, R240, R243, R252, R268, R295, R389). -/
def State.badSet (s : State) (p : Plane) (typ : Nat) : Bool :=
  let x := s.pl p
  if typ = 1 then x.badNamed
  else if typ = 2 then x.badNamed || x.conflict
  else if typ = 4 ∨ typ = 7 then x.badMoves || x.conflict
  else if typ = 5 then s.badProfUse p
  else if typ = 8 then s.badJobs p || x.badMoves || x.conflict || s.badDescs p || s.badBuilds p
  else if typ = 9 then s.badDescs p || s.badBuilds p
  else false

/-- Commands whose entries run admission (R284). -/
def admits (typ : Nat) : Bool := typ == 4 || typ == 8 || typ == 9

/-- One plane's part of a table command: the state with the entries written, or the status and result of a refusal (R432). -/
def State.writeTable (s : State) (p : Plane) (typ first n : Nat) (body : List Byte) : Except (Nat × List Byte) State :=
  if tableEnd typ < first + n then .error (stBadParam, [])
  else if typ = 5 ∧ first < 2 then .error (stNotPermitted, [])
  else
    let c := s.modPl p fun x => x.putTable typ first n body
    if (List.range n).any fun i => c.badTableEntry p typ (first + i) (entryNat body i (tableSize typ)) then .error (stBadParam, [])
    else if c.badSet p typ then .error (stBadParam, [])
    else match admits typ, (c.admission p).2.1 with
      | true, some res => .error (stOverBudget, res)
      | true, none => .ok ((c.showAdmission p).setRb (R.DSP_STATUS p) 31 false)
      | false, _ => .ok (c.settleStreams p (s.pl p).tabs.streams)

/-- STREAM_WRITE: items of an index and an entry (R432). -/
def State.writeStreams (s : State) (p : Plane) (n : Nat) (body : List Byte) : Except (Nat × List Byte) State :=
  let items := (List.range n).map fun i => (octs body (20 * i) 4, slice body (20 * i + 4) 16)
  let c := s.modPl p fun x => items.foldl (fun (x : PlaneS) e => x.putTable 2 e.1 1 e.2) x
  if items.any fun e => decide (262144 ≤ e.1) || badStream (beNat e.2) then .error (stBadParam, [])
  else if (c.pl p).badNamed || (c.pl p).conflict then .error (stBadParam, [])
  else .ok (c.settleStreams p (s.pl p).tabs.streams)

/-- LUT_WRITE (R432). -/
def State.writeLut (s : State) (p : Plane) (slot first n : Nat) (body : List Byte) : Except (Nat × List Byte) State :=
  if n < 1 ∨ 1025 < first + n then .error (stBadParam, [])
  else .ok (s.modPl p fun x => x.modTabs fun t => putPoints t slot first n body)

end Sys2Proof.Machine
end

