-- ==== Sys2Proof/Machine/Image.lean ====
section
/-!
DEFINITION. Configuration images (R440-R443, R522): sections, checks, writing an image, the apply point.
-/
namespace Sys2Proof.Machine

def imgMagic : Nat := 0x5358494D

def imgFull (im : List Byte) : Bool := octs im 6 1 == 0
def imgCanvas (im : List Byte) : Nat := octs im 7 1 % 4
def imgId (im : List Byte) : Nat := octs im 8 8
def imgLen (im : List Byte) : Nat := octs im 16 4
def imgCrc (im : List Byte) : Nat := octs im 24 4

/-- IMAGE_ID followed by CRC (R440). -/
def imgIdentity (im : List Byte) : List Byte := slice im 8 8 ++ slice im 24 4

/-- CRC over the image, its own octets taken as 0. -/
def imgCrcOf (im : List Byte) : Nat := crc32 (patch im 24 [0, 0, 0, 0])

/-- The sections: type, first index, count, body (R440). -/
def sections (im : List Byte) : List (Nat × Nat × Nat × List Byte) :=
  (List.range (octs im 20 4)).map fun k =>
    let e := slice im (64 + 16 * k) 16
    let typ := octs e 0 2
    (typ, octs e 4 4, octs e 8 4, slice im (octs e 12 4) (octs e 8 4 * tableSize typ))

/-- A section entry whose shape is wrong (R440, R441). -/
def badSection (im : List Byte) (k : Nat) : Bool :=
  let e := slice im (64 + 16 * k) 16
  let typ := octs e 0 2
  tableSize typ == 0 || octs e 2 2 != 0 || octs e 12 4 % 16 != 0 || decide (octs e 4 4 < tableLo typ) ||
    decide (tableEnd typ < octs e 4 4 + octs e 8 4) || decide (imgLen im < octs e 12 4 + octs e 8 4 * tableSize typ)

/-- The register writes of an image: offset and value (R441). -/
def imgWrites (im : List Byte) : List (Nat × Word) :=
  (sections im).flatMap fun (t, _, n, b) =>
    if t = 16 then (List.range n).map fun i => (octs b (8 * i) 4, BitVec.ofNat 32 (octs b (8 * i + 4) 4)) else []

/-- An offset that a register-write section may name (R441). -/
def imgMayWrite (off : Nat) : Bool :=
  let range := (decide (0x200000 ≤ off) && decide (off < 0x400000)) || planeOf off == some .a
  range && off % 4 == 0 && match rowOf off with | some r => r.rw != 0 || r.st != 0 | none => false

/-- The registers that a section entry stages: offset and value (R441). -/
def stagedOf (p : Plane) (typ i : Nat) (b : List Byte) : List (Nat × Word) :=
  let w (k : Nat) : Word := BitVec.ofNat 32 (octs b (4 * k) 4)
  if typ = 3 then [(R.Q_CFG p i, w 0), (R.Q_LIMIT p i, w 1), (R.Q_WM_HI p i, w 2), (R.Q_WM_LO p i, w 3)]
  else if typ = 10 then
    [(R.EG_NUM p i, w 0), (R.EG_DEN p i, w 1), (R.EG_BASE_NS_LO p i, w 3), (R.EG_BASE_NS_HI p i, w 2),
     (R.EG_ORIGIN_LO p i, w 5), (R.EG_ORIGIN_HI p i, w 4)]
  else if typ = 12 then
    [(R.BRG_WIN_CFG p i, w 0), (R.BRG_WIN_TGT0 p i, w 1), (R.BRG_WIN_TGT1 p i, w 2), (R.BRG_WIN_TGT2 p i, w 3), (R.BRG_WIN_MAP p i, w 4)]
  else if typ = 13 then (List.range 10).map fun k => (R.SL_MODE i + 4 * k, w k)
  else if typ = 14 then [(R.CAN_CFG i, w 0), (R.CAN_NBT i, w 1), (R.CAN_DBT i, w 2), (R.CAN_TDC i, w 3)]
  else if typ = 15 then
    ((List.range 256).flatMap fun k => [(R.CAN_SLOT_START i k, w (2 * k)), (R.CAN_SLOT_WIN i k, w (2 * k + 1))]) ++
      (List.range 64).map fun k => (R.CAN_TXO_CFG i k, w (512 + k))
  else []

/-- The block that a section entry's staged registers belong to. -/
def stagedBlock (p : Plane) (typ i : Nat) : Nat :=
  if typ = 3 then R.Q_STAGE_CTL p i else if typ = 10 then R.EG_STAGE_CTL p i else if typ = 12 then R.BRG_WIN_STAGE_CTL p i
  else if typ = 13 then R.SL_STAGE_CTL i else R.CAN_STAGE_CTL i

/-- The staged bits of a register. -/
def stMask (off : Nat) : Word := match rowOf off with | some r => BitVec.ofNat 32 r.st | none => 0

/-- Stores active values at once: what the tables of a candidate show (R442). -/
def State.pokeAll (s : State) (ws : List (Nat × Word)) : State :=
  s.each ws fun s w => s.setReg w.1 ((s.reg w.1 &&& ~~~(stMask w.1)) ||| (w.2 &&& stMask w.1))

/-- Writes stage copies and COMMIT (R427). -/
def State.stageAll (s : State) (sc : Nat) (ws : List (Nat × Word)) : State :=
  (s.each ws fun s w => s.setStaged w.1 ((s.staged w.1 &&& ~~~(stMask w.1)) ||| (w.2 &&& stMask w.1))).commit sc

/-- The entries of an image's sections of some types: type, index, octets. -/
def imgEntries (im : List Byte) (f : Nat → Bool) : List (Nat × Nat × List Byte) :=
  (sections im).flatMap fun (t, a, n, b) =>
    if f t then (List.range n).map fun i => (t, a + i, slice b (i * tableSize t) (tableSize t)) else []

/-- Sections held as staged registers of a plane, and of the Lantern ring. -/
def planeBlocks (t : Nat) : Bool := t == 3 || t == 10 || t == 12
def ringBlocks (t : Nat) : Bool := t == 13 || t == 14 || t == 15

/-- The image's offset of plane A's map as plane `p` has it (R441). -/
def offFor (p : Plane) (off : Nat) : Nat := if planeOf off = some .a then off + 0x400000 * planeNum p else off

/-- Queues, generators and windows an image names. -/
def imgNames (im : List Byte) (typ i : Nat) : Bool := (sections im).any fun (t, a, n, _) => t == typ && decide (a ≤ i) && decide (i < a + n)

/-- The tables of a plane with an image's entries written, a FULL one onto empty tables (R443). -/
def PlaneS.putImage (x : PlaneS) (im : List Byte) : PlaneS :=
  let x0 := if imgFull im then { x with tabs := Tables.empty, rules := [], hits := [], ruleSnap := none, jobs := [], descs := [], maps := [] } else x
  (sections im).foldl (fun x (t, a, n, b) => x.putTable t a n b) x0

/-- Configuration registers of the blocks that image sections name one by one and that have an EN of their own, queues and generators, with
their stage control registers. -/
def imgResets (p : Plane) : List (Nat × Nat) :=
  ((List.range 512).flatMap fun q => (List.range 4).map fun k => (R.Q_STAGE_CTL p q, R.Q_CFG p q + 4 * k)) ++
    ((List.range 4).flatMap fun g => (List.range 6).map fun k => (R.EG_STAGE_CTL p g, R.EG_NUM p g + 4 * k))

/-- Rows of plane registers that configure, beside those of `imgResets`: the ones with RW or ST fields, but for stage control registers,
the parameters of a domain's step, selectors of a snapshot and tails of a log. Log 62. -/
def imgCfgRows : List RegRow :=
  let aside : List Nat := [0x480010, 0x480040, 0x480060, 0x500040, 0x501040, 0x501064, 0x580010, 0x5C0014, 0x5C001C, 0x5C0020]
  (rows_time ++ rows_port ++ rows_ingress ++ rows_queue ++ rows_burin ++ rows_dispatcher ++ rows_release ++ rows_bridge).filter fun r =>
    r.wo != 5 && (r.rw != 0 || r.st != 0) && !aside.contains r.base && !(decide (0x400104 ≤ r.base) && decide (r.base < 0x400124)) &&
      !(decide (0x400400 ≤ r.base) && decide (r.base < 0x400500)) && !(decide (0x4C0000 ≤ r.base) && decide (r.base < 0x4C8000))

/-- The registers of these rows in plane `p`. -/
def imgConfig (p : Plane) : List Nat := imgCfgRows.flatMap fun r => (List.range r.n1).map fun i => r.base + planeOfs p + i * r.s1

/-- A register's RW and ST fields at their reset values. -/
def State.resetCfg (s : State) (off : Nat) : State :=
  match rowOf off with
  | none => s
  | some r =>
    let m := BitVec.ofNat 32 (r.rw ||| r.st)
    s.setReg off ((s.reg off &&& ~~~m) ||| (resetOf off &&& m))

/-- The candidate: plane `p` as it will stand, with the period and guard time of R522. -/
def State.candidate (s : State) (p : Plane) (im : List Byte) : State :=
  let s0 :=
    if imgFull im then s.each ((imgResets p).map Prod.snd ++ imgConfig p) State.resetCfg
    else (List.range 4).foldl (fun (s : State) g =>
      let num := s.snapReg (R.EG_NUM p g)
      let den := s.snapReg (R.EG_DEN p g)
      if s.pendingAt (R.EG_STAGE_CTL p g) && validPeriod num.toNat den.toNat then (s.setReg (R.EG_NUM p g) num).setReg (R.EG_DEN p g) den else s) s
  let s1 := (s0.modPl p fun x => x.putImage im).setRf (R.BU_CTL p) 31 30 (imgCanvas im)
  let s2 := s1.each (imgEntries im fun t => planeBlocks t || ringBlocks t) fun s (t, i, b) => s.pokeAll (stagedOf p t i b)
  s2.each (imgWrites im) fun s w =>
    match rowOf w.1 with
    | none => s
    | some r =>
      let o := offFor p w.1
      let m := BitVec.ofNat 32 (r.rw ||| r.st)
      s.setReg o ((s.reg o &&& ~~~m) ||| (r.fit (s.reg o) w.2 &&& m))

/-- Whether a register takes a value: the ranges of its fields (R8), and of SL_FLOW that RTS_ON is below RTS_OFF (R330). Commands
refuse others with BAD_PARAM (R22, R430). -/
def fitsReg (off : Nat) (v : Word) : Bool :=
  match rowOf off with
  | none => true
  | some row =>
    (row.ranges.all fun (hi, lo, mn, mx) => decide (mn ≤ fld v hi lo) && decide (fld v hi lo ≤ mx)) &&
      (off != R.SL_FLOW ((off - 0x200000) / 0x1000) || decide (0x240000 ≤ off) || decide (fld v 11 0 < fld v 27 16))

/-- The generators' mirrors with the periods of plane `p` of the candidate `c` (R522). -/
def State.imgMirrors (c : State) (p : Plane) : List MirrorS :=
  c.mirror.zipIdx.map fun (m, g) => { m with num := (c.reg (R.EG_NUM p g)).toNat, den := (c.reg (R.EG_DEN p g)).toNat }

/-- Entry rules of an image's entries in the candidate `c` (R220, R330, R345, R364, R374, R413, R441 and the tables' own). -/
def State.badImageEntry (c : State) (p : Plane) (t i : Nat) (b : List Byte) : Bool :=
  let w (k : Nat) : Word := BitVec.ofNat 32 (octs b (4 * k) 4)
  if (stagedOf p t i b).any fun e => !fitsReg e.1 e.2 then true
  else if t = 3 then
    decide (2 ≤ fld (w 0) 31 30) || decide (fld (w 1) 18 0 < 2) || decide (358400 < fld (w 1) 18 0) ||
      decide (fld (w 2) 18 0 ≤ fld (w 3) 18 0) || decide (fld (w 1) 18 0 < fld (w 2) 18 0) || decide (queuePool < c.minSum p)
  else if t = 10 then !validPeriod (w 0).toNat (w 1).toNat || octs b 28 4 != 0
  else if t = 12 then c.badWin p i c.reg
  else if t = 13 then badSlCfg i c.reg || !fitsReg (R.SL_FLOW i) (w 10) || !fitsReg (R.SL_STUCK i) (w 11)
  else if t = 14 ∨ t = 15 then badCanBy (c.imgMirrors p) i c.reg || (t == 14 && !fitsReg (R.CAN_WARN i) (w 4))
  else if t = 16 then !imgMayWrite (octs b 0 4)
  else if t = 7 then badPair (c.pl p).tabs (beNat b)
  else if t = 6 then false
  else c.badTableEntry p t i (beNat b)

/-- Streams that draw jobs apply or read (R227). -/
def PlaneS.drawStreams (x : PlaneS) : List Nat :=
  (x.jobsOf false).flatMap fun j =>
    let d := x.job j
    ((jSlots d).map fun q => slStream (jSlot d q)) ++ ((x.jobMoves d).filter fun m => mvOp m == 3).flatMap fun m =>
      let l := x.tabs.merge (mvList m)
      (List.range (mlN l)).flatMap fun k =>
        let i := mlIn l (k + 1)
        nfld i 127 104 :: (if nfld (mlHead l) 127 126 = 3 ∧ nfld i 103 80 ≠ 0 then [nfld i 103 80] else [])

/-- R227: a stream of a draw job off the canvas generator; one with no VALID entry is on none: log 169. -/
def PlaneS.offCanvas (x : PlaneS) (eg : Nat) : Bool :=
  x.drawStreams.any fun st => entryValid (x.streamEntry st) st && nfld (x.streamEntry st) 111 110 != eg

/-- A refusal's RESULT (R442): section number, index, reason. -/
def imgRefuse (sec idx reason : Nat) : List Byte := toBE 4 sec ++ toBE 4 idx ++ toBE 1 reason ++ [0, 0, 0]

/-- The header's part of the checks (R440, R442): the reason, 0 when none. -/
def State.imgHeader (s : State) (p : Plane) (im : List Byte) : Nat :=
  let n := octs im 20 4
  if octs im 0 4 ≠ imgMagic ∨ octs im 4 2 ≠ 1 ∨ 1 < octs im 6 1 ∨ imgLen im ≠ im.length ∨ 12 * 2 ^ 20 < imgLen im ∨ imgLen im < 64 + 16 * n ∨
      3 < octs im 7 1 then 1
  else if imgCrcOf im ≠ imgCrc im then 2
  else if (match (s.pl p).fw with | some (v, _) => decide (v.toNat < octs im 28 4) | none => false) then 3
  else if !imgFull im && imgCanvas im != s.canvasEg p then 6
  else 0

/-- The first section that shares an index with an earlier one (R442). -/
def imgOverlap (im : List Byte) : Option (Nat × Nat) :=
  let ss := sections im
  (List.range ss.length).findSome? fun k => (List.range k).findSome? fun m =>
    match ss[k]?, ss[m]? with
    | some (t, a, n, _), some (t', a', n', _) =>
      if t = t' ∧ a < a' + n' ∧ a' < a + n then some (k, max a a') else none
    | _, _ => none

/-- The first entry refused, with its section. -/
def State.imgBadEntry (c : State) (p : Plane) (im : List Byte) : Option (Nat × Nat) :=
  let ss := sections im
  (List.range ss.length).findSome? fun k =>
    match ss[k]? with
    | none => none
    | some (t, a, n, b) => ((List.range n).find? fun i =>
        c.badImageEntry p t (a + i) (slice b (i * tableSize t) (tableSize t))).map fun i => (k, a + i)

/-- The phases Check, Admit and Size on plane `p`: status and RESULT of a refusal (R442, R522). Rules of the whole set are
reported at the header. Log 63. -/
def State.judgeImage (s : State) (p : Plane) (im : List Byte) : Option (Nat × List Byte) :=
  let top := 0xFFFFFFFF
  let h := s.imgHeader p im
  if h ≠ 0 then some (stBadParam, imgRefuse top 0 h)
  else match (List.range (octs im 20 4)).find? (badSection im) with
    | some k => some (stBadParam, imgRefuse k (octs im (64 + 16 * k + 4) 4) 5)
    | none => match imgOverlap im with
      | some (k, i) => some (stBadParam, imgRefuse k i 4)
      | none =>
        let c := s.candidate p im
        match c.imgBadEntry p im with
        | some (k, i) => some (stBadParam, imgRefuse k i 5)
        | none =>
          let x := c.pl p
          if x.badNamed || c.badJobs p || c.badProfUse p || x.conflict || c.badDescs p || c.badBuilds p then
            some (stBadParam, imgRefuse top 0 5)
          else if x.offCanvas (imgCanvas im) then some (stBadParam, imgRefuse top 0 6)
          else match (c.admission p).2.1 with
            | some res => some (stOverBudget, res)
            | none =>
              if !imgFull im && decide (2 ^ 20 < ((sections im).map fun (t, _, n, _) => n * tableSize t).sum) then some (stNoResource, [])
              else none

/-- The stage control registers of the blocks of `imgConfig`. -/
def imgStages (p : Plane) : List Nat :=
  ((imgConfig p).filterMap fun o => match rowOf o with | some r => if r.st = 0 then none else some (stageCtlOf o) | none => none).eraseDups

/-- A configuration register returns to its reset value: its stage copy where it has one (R443). -/
def State.imgRegReset (s : State) (p : Plane) (off : Nat) : State :=
  match rowOf off with
  | none => s
  | some r =>
    if r.holds then s.put r off (resetOf off) 0
    else s.writePlane (match p with | .a => .coreA | .b => .coreB) r p off (r.ix1 off) (resetOf off)

/-- Plane memory's registers return to their reset values for a FULL image, but for the queues and generators it names; commits still
pending are dropped (R443). -/
def State.imgReset (s0 : State) (p : Plane) (im : List Byte) : State :=
  let s := s0.each ((((imgResets p).map Prod.fst).eraseDups ++ imgStages p).filter s0.pendingAt) State.discardAt
  let s1 := (List.range 512).foldl (fun (s : State) q => if imgNames im 3 q then s else s.queueOff p q) s
  let s2 := (List.range 4).foldl (fun (s : State) g => if imgNames im 10 g then s else s.egDisable p g) s1
  let keep (sc : Nat) : Bool :=
    ((List.range 512).any fun q => sc == R.Q_STAGE_CTL p q && imgNames im 3 q) ||
      ((List.range 4).any fun g => sc == R.EG_STAGE_CTL p g && imgNames im 10 g)
  (s2.each ((imgResets p).filter fun e => !keep e.1) fun s e => s.setReg e.2 (resetOf e.2)).each (imgConfig p) fun s o => s.imgRegReset p o

/-- The blocks of windows, ports and the release guard that a FULL image commits though it does not name them. -/
def State.imgCommits (s : State) (p : Plane) (im : List Byte) : State :=
  let written := (imgWrites im).map fun w => stageCtlOf (offFor p w.1)
  let named (sc : Nat) : Bool := written.contains sc || (List.range 64).any fun n => sc == R.BRG_WIN_STAGE_CTL p n && imgNames im 12 n
  s.each ((imgStages p).filter fun sc => !named sc) fun s sc =>
    s.when (s.stage.any fun e => decide (sc ≤ e.1) && decide (e.1 < stageEnd sc) && s.reg e.1 != e.2) fun s => s.commit sc

/-- Writes an image's part in plane memory of plane `p` (R441, R443); every sync group is then NEVER (R190). -/
def State.writeImage (s : State) (p : Plane) (im : List Byte) : State :=
  let full := imgFull im
  let old := (s.pl p).tabs.streams
  let s1 := ((s.modPl p fun x => { x.putImage im with sync := [] }).settleStreams p old)
  let s2 := (s1.when full fun s => (s.imgReset p im).imgCommits p im).setRf (R.BU_CTL p) 31 30 (imgCanvas im)
  let s3 := s2.each (imgEntries im planeBlocks) fun s (t, i, b) =>
    let s' := s.stageAll (stagedBlock p t i) (stagedOf p t i b)
    if t = 3 then (if octs b 16 1 / 128 % 2 = 1 then (if s'.qEn p i then s' else s'.queueOn p i) else s'.queueOff p i)
    else if t = 10 then (if octs b 24 1 / 128 % 2 = 1 then s'.egEnable p i else s'.egDisable p i)
    else s'
  s3.showAdmission p |>.setRb (R.DSP_STATUS p) 31 false

/-- Register writes of an image onto plane `p`'s registers, or onto the Lantern ring's (R441): each in order, then a COMMIT of
each block whose stage copy was written. -/
def State.writeImgRegs (s : State) (im : List Byte) (p : Option Plane) : State :=
  let ws := (imgWrites im).filterMap fun w =>
    match planeOf w.1, p with
    | some _, some q => some (offFor q w.1, w.2)
    | none, none => some w
    | _, _ => none
  let r : Req := match p with | some .b => .coreB | _ => .coreA
  let s1 := s.each ws fun s w => s.writeReg r w.1 w.2
  let blocks := (ws.filterMap fun w => match rowOf w.1 with
    | some row => if row.st = 0 then none else some (stageCtlOf w.1)
    | none => none).eraseDups
  s1.each blocks State.commit

/-- The Lantern ring's part of an image (R441). -/
def State.writeRing (s : State) (im : List Byte) : State :=
  let s1 := s.each (imgEntries im ringBlocks) fun s (t, i, b) =>
    let s' := s.stageAll (stagedBlock .a t i) (stagedOf .a t i b)
    let w (k : Nat) : Word := BitVec.ofNat 32 (octs b (4 * k) 4)
    if t = 13 then
      if h : i < 32 then
        match rowOf (R.SL_FLOW i), rowOf (R.SL_STUCK i) with
        | some a, some c => (s'.putFlow a ⟨i, h⟩ (w 10)).put c (R.SL_STUCK i) (w 11) 0
        | _, _ => s'
      else s'
    else if t = 14 then
      let s2 := match rowOf (R.CAN_WARN i) with | some a => s'.put a (R.CAN_WARN i) (w 4) 0 | none => s'
      s2.canSetEn i (octs b 20 1 % 2 == 1)
    else s'
  s1.writeImgRegs im none

/-- Planes on which a command of IMAGE_COMMIT acts now: ACTIVE ones, or those loading in RELEARN where none is ACTIVE (R459). -/
def State.imgPlanes (s : State) (c : Cmd) : List Plane :=
  (planesOf c.planes).filter fun p =>
    s.active p || (s.mode == 0 && ((s.pl p).st == .relearn || (s.pl p).st == .relearnWait))

/-- AON records the identity of the active image (R442, R444); `slot` when it came from an image slot. -/
def State.recordImage (s : State) (im : List Byte) (slot : Option Nat) : State :=
  let id := imgId im
  let info := s.rf R.AON_IMAGE_INFO 25 24
  let s1 := ((s.setReg R.AON_IMAGE_ID_HI (BitVec.ofNat 32 (id / 2 ^ 32))).setReg R.AON_IMAGE_ID_LO (BitVec.ofNat 32 id)).setReg R.AON_IMAGE_CRC
    (BitVec.ofNat 32 (imgCrc im))
  let same := decide (imgIdentity im = imgIdentity s.activeImg) && s.rb R.AON_IMAGE_INFO 31
  let w := pack [(1, 31), ((!imgFull im).toNat, 30), ((same && s.rb R.AON_IMAGE_INFO 27).toNat, 27), (slot.getD info, 24)]
  { s1.setReg R.AON_IMAGE_INFO w with activeImg := im }

/-- The image slot that a command reads (R434): none for host memory. -/
def cmdSlot (c : Cmd) : Option Nat := if octs c.ps 0 1 = 1 then some (octs c.ps 1 1) else none

/-- Octets of a plane's flash. -/
def State.flash (s : State) (p : Plane) : Tab Byte := match p with | .a => s.flashA | .b => s.flashB

def State.flashOcts (s : State) (p : Plane) (a n : Nat) : List Byte := (List.range n).map fun i => Tab.get erased (a + i) (s.flash p)

def State.flashPut (s : State) (p : Plane) (a : Nat) (bs : List Byte) : State :=
  let w (t : Tab Byte) : Tab Byte := (bs.zipIdx).foldl (fun t e => Tab.set erased (a + e.2) e.1 t) t
  match p with
  | .a => { s with flashA := w s.flashA }
  | .b => { s with flashB := w s.flashB }

/-- Where image slot `k` begins in flash (R434). -/
def slotAddr (k : Nat) : Nat := 0x01000000 + k * 0x00C00000

/-- The image that a slot of a plane's flash holds by its header, if it has one (R86). -/
def State.slotImage (s : State) (p : Plane) (k : Nat) : Option (List Byte) :=
  let h := s.flashOcts p (slotAddr k) 64
  if octs h 0 4 = imgMagic ∧ 64 ≤ imgLen h ∧ imgLen h ≤ 12 * 2 ^ 20 then some (s.flashOcts p (slotAddr k) (imgLen h)) else none

end Sys2Proof.Machine
end

