-- ==== Sys2Proof/Machine/Power.lean ====
section
/-!
DEFINITION. Power, resets, plane states, the bypass pins and the ring-join check (chapters 2 and 15): feeds, loss of a plane,
boot and the boot record, RELEARN, rejoin, power modes, the flight-recorder mirror, and what they do to maintenance
operations.
-/
namespace Sys2Proof.Machine

/-- LT_STATUS.STATE is FREE (R126). -/
def State.ltFree (s : State) : Bool := s.rf R.LT_STATUS 31 30 == 0

/-- AON_PWR_STATUS.MODE: 0 RUN, 1 IDLE, 2 STANDBY (R481). -/
def State.pwrMode (s : State) : Nat := s.rf R.AON_PWR_STATUS 31 30

/-- A feed's GOOD bit (R57). -/
def State.feedGood (s : State) (f : Plane) : Bool := s.rb R.AON_FEED_STATUS (2 + planeNum f)

def State.feedAbove (s : State) (f : Plane) : Bool := s.rb R.AON_FEED_STATUS (planeNum f)

def State.feedS (s : State) (f : Plane) : FeedS := match f with | .a => s.feedA | .b => s.feedB

def State.setFeed (s : State) (f : Plane) (x : FeedS) : State := match f with | .a => { s with feedA := x } | .b => { s with feedB := x }

/-- The low four bits of every join-status nibble: pins in the order A_RING, A_SIDE, B_RING, B_SIDE (R90, R491). -/
def State.joinSt (s : State) (k : Nat) : Nat := s.rf R.AON_JOIN_STATUS (31 - 4 * k) (28 - 4 * k)

def State.setJoinSt (s : State) (k v : Nat) : State := s.setRf R.AON_JOIN_STATUS (31 - 4 * k) (28 - 4 * k) v

/-- A plane's pins. -/
def pinOf (p : Plane) (side : Bool) : Nat := 2 * planeNum p + side.toNat

/-- A plane in SYNC, COPY, RELEARN, RELEARN_WAIT or ACTIVE. -/
def PlaneS.joins (x : PlaneS) : Bool := decide (2 ≤ x.st.code) && decide (x.st.code ≤ 6)

/-- P2 and P3 form a side ring (R135). -/
def State.sideRing (s : State) (p : Plane) : Bool := s.portMode p 2 == 1 && s.portMode p 3 == 1

/-- Whether a bypass pin is open (R90). -/
def State.bypOpen (s : State) (k : Nat) : Bool :=
  let p : Plane := if k < 2 then .a else .b
  (s.pl p).joins && (s.joinSt k == 2 || s.joinSt k == 3) && !s.rb R.AON_BYP_CTL k && (k % 2 == 0 || s.sideRing p)

/-- A driven pin's level (R90). -/
def bypLevel (isOpen : Bool) : BypLevel := if isOpen then .open_ else .closed

/-- Drives the bypass pins; a change raises EV6 (R90, R91). -/
def State.bypass (s : State) : State :=
  let ch := [0, 1, 2, 3].filter fun k => s.bypOpen k != s.rb R.AON_BYP_CTL (8 + k)
  if ch.isEmpty then s
  else (s.each ch fun s k => (s.setRb R.AON_BYP_CTL (8 + k) (s.bypOpen k)).emit (.bypass k (bypLevel (s.bypOpen k)))).raise 6

/-- A domain in LOCKED_PEER enters HOLDOVER when the device is no longer DUPLEX (R460). -/
def State.peerLeft (s : State) : State :=
  s.each [(Plane.a, 0), (.a, 1), (.b, 0), (.b, 1)] fun s e =>
    if s.present e.1 && s.domState e.1 e.2 == 3 && !s.peerLocked e.1 e.2 then s.holdover e.1 e.2 else s

/-- Mode-change record (R485), what leaving DUPLEX brings, and the events of domains whose device state a plane's gaining or losing
ACTIVE changes (R108, R114, R134), after a change from `s0`. -/
def State.modeFrom (s0 s : State) : State :=
  if s.mode = s0.mode then s
  else (State.domEvents s0 ((s.record 4 0 [BitVec.ofNat 8 s.mode]).when (s0.mode == 3) State.peerLeft)).autoAll

/-- The reference clock of the Lantern PLL: the lead plane's while one is ACTIVE, else the one last taken while its feed is GOOD, else the
other GOOD feed's (R125). -/
def State.refRule (s : State) : State :=
  if s.anyActive then { s with ltRef := s.lead }
  else if !s.feedGood s.ltRef && s.feedGood (other s.ltRef) then { s with ltRef := other s.ltRef }
  else s

/-- The lead moves to plane `p` (R76); with both planes ACTIVE the old lead gives up its prefetch buffers and host locks (R408). -/
def State.leadTo (s : State) (p : Plane) : State :=
  if s.lead = p then s
  else
    let q := s.lead
    let s1 := { s with lead := p }.refRule
    if s.active p && s.active q then
      (s1.each ((s.pl q).win.map Prod.fst) fun s n => s.pfDrop q n 8).modPl q fun x =>
        { x with win := x.win.foldl (fun t e => Tab.set WinS.none_ e.1 { e.2 with lock := if e.2.lock = some 0 then none else e.2.lock } t) [] }
    else s1

/-- The Lantern mirrors take plane `p`'s generators (R128). Log 60. -/
def State.mirrorAll (s : State) (p : Plane) : State :=
  let m (g : Nat) : MirrorS :=
    let e := (s.pl p).egS g
    { en := s.egEn p g && e.live, num := s.egNum p g, den := s.egDen p g, base := s.egBase p g, origin := s.egOrigin p g,
      index := e.index, next := e.next }
  { s with mirror := [m 0, m 1, m 2, m 3] }

/-- A plane changes state: EV4 or EV5, the recorder, lead, mode and bypass pins follow (R76, R78, R90, R485), and the open
instances of a plane in which jobs no longer run end with SKIPPED (R265). -/
def State.setPState (s : State) (p : Plane) (st : PState) : State :=
  let old := (s.pl p).st
  if old = st then s
  else
    let s0 := s.when (decide (st = .sync ∨ st = .copy ∨ st = .relearnWait)) fun s => s.skipInsts p fun _ => true
    let s1 := s0.modPl p fun x => { x with st := st }
    let s2 :=
      if st = .active ∧ !s.active (other p) then { s1 with lead := p }.mirrorAll p
      else if old = .active ∧ s.lead = p ∧ s.active (other p) then s1.leadTo (other p)
      else s1
    let s3 := (s2.raise (4 + planeNum p)).record 3 0
      [BitVec.ofNat 8 (planeNum p), BitVec.ofNat 8 old.code, BitVec.ofNat 8 st.code]
    (State.modeFrom s s3).bypass.refRule

/-- Plane reset: the plane's memory and registers at their reset values (R11). -/
def State.planeReset (s : State) (p : Plane) : State :=
  let lo := 0x400000 + planeOfs p
  let keep (k : Nat) : Bool := decide (k < lo) || decide (lo + 0x400000 ≤ k)
  let x := s.pl p
  { s.setPl p { PlaneS.unpowered with st := x.st, accOrd := x.accOrd } with
    regs := Tab.keep keep s.regs, stage := Tab.keep keep s.stage, snap := Tab.keep keep s.snap, loHeld := Tab.keep keep s.loHeld,
    hiLatch := Tab.keep (fun k => keep (k / 4)) s.hiLatch }

/-- A window offset in BAR2 (R19). -/
def barWin (off : Nat) : Nat := off / 2 ^ 26
def barOfs (off : Nat) : Nat := off % 2 ^ 26

/-- What the loss of a plane means for its host accesses (R409). -/
def State.bridgeLost (s : State) (p : Plane) : State :=
  let x := s.pl p
  let reads := x.trk.filter fun e => e.2.core.isNone && !e.2.posted
  let posts := x.trk.filter fun e => e.2.core.isNone && e.2.posted
  let fences := x.fences.filter fun f => decide (f.req = .host) && f.core.isNone
  let put (win off : Nat) (data : List Byte) (s : State) : State :=
    if s.present (other p) then
      s.brgLog (other p) false (toBE 1 win ++ [8, 0, 0] ++ toBE 4 off ++ toBE 4 (leNat (data.take 4)) ++ s.when32)
    else s
  let s1 := s.each reads fun s e => s.emit (.abort 2 (e.2.win * 2 ^ 26 + e.2.asked.1))
  let s2 := s1.each fences fun s f => s.emit (.abort 0 (R.BRG_WIN_FENCE p f.win))
  let s3 := s2.each posts fun s e => put e.2.win e.2.off e.2.data s
  let s4 := s3.each x.posted fun s w => put (barWin w.off) (barOfs w.off) w.data s
  let far (f : FenceS) : List Todo := match f.core with
    | some c => if f.req = (match p with | .a => Req.coreB | .b => .coreA) then [.fence (other p) c (f.got ++ [255, 255, 255, 255])] else []
    | none => []
  let s4 := { s4 with todo := s4.todo ++ x.fences.flatMap far }
  s4.raiseIf (!(reads.isEmpty && posts.isEmpty && fences.isEmpty && x.posted.isEmpty)) 102

/-- Octets of an image's identity as AON holds them (R444). -/
def State.aonIdent (s : State) : List Byte :=
  toBE 4 (s.reg R.AON_IMAGE_ID_HI).toNat ++ toBE 4 (s.reg R.AON_IMAGE_ID_LO).toNat ++ toBE 4 (s.reg R.AON_IMAGE_CRC).toNat

/-- Writes flash, or records a write failure, which nothing but the flash decides (R470, R485). Log 64. -/
def State.flashWrite (s : State) (p : Plane) (a : Nat) (bs : List Byte) : State × Bool :=
  let (bad, s1) := s.freeB
  if bad then (s1.record 0x0E 0 (toBE 1 (planeNum p) ++ toBE 3 (a / 4096)), false)
  else
    let sector := List.replicate 4096 erased
    ((s1.flashPut p (a / 4096 * 4096) sector).flashPut p a bs, true)

/-- A copy of a boot record, if it is valid (R469). -/
def State.bootCopy (s : State) (p : Plane) (k : Nat) : Option (List Byte) :=
  let r := s.flashOcts p (k * 0x1000) 64
  if octs r 0 4 = 0x53584252 ∧ octs r 60 4 = crc32 (r.take 60) then some r else none

/-- The boot record in force, with its copy's number (R469). -/
def State.bootRec (s : State) (p : Plane) : Option (Nat × List Byte) :=
  match s.bootCopy p 0, s.bootCopy p 1 with
  | some a, some b => if 0 < serial 32 (octs b 4 4) (octs a 4 4) then some (1, b) else some (0, a)
  | some a, none => some (0, a)
  | none, some b => some (1, b)
  | none, none => none

/-- Flash offset of a firmware slot (R468). -/
def fwAddr (slot : Nat) : Nat := if slot = 0 then 0x00100000 else 0x00800000

/-- The header of a firmware slot (R476). -/
def State.fwHeader (s : State) (p : Plane) (slot : Nat) : List Byte := s.flashOcts p (fwAddr slot) 16

/-- No octet of a slot's header has been written: what it holds is what the board came with. Log 51. -/
def State.fwUnwritten (s : State) (p : Plane) (slot : Nat) : Bool := s.fwHeader p slot == List.replicate 16 erased

/-- What the boot ROM finds in a slot (R476, R477): MAGIC, LENGTH, KEY, VERSION and COMPAT from its header; `c` gives whether the flash can be
read and the signature verifies, and all of the header that the board came with. Log 51. -/
def State.slotCheck (s : State) (p : Plane) (slot : Nat) (c : SlotCheck) : SlotCheck :=
  let h := s.fwHeader p slot
  if s.fwUnwritten p slot || c == .flashErr then c
  else if octs h 0 4 ≠ 0x53584657 then .noHeader
  else if 7 * 2 ^ 20 - 512 < octs h 12 4 then .badLength
  else match c with
    | .good _ _ => if 3 < octs h 10 1 then .badSig else .good (BitVec.ofNat 32 (octs h 4 4)) (BitVec.ofNat 16 (octs h 8 2))
    | _ => .badSig

/-- VERSION of the firmware in a slot, 0 when empty (R469, R476). Of firmware that the board came with it is known once the plane has run
it. -/
def State.fwVersion (s : State) (p : Plane) (slot : Nat) : Nat :=
  let h := s.fwHeader p slot
  if octs h 0 4 = 0x53584657 then octs h 4 4
  else if !s.fwUnwritten p slot then 0
  else match (s.pl p).fw, s.bootRec p with
    | some (v, _), r => if s.rf (R.AON_BOOT (planeNum p)) 27 27 = slot then v.toNat else r.elim 0 fun e => octs e.2 (24 + 4 * slot) 4
    | none, r => r.elim 0 fun e => octs e.2 (24 + 4 * slot) 4

/-- The versions in a plane's slots, as its boot record holds them (R469). -/
def State.fwVersions (s : State) (p : Plane) : List Byte := toBE 4 (s.fwVersion p 0) ++ toBE 4 (s.fwVersion p 1)

/-- The boot record of a plane's flash that a new one starts from: where none is valid, nothing but the versions (R469). -/
def State.bootOld (s : State) (p : Plane) : List Byte :=
  match s.bootRec p with
  | some (_, r) => r
  | none => patch (List.replicate 64 0) 24 (s.fwVersions p)

/-- FW_ACTIVE of a plane: slot A where no record is valid (R469). -/
def State.fwActive (s : State) (p : Plane) : Nat := match s.bootRec p with | some (_, r) => octs r 10 1 % 2 | none => 0

/-- Rewrites the boot record of a plane's flash with octets `i` on replaced (R470). -/
def State.bootPatch (s : State) (p : Plane) (i : Nat) (bs : List Byte) : State :=
  let k := match s.bootRec p with | some (k, _) => 1 - k | none => 0
  let old := s.bootOld p
  let body := patch ((toBE 4 0x53584252 ++ toBE 4 (octs old 4 4 + 1)) ++ (old.take 60).drop 8) i bs
  (s.flashWrite p (k * 0x1000) (body ++ toBE 4 (crc32 body))).1

/-- Records the device number (R470). -/
def State.bootDevnum (s : State) : State :=
  let d := toBE 2 (s.devValid.toNat * 2 ^ 15 + s.devnum)
  (s.bootPatch .a 8 d).bootPatch .b 8 d

/-- Records the image's identity and slot when AON_IMAGE_INFO.STORED is set (R470). -/
def State.bootImage (s : State) : State :=
  if s.rb R.AON_IMAGE_INFO 27 then
    let d := toBE 1 (2 ^ 7 + s.rf R.AON_IMAGE_INFO 25 24) ++ s.aonIdent
    (s.bootPatch .a 11 d).bootPatch .b 11 d
  else s

/-- Records FW_ACTIVE of plane `p` and the versions in the slots, one rewrite of each flash's record (R469, R470). -/
def State.bootFw (s : State) (p : Plane) (active : Nat) : State :=
  let put (s : State) (q : Plane) : State :=
    if q = p then s.bootPatch q 10 (toBE 1 active ++ slice (s.bootOld q) 11 13 ++ s.fwVersions q) else s.bootPatch q 24 (s.fwVersions q)
  put (put s .a) .b

/-- The check of a ring pair. -/
def PlaneS.joinS (x : PlaneS) (side : Bool) : JoinS := x.join.getD side.toNat ⟨0, 0⟩

def State.modJoin (s : State) (p : Plane) (side : Bool) (f : JoinS → JoinS) : State :=
  s.modPl p fun x => { x with join := modAt side.toNat f x.join }

/-- A number is assigned: the confirmation phase of every pair whose pin is open (R479). -/
def State.joinConfirm (s : State) : State :=
  s.each [(Plane.a, false), (.a, true), (.b, false), (.b, true)] fun s e =>
    if s.joinSt (pinOf e.1 e.2) = 3 ∨ s.joinSt (pinOf e.1 e.2) = 2 then (s.setJoinSt (pinOf e.1 e.2) 2).modJoin e.1 e.2 fun j => { j with notices := 0 } else s

/-- Restores the device number and image identity from the plane's boot record as it leaves BOOT (R474). -/
def State.bootRestore (s : State) (p : Plane) : State :=
  match s.bootRec p with
  | none => s
  | some (_, r) =>
    let d := octs r 8 2
    let s1 := if !s.devValid && decide (2 ^ 15 ≤ d) then
        ((s.setRb R.AON_DEVNUM 31 true).setRf R.AON_DEVNUM 9 0 (d % 1024)).joinConfirm else s
    if !s1.rb R.AON_IMAGE_INFO 31 && !s1.rb R.AON_STRAP 3 && decide (2 ^ 7 ≤ octs r 11 1) then
      (((s1.setReg R.AON_IMAGE_ID_HI (BitVec.ofNat 32 (octs r 12 4))).setReg R.AON_IMAGE_ID_LO (BitVec.ofNat 32 (octs r 16 4))).setReg
        R.AON_IMAGE_CRC (BitVec.ofNat 32 (octs r 20 4))).setReg R.AON_IMAGE_INFO (pack [(1, 31), (1, 27), (octs r 11 1 % 4, 24)])
    else s1

/-- The image with the active identity in the flashes, in the order of R86. -/
def State.findImage (s : State) (p : Plane) : Option (List Byte) :=
  let named := s.rf R.AON_IMAGE_INFO 25 24
  let order := named :: ([0, 1, 2, 3].filter fun k => k != named)
  order.findSome? fun k => [p, other p].findSome? fun q =>
    match s.slotImage q k with
    | some im => if decide (imgIdentity im = s.aonIdent) && imgCrcOf im == imgCrc im then some im else none
    | none => none

/-- Changes a plane's RELEARN. -/
def State.modRelearn (s : State) (p : Plane) (f : RelearnS → RelearnS) : State :=
  s.modPl p fun x => { x with relearn := x.relearn.map f }

/-- Epochs of RELEARN count once the image is loaded; in a cold start a selected domain that is LOCKED, or has no SOURCE,
starts the count (R87, R475). -/
def State.relearnCounts (s : State) (p : Plane) : State :=
  match (s.pl p).relearn with
  | some r =>
    if r.loaded && !r.counting && (s.domState p (s.sel p) == 2 || s.rf (R.TD_CFG p (s.sel p)) 31 28 == 0) then
      (s.relearnFold p).modRelearn p fun r => { r with counting := true }
    else s
  | none => s


/-- Plane B suspends its RELEARN while both planes are in RELEARN with the Taper link up, and resumes otherwise (R89). -/
def State.suspendRule (s : State) : State :=
  let b := decide (s.pA.st = .relearn) && decide (s.pB.st = .relearn) && s.taperUp
  (s.relearnFold .b).modRelearn .b fun r => { r with suspended := b }

/-- A plane in RELEARN finds no image and waits (R86); its peer resumes (R89). -/
def State.relearnWaits (s : State) (p : Plane) : State := ((s.setPState p .relearnWait).raise 119).suspendRule

/-- The image search of R86 on entry to RELEARN. -/
def State.relearnSearch (s : State) (p : Plane) : State :=
  if !s.rb R.AON_IMAGE_INFO 31 then
    if s.rb R.AON_STRAP 3 then s.relearnWaits p
    else (s.modRelearn p fun r => { r with loaded := true }).relearnCounts p
  else if (s.findImage p).isSome then s
  else s.relearnWaits p

/-- A plane without an ACTIVE peer seeds its selected domain from Lantern time by a SET commit, with BRIDGE 0 (R86, R127, R460). -/
def State.relearnSeed (s : State) (p : Plane) : State :=
  if s.active (other p) || (s.pl p).cold then s
  else
    let d := s.sel p
    ((s.setStaged (R.TD_KIND p d) 2).commit (R.TD_STAGE_CTL p d)).modPl p fun x =>
      { x with bridge := 0, jump := false, dom := modAt d (fun y => { y with seed := true }) x.dom }

/-- What entry to RELEARN clears of plane memory: applied state and the keyframe counts (R41, R42, R236), the queues (R219), the Canvas
(R231), the profiles (R244), the jobs with their records (R265) and release memory (R294). -/
def PlaneS.relearnClear (x : PlaneS) : PlaneS :=
  let key (e : Nat × StreamDyn) : Option (Nat × StreamDyn) :=
    let d := { e.2 with keys := [], overdue := [] }
    if d = StreamDyn.none_ then none else some (e.1, d)
  { x with applied := [], sdyn := x.sdyn.filterMap key, qs := [], intake := [], cv0 := [], cv1 := [], half := false, started := false,
           closed := false, stale := false, clean := [], tabs := { x.tabs with profs := [] }, jobs := [], inst := [], recs := [], cost := [],
           cancel := [], engs := List.replicate 16 none, used := 0, rel0 := [], rel1 := [], obs := [], levels := [],
           descSt := x.descSt.map fun e => (e.1, { e.2 with prep := none, built := [] }), before := none }

/-- Registers that entry to RELEARN returns to their reset values: a queue's staging, configuration, EN and pending flush (R219), and the
completion log with the back-pressure of the emptied queues (R265, R280). -/
def relearnReg (p : Plane) (off : Nat) : Bool :=
  (decide (R.Q_STAGE_CTL p 0 ≤ off) && decide (off < R.Q_STAGE_CTL p 0 + 0x8000) && decide (off % 64 < 0x1C)) ||
    off == R.DSP_LOG_HEAD p || off == R.DSP_LOG_TAIL p || (decide (R.DSP_LOG p 0 0 ≤ off) && decide (off < R.DSP_LOG p 256 0)) || (decide (R.DSP_BP p 0 ≤ off) && decide (off < R.DSP_BP p 0 + 64))

/-- Clears what entry to RELEARN clears. -/
def State.relearnClear (s : State) (p : Plane) : State :=
  let keep (k : Nat) : Bool := !relearnReg p k
  { s.modPl p PlaneS.relearnClear with
    regs := Tab.keep keep s.regs, stage := Tab.keep keep s.stage, snap := Tab.keep keep s.snap, loHeld := Tab.keep keep s.loHeld }

/-- Entry to RELEARN (R86-R89, R475). -/
def State.enterRelearn (s : State) (p : Plane) : State :=
  let s0 := (if (s.pl p).st = .boot then s.bootRestore p else s).relearnClear p
  let cold := s0.ltFree
  let s1 := s0.modPl p fun x => { x with rejoin := none, finalQ := [],
                                         relearn := some { cold := cold, loaded := false, counting := !cold, count := 0,
                                                           muted := true, suspended := false, since := x.raw.toNat } }
  ((s1.setPState p .relearn).relearnSeed p).suspendRule.relearnSearch p

/-- A control core is left, of an ACTIVE plane or of one in RELEARN: it carries an image commit on and writes boot records (R459, R462, R470). -/
def State.imgCore (s : State) : Bool :=
  bothPlanes.any fun p => s.active p || decide ((s.pl p).st = .relearn) || decide ((s.pl p).st = .relearnWait)

/-- FW_STAGE and FW_SWAP rewrite the boot records as they complete: a swap that is DONE makes the slot that its plane runs FW_ACTIVE (R470,
R484). -/
def State.mntBoot (s : State) (m : MaintOp) (status : Nat) : State :=
  let p := (planesOf m.planes).headD .a
  if (m.op = 2 ∨ m.op = 3) ∧ s.imgCore then
    s.bootFw p (if m.op = 3 ∧ status = stDone then s.rf (R.AON_BOOT (planeNum p)) 27 27 else s.fwActive p)
  else s

/-- A maintenance operation ends with its completion record (R425, R445, R448, R470, R485). -/
def State.mntDone (s0 : State) (m : MaintOp) (status : Nat) (res : List Byte) : State :=
  let s := s0.mntBoot m status
  let s1 := { s with maint := s.maint.erase m }
  let s2 := if m.op = 4 then { s1 with pA := { s1.pA with cal := none }, pB := { s1.pB with cal := none } } else s1
  let s3 := s2.record 7 (srcOf s.lead) (toBE 2 (0x0901 + m.op) ++ [1, BitVec.ofNat 8 status])
  match m.cmd with
  | none => s3
  | some c => (s3.complete c status res).raise 28

/-- PLANE_REJOIN, FW_SWAP and SELF_TEST name one plane and need both (R446). -/
def MaintOp.needsBoth (m : MaintOp) : Bool := m.op == 1 || m.op == 3 || m.op == 7

/-- The operation that runs for plane `p`'s own rejoin (R445, R446). -/
def State.mntOf (s : State) (p : Plane) : Option MaintOp := s.maint.find? fun m => m.needsBoth && decide (planesOf m.planes = [p])

/-- An operation needs plane `p` (R447). -/
def State.mntNeeds (s : State) (p : Plane) (m : MaintOp) : Bool :=
  m.needsBoth || match m.cmd with
    | some c => if fwdHost c then (planesOf m.planes).contains p else s.opens.any fun o => decide (o.cmd = c) && o.acting.contains p
    | none => false

/-- Operations, running and queued, that need a lost plane complete with PLANE_ABSENT (R77, R447), but for `keep`, which took the
plane out of service itself. -/
def State.mntLost (s : State) (p : Plane) (keep : Option MaintOp) : State :=
  let gone (m : MaintOp) : Bool := s.mntNeeds p m && decide (some m ≠ keep)
  let s1 := s.each (s.maint.filter gone) fun s m => s.mntDone m stPlaneAbsent []
  let s2 := { s1 with maintQ := s1.maintQ.filter fun m => !gone m }
  s2.each (s.maintQ.filter gone) fun s m => s.mntDone m stPlaneAbsent []

/-- What the loss of plane `p` means for its peer's RELEARN or rejoin (R82, R85, R89). A plane that waits in RELEARN_WAIT with a
PLANE_REJOIN enters RELEARN; one that waits in RELEARN stays there. Log 132. -/
def State.peerAfterLoss (s : State) (p : Plane) (wasActive : Bool) : State :=
  let y := other p
  let x := s.pl y
  let s1 : State := match x.rejoin with
    | some r =>
      if r.phase = .firstRelease then s
      else if r.resync then s.modPl y fun x => { x with rejoin := none, finalQ := [] }
      else if r.phase = .waitTaper then
        let s0 := s.modPl y fun x => { x with rejoin := none }
        if x.st = .relearnWait then s0.enterRelearn y else s0
      else (s.enterRelearn y).raise 115
    | none => s
  let s2 := if decide ((s1.pl y).st = .boot) && (s1.pl y).fw.isSome then s1.enterRelearn y else s1
  let waited := x.st = .relearnWait ∧ x.rejoin.isSome
  let s3 := if wasActive && !decide waited && (decide (x.st = .relearn) || decide (x.st = .relearnWait)) then s2.relearnSeed y else s2
  s3.suspendRule

/-- A plane is lost or held: R81, R77, R85, R409, R447. `to_` is OFF or HELD. -/
def State.planeLost (s : State) (p : Plane) (to_ : PState) (keep : Option MaintOp) : State :=
  let x := s.pl p
  if x.st = .off then s
  else if x.st = .held then (s.setPState p to_).mntLost p keep
  else
    let (part, s1) := if x.path.isEmpty then (false, s) else s.freeB
    let s2 := s1.when part fun s => s.count R.LDH_PARTIAL_CNT
    let s3 := (s2.setJoinSt (pinOf p false) 0).setJoinSt (pinOf p true) 0
    let s4 := (((s3.setPState p to_).planeReset p).setReg (R.AON_FW_VER (planeNum p)) 0).slPurge p |>.canPurge p |>.lanPurge p
    let lost := s4.modPl p fun y => { y with trk := x.trk, posted := x.posted, fences := x.fences }
    let s5 := (lost.bridgeLost p).modPl p fun y => { y with trk := [], posted := [], fences := [] }
    let s6 := ((s5.mntLost p keep).peerAfterLoss p (decide (x.st = .active))).lostParts p (keep.bind MaintOp.cmd)
    let s7 := match s6.setLead with
      | some (q, _, c, _) => if q = p then { s6 with setLead := none }.complete c stPlaneAbsent [] else s6
      | none => s6
    if s7.imgCore then s7 else { s7 with checks := [], img := none, imgPause := false, imgBuf := false }

/-- Feeds, PIN and mode let a plane be powered (R472). -/
def State.mayPower (s : State) (p : Plane) : Bool := s.feedGood p && s.pinOn && s.pwrMode != 2

/-- The state of an unpowered plane: HELD while none of the conditions of OFF holds (R75). -/
def State.downState (s : State) (p : Plane) : PState := if s.mayPower p then .held else .off

/-- Changes a plane's rejoin. -/
def State.modRejoin (s : State) (p : Plane) (f : RejoinS → RejoinS) : State :=
  s.modPl p fun x => { x with rejoin := x.rejoin.map f }

/-- A rejoin may start (R82, R88). -/
def State.rejoinReady (s : State) (p : Plane) : Bool :=
  let x := s.pl p
  s.active (other p) && s.taperUp && ((decide (x.st = .boot) && x.fw.isSome) || decide (x.st = .relearn) || decide (x.st = .relearnWait))

/-- The rejoin begins (R83): SYNC, or the COPY phase alone after SPLIT (R74). -/
def State.rejoinGo (s : State) (p : Plane) : State :=
  let r : RejoinS := { phase := .sync, passes := 0, dirty := 0, tries := 0, resync := false }
  if s.active p then s.modPl p fun x => { x with rejoin := some { r with phase := .pass, resync := true } }
  else
    let s0 := if (s.pl p).st = .boot then s.bootRestore p else s
    (s0.modPl p fun x => { x with rejoin := some r, relearn := none }).setPState p .sync

/-- A rejoin whose operation runs begins as soon as it may (R82); it waits for the link otherwise. -/
def State.rejoinWaits (s : State) (p : Plane) : State :=
  let resync := match (s.pl p).rejoin with | some r => r.resync | none => false
  if resync && s.active p && s.active (other p) && s.taperUp then s.rejoinGo p
  else if s.rejoinReady p then s.rejoinGo p
  else s.modPl p fun x => { x with rejoin := some { phase := .waitTaper, passes := 0, dirty := 0, tries := 0, resync := resync } }

/-- What a present operation means for a new one (R445): 0 both run, 1 queued, 2 refused. Operations 0 SCRUB, 1 PLANE_REJOIN,
2 FW_STAGE, 3 FW_SWAP, 4 LINK_CAL, 5 TIME_SWITCH, 6 FLASH_WRITE, 7 SELF_TEST. -/
def mntTable (present new : Nat) : Nat :=
  (([[2, 1, 0, 1, 0, 0, 0, 1], [1, 2, 0, 2, 1, 1, 0, 2], [0, 0, 2, 1, 0, 0, 1, 1], [1, 2, 2, 2, 1, 1, 1, 2],
     [0, 1, 0, 1, 2, 0, 0, 1], [0, 1, 0, 1, 0, 2, 0, 1], [0, 0, 1, 1, 0, 0, 1, 1], [1, 2, 1, 2, 1, 1, 1, 2]] : List (List Nat)).getD
    present []).getD new 0

/-- Another operation for the same plane's rejoin is present (R446). -/
def State.rejoinBusy (s : State) (p : Plane) : Bool := (s.maint ++ s.maintQ).any fun m => m.needsBoth && decide (planesOf m.planes = [p])

/-- An automatic rejoin enters as PLANE_REJOIN, queued where a command would be refused (R446). A queue that is full takes it
later. Log 65. -/
def State.autoRejoin (s : State) (p : Plane) : State :=
  let m : MaintOp := { op := 1, planes := BitVec.ofNat 2 (1 + planeNum p), cmd := none, data := [], fail := none }
  if s.rejoinBusy p then s
  else if s.maintQ.isEmpty && (s.maint.all fun q => mntTable q.op 1 == 0) then
    ({ s with maint := s.maint ++ [m] }.record 7 (srcOf s.lead) (toBE 2 0x0902 ++ [0, 0])).rejoinWaits p
  else if s.maintQ.length < 8 then { s with maintQ := s.maintQ ++ [m] }
  else s

/-- A plane's rejoin starts where it may: for the operation that waits for it, or by itself (R74, R82, R88, R89). None starts by
itself in IDLE (R481). Log 65. -/
def State.tryRejoin (s : State) (p : Plane) : State :=
  let waits : Bool := match (s.pl p).rejoin with | some r => decide (r.phase = .waitTaper) | none => false
  let resync : Bool := match (s.pl p).rejoin with | some r => r.resync && decide (r.phase = .waitTaper) | none => false
  if resync then (if (s.mntOf p).isSome then s.rejoinWaits p else if s.pwrMode = 0 then s.autoRejoin p else s)
  else if waits then (if s.rejoinReady p then s.rejoinGo p else s)
  else if s.rejoinReady p && s.rb R.AON_PSUP_CTL (2 + planeNum p) && s.pwrMode == 0 then s.autoRejoin p
  else s

/-- TAPER_UP (R72): waiting rejoins and the resynchronisation of R74 start. -/
def State.taperComes (s : State) : State :=
  if s.taperUp || !s.aonOn then s
  else
    let both := s.active .a && s.active .b
    let x := other s.lead
    let s1 := { s with taperUp := true }
    let s2 := if both then s1.modPl x fun y => { y with rejoin := some { phase := .waitTaper, passes := 0, dirty := 0, tries := 0, resync := true } }
      else s1
    ((State.modeFrom s s2).suspendRule.tryRejoin .a).tryRejoin .b

/-- TAPER_DOWN (R72, R73, R85). -/
def State.taperGoes (s : State) : State :=
  if !s.taperUp then s
  else
    let s1 := (({ s with taperUp := false, link := [] }.addSat R.AON_TAPER_CNT 31 24 1).raise 112).record 0x0D 0 [0, 0, 0, 0]
    let s2 := State.modeFrom s s1
    let cut (s : State) (p : Plane) : State := match (s.pl p).rejoin with
      | some r =>
        if r.phase = .firstRelease ∨ (r.phase = .waitTaper ∧ !r.resync) then s
        else
          let s3 := if r.resync then s.modPl p fun x => { x with rejoin := none, finalQ := [] } else (s.enterRelearn p).raise 115
          match s3.mntOf p with | some m => s3.mntDone m stTimeout [] | none => s3
      | none => s
    (cut (cut s2 .a) .b).suspendRule

/-- A plane becomes ACTIVE out of RELEARN, its origin counters from 0 (R87, R88). -/
def State.relearnEnds (s : State) (p : Plane) (ev : Nat) : State :=
  let s1 := (s.modPl p fun x => { x with seqs := [], relearn := none }).setPState p .active
  ((s1.raise ev).suspendRule).tryRejoin (other p)

/-- What completing RELEARN needs, readiness of the outputs aside (R87-R89, R475). -/
def State.relearnMay (s : State) (p : Plane) : Bool :=
  match (s.pl p).relearn with
  | some r => decide ((s.pl p).st = .relearn) && r.loaded && r.counting && !r.muted && !r.suspended && !(s.active (other p) && s.taperUp)
  | none => false

/-- RELEARN_DONE (R87). -/
def State.relearnDone (s : State) (p : Plane) : State :=
  if s.relearnMay p && (s.pl p).outputsReady then s.relearnEnds p 117 else s

/-- RELEARN_LIMIT_REACHED (R87): counted at EG0 boundaries, every 1/60 s while EG0 is disabled. -/
def State.relearnLimit (s : State) (p : Plane) : State :=
  if s.relearnMay p && decide (s.rf R.AON_PSUP_CTL 15 8 ≤ s.relearnCount p) then s.relearnEnds p 118 else s

/-- A boundary of EG0 counts one epoch of RELEARN (R87). -/
def State.relearnTick (s : State) (p : Plane) : State :=
  let s1 := s.relearnCounts p
  match (s1.pl p).relearn with
  | some r => if r.loaded && r.counting && !r.suspended then s1.modRelearn p fun r => { r with count := r.count + 1 } else s1
  | none => s1

/-- An image's apply point counts as the boundary for its commits of the canvas generator and the guard time where that generator has none;
admission is repeated once, with both (R285, R522). Other disabled generators wait for their raw tick (R441). Log 160. -/
def State.applyIdle (s : State) (p : Plane) : State :=
  let c := s.canvasEg p
  if ((s.pl p).egS c).live then s
  else
    let (s1, period) := s.egCommit p c
    s1.guardAt p period

/-- The image of a plane in RELEARN or RELEARN_WAIT is in (R86); a plane that waited enters RELEARN with it. After a cold start the Lantern ring takes its part too. Log 66. -/
def State.relearnLoad (s : State) (p : Plane) (im : List Byte) : State :=
  let s0 := (s.when (decide ((s.pl p).st = .relearnWait)) fun s => s.relearnClear p).relearnFold p
  let s1 := ((s0.writeImage p im).writeImgRegs im (some p)).applyIdle p
  let s2 := if s.ltFree then s1.writeRing im else s1
  let s3 := { s2 with activeImg := im }
  let s4 := if (s.pl p).st = .relearnWait then s3.setPState p .relearn else s3
  ((s4.modRelearn p fun r => { r with loaded := true }).relearnCounts p).suspendRule

/-- IMAGE_LOAD_DONE (R86). -/
def State.imageLoaded (s : State) (p : Plane) : State :=
  match (s.pl p).relearn, s.findImage p with
  | some r, some im => if decide ((s.pl p).st = .relearn) && !r.loaded && !r.suspended then s.relearnLoad p im else s
  | _, _ => s

/-- RESULT of a failed slot check (R491). -/
def slotResult : SlotCheck → Nat
  | .good _ _ => 1
  | .noHeader => 2
  | .badSig => 3
  | .badLength => 4
  | .flashErr => 5

/-- A boot outcome in AON_BOOT_x and the recorder (R485, R491). -/
def State.bootShows (s : State) (p : Plane) (slot result : Nat) (fell : Bool) : State :=
  (s.setReg (R.AON_BOOT (planeNum p)) (pack [(result, 28), (slot, 27), (fell.toNat, 26)])).record 5 0
    [BitVec.ofNat 8 (planeNum p), BitVec.ofNat 8 slot, BitVec.ofNat 8 result, BitVec.ofNat 8 fell.toNat]

/-- A plane that has booted leaves BOOT, or waits in it (R82). -/
def State.afterBoot (s : State) (p : Plane) : State :=
  if !s.active (other p) then s.enterRelearn p
  else match s.mntOf p with
    | some _ => s.rejoinWaits p
    | none => s.tryRejoin p

/-- BOOT_COMPLETE (R473, R476, R477, R484): `first` judges the slot the boot ROM reads first, `second` the other one. -/
def State.bootComplete (s : State) (p : Plane) (first second : SlotCheck) : State :=
  if (s.pl p).st ≠ .boot ∨ (s.pl p).fw.isSome ∨ (s.pl p).dead then s
  else
    let try_ := s.rb (R.AON_BOOT (planeNum p)) 31
    let slot := if try_ then 1 - s.fwActive p else s.fwActive p
    let swap := match s.mntOf p with | some m => if m.op = 3 then some m else none | none => none
    let fail (s : State) (m : MaintOp) (st : Nat) : State :=
      { s with maint := s.maint.map fun q => if q = m then { m with fail := some (m.fail.getD st) } else q }
    let run (s : State) (v : Word) (k : BitVec 16) (slot : Nat) (fell : Bool) : State :=
      ((s.modPl p fun x => { x with fw := some (v, k) }).setReg (R.AON_FW_VER (planeNum p)) v).bootShows p slot 1 fell
    match s.slotCheck p slot first, s.slotCheck p (1 - slot) second with
    | .good v k, _ =>
      let serving := match (s.pl (other p)).fw with | some (_, c) => c | none => k
      match swap with
      | some m =>
        if try_ && k != serving then fail ((s.bootShows p slot 1 false)) m stNotPermitted else (run s v k slot false).afterBoot p
      | none => (run s v k slot false).afterBoot p
    | _, .good v k =>
      let s1 := match swap with | some m => if try_ then fail s m stBadParam else s | none => s
      ((run s1 v k (1 - slot) true).raiseP p 156).afterBoot p
    | _, c =>
      let s1 := (s.bootShows p (1 - slot) (slotResult c) false).modPl p fun x => { x with dead := true }
      match s1.mntOf p with
      | some m => (s1.mntDone m (if m.op = 3 then m.fail.getD stBadParam else stPlaneAbsent) []).modPl p fun x => { x with rejoin := none }
      | none => s1

/-- Time parameters taken from the peer in SYNC and with the copy (R83, R116): anchors are counted on the plane's own raw
counter. -/
def State.alignTime (s : State) (p : Plane) : State :=
  let q := other p
  let diff := (s.pl p).raw.toNat + 2 ^ 64 - (s.pl q).raw.toNat
  let cp (s : State) (f : Plane → Nat) : State := s.setReg (f p) (s.reg (f q))
  let s1 := s.each [0, 1] fun s d =>
    let s' := s.each [fun x => R.TD_KIND x d, fun x => R.TD_INC_ADJ x d, fun x => R.TD_STEP x d, fun x => R.TD_OFFSET_NS_LO x d,
      fun x => R.TD_OFFSET_NS_HI x d, fun x => R.TD_OFFSET_FRAC x d, fun x => R.TD_CFG x d, fun x => R.TD_LTC_OFS x d] cp
    s'.setReg64 (R.TD_ANCHOR_LO p d) ((s.reg64 (R.TD_ANCHOR_LO q d) + diff) % 2 ^ 64)
  (cp s1 R.TB_CTL).modPl p fun x => { x with bridge := (s.pl q).bridge, sw := (s.pl q).sw, jump := (s.pl q).jump }

/-- Registers of a plane that the state copy carries, by their offset in plane A's map: not those of the timebase, of a port's own
lane, or of accesses through the bridge (R77, R83). Log 67. -/
def copied (k : Nat) : Bool := decide (R.EG_STAGE_CTL .a 0 ≤ k)

/-- Of these, the ones that stay the plane's own. -/
def ownReg (k : Nat) : Bool :=
  ([0, 1, 2, 3].any fun i => k == R.PORT_STATUS .a i || k == R.PORT_LINK_DELAY .a i || k == R.PORT_LAT .a i ||
      (decide (R.PORT_COUNTERS .a i 0 ≤ k) && decide (k ≤ R.PORT_TX_DROP .a i))) ||
    (decide (0x5C0010 ≤ k) && decide (k < 0x5C1000)) ||
    (decide (0x5C1000 ≤ k) && decide (k < 0x5C2000) && decide (0x18 ≤ k % 0x40))

/-- Takes the peer's registers. -/
def State.copyRegs (s : State) (p : Plane) : State :=
  let q := other p
  let f (k : Nat) : Bool := copied k && !ownReg k
  let mv (t : Tab Word) : Tab Word :=
    (t.filter fun e => decide (planeOf e.1 = some q) && f (normOff e.1)).foldl (fun t e => Tab.put (normOff e.1 + planeOfs p) e.2 t)
      (Tab.keep (fun k => !(decide (planeOf k = some p) && f (normOff k))) t)
  { s with regs := mv s.regs, stage := mv s.stage, snap := mv s.snap }

/-- The state copy at the handover (R83, R231, R236, R265, R294): plane memory is the peer's, release memory empty. -/
def copyPlane (x y : PlaneS) (st : PState) (rejoin : Option RejoinS) : PlaneS :=
  { y with st := st, raw := x.raw, dom := x.dom, masters := x.masters, skewRun := 0, txq := x.txq, hold := x.hold,
           port := x.port, ptpSeen := x.ptpSeen, rel0 := [], rel1 := [], finalQ := [], cal := none, join := x.join,
           descSt := y.descSt.map fun e => (e.1, { e.2 with prep := none, built := [] }), rejoin := rejoin, relearn := none,
           win := x.win, trk := x.trk, posted := x.posted, fences := x.fences, gens := x.gens, accOrd := x.accOrd, path := [], fw := x.fw, dead := x.dead,
           rlsd := x.rlsd }

/-- The larger of two counters of a class, by serial arithmetic, plus 1,024 (R74). -/
def resyncSeqs (a b : Tab Word) : Tab Word :=
  (List.range 8).foldl (fun t c =>
    let x := Tab.get 0 c a
    let y := Tab.get 0 c b
    Tab.set 0 c ((if 0 < serial 32 y.toNat x.toNat then y else x) + 1024) t) []

/-- REJOIN_SYNC_DONE (R83). -/
def State.rejoinSynced (s : State) (p : Plane) : State :=
  match (s.pl p).rejoin with
  | some r => if r.phase = .sync then ((s.alignTime p).modRejoin p fun r => { r with phase := .pass }).setPState p .copy else s
  | none => s

/-- FINAL_MAX in octets: what 30.5 GB/s carry from the guard time to 40 µs before E, in whole MiB (R84). Log 68. -/
def State.finalMax (s : State) (p : Plane) : Nat := (s.guardUs (other p) - 40) * 30500 / 2 ^ 20 * 2 ^ 20

/-- REJOIN_PASS_DONE (R83): the first pass and at most 8 dirty ones. -/
def State.rejoinPass (s : State) (p : Plane) (dirty : Nat) : State :=
  match (s.pl p).rejoin with
  | some r =>
    if r.phase = .pass then
      let done := decide (dirty ≤ s.finalMax p) || decide (8 ≤ r.passes)
      s.modRejoin p fun r => { r with passes := r.passes + 1, dirty := dirty, phase := if done then .awaitGuard else .pass }
    else s
  | none => s

/-- REJOIN_FINAL_PASS (R84, R443). -/
def State.rejoinFinal (s : State) (p : Plane) (dirty : Nat) : State :=
  match (s.pl p).rejoin with
  | some r =>
    if r.phase ≠ .awaitGuard ∨ s.imgPause ∨ s.imgBuf then s
    else if dirty ≤ s.finalMax p then s.modRejoin p fun r => { r with phase := .final, dirty := dirty }
    else s.modRejoin p fun r => { r with dirty := dirty, passes := r.passes + 1, tries := if r.tries < 16 then r.tries + 1 else r.tries }
  | none => s

/-- REJOIN_SLOW (R84). -/
def State.rejoinSlow (s : State) (p : Plane) : State :=
  match (s.pl p).rejoin with
  | some r => if r.tries = 16 then (s.modRejoin p fun r => { r with tries := 17 }).raise 116 else s
  | none => s

/-- The operation of plane `p`'s rejoin completes at the handover (R82, R434, R470, R484). -/
def State.rejoinCompletes (s : State) (p : Plane) : State :=
  match s.mntOf p with
  | none => s
  | some m =>
    if m.op = 3 then
      let ver := match (s.pl p).fw with | some (v, _) => toBE 4 v.toNat | none => []
      match m.fail with
      | some st => s.mntDone m st []
      | none => s.mntDone m stDone ver
    else if m.op = 7 then s.mntDone m stDone m.data
    else s.mntDone m stDone []

/-- REJOIN_HANDOVER (R74, R83). -/
def State.rejoinHandover (s : State) (p : Plane) : State :=
  match (s.pl p).rejoin with
  | some r =>
    let q := other p
    if r.phase ≠ .final ∨ !s.active q then s
    else
      let late := (s.pl p).finalQ
      let s1 := ((s.copyRegs p).alignTime p).each [0, 1, 2, 3] fun s i => s.wrapDown p i
      let s2 :=
        if r.resync then
          let x := s.pl p
          let y := copyPlane x (s.pl q) .active none
          let s' := s1.setPl p { y with rel0 := x.rel0, rel1 := x.rel1, descSt := x.descSt, path := x.path }
          let sq := resyncSeqs (s.pl p).seqs (s.pl q).seqs
          let s'' := (s'.modPl p fun x => { x with seqs := sq }).modPl q fun x => { x with seqs := sq }
          State.modeFrom s s''
        else
          let y := copyPlane (s.pl p) (s.pl q) (s.pl p).st (some { r with phase := .firstRelease })
          (s1.setPl p y).setPState p .active
      let s3 := s2.each late fun s e => s.replay p e.1 e.2.1 e.2.2
      s3.rejoinCompletes p
  | none => s

/-- REJOIN_FIRST_RELEASE (R83). -/
def State.rejoinFirst (s : State) (p : Plane) : State :=
  match (s.pl p).rejoin with
  | some r => if r.phase = .firstRelease then (s.modPl p fun x => { x with rejoin := none }).raise 114 else s
  | none => s

/-- PLANE_REJOIN_TIMEOUT (R82). -/
def State.rejoinTimeout (s : State) (p : Plane) : State :=
  match (s.pl p).rejoin, s.mntOf p with
  | some r, some m =>
    if r.phase = .waitTaper ∧ m.op = 1 ∧ m.cmd.isSome ∧ !s.taperUp ∧ ((s.pl p).st ≠ .boot ∨ (s.pl p).fw.isSome) then
      (s.modPl p fun x => { x with rejoin := none }).mntDone m stTimeout []
    else s
  | _, _ => s

/-- Registers outside AON that PIN's reset, or RESET_N, returns to their reset values: the status bits of EV0-EV15 stay (R472, R482). -/
def keptByPin (off : Nat) (w : Word) : Option Word :=
  if off = R.EV_STATUS 0 then some (w &&& 0xFFFF)
  else if off < 0x100000 ∨ (0x200000 ≤ off ∧ off < 0x400000) then none
  else some w

/-- RING_SVC_EN and RING_MNT_EN follow STRAP_PCIE_OFF (R429). -/
def State.strapCtl (s : State) : State :=
  let b := s.rb R.AON_STRAP 2
  (s.setRb R.GID_CMD_CTL 30 b).setRb R.GID_CMD_CTL 29 b

/-- Reset of PIN, the host port and the global registers (R429, R472, R482). -/
def State.pinReset (s : State) : State :=
  let regs := s.regs.foldl (fun t e => match keptByPin e.1 e.2 with | some w => Tab.set (resetOf e.1) e.1 w t | none => t) []
  let in_ (k : Nat) : Bool := decide (0x100000 ≤ k) && !(decide (0x200000 ≤ k) && decide (k < 0x400000))
  let z := State.reset
  ({ s with
    regs := regs, stage := Tab.keep in_ s.stage, snap := Tab.keep in_ s.snap, loHeld := Tab.keep in_ s.loHeld,
    hiLatch := Tab.keep (fun k => in_ (k / 4)) s.hiLatch, pinOn := false, lt := 0, ltStep := false, ltPhase := 0, mirror := z.mirror, outs := z.outs,
    pulseIx := [], po := z.po, ci := z.ci, li := z.li, lanIn := [], lo := z.lo, sl := z.sl, can := z.can, evHold := [], vecMask := z.vecMask, msixTab := z.msixTab, msixEn := false,
    funcMask := false, pba := 0, qsUp := [], hq := z.hq, accepted := [], fresh := z.fresh, opens := [], fwdTags := [], todo := [], seen := [], seenSnf := [], seenRep := [],
    snf := SnfS.clear, snfTimed := [], maint := [], maintQ := [], checks := [], img := none, imgPause := false, imgBuf := false, setLead := none }).strapCtl

/-- Both planes go to OFF with the actions of R81, the lead last; then PIN and the global registers are reset (R472, R482). -/
def State.allDown (s : State) : State := ((s.planeLost (other s.lead) .off none).planeLost s.lead .off none).pinReset

/-- Loss of both feeds: all but the flashes is lost, and the bypass pins are no longer driven (R54, R90). -/
def State.aonLost (s : State) : State :=
  { State.reset with pending := s.pending, freeCtr := s.freeCtr, out := s.out ++ [0, 1, 2, 3].map fun k => .bypass k .highZ,
                     flashA := s.flashA, flashB := s.flashB }

/-- PIN is powered while a feed is GOOD and the device is not in STANDBY (R472); its PLL takes REFCLK_A where feed A is GOOD (R125). -/
def State.pinRule (s : State) : State :=
  let on := (s.feedGood .a || s.feedGood .b) && s.pwrMode != 2
  if on then (if s.pinPow then s else { s with pinPow := true, ltRef := if s.feedGood .a then .a else .b })
  else if s.pinPow then { s with pinPow := false }.allDown
  else s

/-- FEED_BELOW_THRESHOLD (R54, R56). -/
def State.feedFalls (s : State) (f : Plane) : State :=
  if !s.aonOn then s
  else
    let s1 := (s.setFeed f ⟨true, false⟩).setRb R.AON_FEED_STATUS (planeNum f) false
    if s1.feedGood f || s1.feedGood (other f) || s1.feedAbove (other f) then s1 else s1.aonLost

/-- FEED_ABOVE_RESTORE (R56). -/
def State.feedRises (s : State) (f : Plane) : State :=
  if !s.aonOn then s else (s.setFeed f ⟨false, !s.feedGood f⟩).setRb R.AON_FEED_STATUS (planeNum f) true

/-- FEED_DECLARED_LOST (R54, R56, R81). While the other feed is being declared GOOD, PIN stays for the rest of the cycle, in which it may
become so (R520). -/
def State.feedLost (s : State) (f : Plane) : State :=
  if !(s.aonOn && s.feedGood f && (s.feedS f).below) then s
  else
    let lo := 16 + 8 * planeNum f
    let s1 := ((s.setRb R.AON_FEED_STATUS (2 + planeNum f) false).addSat R.AON_FEED_STATUS (lo + 7) lo 1).setFeed f ⟨false, false⟩
    let s2 := ((s1.raise (planeNum f)).record 2 0 [BitVec.ofNat 8 (planeNum f), 0]).planeLost f .off none
    if s2.feedGood (other f) then s2.refRule.pinRule
    else if (s2.feedS (other f)).counting then s2.refRule
    else if s2.feedAbove (other f) then s2.refRule.pinRule
    else s2.aonLost

/-- An unpowered plane with its HOLD bit set is HELD while none of the conditions of OFF holds (R75). -/
def State.holdRule (s : State) : State :=
  s.each bothPlanes fun s p =>
    if s.rb R.AON_PSUP_CTL (planeNum p) && decide ((s.pl p).st = .off) then s.setPState p (s.downState p) else s

/-- FEED_DECLARED_GOOD (R56). -/
def State.feedComes (s : State) (f : Plane) : State :=
  if !(s.aonOn && !s.feedGood f && (s.feedS f).counting) then s
  else
    let s1 := ((s.setRb R.AON_FEED_STATUS (2 + planeNum f) true).setFeed f ⟨false, false⟩)
    ((s1.raise (2 + planeNum f)).record 2 0 [BitVec.ofNat 8 (planeNum f), 1]).refRule.pinRule.holdRule

/-- Straps are sampled: their levels are the board's (R471). Log 69. -/
def State.sampleStraps (s : State) (why : Byte) : State :=
  let (w, s1) := s.free32
  let s2 := s1.setReg R.AON_STRAP (w &&& 0xF)
  s2.strapCtl.record 1 0 [(w &&& 0xF).truncate 8, why]

/-- AON_POWER_ON (R473). -/
def State.aonComes (s : State) (f : Plane) : State :=
  if s.aonOn then s
  else
    let s1 := ({ s with aonOn := true }.sampleStraps 1).setFeed f ⟨false, true⟩
    (s1.setRb R.AON_FEED_STATUS (planeNum f) true).each [0, 1, 2, 3] fun s k => s.emit (.bypass k .closed)

/-- PIN_RESET_RELEASE (R472): the Snuffer state returns from AON first (R438), and a held plane shows HELD (R75). -/
def State.pinComes (s : State) : State :=
  if s.pinPow && !s.pinOn && !s.rstLow then { s with pinOn := true, snf := s.snfAon }.holdRule else s

/-- PLANE_RESET_RELEASE (R472). -/
def State.planeComes (s : State) (p : Plane) : State :=
  let st := (s.pl p).st
  let testing := s.maint.any fun m => m.op == 7 && decide (planesOf m.planes = [p]) && m.data.isEmpty
  if (st = .off ∨ st = .held) ∧ s.mayPower p ∧ !s.rb R.AON_PSUP_CTL (planeNum p) ∧ !testing then
    { s.planeReset p with qsUp := if s.qsUp.contains p then s.qsUp else s.qsUp ++ [p] }.setPState p .boot
  else s

/-- RESET_N falls (R472). -/
def State.rstFalls (s : State) : State :=
  if !s.aonOn || s.rstLow then s else { s with rstLow := true }.allDown

/-- RESET_N rises (R471, R472). PIN leaves reset when its PLL has locked. Log 70. -/
def State.rstRises (s : State) : State :=
  if !s.rstLow then s else { s with rstLow := false }.sampleStraps 2

/-- PERST# (R472). -/
def State.perst (s : State) : State :=
  { s with vecMask := BitVec.allOnes 64, msixTab := [], msixEn := false, funcMask := false, pba := 0 }

/-- A write of AON_PSUP_CTL; the flag tells that a HOLD bit was ignored (R79, R82). -/
def State.psupWrite (s : State) (v : Word) : State × Bool :=
  let was (p : Plane) : Bool := s.rb R.AON_PSUP_CTL (planeNum p)
  let both := bit v 0 && bit v 1 && !was .a && !was .b && s.active .a && s.active .b
  let refused (p : Plane) : Bool := bit v (planeNum p) && !was p &&
    ((s.active p && !s.active (other p)) || (both && decide (s.lead = p)))
  let hold (p : Plane) : Bool := bit v (planeNum p) && !refused p
  let s1 := (s.when (decide (16 ≤ fld v 15 8)) fun s => s.setRf R.AON_PSUP_CTL 15 8 (fld v 15 8)).setRf R.AON_PSUP_CTL 3 2 (fld v 3 2)
  let s2 := (s1.setRb R.AON_PSUP_CTL 0 (hold .a)).setRb R.AON_PSUP_CTL 1 (hold .b)
  let set_ (s : State) (p : Plane) : State := if hold p && !was p && s.present p then s.planeLost p .held none else s
  let s3 := (set_ (set_ s2 .a) .b).holdRule
  ((s3.tryRejoin .a).tryRejoin .b, refused .a || refused .b)

/-- A write of AON_BYP_CTL (R91). -/
def State.bypWrite (s : State) (v : Word) : State := (s.setRf R.AON_BYP_CTL 3 0 (fld v 3 0)).bypass

/-- The condition of a pair's check: state, both ports in RING mode, links up (R479). -/
def State.joinMay (s : State) (p : Plane) (side : Bool) : Bool :=
  let i := if side then 2 else 0
  (s.pl p).joins && s.portMode p i == 1 && s.portMode p (i + 1) == 1 && s.linkUp p i && s.linkUp p (i + 1)

/-- What follows the first octet of a loop probe and a join notice, laid out as a wrap notice with the port they leave by (R147, R479). Log 162. -/
def State.joinTail (s : State) (side : Bool) : List Byte :=
  toBE 1 (eastPort side.toNat).val ++ toBE 2 0 ++ toBE 4 (s.reg R.AON_DEVNUM).toNat

/-- LOOP_PROBE_SEND (R479). -/
def State.loopProbe (s : State) (p : Plane) (side : Bool) : State :=
  let k := pinOf p side
  let j := (s.pl p).joinS side
  if !s.joinMay p side || !(s.joinSt k == 0 || (s.joinSt k == 1 && decide (j.sent < 4))) then s
  else
    let n := if s.joinSt k = 0 then 1 else j.sent + 1
    let s1 := (s.setJoinSt k 1).modJoin p side fun _ => ⟨n, 0⟩
    let (h, s2) := s1.notice p (toBE 1 3 ++ s.joinTail side)
    s2.sendOwn p side.toNat h false

/-- A check fails (R480). -/
def State.joinFails (s : State) (p : Plane) (side confirm : Bool) : State :=
  let k := pinOf p side
  let s1 := ((s.setJoinSt k 4).setRb R.AON_JOIN_STATUS (15 - k) true).bypass
  (s1.raiseP p 155).record 0x0B (srcOf p) [BitVec.ofNat 8 (planeNum p), BitVec.ofNat 8 side.toNat, BitVec.ofNat 8 confirm.toNat]

/-- JOIN_LOCAL_PASS: the pin opens (R479). -/
def State.joinLocal (s : State) (p : Plane) (side : Bool) : State :=
  let k := pinOf p side
  if s.joinSt k = 1 ∧ ((s.pl p).joinS side).sent = 4 then
    let s1 := if s.devValid then s.setJoinSt k 2 else (s.setJoinSt k 3).setRb R.AON_JOIN_STATUS (15 - k) false
    s1.bypass
  else s

/-- JOIN_LOCAL_TIMEOUT (R479, R480). -/
def State.joinLocalOut (s : State) (p : Plane) (side : Bool) : State :=
  if s.joinSt (pinOf p side) = 1 then s.joinFails p side false else s

/-- JOIN_NOTICE_SEND (R479). -/
def State.joinNotice (s : State) (p : Plane) (side : Bool) : State :=
  if s.joinSt (pinOf p side) = 2 ∧ ((s.pl p).joinS side).notices < 3 then
    let s1 := s.modJoin p side fun j => { j with notices := j.notices + 1 }
    let (h, s2) := s1.notice p (toBE 1 4 ++ s.joinTail side)
    s2.sendOwn p side.toNat h false
  else s

/-- JOIN_NOTICE_RETURN (R479). -/
def State.joinReturns (s : State) (p : Plane) (side : Bool) : State :=
  let k := pinOf p side
  if s.joinSt k = 2 ∧ 0 < ((s.pl p).joinS side).notices then (s.setJoinSt k 3).setRb R.AON_JOIN_STATUS (15 - k) false else s

/-- JOIN_CONFIRM_TIMEOUT (R480). -/
def State.joinConfirmOut (s : State) (p : Plane) (side : Bool) : State :=
  if s.joinSt (pinOf p side) = 2 ∧ ((s.pl p).joinS side).notices = 3 then s.joinFails p side true else s

/-- JOIN_RETRY (R480). -/
def State.joinAgain (s : State) (p : Plane) (side : Bool) : State :=
  if s.joinSt (pinOf p side) = 4 then (s.setJoinSt (pinOf p side) 0).modJoin p side fun _ => ⟨0, 0⟩ else s

/-- A pair whose ports leave RING mode, or whose link goes down in the local phase, starts its check again (R480). -/
def State.joinRecheck (s : State) (p : Plane) : State :=
  let one (s : State) (side : Bool) : State :=
    let k := pinOf p side
    let i := if side then 2 else 0
    let ring := s.portMode p i == 1 && s.portMode p (i + 1) == 1
    if s.joinSt k != 0 && (!ring || (s.joinSt k == 1 && !s.joinMay p side)) then
      (s.setJoinSt k 0).modJoin p side fun _ => ⟨0, 0⟩
    else s
  (one (one s false) true).bypass

/-- A power-mode record (R485). -/
def State.pwrRecord (s : State) : State :=
  s.record 0x0C 0 [BitVec.ofNat 8 s.pwrMode, BitVec.ofNat 8 (s.rf R.AON_PWR_STATUS 23 20)]

/-- The canvas generator of the lead plane gives boundaries. -/
def State.canvasLive (s : State) (p : Plane) : Bool := ((s.pl p).egS (s.canvasEg p)).live

/-- IDLE is entered (R481). -/
def State.idleEnter (s : State) : State :=
  if s.rf R.AON_PWR_CTL 31 30 = 1 ∧ s.pwrMode = 0 then
    ((s.setRf R.AON_PWR_STATUS 31 30 1).pwrRecord).each bothPlanes fun s p => s.skipInsts p fun _ => true
  else s

/-- REQ = IDLE (R481). -/
def State.reqIdle (s : State) : State :=
  if !s.pinOn then s
  else
    let s1 := s.setRf R.AON_PWR_CTL 31 30 1
    if bothPlanes.any fun p => s.present p && s.canvasLive p then s1 else s1.idleEnter

/-- REQ = RUN (R481): instances open again from the third boundary, the first that lies 2 epochs after the request. -/
def State.reqRun (s : State) : State :=
  let s1 := s.setRf R.AON_PWR_CTL 31 30 0
  if s.pwrMode = 1 then
    let s2 := (s1.setRf R.AON_PWR_STATUS 31 30 0).pwrRecord
    let s3 := s2.each bothPlanes fun s p => s.modPl p fun x => { x with noOpen := if s.canvasLive p then 3 else 0 }
    (s3.tryRejoin .a).tryRejoin .b
  else s1

/-- The groups of 256 records completed and not mirrored, of which the last 16 still stand in the ring (R486). -/
def State.frGroups (s : State) : List Nat := (List.range (s.frDone / 256)).filter fun g => decide (s.frSent ≤ g) && decide (s.frDone < 256 * g + 4097)

/-- The sector sequence of a mirror sector, if it holds a group (R486). -/
def State.mirrorSeq (s : State) (p : Plane) (k : Nat) : Option Nat :=
  let r := s.flashOcts p (0x00F00000 + 4096 * k) 16
  if octs r 6 1 = 0 then some (octs r 12 4) else none

/-- The sector with the highest sequence, by serial arithmetic. -/
def State.mirrorLast (s : State) (p : Plane) : Option (Nat × Nat) :=
  (List.range 256).foldl (fun (b : Option (Nat × Nat)) k => match s.mirrorSeq p k, b with
    | some q, some (k', q') => if 0 < serial 32 q q' then some (k, q) else some (k', q')
    | some q, none => some (k, q)
    | none, b => b) none

/-- The lead plane copies completed groups to its flash's mirror (R486). -/
def State.frMirror (s : State) : State :=
  if !s.anyActive then s
  else
    let p := s.lead
    let one (s : State) (g : Nat) : State :=
      let (k, q) := match s.mirrorLast p with | some (k, q) => ((k + 1) % 256, (q + 1) % 2 ^ 32) | none => (0, 0)
      let recs := (List.range 255).flatMap fun i => toBE 16 (Tab.get (0 : BitVec 128) ((256 * g + i + 1) % 4096) s.fr).toNat
      (s.flashWrite p (0x00F00000 + 4096 * k) (s.frRec 0 (srcOf p) (toBE 4 q) ++ recs)).1
    { s.each s.frGroups one with frSent := s.frDone / 256 }

/-- A wake source is enabled (R481, R483). -/
def State.wakeEnabled (s : State) : Bool :=
  s.rf R.AON_WAKE_CFG 31 30 != 0 || ([0, 1, 2, 3].any fun i => s.rb (R.AON_SLWAKE_CFG i) 31) || [0, 1].any fun i => s.rb (R.AON_CANWAKE_CFG i) 31

/-- REQ = STANDBY (R481, R482). -/
def State.reqStandby (s : State) : State :=
  if s.pwrMode = 2 then s
  else if !s.wakeEnabled then s.setRb R.AON_PWR_STATUS 29 true
  else
    let s1 := { s.setRf R.AON_PWR_CTL 31 30 2 with snfAon := s.snf }
    let s2 := ((s1.setRf R.AON_PWR_STATUS 31 30 2).pwrRecord).frMirror
    { s2.allDown with pinPow := false }

/-- A wake source acts (R483). -/
def State.wake (s : State) (src : Nat) : State :=
  if s.pwrMode ≠ 2 ∨ !s.aonOn then s
  else
    let s1 := (((s.setRf R.AON_PWR_STATUS 31 30 0).setRf R.AON_PWR_STATUS 23 20 src).setRf R.AON_PWR_CTL 31 30 0).pwrRecord
    (s1.raise 7).pinRule

/-- A write of AON_PWR_CTL by its REQ (R481, R491). Log 151. -/
def State.pwrWrite (s : State) (v : Word) : State :=
  if fld v 31 30 = 0 then s.reqRun else if fld v 31 30 = 1 then s.reqIdle else if fld v 31 30 = 2 then s.reqStandby else s

/-- A write of AON_FR_CTL (R485, R486). -/
def State.frCtl (s : State) (v : Word) : State :=
  (s.setRb R.AON_FR_CTL 31 (bit v 31)).when (bit v 30) State.frMirror

/-- A write of AON_FR_MARK (R485). -/
def State.frMark (s : State) (v : Word) : State := s.record 0x0F 0 (toBE 4 v.toNat)

end Sys2Proof.Machine
end

