-- ==== Sys2Proof/Machine/Balls.lean ====
section
/-!
DEFINITION. The states of the balls (R502, R503): which column of its table holds, each ball's state in it, and EXTEST, under which the
boundary register drives them (R513).
-/
namespace Sys2Proof.Machine

/-- The signal balls in the groups of R502, with their index. -/
inductive Ball where
  | slTxd (n : Fin 32)
  | slRxd (n : Fin 32)
  | slRts (n : Fin 32)
  | slCts (n : Fin 32)
  | canTxd (n : Fin 8)
  | canRxd (n : Fin 8)
  | po (n : Fin 16)
  | lo (n : Fin 2)
  | ci (n : Fin 8)
  | li (n : Fin 2)
  | gpio (n : Fin 32)
  | perstN
  | clkreqN
  | irq (n : Fin 4)
  | qsClk (p : Plane)
  | qsCsN (p : Plane)
  | qsIo (p : Plane) (k : Fin 4)
  | qsRstN (p : Plane)
  | tckTrstN
  | tmsTdi
  | tdo
  | byp (k : Fin 4)
  | resetN
  | wakeN
  | strap (k : Fin 4)
  | serdes (p : Plane) (port : Fin 4)
  | refclk (p : Plane)
  | pcie
deriving DecidableEq, Repr

/-- What a ball does: nothing, a weak pull to a level without or with its input in use, an input without a pull, a driven level, an open
drain let go, a differential pair's transmitter idle with its receiver terminated or not, what its block transmits. -/
inductive BallState where
  | hiZ
  | pull (up : Bool)
  | input (up : Bool)
  | inputBare
  | drive (level : Bool)
  | released
  | idle (terminated : Bool)
  | busy
deriving DecidableEq, Repr

/-- The column of R502 that holds. -/
def State.ballPhase (s : State) : BallPhase :=
  if !s.aonOn then .unpowered else if s.pwrMode = 2 then .standby else if !s.pinOn then .inReset else .running

/-- A ball's state before its block decides it: the columns Unpowered, In reset and Standby (R502). -/
def ballRest (ph : BallPhase) : Ball → BallState
  | .slTxd _ | .slRxd _ | .canTxd _ | .canRxd _ => if ph = .unpowered then .hiZ else .pull true
  | .slRts _ | .slCts _ | .po _ | .lo _ | .ci _ | .li _ | .gpio _ => if ph = .unpowered then .hiZ else .pull false
  | .perstN => if ph = .unpowered then .hiZ else if ph = .standby then .pull true else .input true
  | .clkreqN => if ph = .unpowered then .hiZ else .released
  | .irq _ => .hiZ
  | .qsClk _ => if ph = .unpowered then .hiZ else .pull false
  | .qsCsN _ | .qsIo _ _ => if ph = .unpowered then .hiZ else .pull true
  | .qsRstN _ => if ph = .unpowered then .hiZ else if ph = .standby then .pull false else .drive false
  | .tckTrstN => if ph = .unpowered then .hiZ else .pull false
  | .tmsTdi => if ph = .unpowered then .hiZ else .pull true
  | .tdo => .hiZ
  | .byp _ => if ph = .unpowered then .hiZ else .drive false
  | .resetN | .wakeN => if ph = .unpowered then .hiZ else .input true
  | .strap _ => if ph = .unpowered then .hiZ else .input false
  | .serdes _ _ | .refclk _ => .hiZ
  | .pcie => if ph = .inReset then .idle false else .hiZ

/-- A ball's state while PIN runs (R90, R320, R350, R450, R502, R519): that of the column Disabled until its block is enabled, then what the
block drives, `busy` where it is transmitting. Log 152. -/
def State.ballRun (s : State) : Ball → BallState
  | .slTxd n => if s.slEn n.val then .busy else .drive (!s.rb (R.SL_MODE n.val) 15)
  | .slRxd _ => .input true
  | .slRts n => .drive ((s.slS n.val).rts != s.rb (R.SL_MODE n.val) 13)
  | .slCts _ => .input false
  | .canTxd n => if s.canEn n.val then .busy else .drive true
  | .canRxd _ => .input true
  | .po n => .drive (s.pulseLevel n.val (s.rb (R.PO_STATUS n.val) 30))
  | .lo n => if (s.lo.getD n.val none).isSome then .busy else .drive (s.ltcRest n.val)
  | .ci _ | .li _ => .input false
  | .gpio n =>
    if bit (s.reg R.GPIO_OE) n.val then .drive (bit (s.reg R.GPIO_OUT) n.val)
    else if bit (s.reg R.GPIO_PULL) n.val then .input false else .inputBare
  | .perstN => .input true
  | .clkreqN => if s.rb R.AON_STRAP 2 then .released else .drive false
  | .irq n => .drive (s.irqOn n.val == s.rb R.EV_IRQ_CTL n.val)
  | .qsClk _ => .drive false
  | .qsCsN _ => .drive true
  | .qsIo _ _ => .input true
  | .qsRstN p => .drive (s.qsUp.contains p)
  | .byp k => .drive (s.bypOpen k.val)
  | .serdes p i => if !s.present p then .hiZ else if s.portMode p i.val = 0 then .idle true else .busy
  | .refclk p => if s.present p then .input true else .hiZ
  | .pcie => if s.rb R.AON_STRAP 2 then .idle false else .busy
  | b => ballRest .inReset b

/-- The balls of the boundary register in scan order: row by row from row A, in ascending columns (R493, R495, R496, R513). -/
def scanBalls : List Ball :=
  let row (l m r : List Ball) : List Ball := l ++ m ++ r
  let low (f : Fin 32 → Ball) : List Ball := ((List.finRange 32).take 16).map f
  let high (f : Fin 32 → Ball) : List Ball := ((List.finRange 32).drop 16).map f
  row [.ci 0, .ci 1] (low .slTxd) [.canTxd 0, .canTxd 1, .canTxd 2, .canTxd 3] ++
    row [.ci 2, .ci 3] (low .slRxd) [.canRxd 0, .canRxd 1, .canRxd 2, .canRxd 3] ++
    row [.ci 4, .ci 5] (low .slRts) [.po 0, .po 1, .po 2, .po 3] ++
    row [.ci 6, .ci 7] (low .slCts) [.po 4, .po 5, .po 6, .po 7] ++
    low .gpio ++
    (bothPlanes.flatMap fun p => [.qsClk p, .qsCsN p, .qsIo p 0, .qsIo p 1, .qsIo p 2, .qsIo p 3, .qsRstN p]) ++
    [.resetN, .wakeN, .strap 0, .strap 1, .strap 2, .strap 3, .byp 0, .byp 1, .byp 2, .byp 3] ++
    [.perstN, .clkreqN] ++
    high .gpio ++
    row [.irq 2, .irq 3] (high .slCts) [.po 12, .po 13, .po 14, .po 15] ++
    row [.irq 0, .irq 1] (high .slRts) [.po 8, .po 9, .po 10, .po 11] ++
    row [.lo 0, .lo 1] (high .slRxd) [.canRxd 4, .canRxd 5, .canRxd 6, .canRxd 7] ++
    row [.li 0, .li 1] (high .slTxd) [.canTxd 4, .canTxd 5, .canTxd 6, .canTxd 7]

/-- A ball's state by its block and the column that holds (R502). -/
def State.ballOwn (s : State) (b : Ball) : BallState := if s.ballPhase = .running then s.ballRun b else ballRest s.ballPhase b

/-- EXTEST has the balls of the boundary register (R489, R513). -/
def State.extestOn (s : State) : Bool := s.jtagIr == 0x00 && s.aonOn

/-- A ball without what drives it: its weak pull stays (R502). -/
def BallState.undriven : BallState → BallState
  | .drive _ => .hiZ
  | .busy => .hiZ
  | .released => .hiZ
  | b => b

/-- A ball's state: under EXTEST its output cell drives it where its output-enable cell is 1 (R502, R513). -/
def State.ball (s : State) (b : Ball) : BallState :=
  let i := scanBalls.idxOf b
  if s.extestOn && decide (i < scanBalls.length) then
    if s.jtagCells.getD (3 * i + 2) false then .drive (s.jtagCells.getD (3 * i + 1) false) else (s.ballOwn b).undriven
  else s.ballOwn b

/-- What the boundary register drives the balls to (R513). -/
def State.extLevels (s : State) : List (Option Bool) :=
  if s.extestOn then
    (List.range scanBalls.length).map fun i =>
      if s.jtagCells.getD (3 * i + 2) false then some (s.jtagCells.getD (3 * i + 1) false) else none
  else []

/-- The level an interrupt pin is driven to, while it is driven. -/
def State.irqLevel (s : State) (p : Fin 4) : Option Bool := match s.ball (.irq p) with | .drive b => some b | _ => none

/-- What a change from `s` to `t` shows at the balls: another column of R502, other levels under EXTEST, other levels of the interrupt pins
(R450, R513). -/
def State.ballsMove (s t : State) : State :=
  let u0 := if s.ballPhase = t.ballPhase then t else t.emit (.balls t.ballPhase)
  let u := if s.jtagIr = t.jtagIr && s.jtagCells == t.jtagCells && s.aonOn == t.aonOn then u0
    else if s.extLevels = t.extLevels then u0 else u0.emit (.extest t.extLevels)
  u.each (List.finRange 4) fun u p => match t.irqLevel p with
    | some b => if s.irqLevel p = some b then u else u.emit (.irq p.val b)
    | none => u

end Sys2Proof.Machine
end

