-- ==== Sys2Proof/Machine/Register.lean ====
section
/-!
DEFINITION. Writes of any register of BAR0, the host queues' and event registers among them (R6-R16, R420, R450, R453), the
doorbells, and the checks of a host access.
-/
namespace Sys2Proof.Machine

/-- The host port works: PIN out of reset and STRAP_PCIE_OFF = 0 (R471, R473). -/
def State.hostOn (s : State) : Bool := s.pinOn && !s.rb R.AON_STRAP 2

/-- The requester can make an access at all. -/
def State.reqOn (s : State) : Req → Bool
  | .host => s.hostOn
  | .coreA => s.present .a
  | .coreB => s.present .b

/-- A write of HQ_CTL (R420, R421). -/
def State.hqCtl (s : State) (row : RegRow) (q : Nat) (v : Word) : State :=
  let en := s.rb (R.HQ_CTL q) 31
  let old := s.reg (R.HQ_CTL q)
  let v1 := if en then setFld (setFld v 27 24 (fld old 27 24)) 19 16 (fld old 19 16) else v
  let s1 := s.put row (R.HQ_CTL q) v1 0
  if !en && bit v 31 then
    (s1.setReg (R.HQ_STATUS q) 0).modHq q fun h => { h with tail := 0, head := 0, phase := true, wfail := false }
  else s1

/-- A host queue's ring base register (R421). -/
def isHqBase (off : Nat) : Bool :=
  [0, 1, 2, 3].any fun q => off == R.HQ_SQ_BASE_LO q || off == R.HQ_SQ_BASE_HI q || off == R.HQ_RQ_BASE_LO q || off == R.HQ_RQ_BASE_HI q

/-- A 32-bit aligned write of BAR0 (R8-R16, R18). -/
def State.writeAll (s : State) (r : Req) (off : Nat) (v : Word) : State :=
  match rowOf off with
  | none => s.writeReg r off v
  | some row =>
    let i := row.ix1 off
    if 0x200000 ≤ off then s.writeReg r off v
    else if off = R.HQ_CTL i ∧ i < 4 then s.hqCtl row i v
    else if isHqBase off && s.rb (R.HQ_CTL i) 31 then s
    else if (off = R.EV_STATUS i ∨ off = R.EV_MASK i) ∧ i < 8 then (s.put row off v 0).settle 0 true
    else if off = R.EV_ROUTE i ∧ i < 256 then (s.put row off v 0).settle s.activeVecs false
    else if off = R.AON_PSUP_CTL then (s.psupWrite v).1
    else if off = R.AON_BYP_CTL then s.bypWrite v
    else if off = R.AON_PWR_CTL then s.pwrWrite v
    else if off = R.AON_FR_CTL then s.frCtl v
    else if off = R.AON_FR_MARK then s.frMark v
    else s.writeReg r off v

/-- Hardware sets bits of a W1C register: an event's status bit is a raise of it, whose message the write that falls in the same
cycle requests (R12, R451, R457). -/
def State.hwSet (s : State) (row : RegRow) (off : Nat) (hw : Word) : State :=
  let i := (off - R.EV_STATUS 0) / 4
  if R.EV_STATUS 0 ≤ off ∧ off = R.EV_STATUS i ∧ i < 8 then
    s.each ((List.range 32).filter fun j => bit hw j) fun s j => (s.markEvent (32 * i + j)).eventSentence (32 * i + j)
  else s.setReg off (s.reg off ||| (hw &&& BitVec.ofNat 32 row.w1c))

/-- A write of a register with W1C bits, of which hardware sets `hw` in the same cycle: those stay set (R12, R457). -/
def State.w1cWrite (s : State) (r : Req) (off : Nat) (v hw : Word) : State :=
  match rowOf off with
  | some row => if s.there off then (s.hwSet row off hw).writeAll r off (v &&& ~~~(hw &&& BitVec.ofNat 32 row.w1c)) else s.writeAll r off v
  | none => s.writeAll r off v

/-- What a read of an RS field leaves when hardware sets `hw` of the field in the same cycle (R12). -/
def State.rsSet (s : State) (off : Nat) (hw : Word) : State :=
  match rowOf off with
  | some row => if hw = 0 ∨ s.there off = false then s else s.setReg off (s.reg off ||| (hw &&& BitVec.ofNat 32 row.rs))
  | none => s

/-- A register access of a requester: where the host port is down or the control core absent, none is made; one that is not a naturally
aligned 32-bit access is refused (R6). -/
def State.access (s : State) (r : Req) (off size : Nat) (write : Bool) (f : State → State) : State :=
  if !s.reqOn r then s
  else if r = .host ∧ (size ≠ 4 ∨ off % 4 ≠ 0) then (s.emit (.abort 0 off)).accErr 0 off 1 write
  else f s

/-- A register write (R6-R16). -/
def State.regWrite (s : State) (r : Req) (off size : Nat) (v : Word) : State :=
  s.access r off size true fun s => s.writeAll r off v

/-- A register read, of any register but BRG_WIN_FENCE; the value goes out. `hw` is what hardware sets of an RS field in the same
cycle (R6-R10, R12). -/
def State.regRead (s : State) (r : Req) (off size : Nat) (hw : Word) : State :=
  s.access r off size false fun s =>
    let (v, s1) := s.readReg r off
    (s1.rsSet off hw).emit (.read r off v)

/-- SQ_DOORBELL (R419, R420). -/
def State.sqDoorbell (s : State) (q : Nat) (v : Word) : State :=
  let t := fld v 11 0
  if !s.hostOn || !s.rb (R.HQ_CTL q) 31 || s.rb (R.HQ_STATUS q) 31 then s
  else if s.sqSize q ≤ t then s.hqFault q 3 t
  else s.modHq q fun h => { h with tail := t }

/-- RQ_DOORBELL (R419, R420). An index beyond the ring counts modulo its size. Log 71. -/
def State.rqDoorbell (s : State) (q : Nat) (v : Word) : State :=
  if !s.hostOn || !s.rb (R.HQ_CTL q) 31 then s
  else s.modHq q fun h => { h with head := fld v 11 0 % s.rqSize q }

/-- Sends the pending messages of vectors that are unmasked and still active (R450). -/
def State.msixSend (s : State) : State :=
  if !s.msixEn || s.funcMask then s
  else
    let vs := s.pba &&& ~~~s.vecMask
    State.requestAll { s with pba := s.pba &&& ~~~vs } (vs &&& s.activeVecs)

/-- Sets or clears a vector's mask bit (R450). -/
def State.maskVec (s : State) (v : Nat) (on : Bool) : State :=
  let m := BitVec.ofNat 64 (2 ^ v)
  if on then { s with vecMask := s.vecMask ||| m } else State.msixSend { s with vecMask := s.vecMask &&& ~~~m }

/-- A word of the MSI-X table: message address low and high, message data, vector control with the mask bit (R20, R450). -/
def State.msixWord (s : State) (v j : Nat) : Word :=
  if j = 3 then BitVec.ofNat 32 (s.vecMask.getLsbD v).toNat else Tab.get 0 (4 * v + j) s.msixTab

/-- A 32-bit aligned write of BAR4: a doorbell, or a word of the MSI-X table (R20, R419, R450). -/
def State.bar4Write (s : State) (off : Nat) (v : Word) : State :=
  let q := off / 0x100
  let k := (off - 0x8000) / 4
  if off < 0x1000 then
    if 4 ≤ q then s else if off % 0x100 = 0 then s.sqDoorbell q v else if off % 0x100 = 4 then s.rqDoorbell q v else s
  else if 0x8000 ≤ off ∧ off < 0x8400 then
    if k % 4 = 3 then s.maskVec (k / 4) (bit v 0)
    else { s with msixTab := Tab.set 0 k (if k % 4 = 0 then v &&& 0xFFFFFFFC else v) s.msixTab }
  else s

/-- A 32-bit aligned read of BAR4: the MSI-X table, or the pending-bit array; doorbells read 0 (R8, R20, R450). -/
def State.bar4Read (s : State) (off : Nat) : Word :=
  let k := (off - 0x8000) / 4
  if 0x8000 ≤ off ∧ off < 0x8400 then s.msixWord (k / 4) (k % 4)
  else if off = 0xC000 then s.pba.truncate 32
  else if off = 0xC004 then BitVec.ofNat 32 (s.pba.toNat / 2 ^ 32)
  else 0

/-- A host access of BAR4: one that is no naturally aligned 32-bit one does nothing, and no control core makes one. Log 128. -/
def State.bar4 (s : State) (r : Req) (off size : Nat) (f : State → State) : State :=
  if r = .host ∧ s.hostOn ∧ size = 4 ∧ off % 4 = 0 ∧ off < 0x10000 then f s else s

/-- A write of BAR0 or BAR4 (R6-R20). -/
def State.barWrite (s : State) (r : Req) (bar4 : Bool) (off size : Nat) (v : Word) : State :=
  if bar4 then s.bar4 r off size fun s => s.bar4Write off v else s.regWrite r off size v

/-- A read of BAR0 or BAR4 (R6-R20). -/
def State.barRead (s : State) (r : Req) (bar4 : Bool) (off size : Nat) : State :=
  if bar4 then s.bar4 r off size fun s => s.emit (.bar4 off (s.bar4Read off)) else s.regRead r off size 0

end Sys2Proof.Machine
end

