-- ==== Sys2Proof/Machine/Bridge.lean ====
section
/-!
DEFINITION. The remote-window bridge (chapter 12): host and control-core accesses, unit accesses to DEVICE, LOCAL, CANOBJ and
RDMPARAM windows, field maps, order, AtomicOps, FENCE, prefetch, timeouts, and requests served as target.
An access is split into unit accesses that go out one after another from its tracker entry; each far request takes a new
generation of the entry. Log 72.
-/
namespace Sys2Proof.Machine

def State.trkOf (s : State) (p : Plane) (e : Nat) : Option TrkS := Tab.find e (s.pl p).trk

def State.putTrk (s : State) (p : Plane) (e : Nat) (t : TrkS) : State := s.modPl p fun x => { x with trk := Tab.put e t x.trk }

/-- A counter of the bridge, by its place in R411 from BRG_REQ_SENT on. -/
def State.brgCount (s : State) (p : Plane) (i : Nat) : State := s.count (R.BRG_COUNTERS p i)

/-- The requester of an access. -/
def accReq (p : Plane) (core : Option Cmd) : Req :=
  if core.isNone then .host else match p with | .a => .coreA | .b => .coreB

/-- TYPE as a window is served: 0 DEVICE, 1 CANOBJ, 2 RDMPARAM, 3 LOCAL, which a DEVICE window of this device's own number is
(R381). -/
def State.winType (s : State) (p : Plane) (n : Nat) : Nat :=
  let c := s.reg (R.BRG_WIN_CFG p n)
  if fld c 30 28 = 0 ∧ s.devValid ∧ fld c 9 0 = s.devnum then 3 else fld c 30 28

/-- TARGET of a window (R414). -/
def State.winTarget (s : State) (p : Plane) (n : Nat) : Nat := s.rf (R.BRG_WIN_CFG p n) 9 0

/-- The window reaches registers. -/
def State.winRegs (s : State) (p : Plane) (n : Nat) : Bool := s.winType p n == 0 || s.winType p n == 3

def State.winMapped (s : State) (p : Plane) (n : Nat) : Bool := s.rb (R.BRG_WIN_CFG p n) 24

/-- The field-map entry of a host word: none where the word reaches no unit (R389). -/
def State.mapEntry (s : State) (p : Plane) (n o : Nat) : Option Nat :=
  let m := s.reg (R.BRG_WIN_MAP p n)
  if o / 4 < fld m 14 0 then
    let e := (Tab.get (0 : BitVec 128) (fld m 31 18 + o / 4) (s.pl p).maps).toNat
    if nfld e 127 127 = 1 then some e else none
  else none

/-- The window offset that names the far unit of host offset `o` as a plain access would (R389). -/
def State.plainOf (s : State) (p : Plane) (n o : Nat) : Option Nat :=
  if s.winMapped p n then (s.mapEntry p n o).map fun e => nfld e 125 100 else some o

/-- The far BAR0 offset of a plain window offset (R381). -/
def State.farReg (s : State) (p : Plane) (n f : Nat) : Nat := s.rf (R.BRG_WIN_TGT0 p n) 23 2 * 4 + f / 4 * 4

/-- FORM, PID and octet offset of a RDMPARAM offset (R381). -/
def rdmForm (f : Nat) : Nat := nfld f 25 24
def rdmPid (f : Nat) : Nat := nfld f 23 8
def rdmB (f : Nat) : Nat := nfld f 7 0

/-- The offset reaches a unit (R381). -/
def State.reaches (s : State) (p : Plane) (n f : Nat) : Bool :=
  if s.winRegs p n then decide (s.farReg p n f < 2 ^ 24) else if s.winType p n = 2 then decide (rdmForm f < 2) else true

/-- The UID of a RDMPARAM window (R413). -/
def State.winUid (s : State) (p : Plane) (n : Nat) : List Byte :=
  toBE 2 (s.rf (R.BRG_WIN_TGT0 p n) 15 0) ++ toBE 4 (s.reg (R.BRG_WIN_TGT1 p n)).toNat

/-- A broadcast UID (R395). -/
def State.winBroadcast (s : State) (p : Plane) (n : Nat) : Bool := (s.winUid p n).drop 2 == [255, 255, 255, 255]

/-- BRG_RDM_UID (R411). -/
def State.rdmUid (s : State) (p : Plane) : List Byte :=
  toBE 2 (s.rf (R.BRG_RDM_UID_HI p) 15 0) ++ toBE 4 (s.reg (R.BRG_RDM_UID_LO p)).toNat

/-- Joins host lanes and unit octets, word by word (R388); it is its own inverse. -/
def swapLanes (swap : Bool) : Nat → List Byte → List Byte
  | 0, os => os
  | n + 1, os => if os.isEmpty then [] else (if swap then (slice os 0 4).reverse else slice os 0 4) ++ swapLanes swap n (os.drop 4)

/-- Host lanes of far octets, or far octets of host lanes, of a plain access (R388). -/
def State.lanes (s : State) (p : Plane) (n : Nat) (os : List Byte) : List Byte :=
  swapLanes (!s.winRegs p n && s.rb (R.BRG_WIN_CFG p n) 27) 64 os

/-- The host word of a mapped far unit (R390). -/
def mapRead (t : Tables) (m : Nat) (far : List Byte) : List Byte :=
  let w := nfld m 88 84 + 1
  let pr := t.prof (nfld m 70 59)
  let x := extractBits (fun i => far.getD i 0) (nfld m 99 89) w (nfld m 82 82 == 1)
  let v := (profOut pr (profMid t pr (profIn pr x w (nfld m 83 83 == 1))).1 (nfld m 76 72 + 1) (nfld m 71 71 == 1) 0 0).1
  toLE 4 (v * 2 ^ nfld m 81 77)

/-- The far unit after a mapped write of a host word; none when the far field reaches beyond the unit's octets (R391, R395). -/
def mapWrite (t : Tables) (m : Nat) (far host : List Byte) : Option (List Byte) :=
  let hw := nfld m 76 72 + 1
  let pr := t.prof (nfld m 58 47)
  let x := leNat host / 2 ^ nfld m 81 77 % 2 ^ hw
  let w := nfld m 88 84 + 1
  let v := (profOut pr (profMid t pr (profIn pr x hw (nfld m 71 71 == 1))).1 w (nfld m 83 83 == 1) 0 0).1
  let os := fieldOctets (fun i => far.getD i 0) (nfld m 99 89) w (nfld m 82 82 == 1) v
  if os.all fun e => decide (e.1 < far.length) then some (os.foldl (fun f e => f.set e.1 e.2) far) else none

/-- The far field fills its unit (R391). -/
def mapFills (m : Nat) : Bool := nfld m 99 89 == 0 && nfld m 88 84 == 31

/-- Octets of the host view of the unit at the access's offset (R383): 8 for a naturally aligned span of a plain DEVICE or LOCAL
access and for a 64-bit operand, the block of the parameter for a RDMPARAM read that prefetches, else 4. -/
def State.unitLen (s : State) (p : Plane) (t : TrkS) : Nat :=
  let plain := !s.winMapped p t.win
  match t.kind with
  | .read | .write =>
    if plain && s.winRegs p t.win then
      if t.off % 8 = 0 ∧ s.farReg p t.win t.off % 8 = 0 ∧ t.off + 8 ≤ t.stop then 8 else 4
    else if plain && s.winType p t.win == 2 && s.rb (R.BRG_WIN_CFG p t.win) 26 && decide (t.kind = .read) then
      min t.stop (t.off / 256 * 256 + 256) - t.off
    else 4
  | _ => t.asked.2

/-- Takes the access out of its tracker entry; its semaphore frees (R397, R400). -/
def State.dropTrk (s : State) (p : Plane) (e : Nat) (t : TrkS) : State :=
  s.modPl p fun x =>
    let y := x.modWin t.win fun w => { w with sem := if w.sem = some e then none else w.sem }
    { y with trk := Tab.erase e y.trk }

/-- A record of the posted-error log (R402). -/
def State.postedLog (s : State) (p : Plane) (n req code detail off : Nat) (host : List Byte) : State :=
  s.brgLog p false (toBE 1 (req * 64 + n) ++ toBE 1 code ++ toBE 2 detail ++ toBE 4 off ++ toBE 4 (leNat (slice host 0 4)) ++ s.when32)

/-- A window's first failure since VALID was cleared, and the count of failures (R397, R413, R415). -/
def State.winErr (s : State) (p : Plane) (n code detail off : Nat) : State :=
  let s1 := s.count (R.BRG_WIN_ERR_CNT p n)
  if s.rb (R.BRG_WIN_ERR p n) 31 then s1
  else
    ((s1.setReg (R.BRG_WIN_ERR p n)
        (pack [(1, 31), ((s.rb (R.BRG_WIN_ERR p n) 30).toNat, 30), (code, 24), (detail % 2 ^ 16, 0)])).setReg
      (R.BRG_WIN_ERR_ADDR p n) (BitVec.ofNat 32 off)).raise 96

/-- A host access refused or failed with Completer Abort (R383, R397). -/
def State.hostAbort (s : State) (p : Plane) (n code detail bar2 off : Nat) : State :=
  ((s.emit (.abort 2 bar2)).brgCount p 4).winErr p n code detail off

/-- A posted write has ended, failed with `code` or not (R403): FENCE reads that await it learn of it; otherwise the window
counts it. -/
def State.postedEnd (s : State) (p : Plane) (n ord : Nat) (code : Option Nat) : State :=
  let hit (f : FenceS) : Bool := f.win == n && f.waits.contains ord
  let told (f : FenceS) : FenceS := { f with waits := f.waits.filter fun o => o != ord }
  let add (f : FenceS) : FenceS :=
    match code with
    | some c => { f with failed := f.failed + 1, first := if f.failed = 0 then c else f.first }
    | none => f
  let rec upd : Bool → List FenceS → List FenceS
    | _, [] => []
    | first, f :: fs => if hit f then (if first then told (add f) else told f) :: upd false fs else f :: upd first fs
  let covered := (s.pl p).fences.any hit
  s.modPl p fun x =>
    let y := { x with fences := upd true x.fences }
    match covered, code with
    | false, some c => y.modWin n fun w => { w with failed := w.failed + 1, first := if w.failed = 0 then c else w.first }
    | _, _ => y

/-- FENCE reads on plane `p` that a new read of window `n` must wait for: posted writes accepted and not ended (R403). -/
def State.fenceWaits (s : State) (p : Plane) (n : Nat) : List Nat :=
  (((s.pl p).trk.filter fun e => e.2.win == n && e.2.posted).map fun e => e.2.ord) ++
    (((s.pl p).posted.filter fun w => barWin w.off == n).map PostS.ord)

/-- A read of BRG_WIN_FENCE is held; what failed before is counted in it (R403, R404). -/
def State.fenceHold (s : State) (p : Plane) (n : Nat) (r : Req) (core : Option Cmd) (own : Option (Nat × Nat)) (got : List Byte) :
    State :=
  let w := (s.pl p).winS n
  let f : FenceS := { req := r, win := n, core := core, waits := s.fenceWaits p n, failed := w.failed, first := w.first, own := own, got := got }
  (s.pfDrop p n 4).modPl p fun x =>
    let y := x.modWin n fun w => { w with failed := 0, first := 0 }
    { y with fences := y.fences ++ [f] }

/-- Result octets of a bridge command that failed (R433). -/
def farError (code detail : Nat) : List Byte := toBE 1 code ++ [0] ++ toBE 2 detail

/-- A control core's access has ended (R433, log 73): WIN_READ with its data, WIN_WRITE once its FENCE too has returned. -/
def State.coreEnd (s : State) (p : Plane) (c : Cmd) (n : Nat) (fail : Option (Nat × Nat)) (data : List Byte) : State :=
  if c.op = 0x0804 ∧ (octs c.ps 12 1) % 2 = 1 then s.fenceHold p n (accReq p (some c)) (some c) fail []
  else match fail with
    | some (code, detail) => s.part c p stFarError (farError code detail)
    | none => s.part c p stDone data

/-- The prefetch buffer that a read of registers or objects leaves: units it has not returned; one that has none refills nothing (R404). -/
def State.pfFill (s : State) (p : Plane) (t : TrkS) : State :=
  if !(decide (t.kind = .read) && t.fail.isNone && s.rb (R.BRG_WIN_CFG p t.win) 26 && !s.winMapped p t.win && s.winType p t.win != 2) then s
  else
    let start := t.asked.1 / 4 * 4
    let end4 := (t.asked.1 + t.asked.2 + 3) / 4 * 4
    let data := t.got.drop (end4 - start)
    let b : PfBuf := { off := end4, data := data, read := List.replicate data.length false }
    if data.isEmpty then s else (s.pfDrop p t.win 6).modPl p fun x => x.modWin t.win fun w => { w with pf := some b }

/-- The prefetch buffer that a GET leaves: the whole parameter data (R404). -/
def State.pfParam (s : State) (p : Plane) (t : TrkS) (f : Nat) (far : List Byte) : State :=
  if !(s.rb (R.BRG_WIN_CFG p t.win) 26 && !s.winMapped p t.win && s.winType p t.win == 2) then s
  else
    let off := t.off - rdmB f
    let n := (far.length + 3) / 4 * 4
    let marks := (List.range n).map fun i => decide (t.asked.1 ≤ off + i) && decide (off + i < t.asked.1 + t.asked.2)
    let b : PfBuf := { off := off, data := s.lanes p t.win (slice far 0 n), read := marks }
    if n = 0 then s else (s.pfDrop p t.win 6).modPl p fun x => x.modWin t.win fun w => { w with pf := some b }

/-- An access has ended (R397, R400, R402). -/
def State.endAcc (s : State) (p : Plane) (e : Nat) (t : TrkS) : State :=
  let s1 := (s.dropTrk p e t).pfFill p t
  let bar2 := t.win * 2 ^ 26 + t.asked.1
  let data := if t.kind = .read then slice t.got (t.asked.1 % 4) t.asked.2 else t.got
  if t.posted then
    let s2 := s1.postedEnd p t.win t.ord (t.fail.map fun f => f.1)
    let s3 := s2.when t.fail.isSome fun s => s.count (R.BRG_WIN_ERR_CNT p t.win)
    match t.core with
    | some c => s3.coreEnd p c t.win (t.fail.map fun f => (f.1, f.2.1)) []
    | none => s3
  else match t.core, t.fail with
    | none, none => s1.emit (.bar2 bar2 data)
    | none, some (code, detail, off) => s1.hostAbort p t.win code detail bar2 off
    | some c, none => s1.coreEnd p c t.win none data
    | some c, some (code, detail, off) => (s1.winErr p t.win code detail off).coreEnd p c t.win (some (code, detail)) []

/-- The unit access under way has ended; the next one may begin, or the access ends. -/
def State.unitDone (s : State) (p : Plane) (e : Nat) (t : TrkS) : State :=
  let t1 := { t with off := t.off + t.unit, data := t.data.drop t.unit, be := t.be.drop t.unit, ph := AccPhase.wait, old := [],
                     param := [], tries := 0 }
  if t1.stop ≤ t1.off then s.endAcc p e t1
  else
    (s.modPl p fun x => x.modWin t.win fun w => { w with sem := if w.sem = some e then none else w.sem }).putTrk p e t1

/-- The access's first failure is kept; a posted write is logged at once (R397, R402). -/
def State.noteFail (s : State) (p : Plane) (t : TrkS) (code detail : Nat) : State × TrkS :=
  match t.fail with
  | some _ => (s, t)
  | none =>
    (s.when t.posted fun s => s.postedLog p t.win (reqNum (accReq p t.core)) code detail t.off t.data,
     { t with fail := some (code, detail, t.off) })

/-- The unit access under way has failed (R398). A unit read ahead of what was asked fails no access. Log 74. -/
def State.unitFail (s : State) (p : Plane) (e : Nat) (t : TrkS) (code detail : Nat) : State :=
  if t.kind = .read ∧ t.asked.1 + t.asked.2 ≤ t.off then s.endAcc p e t
  else
    let (s1, t1) := s.noteFail p t code detail
    s1.unitDone p e { t1 with got := t1.got ++ List.replicate t1.unit 0 }

/-- The next generation of a tracker entry (R385). -/
def State.nextGen (s : State) (p : Plane) (e : Nat) : Nat × State :=
  let g := (Tab.get 0 e (s.pl p).gens + 1) % 128
  (g, s.modPl p fun x => { x with gens := Tab.set 0 e g x.gens })

/-- The 32-bit values of register octets, each in network order, and back (R384). -/
def netWords (os : List Byte) : List Byte := swapLanes true 2 os

/-- A TALKER value that Sirux never sends (R29). -/
def reservedTalker (t : Nat) : Bool :=
  (decide (0x32 ≤ t) && decide (t ≤ 0x3F)) || (decide (0x44 ≤ t) && decide (t ≤ 0x7F)) || (decide (0x83 ≤ t) && decide (t ≤ 0xFF)) || t == 0xFFFF

/-- A bridge sentence enters the bridge's buffer toward the ring (R406). -/
def State.bridgeOut (s : State) (p : Plane) (cls : BitVec 3) (payload : List Byte) : State :=
  s.modPl p fun x => { x with brgOut := x.brgOut ++ [(cls, payload)] }

/-- Octets of a bridge sentence's payload (R384). -/
def brgOctets : Nat := 20

/-- The ring's buffers of a class take a further bridge sentence of plane `p` on every lane it goes out on (R386, R406, R463). -/
def State.ringRoom (s : State) (p : Plane) (cls : BitVec 3) : Bool :=
  bothPlanes.all fun q => (decide (q ≠ p) && s.mode != 3) || (List.finRange 4).all fun port : Fin 4 =>
    decide (waiting (s.pl q).txq port.val cls.toNat + max 64 (14 + 32 + brgOctets + 4) ≤ 65536)

/-- A sentence of the bridge (R384, R385). What R384 does not give of the header is free, but a TALKER is never a reserved value
(R29). Logs 27, 78. -/
def State.bridgeSent (s : State) (p : Plane) (cls : Nat) (payload : List Byte) : State :=
  let (w, s1) := s.free32
  let t := w.toNat % 2 ^ 16
  s1.orig p (s.blank cls 4 strBridge (if reservedTalker t then 0x0080 else t) payload)

/-- Sends a bridge request for the unit under way (R384). A device without a number of its own has no requester number to name;
its request is not sent. Log 75. -/
def State.sendReq (s : State) (p : Plane) (e : Nat) (t : TrkS) (write : Bool) (addr : Nat) : State :=
  let (g, s1) := s.nextGen p e
  let plain := t.posted && decide (t.kind = .write)
  let rmw := s.winMapped p t.win && !((s.mapEntry p t.win t.off).elim false mapFills)
  let op := if !write then 1 else if plain && !rmw then 3 else 2
  let tid := planeNum p * 2 ^ 15 + g * 256 + e
  let data := if write then netWords t.old else []
  let payload := toBE 1 op ++ toBE 1 t.unit ++ toBE 2 (s.winTarget p t.win) ++ toBE 2 tid ++ [0, 0] ++ toBE 4 addr ++ slice data 0 8
  let s2 := s1.putTrk p e { t with gen := g, ph := if write then .writing else .reading }
  if s.devValid then (s2.brgCount p 0).bridgeOut p (if op = 3 then 5 else 3) payload else s2

/-- Places a CAN request into the window's object (R392, R393). -/
def State.placeCan (s : State) (p : Plane) (e : Nat) (t : TrkS) (write : Bool) (f : Nat) : State :=
  let n := s.winTarget p t.win % 8
  let m := s.rf (R.BRG_WIN_TGT2 p t.win) 5 0
  let g0 := s.reg (R.BRG_WIN_TGT0 p t.win)
  let o := (s.canS n).obj m
  if !s.canEn n || s.txoSrc n m != 2 then s.unitFail p e t 0xC 0
  else if o.pend.isSome || o.next.isSome then s.putTrk p e { t with ph := if write then .placeWrite else .placeRead }
  else
    let txn := ((s.pl p).winS t.win).txn
    let addr := toBE 3 (nfld f 25 2)
    let fd := bit g0 30
    let word := (bit g0 31).toNat * 2 ^ 31 + fd.toNat * (2 ^ 30 + 2 ^ 29) + fld g0 28 0
    let data := toBE 1 ((if write then 128 else 64) + txn.toNat) ++ addr ++ (if write then slice t.old 0 4 else [0, 0, 0, 0])
    let (s1, ok) := s.canHostFrame n m (toBE 4 word ++ [8, 8, 0, 0] ++ data) (.bridge p e t.ord)
    if !ok then s1.unitFail p e t 0xC 0
    else
      (((s1.modPl p fun x => x.modWin t.win fun w => { w with txn := w.txn + 1 }).putTrk p e
        { t with ph := if write then .writing else .reading, tn := txn.toNat, param := addr }).brgCount p 0)

/-- The octets of an E1.20 request from its start code (R394); the line appends the checksum. -/
def rdmRequest (dst src : List Byte) (tn sub cc pid : Nat) (data : List Byte) : List Byte :=
  [0xCC, 1] ++ toBE 1 (24 + data.length) ++ dst ++ src ++ toBE 1 tn ++ [1, 0] ++ toBE 2 sub ++ toBE 1 cc ++ toBE 2 pid ++
    toBE 1 data.length ++ data

/-- Enqueues an RDM request on the window's line (R394). -/
def State.placeRdm (s : State) (p : Plane) (e : Nat) (t : TrkS) (write : Bool) (f : Nat) : State :=
  let n := s.winTarget p t.win % 32
  let fmt := s.reg (R.SL_TEL_FMT n)
  let data := if write then t.old else []
  if !(s.slEn n && s.slTel n && fld fmt 28 21 == 0xCC && fld fmt 20 17 == 2 && fld fmt 31 30 == 2) then s.unitFail p e t 0xC 0
  else if 231 < data.length then s.unitFail p e t 9 0
  else
    let tn := (s.slS n).rdmTn
    let msg := rdmRequest (s.winUid p t.win) (s.rdmUid p) tn.toNat (s.rf (R.BRG_WIN_TGT0 p t.win) 31 16)
      (if write then 0x30 else 0x20) (rdmPid f) data
    if !(s.slS n).txRoom msg.length then s.putTrk p e { t with ph := if write then .placeWrite else .placeRead }
    else
      let expect := if s.winBroadcast p t.win then 0 else 1
      let hdr := pack [(expect, 30), (1, 29), (s.rf (R.BRG_WIN_TGT2 p t.win) 31 16, 13), (msg.length, 0)]
      let fr : SlFrame := { hdr := hdr, data := msg, owner := .bridge p e t.ord }
      (((s.modSl n fun x => { x with txq := x.txq ++ [fr], rdmTn := x.rdmTn + 1 }).putTrk p e
        { t with ph := if write then .writing else .reading, tn := tn.toNat }).brgCount p 0)

/-- The plane and window of a BRG_WIN_FENCE register. -/
def fenceOff (off : Nat) : Option (Plane × Nat) :=
  match planeOf off, rowOf off with
  | some p, some row => if off = R.BRG_WIN_FENCE p (row.ix1 off) ∧ row.ix1 off < 64 then some (p, row.ix1 off) else none
  | _, _ => none

/-- Why a request at a BAR0 offset is refused: a FENCE register, or the range of an absent plane (R387). -/
def State.farRefused (s : State) (off : Nat) : Option Nat :=
  if (fenceOff off).isSome then some stNotPermitted
  else match planeOf off with
    | some p => if s.present p then none else some stPlaneAbsent
    | none => none

/-- Reads or writes the dwords of a LOCAL unit, lower address first (R381, R387). -/
def State.localRead (s : State) (r : Req) (addr len : Nat) : List Byte × State :=
  let (v, s1) := s.readReg r addr
  if len = 8 then
    let (w, s2) := s1.readReg r (addr + 4)
    (toLE 4 v.toNat ++ toLE 4 w.toNat, s2)
  else (toLE 4 v.toNat, s1)

def State.localWrite (s : State) (r : Req) (addr len : Nat) (os : List Byte) : State :=
  let s1 := s.writeAll r addr (BitVec.ofNat 32 (leNat (slice os 0 4)))
  if len = 8 then s1.writeAll r (addr + 4) (BitVec.ofNat 32 (leNat (slice os 4 4))) else s1

/-- Why a LOCAL unit is refused. -/
def State.localRefused (s : State) (addr len : Nat) : Option Nat :=
  match s.farRefused addr with
  | some c => some c
  | none => if len = 8 then s.farRefused (addr + 4) else none

/-- The same access after a change of the rest of the state: its entry, if the access still holds it. -/
def State.still (s : State) (p : Plane) (e ord : Nat) : Option TrkS :=
  match s.trkOf p e with
  | some t => if t.ord = ord then some t else none
  | none => none

/-- Sends the far write of the unit under way, whose octets stand in `old`. -/
def State.pushWrite (s : State) (p : Plane) (e : Nat) (t : TrkS) (f : Nat) : State :=
  match s.winType p t.win with
  | 0 => s.sendReq p e t true (s.farReg p t.win f)
  | 1 => s.placeCan p e t true f
  | 2 => s.placeRdm p e t true f
  | _ =>
    let a := s.farReg p t.win f
    match s.localRefused a t.unit with
    | some c => s.unitFail p e t 2 c
    | none =>
      let s1 := (s.putTrk p e t).localWrite (accReq p t.core) a t.unit t.old
      match s1.still p e t.ord with
      | some t1 => s1.unitDone p e t1
      | none => s1

/-- The host view of a unit's far octets (R388, R390, R395). -/
def State.hostView (s : State) (p : Plane) (t : TrkS) (f : Nat) (far : List Byte) : List Byte :=
  if s.winMapped p t.win then mapRead (s.pl p).tabs ((s.mapEntry p t.win t.off).getD 0) far
  else if s.winType p t.win = 2 then s.lanes p t.win (slice far (rdmB f) t.unit)
  else s.lanes p t.win far

/-- The far octets that writing `host` leaves of `far`, or the code of the failure (R391, R395). -/
def State.farAfter (s : State) (p : Plane) (t : TrkS) (f : Nat) (far host : List Byte) (be : List Bool) : Except Nat (List Byte) :=
  if s.winMapped p t.win then
    let m := (s.mapEntry p t.win t.off).getD 0
    if nfld m 126 126 = 1 then .error 0xA
    else match mapWrite (s.pl p).tabs m far host with
      | some os => .ok os
      | none => .error 9
  else if s.winType p t.win = 2 then
    let b := rdmB f
    let os := s.lanes p t.win host
    let es := s.lanes p t.win (be.map fun x => if x then 1 else 0)
    let on := (List.range 4).filter fun i => es.getD i 0 == 1
    if on.any fun i => decide (far.length ≤ b + i) then .error 9
    else .ok (on.foldl (fun d i => d.set (b + i) (os.getD i 0)) far)
  else .ok (s.lanes p t.win host)

/-- What an AtomicOp writes over the host view `v` of `w` octets: nothing when a CAS does not compare (R400). -/
def atomicNew (k : AccKind) (v w : Nat) : Option Nat :=
  match k with
  | .fetchAdd x => some ((v + x.toNat) % 256 ^ w)
  | .swap x => some (x.toNat % 256 ^ w)
  | .cas c x => if v = c.toNat % 256 ^ w then some (x.toNat % 256 ^ w) else none
  | _ => none

/-- The far read of the unit under way has answered; a far write that follows it is a transaction of its own, with its own RETRIES
(R396). -/
def State.unitRead (s : State) (p : Plane) (e : Nat) (t : TrkS) (far : List Byte) : State :=
  let f := (s.plainOf p t.win t.off).getD 0
  let push (t : TrkS) (host : List Byte) (be : List Bool) : State :=
    match s.farAfter p t f far host be with
    | .ok os => s.pushWrite p e { t with old := os } f
    | .error c => s.unitFail p e t c 0
  match t.kind with
  | .read => (s.pfParam p t f far).unitDone p e { t with got := t.got ++ s.hostView p t f far }
  | .write => push { t with tries := 0 } (slice t.data 0 4) (t.be.take 4)
  | k =>
    let host := s.hostView p t f far
    let t1 := { t with got := host, tries := 0 }
    match atomicNew k (leNat host) t.unit with
    | some v => push t1 (toLE t.unit v) (List.replicate t.unit true)
    | none => s.unitDone p e t1

/-- Sends the far read of the unit under way. -/
def State.pushRead (s : State) (p : Plane) (e : Nat) (t : TrkS) (f : Nat) : State :=
  match s.winType p t.win with
  | 0 => s.sendReq p e t false (s.farReg p t.win f)
  | 1 => s.placeCan p e t false f
  | 2 => s.placeRdm p e t false f
  | _ =>
    let a := s.farReg p t.win f
    match s.localRefused a t.unit with
    | some c => s.unitFail p e t 2 c
    | none =>
      let (far, s1) := (s.putTrk p e t).localRead (accReq p t.core) a t.unit
      match s1.still p e t.ord with
      | some t1 => s1.unitRead p e t1 far
      | none => s1

/-- The access takes the window's semaphore (R400). -/
def State.takeSem (s : State) (p : Plane) (e : Nat) (t : TrkS) : State :=
  s.modPl p fun x => x.modWin t.win fun w => { w with sem := some e }

/-- The prefetch buffer covers what a read asks for (R404). -/
def pfCovers (b : PfBuf) (off len : Nat) : Bool := decide (b.off ≤ off) && decide (off + len ≤ b.off + b.data.length)

/-- A read that the window's prefetch buffer covers is served from it (R404). -/
def State.pfHit (s : State) (p : Plane) (e : Nat) (t : TrkS) (b : PfBuf) : State :=
  let o := t.asked.1 - b.off
  let marks := b.read.zipIdx.map fun x => x.1 || (decide (o ≤ x.2) && decide (x.2 < o + t.asked.2))
  let data := slice b.data o t.asked.2
  let s1 := ((s.modPl p fun x => x.modWin t.win fun w => { w with pf := some { b with read := marks } }).dropTrk p e t).brgCount p 8
  match t.core with
  | none => s1.emit (.bar2 (t.win * 2 ^ 26 + t.asked.1) data)
  | some c => s1.coreEnd p c t.win none data

/-- An access that ends before any far traffic, with a code (R383). -/
def State.accRefused (s : State) (p : Plane) (e : Nat) (t : TrkS) (code : Nat) : State :=
  let (s1, t1) := s.noteFail p t code 0
  s1.endAcc p e t1

/-- A window with EN = 0 (R383). -/
def State.accDisabled (s : State) (p : Plane) (e : Nat) (t : TrkS) : State :=
  if !t.posted && t.core.isNone then (s.dropTrk p e t).emit (.unsupported 2 (t.win * 2 ^ 26 + t.asked.1))
  else s.accRefused p e t 0xB

/-- A read of a window that prefetches goes on beyond what it asks for (R404). -/
def State.readAhead (s : State) (p : Plane) (t : TrkS) : TrkS :=
  if decide (t.kind = .read) && t.got.isEmpty && s.rb (R.BRG_WIN_CFG p t.win) 26 && !s.winMapped p t.win && s.winType p t.win != 2 then
    { t with stop := max t.stop (min (t.off + s.rf (R.BRG_WIN_TGT2 p t.win) 15 9 * 4) (t.off / 256 * 256 + 256)) }
  else t

/-- A 64-bit AtomicOp on a window that does not take it (R383, R400). -/
def State.badWide (s : State) (p : Plane) (t : TrkS) : Bool :=
  decide (t.kind ≠ .read) && decide (t.kind ≠ .write) && t.asked.2 == 8 && (!s.winRegs p t.win || s.winMapped p t.win)

/-- Begins the unit access at the access's offset; nothing of a write with partial byte enables is sent where the window takes whole dwords
only (R383, R390, R391, R395, R400). -/
def State.startUnit (s : State) (p : Plane) (e : Nat) (t0 : TrkS) : State :=
  let ta := s.readAhead p t0
  let t := { ta with unit := s.unitLen p ta }
  let mapped := s.winMapped p t.win
  let ty := s.winType p t.win
  let bc := ty == 2 && s.winBroadcast p t.win
  let hit := if decide (t.kind = .read) && t.got.isEmpty && s.rb (R.BRG_WIN_CFG p t.win) 26 && !mapped then
      ((s.pl p).winS t.win).pf.filter fun b => pfCovers b t.asked.1 t.asked.2 else none
  if !s.rb (R.BRG_WIN_CFG p t.win) 31 then s.accDisabled p e t
  else if s.badWide p t then s.unitFail p e t 0xD 0
  else if decide (t.kind = .write) && ty != 2 && !t.be.all id then s.accRefused p e t 4
  else match hit, s.plainOf p t.win t.off with
  | some b, _ => s.pfHit p e t b
  | none, none => s.unitFail p e t 3 0
  | none, some f =>
    let noRead := ty == 2 && (rdmForm f != 0 || bc)
    if !s.reaches p t.win f then s.unitFail p e t 3 0
    else match t.kind with
      | .read => if noRead then s.unitFail p e t 3 0 else s.pushRead p e t f
      | .write =>
        let s1 := if t.got.isEmpty then s.pfDrop p t.win 1 else s
        let be := t.be.take t.unit
        if mapped then
          let m := (s.mapEntry p t.win t.off).getD 0
          if nfld m 126 126 = 1 then s1.unitFail p e t 0xA 0
          else if !be.all id then s1.unitFail p e t 4 0
          else if mapFills m && ty != 2 then
            match s1.farAfter p t f [0, 0, 0, 0] (slice t.data 0 4) be with
            | .ok os => s1.pushWrite p e { t with old := os } f
            | .error c => s1.unitFail p e t c 0
          else if noRead then s1.unitFail p e t 3 0
          else (s1.takeSem p e t).pushRead p e t f
        else if ty = 2 then
          if rdmForm f = 1 then
            let os := s.lanes p t.win ((slice t.data 0 4).zipIdx.map fun x => if be.getD x.2 false then x.1 else 0)
            s1.pushWrite p e { t with old := List.replicate (rdmB f) 0 ++ os } f
          else if bc then s1.unitFail p e t 3 0
          else (s1.takeSem p e t).pushRead p e t f
        else if !be.all id then s1.unitFail p e t 4 0
        else s1.pushWrite p e { t with old := s.lanes p t.win (slice t.data 0 t.unit) } f
      | _ =>
        let s1 := s.pfDrop p t.win 2
        if noRead then s1.unitFail p e t 3 0 else (s1.takeSem p e t).pushRead p e t f

/-- Whether the accesses before it let this one begin its next unit: those of its window, with the posted writes that wait in the hold, and
at the lead a host access waits for those that the other plane still has of it (R382, R399-R401, R407, R408, R410). -/
def State.mayStart (s : State) (p : Plane) (e : Nat) (t : TrkS) : Bool :=
  let w := (s.pl p).winS t.win
  let me := reqNum (accReq p t.core)
  let regs := s.winRegs p t.win
  let rest := (s.pl p).trk.filter fun x => x.2.win == t.win && x.1 != e
  let begun (x : TrkS) : Bool := decide (x.ph ≠ .wait)
  let onLast (x : TrkS) : Bool := begun x && decide (x.stop ≤ x.off + x.unit)
  let plain := t.posted && decide (t.kind = .write) && !s.winMapped p t.win
  let lets (x : TrkS) : Bool :=
    if x.posted then regs && plain && onLast x
    else if x.core.isSome == t.core.isSome then regs && decide (x.kind = .read) && decide (t.kind = .read) && onLast x
    else true
  let old := (s.pl (other p)).trk.any fun x => x.2.win == t.win && x.2.core.isNone
  let oldHold := (s.pl (other p)).posted.any fun x => barWin x.off == t.win
  (w.sem.isNone || w.sem == some e) && (w.lock.isNone || w.lock == some me) &&
    !(t.late && s.pendingAt (R.BRG_WIN_STAGE_CTL p t.win)) && (rest.all fun x => decide (t.ord < x.2.ord) || lets x.2) &&
    (regs || rest.all fun x => !begun x.2) && ((s.pl p).posted.all fun x => barWin x.off != t.win || decide (t.ord < x.ord)) &&
    (t.core.isSome || decide (s.lead ≠ p) || !(old || oldHold))

/-- An access of plane `p` that can go on now, oldest first: its entry. -/
def State.nextAcc (s : State) (p : Plane) : Option (Nat × TrkS) :=
  let can (x : Nat × TrkS) : Bool :=
    let t := x.2
    match t.ph with
    | .wait => s.mayStart p x.1 t
    | .placeRead | .placeWrite =>
      if s.winType p t.win = 1 then
        let n := s.winTarget p t.win % 8
        let m := s.rf (R.BRG_WIN_TGT2 p t.win) 5 0
        let o := (s.canS n).obj m
        (o.pend.isNone && o.next.isNone) || !s.canEn n || s.txoSrc n m != 2
      else (s.slS (s.winTarget p t.win % 32)).txRoom (24 + t.old.length)
    | _ => false
  ((s.pl p).trk.filter can).foldl (fun (a : Option (Nat × TrkS)) x => match a with
    | none => some x
    | some y => if x.2.ord < y.2.ord then some x else some y) none

/-- An access goes on. -/
def State.goAcc (s : State) (p : Plane) (e : Nat) (t : TrkS) : State :=
  let f := (s.plainOf p t.win t.off).getD 0
  match t.ph with
  | .placeRead => s.pushRead p e t f
  | .placeWrite => s.pushWrite p e t f
  | _ => s.startUnit p e t

/-- A REG_READ at plane `p` goes on after the octets read so far; a FENCE read with writes to wait for is held (R403, R430). -/
def State.regReadFrom (s : State) (p : Plane) (c : Cmd) : Nat → List Byte → State
  | 0, got => s.part c p stDone got
  | k + 1, got =>
    let off := octs c.ps 0 4 + got.length
    let r : Req := match p with | .a => .coreA | .b => .coreB
    match fenceOff off with
    | some (q, n) =>
      if s.present q && s.fenceWaits q n != [] then s.fenceHold q n r (some c) none got
      else
        let (v, s1) := s.readReg r off
        s1.regReadFrom p c k (got ++ toBE 4 v.toNat)
    | none =>
      let (v, s1) := s.readReg r off
      s1.regReadFrom p c k (got ++ toBE 4 v.toNat)

/-- Registers that a REG_READ has still to read. -/
def readsLeft (c : Cmd) (got : List Byte) : Nat := octs c.ps 4 1 - got.length / 4

/-- A FENCE read returns (R403). -/
def State.fenceDone (s : State) (p : Plane) (f : FenceS) : State :=
  let v := pack [(min f.failed 255, 24), (f.first, 20)]
  let q : Plane := if f.req = .coreB then .b else .a
  match f.core with
  | none => s.emit (.read f.req (R.BRG_WIN_FENCE p f.win) v)
  | some c =>
    if c.op = 0x0804 then
      match f.own with
      | some (code, detail) => s.part c q stFarError (farError code detail)
      | none => s.part c q stDone []
    else
      let got := f.got ++ toBE 4 v.toNat
      s.regReadFrom q c (readsLeft c got) got

/-- The first held FENCE read of plane `p` that waits for nothing more, and the others. -/
def takeFence : List FenceS → Option (FenceS × List FenceS)
  | [] => none
  | f :: fs => if f.waits = [] then some (f, fs) else (takeFence fs).map fun x => (x.1, f :: x.2)

/-- The far read of a RDMPARAM unit that an ACK ended, or its SET (R396). -/
def State.rdmAck (s : State) (p : Plane) (e : Nat) (t : TrkS) : State :=
  if t.ph = .writing then s.unitDone p e t else s.unitRead p e t t.param

/-- Repeats the request of the unit under way (R396). -/
def State.again (s : State) (p : Plane) (e : Nat) (t : TrkS) : State :=
  let f := (s.plainOf p t.win t.off).getD 0
  if t.ph = .writing then s.pushWrite p e t f else s.pushRead p e t f

/-- An attempt failed: it is made again up to RETRIES times (R396). -/
def State.rdmRetry (s : State) (p : Plane) (e : Nat) (t : TrkS) (result : Nat) : State :=
  if t.tries < s.rf (R.BRG_WIN_TGT2 p t.win) 8 6 then s.again p e { t with tries := t.tries + 1 } else s.unitFail p e t 6 result

/-- A response is accepted (R396). -/
def State.rdmAccepts (s : State) (p : Plane) (t : TrkS) (f : Nat) (os : List Byte) : Bool :=
  slice os 3 6 == s.rdmUid p && slice os 9 6 == s.winUid p t.win && octs os 15 1 == t.tn &&
    octs os 20 1 == (if t.ph = .writing then 0x31 else 0x21) && octs os 21 2 == rdmPid f

/-- A transaction of a window's line has ended (R339, R396): 1 SENT, 2 RESPONSE, 3 TIMEOUT, 4 COLLISION, 5 ABORTED, 6 BAD. The response
types are those of ANSI E1.20: 0 ACK, 1 ACK_TIMER, 2 NACK_REASON, 3 ACK_OVERFLOW; a SET's ACK brings no data to join. Log 79. -/
def State.rdmEnded (s : State) (p : Plane) (e : Nat) (t : TrkS) (result : Nat) (os : List Byte) : State :=
  let f := (s.plainOf p t.win t.off).getD 0
  if result = 1 then s.rdmAck p e t
  else if result = 5 then s.again p e t
  else if result = 2 then
    if !s.rdmAccepts p t f os then s.rdmRetry p e t 2
    else
      let s1 := s.brgCount p 1
      let data := slice os 24 (octs os 23 1)
      match octs os 16 1 with
      | 0 =>
        if t.ph = .writing then s1.rdmAck p e t
        else if 256 < t.param.length + data.length then s1.unitFail p e t 6 2
        else s1.rdmAck p e { t with param := t.param ++ data }
      | 3 =>
        if t.ph = .writing then s1.rdmRetry p e t 2
        else if 256 < t.param.length + data.length then s1.unitFail p e t 6 2
        else s1.again p e { t with param := t.param ++ data }
      | 1 => s1.putTrk p e { t with ph := if t.ph = .writing then .timerWrite else .timerRead }
      | 2 => s1.unitFail p e t 5 (octs os 24 2)
      | _ => s1.rdmRetry p e t 2
  else s.rdmRetry p e t result

/-- A transaction of a line has ended: its owner learns it (R175, R397, R433). -/
def State.slTold (s : State) (o : Owner) (result : Nat) (os : List Byte) : State :=
  match o with
  | .host => s
  | .cmd c => s.complete c stDone (toBE 1 result ++ [0] ++ toBE 2 os.length)
  | .bridge p e ord =>
    match s.still p e ord with
    | some t => if t.ph = .reading ∨ t.ph = .writing then s.rdmEnded p e t result os else s
    | none => if result = 2 then s.brgCount p 2 else s

/-- A CAN frame was sent or discarded: a command completes; a bridge access whose request was discarded waits for its timeout
(R360, R393, R433). -/
def State.canOwner (s : State) (o : Owner) (sent : Bool) (start : Nat) : State :=
  match o with
  | .cmd c => s.complete c (if sent then stDone else stConflict) (if sent then toBE 8 (toPt64 start).toNat else [])
  | _ => s

/-- A frame that answers an open CANOBJ transaction (R393). -/
def State.canResp (s : State) (p : Plane) (e : Nat) (data : List Byte) : State :=
  match s.trkOf p e with
  | none => s
  | some t =>
    let s1 := s.brgCount p 1
    if octs data 0 1 / 64 = 3 then
      if t.ph = .writing then s1.unitDone p e t else s1.unitRead p e t (slice data 4 4)
    else s1.unitFail p e t 7 (octs data 4 4 % 2 ^ 16)

/-- Delivers one outcome. -/
def State.follow (s : State) : Todo → State
  | .sl o r os => s.slTold o r os
  | .can o sent start => s.canOwner o sent start
  | .canResp p e data => s.canResp p e data
  | .fence p c got => s.regReadFrom p c (readsLeft c got) got

/-- The lowest free tracker entry (R382). -/
def PlaneS.freeEntry (x : PlaneS) : Option Nat := (List.range 256).find? fun e => (Tab.find e x.trk).isNone

/-- An access received by plane `p`'s bridge (R383). -/
def State.newAcc (s : State) (p : Plane) (n ord : Nat) (core : Option Cmd) (posted : Bool) (kind : AccKind) (off len : Nat)
    (data : List Byte) (be : List Bool) : TrkS :=
  let start := off / 4 * 4
  { ord := ord, win := n, core := core, posted := posted, kind := kind, off := start,
    stop := if kind = .read then (off + len + 3) / 4 * 4 else start + data.length, asked := (off, len), data := data, be := be, got := [],
    fail := none, late := s.pendingAt (R.BRG_WIN_STAGE_CTL p n), ph := .wait, unit := 4, old := [], gen := 0, tn := 0, tries := 0,
    param := [] }

/-- POSTED_HOLD_DRAIN (R382). -/
def State.holdDrain (s : State) (p : Plane) : State :=
  match (s.pl p).posted, (s.pl p).freeEntry with
  | w :: ws, some e =>
    (s.modPl p fun x => { x with posted := ws }).putTrk p e
      { s.newAcc p (barWin w.off) w.ord none true .write (barOfs w.off) w.data.length w.data w.be with late := w.late }
  | _, _ => s

/-- Why a target refuses a request: its STATUS (R387). -/
def State.targetRefuses (s : State) (p : Plane) (write : Bool) (payload : List Byte) : Option Nat :=
  let len := octs payload 1 1
  let addr := octs payload 8 4
  if (len ≠ 4 ∧ len ≠ 8) ∨ addr % len ≠ 0 then some stBadParam
  else if !s.rb (R.BRG_CTL p) (if write then 1 else 0) then some stNotPermitted
  else s.localRefused addr len

/-- The lead plane executes a request of the intake; its answer enters the bridge's buffer toward the ring (R385, R387). -/
def State.serve (s : State) (p : Plane) (r : TgtReq) : State :=
  let write := r.op != 1
  let op' := octs r.payload 0 1
  let len := octs r.payload 1 1
  let addr := octs r.payload 8 4
  let (st, data, s1) : Nat × List Byte × State :=
    match (if op' = r.op then s.targetRefuses p write r.payload else some stBadParam) with
    | some c => (c, [], s.brgCount p 6)
    | none =>
      let s0 := s.brgCount p 5
      if write then (stDone, [], s0.localWrite .host addr len (netWords (slice r.payload 12 len)))
      else
        let (os, s2) := s0.localRead .host addr len
        (stDone, netWords os, s2)
  s1.bridgeOut p 4 (toBE 1 (op' + 0x80) ++ toBE 1 st ++ toBE 2 r.origin.toNat ++ slice r.payload 4 8 ++ slice data 0 8)

/-- A FENCE read that waits for nothing more returns. -/
def State.drainFence (s : State) : Option State :=
  (bothPlanes.findSome? fun p => (takeFence (s.pl p).fences).map fun x => (p, x)).map fun (p, f, fs) =>
    (s.modPl p fun x => { x with fences := fs }).fenceDone p f

/-- A posted write of the hold takes a free tracker entry (R382). -/
def State.drainHold (s : State) : Option State :=
  (bothPlanes.find? fun p => !(s.pl p).posted.isEmpty && (s.pl p).freeEntry.isSome).map fun p => s.holdDrain p

/-- A waiting access goes on. -/
def State.drainAcc (s : State) : Option State :=
  (bothPlanes.findSome? fun p => (s.nextAcc p).map fun x => (p, x)).map fun (p, e, t) => s.goAcc p e t

/-- The oldest request of an intake is executed, once an entry of the 128 for responses is free (R406). -/
def State.drainTarget (s : State) : Option State :=
  bothPlanes.findSome? fun p =>
    match (s.pl p).tgtIn with
    | r :: rs =>
      if s.active p && decide (((s.pl p).brgOut.filter fun e => e.1 == 4).length < 128) then
        some ((s.modPl p fun x => { x with tgtIn := rs }).serve p r)
      else none
    | [] => none

/-- The oldest bridge sentence of a class whose ring buffers have room goes to them (R406). -/
def State.drainOut (s : State) : Option State :=
  (bothPlanes.findSome? fun p => ((s.pl p).brgOut.find? fun e => s.ringRoom p e.1).map fun e => (p, e)).map fun (p, c, os) =>
    (s.modPl p fun x => { x with brgOut := x.brgOut.erase (c, os) }).bridgeSent p c.toNat os

/-- One thing that follows by itself: an outcome delivered, a FENCE read returned, a held write, an access or a request of another device
gone on, a sentence handed to the ring. -/
def State.drainOne (s : State) : Option State :=
  match s.todo with
  | t :: ts => some (({ s with todo := ts }).follow t)
  | [] => s.drainFence <|> s.drainHold <|> s.drainAcc <|> s.drainTarget <|> s.drainOut

/-- All that follows by itself, up to `n` steps. -/
def State.drainN : Nat → State → State
  | 0, s => s
  | n + 1, s =>
    match s.drainOne with
    | some s1 => s1.drainN n
    | none => s

/-- All that follows by itself within a command. Log 72. -/
def State.drain (s : State) : State := s.drainN 65536

/-- The order of acceptance of a new access. -/
def State.takeOrd (s : State) (p : Plane) : Nat × State :=
  ((s.pl p).accOrd, s.modPl p fun x => { x with accOrd := x.accOrd + 1 })

/-- EN = 0, and no commit pending that may change it (R383, R410). -/
def State.winOff (s : State) (p : Plane) (n : Nat) : Bool :=
  !s.rb (R.BRG_WIN_CFG p n) 31 && !s.pendingAt (R.BRG_WIN_STAGE_CTL p n)

/-- The serving plane of a host access (R382): the lead, while it is ACTIVE. -/
def State.serving (s : State) : Option Plane := if s.active s.lead then some s.lead else none

/-- A host read or AtomicOp that is not refused takes a tracker entry (R382). With a full tracker it is not taken. Log 76. -/
def State.hostAcc (s : State) (p : Plane) (n : Nat) (kind : AccKind) (off len : Nat) : State :=
  match (s.pl p).freeEntry with
  | none => s
  | some e =>
    let (ord, s1) := s.takeOrd p
    let atomic := if kind = .read then 0 else len
    s1.putTrk p e (s.newAcc p n ord none false kind off len (List.replicate atomic 0) [])

/-- BRIDGE_READ (R383, R397). -/
def State.bridgeRead (s : State) (bar2 len : Nat) : State :=
  if !s.hostOn then s
  else match s.serving with
    | none => (s.emit (.abort 2 bar2)).accErr 1 bar2 4 false
    | some p =>
      let n := barWin bar2
      let off := barOfs bar2
      if s.winOff p n then s.emit (.unsupported 2 bar2)
      else if len = 0 ∨ 256 < len ∨ 2 ^ 26 < off + len then s.hostAbort p n 4 0 bar2 off
      else s.hostAcc p n .read off len

/-- BRIDGE_FETCHADD, BRIDGE_SWAP, BRIDGE_CAS with an operand of `size` octets (R383, R400). -/
def State.bridgeAtomic (s : State) (bar2 size : Nat) (kind : AccKind) : State :=
  if !s.hostOn then s
  else match s.serving with
    | none => (s.emit (.abort 2 bar2)).accErr 1 bar2 4 true
    | some p =>
      let n := barWin bar2
      let off := barOfs bar2
      if s.winOff p n || (size != 4 && size != 8) then s.emit (.unsupported 2 bar2)
      else if off % size ≠ 0 then s.hostAbort p n 4 0 bar2 off
      else (s.hostAcc p n kind off size).pfDrop p n 2

/-- A host write refused before any far traffic (R382, R383, R402): FENCE counts only writes that were accepted. Log 77. -/
def State.hostWriteBad (s : State) (p : Plane) (n code off : Nat) (data : List Byte) : State :=
  (s.postedLog p n 0 code 0 off data).count (R.BRG_WIN_ERR_CNT p n)

/-- BRIDGE_WRITE: data and byte enables from the dword of the offset on (R382, R383). -/
def State.bridgeWrite (s : State) (bar2 : Nat) (data0 : List Byte) (be0 : List Bool) : State :=
  if !s.hostOn then s
  else match s.serving with
    | none => s.accErr 1 bar2 4 true
    | some p =>
      let n := barWin bar2
      let k := bar2 % 4
      let off := barOfs bar2 / 4 * 4
      let len := (k + data0.length + 3) / 4 * 4
      let data := slice (List.replicate k 0 ++ data0) 0 len
      let be := (List.range len).map fun i => decide (k ≤ i) && decide (i < k + data0.length) && be0.getD (i - k) true
      if s.winOff p n then s.hostWriteBad p n 0xB off data
      else
      let s := s.pfDrop p n 1
      if len = 0 ∨ 2 ^ 26 < off + len ∨ (!be.all id && s.winType p n != 2 && !s.pendingAt (R.BRG_WIN_STAGE_CTL p n)) then s.hostWriteBad p n 4 off data
      else
        match (if (s.pl p).posted.isEmpty then (s.pl p).freeEntry else none) with
        | some e =>
          let (ord, s1) := s.takeOrd p
          s1.putTrk p e (s.newAcc p n ord none true .write off len data be)
        | none =>
          if 256 ≤ (s.pl p).posted.length then s.hostWriteBad p n 0xE off data
          else
            let (ord, s1) := s.takeOrd p
            let w : PostS := { ord := ord, off := n * 2 ^ 26 + off, data := data, be := be, late := s.pendingAt (R.BRG_WIN_STAGE_CTL p n) }
            s1.modPl p fun x => { x with posted := x.posted ++ [w] }

/-- BRIDGE_RESPONSE_RECEIVE at plane `p`, of a response that names this device (R385, R386). Log 149. -/
def State.bridgeResp (s : State) (p : Plane) (payload : List Byte) : State :=
  let tid := octs payload 4 2
  let q : Plane := if nfld tid 15 15 = 1 then .b else .a
  let e := nfld tid 7 0
  if !(s.active p && s.devValid && octs payload 2 2 % 1024 == s.devnum) || (q != p && s.mode != 3) then s
  else
    let s0 := s.when (decide (q ≠ p)) fun s => s.emit (.taper q payload)
    match s.trkOf q e with
    | none => s0.brgCount q 2
    | some t =>
      let regs := s.winType q t.win == 0
      if !(regs && t.gen == nfld tid 14 8 && (t.ph == .reading || t.ph == .writing)) then s0.brgCount q 2
      else
        let s1 := s0.brgCount q 1
        let st := octs payload 1 1
        if st ≠ stDone then s1.unitFail q e t 2 st
        else if t.ph = .writing then s1.unitDone q e t
        else s1.unitRead q e t (netWords (slice payload 12 t.unit))

/-- Removes the request of an access from its object or line, where it has not begun (R397). -/
def State.recall (s : State) (p : Plane) (e : Nat) (t : TrkS) : State :=
  let own : Owner := .bridge p e t.ord
  match s.winType p t.win with
  | 1 =>
    let n := s.winTarget p t.win % 8
    let m := s.rf (R.BRG_WIN_TGT2 p t.win) 5 0
    let o := (s.canS n).obj m
    let s1 := if o.pend.any fun f => decide (f.owner = own) then s.canDiscard n m 2 else s
    if t.ph = .reading ∨ t.ph = .writing then
      s1.modPl p fun x => x.modWin t.win fun w => { w with gone := some (t.tn, t.param) } else s1
  | 2 => s.modSl (s.winTarget p t.win % 32) fun x => { x with txq := x.txq.filter fun f => decide (f.owner ≠ own) }
  | _ => s

/-- The time of a posted write still in the hold, its `i`-th, has run out (R382, R397, R402, R403). -/
def State.holdTimeout (s : State) (p : Plane) (i : Nat) : State :=
  match (s.pl p).posted[i]? with
  | none => s
  | some w =>
    let n := barWin w.off
    let s1 := ((s.brgCount p 3).raise 99).modPl p fun x => { x with posted := x.posted.eraseIdx i }
    ((s1.postedLog p n 0 1 0 (barOfs w.off) w.data).postedEnd p n w.ord (some 1)).count (R.BRG_WIN_ERR_CNT p n)

/-- BRIDGE_TIMEOUT of tracker entry `e`, or from 256 on of a write in the hold (R397). -/
def State.bridgeTimeout (s : State) (p : Plane) (e : Nat) : State :=
  if 256 ≤ e then s.holdTimeout p (e - 256)
  else match s.trkOf p e with
  | none => s
  | some t =>
    let (s1, t1) := (((s.brgCount p 3).raise 99).recall p e t).noteFail p t 1 0
    s1.endAcc p e t1

/-- LOCK_EXPIRE (R401). -/
def State.lockExpire (s : State) (p : Plane) (n : Nat) : State :=
  if ((s.pl p).winS n).lock.isSome then
    ((s.modPl p fun x => x.modWin n fun w => { w with lock := none }).brgCount p 12).raise 100
  else s

/-- RDM_ACK_TIMER_EXPIRE: the request of window `n` is repeated (R396). -/
def State.ackTimer (s : State) (p : Plane) (n : Nat) : State :=
  match (s.pl p).trk.find? fun x => x.2.win == n && (x.2.ph == .timerRead || x.2.ph == .timerWrite) with
  | some (e, t) => s.again p e { t with ph := if t.ph = .timerWrite then .writing else .reading }
  | none => s

/-- BRG_WIN_FENCE_READ: held while there are posted writes to wait for (R403). -/
def State.fenceReg (s : State) (r : Req) (p : Plane) (n : Nat) : State :=
  s.access r (R.BRG_WIN_FENCE p n) 4 false fun s =>
    if s.present p then s.fenceHold p n r none none [] else s.regRead r (R.BRG_WIN_FENCE p n) 4 0

/-- BRIDGE_TARGET_READ, BRIDGE_TARGET_WRITE, BRIDGE_TARGET_WRITE_POSTED with OP `op`: the request enters the lead plane's intake, whose
two classes have 128 entries each; one that finds those of its class in use is dropped (R384-R387, R406). Log 149. -/
def State.bridgeTarget (s : State) (p : Plane) (origin : BitVec 10) (op : Nat) (payload : List Byte) : State :=
  let posted := op == 3
  let op' := octs payload 0 1
  if !(s.active p && decide (s.lead = p) && s.devValid && octs payload 2 2 % 1024 == s.devnum) then s
  else if op' ≠ op ∧ 1 ≤ op' ∧ op' ≤ 3 then s
  else if 128 ≤ ((s.pl p).tgtIn.filter fun r => r.posted == posted).length then (s.brgCount p 7).raise 101
  else s.modPl p fun x => { x with tgtIn := x.tgtIn ++ [⟨posted, op, origin, payload⟩] }

/-- A control core's access for WIN_READ or WIN_WRITE (R382, R433): a tracker entry, or NO_RESOURCE where none is free. Log 76. -/
def State.coreAcc (s : State) (p : Plane) (c : Cmd) (n off : Nat) (data : List Byte) (len : Nat) : State :=
  match (s.pl p).freeEntry with
  | none => s.part c p stNoResource []
  | some e =>
    let (ord, s1) := s.takeOrd p
    let write := c.op == 0x0804
    (s1.when write fun s => s.pfDrop p n 1).putTrk p e
      (s.newAcc p n ord (some c) write (if write then .write else .read) off len data (List.replicate data.length true))

end Sys2Proof.Machine
end

