-- ==== Sys2Proof/Machine/Fetch.lean ====
section
/-!
DEFINITION. How commands reach their executors: fetching from the host queues (R417-R424), command sentences and status replies
from the ring (R428, R429), forwarding, the checks of R416 and R423, the order of execution, and the planes a command acts on
(R77, R459).
-/
namespace Sys2Proof.Machine

/-- The opcodes with the parameter octets each needs at least (R430-R437). -/
def opTable : List (Nat × Nat) :=
  [(0x0100, 0), (0x0101, 0), (0x0102, 3), (0x0103, 16), (0x0104, 1), (0x0105, 5), (0x0106, 8), (0x0107, 8), (0x0108, 0),
   (0x0201, 12), (0x0202, 28), (0x0203, 2), (0x0204, 4), (0x0205, 0), (0x0301, 8), (0x0302, 16), (0x0303, 8), (0x0304, 16),
   (0x0305, 1), (0x0401, 4), (0x0402, 4), (0x0403, 21), (0x0404, 2), (0x0501, 8), (0x0502, 4), (0x0503, 6), (0x0504, 4)] ++
  [(0x0505, 4), (0x0506, 2), (0x0601, 4), (0x0602, 2), (0x0603, 16), (0x0604, 28), (0x0605, 12), (0x0606, 8), (0x0607, 8),
   (0x0701, 52), (0x0702, 12), (0x0703, 25), (0x0704, 8), (0x0705, 12), (0x0706, 8), (0x0801, 24), (0x0802, 4), (0x0803, 9),
   (0x0804, 13), (0x0805, 10), (0x0901, 2), (0x0902, 0), (0x0903, 16), (0x0904, 0), (0x0905, 2), (0x0906, 16), (0x0907, 16)] ++
  [(0x0908, 0), (0x0909, 0), (0x0A01, 24), (0x0A02, 2), (0x0A03, 24), (0x0A04, 9), (0x0F01, 12), (0x0F02, 0), (0x0F03, 16),
   (0x0F04, 12), (0x0F05, 12)]

/-- Whether a source is listed for an opcode (R416). -/
def sourceOk (src : Src) (op : Nat) : Bool :=
  let g := op / 256
  match src with
  | .hostQ q =>
    if q = 0 then g == 0xF
    else if q = 2 then g == 9 || g == 0xA
    else (decide (1 ≤ g) && decide (g ≤ 8)) || (q == 3 && g == 0xA)
  | .ring cls _ _ _ =>
    if cls = 7 then g == 0xF else if cls = 3 then decide (1 ≤ g) && decide (g ≤ 0xA) && op != 0x0A04 else cls == 6 && op == 0x0A04

/-- What the header's reserved bits and fields refuse with BAD_PARAM (R423); `len` octets of parameters came with the command. -/
def headerBad (h : List Byte) (len : Nat) : Bool :=
  let op := octs h 0 2
  let w := octs h 4 2
  let fl := octs h 6 2
  let n := octs h 8 2
  nfld w 11 10 != 0 || nfld w 15 14 == 3 || nfld fl 11 0 != 0 || octs h 10 6 != 0 || (nfld fl 14 14 == 1 && op / 256 != 0xF) ||
    decide (8160 < n) || (op / 256 == 0xF && decide (96 < n)) || decide (len < n) ||
    ((opTable.find? fun e => e.1 == op).elim false fun e => decide (n < e.2))

/-- A command packet from its header and parameters (R422). -/
def parseCmd (src : Src) (h params : List Byte) : Cmd :=
  let w := octs h 4 2
  let fl := octs h 6 2
  { src := src, op := BitVec.ofNat 16 (octs h 0 2), tag := BitVec.ofNat 16 (octs h 2 2), planes := BitVec.ofNat 2 (nfld w 15 14),
    all := nfld w 13 13 == 1, loc := nfld w 12 12 == 1, dev := BitVec.ofNat 10 w, reply := nfld fl 15 15 == 1, timed := nfld fl 14 14 == 1,
    epoch := nfld fl 13 13 == 1, abrupt := nfld fl 12 12 == 1, at64 := BitVec.ofNat 64 (octs h 16 8), ps := params.take (octs h 8 2) }

/-- The plane whose control core executes commands (R416, R459). -/
def State.cmdCore (s : State) : Option Plane :=
  let relearns (p : Plane) : Bool := decide ((s.pl p).st = .relearn) || decide ((s.pl p).st = .relearnWait)
  if s.anyActive then some s.lead else if relearns .a then some .a else if relearns .b then some .b else none

/-- The device acts on a command (R423, R428). -/
def State.actsOn (s : State) (c : Cmd) : Bool :=
  c.all || (c.loc && (match c.src with | .hostQ _ => true | .ring .. => false)) || (s.devValid && c.dev.toNat == s.devnum)

/-- The class that carries an opcode on the ring (R416). -/
def ringClass (op : Nat) : Nat := if op / 256 = 0xF then 7 else if op = 0x0A04 then 6 else 3

/-- Originates a host command on the ring, its PARAM_ADDR 0 (R422, R424). -/
def State.forwardCmd (s : State) (p : Plane) (c : Cmd) (h : List Byte) : State :=
  let h1 := s.blank (ringClass c.op.toNat) 7 strCmd 0x0080 (h.take 24 ++ List.replicate 8 0 ++ c.ps)
  let s1 : State := match c.src with | .hostQ q => { s with fwdTags := Tab.set 0 c.tag.toNat q.val s.fwdTags } | .ring .. => s
  let h2 := { h1 with ackreq := c.reply }
  if c.timed then
    let (g, s2) := s1.free32
    let eg := g.toNat % 4
    let k := s.targetEpoch p eg (ofPt64 (s.release p) c.at64)
    (s2.senders p).foldl (fun s p => s.orig p { h2 with timed := true, pt64 := c.at64, tag := BitVec.ofNat 32 (eg * 2 ^ 30 + k % 2 ^ 30) }) s2
  else (s1.senders p).foldl (fun s p => s.orig p h2) s1

/-- A command that this device executes waits for its executor; of those for the Snuffer path that arrive in one cycle QS goes before
the ring (R417). -/
def State.await (s : State) (c : Cmd) : State :=
  let now := if s.fresh.1 = s.lt then s.fresh.2 else []
  match c.src with
  | .hostQ q =>
    if q = 0 then { s with accepted := s.accepted.filter (fun d => !now.contains d) ++ c :: s.accepted.filter now.contains }
    else { s with accepted := s.accepted ++ [c] }
  | .ring cls _ _ _ => { s with accepted := s.accepted ++ [c], fresh := if cls = 7 then (s.lt, now ++ [c]) else s.fresh }

/-- Status of a command refused on arrival, by its source, opcode and header (R416, R423). -/
def arrivalStatus (c : Cmd) (h : List Byte) (len : Nat) : Option Nat :=
  if (opTable.find? fun e => e.1 == c.op.toNat).isNone then some stBadOpcode
  else if !sourceOk c.src c.op.toNat then some stNotPermitted
  else if headerBad h len then some stBadParam
  else none

/-- A command fetched from a host queue (R416, R423, R424, R459). -/
def State.hostCmd (s : State) (q : Fin 4) (entry params : List Byte) : State :=
  let h := slice entry 0 32
  let n := octs h 8 2
  let ps := if n ≤ 32 then slice entry 32 n else slice params 0 n
  let c := parseCmd (.hostQ q) h ps
  let here := s.cmdCore
  let by_ := here.getD s.lead
  if q ≠ 0 ∧ here.isNone then s.refuse c by_ stPlaneAbsent
  else match arrivalStatus c h n with
    | some st => s.refuse c by_ st
    | none =>
      let fwd := c.all || !(c.loc || (s.devValid && c.dev.toNat == s.devnum))
      if fwd && !s.present .a && !s.present .b then
        (if s.actsOn c then s.await c else s.sendReply c by_ stPlaneAbsent 8 [] true true)
      else
        let s1 := s.when fwd fun s => s.forwardCmd by_ c h
        if s.actsOn c then s1.await c else s1.sendReply c by_ stDone 8 [] true true

/-- COMMAND_FETCH (R417, R420). `dma` tells how host memory answers the read, or that the next write of a reply of this queue fails, be
there a command to fetch or not; `params` are the parameter octets it held. Log 150. -/
def State.commandFetch (s0 : State) (q : Fin 4) (dma : DmaEnd) (entry params : List Byte) : State :=
  let on := s0.hostOn && s0.rb (R.HQ_CTL q.val) 31 && !s0.rb (R.HQ_STATUS q.val) 31
  let s := s0.when (on && dma == .writeFail) fun s => s.modHq q.val fun h => { h with wfail := true }
  let x := s.hqS q.val
  let head := s.sqHead q.val
  let owed := owes (octs entry 0 2) (nfld (octs entry 6 2) 14 14 == 1)
  if !on || x.busy || head == x.tail then s
  else if dma = .readFail then s.hqFault q.val 1 head
  else if s.rqRoom q.val < x.owed + owed then s
  else
    let s1 := s.setRf (R.HQ_STATUS q.val) 11 0 ((head + 1) % s.sqSize q.val)
    (s1.modHq q.val fun h => { h with busy := true, owed := h.owed + owed }).hostCmd q entry params

/-- The first copy of a sentence of a class from an origin: later copies are discarded (R428, R452). -/
def State.firstCopy (s : State) (origin : BitVec 10) (cls : Nat) (seq : Word) (p : Plane) : Bool × State :=
  let same (e : BitVec 10 × Word × Nat) : Bool := e.1 == origin && e.2.1 == seq && e.2.2 / 4 == cls
  match s.seen.find? same with
  | none => (true, { s with seen := s.seen ++ [(origin, seq, cls * 4 + planeNum p)] })
  | some e => (false, if e.2.2 % 4 = planeNum p then s else { s with seen := s.seen.filter fun e => !same e })

/-- What GID_CMD_CTL refuses of a ring command (R429). -/
def State.ringRefuses (s : State) (c : Cmd) (origin : BitVec 10) : Bool :=
  let g := c.op.toNat / 256
  (if g = 0xF then !s.rb R.GID_CMD_CTL 31 else if g ≤ 8 then !s.rb R.GID_CMD_CTL 30 else !s.rb R.GID_CMD_CTL 29) ||
    (s.rb R.GID_CMD_CTL 27 && s.rf R.GID_CMD_CTL 9 0 != origin.toNat)

/-- A plane whose sentences reach the executing plane: its own, or its peer's over the Taper link (R428, R452). -/
def State.leadHears (s : State) (p : Plane) : Bool := s.cmdCore == some p || (s.taperUp && s.forwards p && s.cmdCore.isSome)

/-- A plane whose command sentences are heard: in SPLIT each plane executes those of its own lane (R428). -/
def State.hears (s : State) (p : Plane) : Bool := if s.mode = 4 then s.active p else s.leadHears p

/-- A ring command that concerns this device, once its first copy is here (R416, R423, R428, R429, R459). -/
def State.ringCmd (s : State) (p : Plane) (c : Cmd) (h : List Byte) (len : Nat) (origin : BitVec 10) : State :=
  let split : Bool := s.mode == 4 && c.op.toNat / 256 != 0xF
  let by_ : Plane := if split then p else s.cmdCore.getD p
  let mine : Bool := !split || (planesOf c.planes).contains p || c.planes == 3
  if !s.actsOn c || !mine then s
  else if s.ringRefuses c origin then (s.refuse c by_ stNotPermitted).raise 27
  else match arrivalStatus c h len with
    | some st => s.refuse c by_ st
    | none =>
      if c.loc then s.refuse c by_ stNotPermitted
      else s.await (if split then { c with planes := BitVec.ofNat 2 (1 + planeNum p) } else c)

/-- COMMAND_SENTENCE_RECEIVE: header and payload of a sentence on stream 0xFF0000 (R428, R429, R436). A Snuffer sentence that
R429 refuses does not reach the Lantern part, so its second copy counts nowhere. Log 125. -/
def State.commandSentence (s : State) (p : Plane) (spur : Bool) (octets : List Byte) : State :=
  let payload := octets.drop 32
  let t := parseSent octets payload
  let c := parseCmd (.ring t.cls t.origin t.seq t.ackreq) (slice payload 0 32) (payload.drop 32)
  if t.stream.toNat ≠ strCmd ∨ (spur ∧ !s.rb R.GID_CMD_CTL 28) then s
  else if t.cls = 7 then
    if !s.forwards p then s
    else
      let same (e : BitVec 10 × Word × Nat) : Bool := e.1 == t.origin && e.2.1 == t.seq && decide (s.lantern < e.2.2 + 50000 * unitsPerUs)
      if s.seenSnf.any same then (if s.actsOn c && s.ringRefuses c t.origin then s else s.count R.SNF_DUP)
      else
        let keep := s.seenSnf.filter fun e => decide (s.lantern < e.2.2 + 50000 * unitsPerUs)
        { s with seenSnf := keep ++ [(t.origin, t.seq, s.lantern)] }.ringCmd p c (slice payload 0 32) (payload.length - 32) t.origin
  else if !s.hears p then s
  else if s.mode = 4 then s.ringCmd p c (slice payload 0 32) (payload.length - 32) t.origin
  else
    let (first, s1) := s.firstCopy t.origin t.cls.toNat t.seq p
    if first then s1.ringCmd p c (slice payload 0 32) (payload.length - 32) t.origin else s1

/-- STATUS_REPLY_RECEIVE: header and payload of a sentence on stream 0xFF0001 that names this device (R51, R428). Of the replies
of unnumbered devices the first with a SEQ and payload in any 50 ms counts. -/
def State.statusReply (s : State) (p : Plane) (octets : List Byte) : State :=
  let payload := octets.drop 32
  let t := parseSent octets payload
  if t.stream.toNat ≠ strReply ∨ !s.active p ∨ !s.devValid ∨ octs payload 0 2 % 1024 ≠ s.devnum ∨ payload.length < 20 then s
  else if t.unnum then
    let key := toBE 4 t.seq.toNat ++ payload
    let keep := s.seenRep.filter fun e => decide (s.lantern < e.2 + 50000 * unitsPerUs)
    if keep.any fun e => e.1 == key then s
    else { s with seenRep := keep ++ [(key, s.lantern)] }.remoteReply t.origin.toNat (slice payload 4 16)
  else
    let (first, s1) := s.firstCopy t.origin 4 t.seq p
    if first then s1.remoteReply t.origin.toNat (slice payload 4 16) else s1

/-- EVENT_SENTENCE_RECEIVE (R452): the time-lead plane takes it, and it is a record of the collect log, of which 64 unread ones are kept. -/
def State.eventSentenceIn (s : State) (p : Plane) (octets : List Byte) : State :=
  let payload := octets.drop 32
  let t := parseSent octets payload
  if t.stream.toNat ≠ strEvent ∨ !s.rb R.EV_SENT_CTL 31 ∨ !s.leadHears p ∨ (s.devValid ∧ !t.unnum ∧ t.origin.toNat = s.devnum) then s
  else
    let (first, s1) := s.firstCopy t.origin 2 t.seq p
    if !first then s1
    else
      let head := (s1.reg R.EV_COLLECT_HEAD).toNat
      if 64 ≤ unread head (s1.reg R.EV_COLLECT_TAIL).toNat 7 then s1.count R.EV_COLLECT_LOST
      else
        let rec_ := toBE 2 t.origin.toNat ++ [0, 0] ++ slice payload 0 12
        let put (s : State) (j : Nat) : State := s.setReg (R.EV_COLLECT (head % 64) j) (BitVec.ofNat 32 (octs rec_ (4 * j) 4))
        (([0, 1, 2, 3].foldl put s1).setReg R.EV_COLLECT_HEAD (BitVec.ofNat 32 ((head + 1) % 128))).raise 15

/-- The order in which commands that wait are taken (R417): QC, QM, ring Service-request, QB, ring Bulk; the Snuffer path takes its own
in arrival order. -/
def cmdRank (c : Cmd) : Nat :=
  match c.src with
  | .hostQ q => if q = 1 then 1 else if q = 2 then 2 else if q = 3 then 4 else 0
  | .ring cls _ _ _ => if cls = 3 then 3 else if cls = 6 then 5 else 0

/-- The command that the control core, or the Snuffer path, takes next (R417). -/
def State.nextCmd (s : State) (snuffer : Bool) : Option Cmd :=
  (s.accepted.filter fun c => (cmdRank c == 0) == snuffer).foldl (fun (a : Option Cmd) c => match a with
    | none => some c
    | some b => if cmdRank c < cmdRank b then some c else some b) none

/-- Runs a command's row: it must be the command its executor takes next, and of that row's opcode (R417). -/
def State.runCmd (s : State) (op : Nat) (c : Cmd) (f : State → State) : State :=
  if c.op.toNat = op ∧ s.nextCmd (op / 256 == 0xF) = some c then f { s with accepted := s.accepted.erase c } else s

/-- The planes a command acts on, and whether it completes NOT_PERMITTED in SPLIT; or the status that refuses it (R77, R459). -/
def State.targets (s : State) (c : Cmd) : Except Nat (List Plane × Bool) :=
  let host : Bool := match c.src with | .hostQ _ => true | .ring .. => false
  let here (p : Plane) : Bool := s.active p || s.cmdCore == some p
  if s.cmdCore.isNone then .error stPlaneAbsent
  else match planesOf c.planes with
    | [p] =>
      if !here p then .error stPlaneAbsent
      else if s.mode == 4 && host && decide (p ≠ s.lead) then .error stNotPermitted
      else .ok ([p], false)
    | _ => if s.mode == 4 && host then .ok ([s.lead], true) else .ok (bothPlanes.filter here, false)

/-- The plane whose control core executes a command: the time-lead plane's, and in SPLIT for a ring command that of the plane which received
that copy (R416, R428, R459). -/
def State.coreFor (s : State) (c : Cmd) : Option Plane :=
  match c.src, planesOf c.planes with
  | .ring .., [p] => if s.mode = 4 then some p else s.cmdCore
  | _, _ => s.cmdCore

/-- What one plane's part of a command answers: its status and result. -/
abbrev Part := Nat × List Byte

/-- A command that does its part on each plane it acts on and completes at once (R77, R426). -/
def State.perPlane (s : State) (c : Cmd) (f : State → Plane → State × Part) : State :=
  match s.targets c with
  | .error st => s.refuse c ((s.coreFor c).getD s.lead) st
  | .ok (ps, split) =>
    let (s1, parts) := ps.foldl (fun (a : State × List (Plane × Nat × List Byte)) p =>
      let (s2, st, res) := f a.1 p
      (s2, a.2 ++ [(p, st, res)])) (s, [])
    s1.answer c parts split

/-- A plane's part that either leaves a state or is refused; OVER_BUDGET raises ADMISSION (R290). -/
def partOr (s : State) (p : Plane) (r : Except Part State) : State × Part :=
  match r with
  | .ok s1 => (s1, stDone, [])
  | .error e => (if e.1 = stOverBudget then s.raiseP p 149 else s, e)

/-- A command that the control core executes once for the device, and that completes at once (R416, R426). -/
def State.onceCmd (s : State) (c : Cmd) (f : State → Plane → State × Part) : State :=
  match s.targets c, s.coreFor c with
  | .error st, _ => s.refuse c ((s.coreFor c).getD s.lead) st
  | .ok _, none => s.refuse c s.lead stPlaneAbsent
  | .ok (_, split), some p =>
    let (s1, st, res) := f s p
    s1.answer c [(p, st, res)] split

/-- The register requester of a plane's control core (R10). -/
def coreOf : Plane → Req
  | .a => .coreA
  | .b => .coreB

/-- Commands of groups 0x03-0x08 that change a table or an ST field wait for no image's apply point (R442). -/
def State.imgLocked (s : State) : Bool := s.img.isSome

end Sys2Proof.Machine
end

