-- ==== Sys2Proof/Machine/Commands.lean ====
section
/-!
DEFINITION. Commands of the System, Time, Ports, table, Release, Lantern and Bridge groups, 0x01-0x08 (R430-R433).
-/
namespace Sys2Proof.Machine

/-- Parameter octets of a command as a number, network order (R422). -/
def cNum (c : Cmd) (i len : Nat) : Nat := octs c.ps i len
def cWord (c : Cmd) (i : Nat) : Word := BitVec.ofNat 32 (octs c.ps i 4)

/-- A part that completes with a status and no result. -/
def ended (s : State) (st : Nat) : State × Part := (s, st, [])

/-- STATE_A and STATE_B, and MODE, as IDENTIFY and DISCOVER give them (R430). -/
def State.stateOctets (s : State) : List Byte := toBE 1 ((s.pl .a).st.code * 16 + (s.pl .b).st.code) ++ toBE 1 s.mode

/-- AON_DEVNUM bits 15:0 (R430). -/
def State.devnumOctets (s : State) : List Byte := toBE 2 (s.rf R.AON_DEVNUM 15 0)

/-- NOP (R430). -/
def State.cmdNop (s : State) (c : Cmd) : State := s.perPlane c fun s _ => ended s stDone

/-- IDENTIFY (R430). -/
def State.cmdIdentify (s : State) (c : Cmd) : State :=
  s.onceCmd c fun s p =>
    (s, stDone, toBE 4 (s.reg R.GID_IDENT).toNat ++ s.devnumOctets ++ s.stateOctets ++ toBE 4 (s.reg (R.AON_FW_VER (planeNum p))).toNat)

/-- DISCOVER (R430, R431). -/
def State.cmdDiscover (s : State) (c : Cmd) : State :=
  s.onceCmd c fun s _ => (s, stDone, toBE 8 Config.uid.toNat ++ s.devnumOctets ++ s.stateOctets)

/-- A command that ends without a reply (R431). -/
def State.silent (s : State) (c : Cmd) : State :=
  match c.src with
  | .hostQ q =>
    if fwdHost c then s.sendReply c ((s.coreFor c).getD s.lead) stDone 0 [] true true
    else s.modHq q.val fun h => { h with busy := false, owed := h.owed - owes c.op.toNat c.timed }
  | .ring .. => s

/-- SET_DEVNUM (R50, R430, R431, R470, R479). -/
def State.cmdSetDevnum (s : State) (c : Cmd) : State :=
  let n := cNum c 0 2
  let byUid := cNum c 2 1 % 2 == 1
  if c.all && !byUid then s.onceCmd c fun s _ => ended s stNotPermitted
  else if 1023 < n ∨ (byUid ∧ c.ps.length < 16) then s.onceCmd c fun s _ => ended s stBadParam
  else if byUid && cNum c 8 8 != Config.uid.toNat then s.silent c
  else s.onceCmd c fun s _ => ended ((s.setReg R.AON_DEVNUM (pack [(1, 31), (n, 0)])).bootDevnum.joinConfirm) stDone

/-- SET_LEAD (R76, R430). A second one while one waits meets CONFLICT. Log 82. -/
def State.cmdSetLead (s : State) (c : Cmd) : State :=
  let to_ : Plane := if cNum c 0 1 = 0 then .a else .b
  let e := (s.pl s.lead).egS 0
  match s.targets c with
  | .error st => s.refuse c ((s.coreFor c).getD s.lead) st
  | .ok (_, split) =>
    let by_ := (s.coreFor c).getD s.lead
    if 1 < cNum c 0 1 then s.onceCmd c fun s _ => ended s stBadParam
    else if !s.active to_ then s.onceCmd c fun s _ => ended s stNotPermitted
    else if s.setLead.isSome then s.onceCmd c fun s _ => ended s stConflict
    else if !s.egEn s.lead 0 || !e.live then
      let s1 := s.leadTo to_
      s1.answer c [(by_, stDone, List.replicate 8 255 ++ [0])] split
    else
      let late := decide (cNum c 8 8 < e.next)
      { s.accept c [by_] split stAccepted with setLead := some (to_, if late then e.next else cNum c 8 8, c, late) }

/-- SET_LEAD_APPLY: the boundary of EG0 has come, or EG0 is disabled (R430). Where a jump passed it over, the next one
is the one applied at. Log 83. -/
def State.applyLead (s : State) : State :=
  match s.setLead with
  | none => s
  | some (p, k, c, late) =>
    let e := (s.pl s.lead).egS 0
    if s.egEn s.lead 0 && e.live then
      let at_ := if k + 1 < e.next then e.next else k
      if k ≤ e.next then ({ s with setLead := none }.leadTo p).complete c stDone (toBE 8 at_ ++ toBE 1 late.toNat) else s
    else ({ s with setLead := none }.leadTo p).complete c stDone (List.replicate 8 255 ++ [0])

/-- PLANE_HOLD (R79, R430). -/
def State.cmdHold (s : State) (c : Cmd) : State :=
  s.onceCmd c fun s _ =>
    let (s1, ignored) := s.psupWrite (setFld (s.reg R.AON_PSUP_CTL) 1 0 (cNum c 0 1))
    ended s1 (if ignored then stNotPermitted else stDone)

/-- A BAR0 register's offset. -/
def goodOff (off : Nat) : Bool := off % 4 == 0 && decide (off < 2 ^ 24)

/-- REG_READ (R430). A FENCE read among the registers is held (R403). -/
def State.cmdRegRead (s : State) (c : Cmd) : State :=
  let n := cNum c 4 1
  let off := cNum c 0 4
  match s.targets c, s.coreFor c with
  | .ok (_, split), some p =>
    if n < 1 ∨ 3 < n ∨ !goodOff off ∨ 2 ^ 24 < off + 4 * n then s.answer c [(p, stBadParam, [])] split
    else (s.hold c [p] split).regReadFrom p c n []
  | .error st, _ => s.refuse c ((s.coreFor c).getD s.lead) st
  | _, none => s.refuse c s.lead stPlaneAbsent

/-- REG_WRITE (R430). -/
def State.cmdRegWrite (s : State) (c : Cmd) : State :=
  let n := c.ps.length / 8
  let pairs := (List.range n).map fun i => (cNum c (8 * i) 4, cWord c (8 * i + 4))
  if c.ps.length % 8 ≠ 0 ∨ n < 1 ∨ 64 < n ∨ pairs.any (fun e => !goodOff e.1 || !fitsReg e.1 e.2) then s.onceCmd c fun s _ => ended s stBadParam
  else s.onceCmd c fun s p => ended (s.each pairs fun s e => s.writeAll (coreOf p) e.1 e.2) stDone

/-- Writes RW registers of plane `p`, or refuses values out of range (R430). -/
def State.putRegs (s : State) (p : Plane) (ws : List (Nat × Word)) : State × Part :=
  if ws.all fun w => fitsReg w.1 w.2 then ended (s.each ws fun s w => s.writeAll (coreOf p) w.1 w.2) stDone else ended s stBadParam

/-- All registers of a list take their values (R430). -/
def fitAll (ws : List (Nat × Word)) : Bool := ws.all fun w => fitsReg w.1 w.2

/-- Writes the stage copies of a block and COMMIT (R427). -/
def State.putBlock (s : State) (sc : Nat) (ws : List (Nat × Word)) : State × Part :=
  if !fitAll ws then ended s stBadParam else if s.pendingAt sc then ended s stConflict else ended (s.stageAll sc ws) stDone

/-- Consecutive registers from `off`, with their values from parameter octet `i`. -/
def cRegs (c : Cmd) (off i n : Nat) : List (Nat × Word) := (List.range n).map fun k => (off + 4 * k, cWord c (i + 4 * k))

/-- TD_CONFIG (R103, R430). -/
def State.cmdTd (s : State) (c : Cmd) : State :=
  let d := cNum c 0 1
  s.perPlane c fun s p =>
    if 1 < d then ended s stBadParam else s.putRegs p [(R.TD_CFG p d, cWord c 4), (R.TD_LTC_OFS p d, cWord c 8)]

/-- EG_SET (R122, R430). -/
def State.cmdEgSet (s : State) (c : Cmd) : State :=
  let g := cNum c 0 1
  s.perPlane c fun s p =>
    if 3 < g then ended s stBadParam
    else s.putBlock (R.EG_STAGE_CTL p g)
      [(R.EG_NUM p g, cWord c 4), (R.EG_DEN p g, cWord c 8), (R.EG_BASE_NS_LO p g, cWord c 16), (R.EG_BASE_NS_HI p g, cWord c 12),
       (R.EG_ORIGIN_LO p g, cWord c 24), (R.EG_ORIGIN_HI p g, cWord c 20)]

/-- EG_ENABLE (R121, R430). -/
def State.cmdEgEnable (s : State) (c : Cmd) : State :=
  let g := cNum c 0 1
  s.perPlane c fun s p =>
    if 3 < g ∨ 1 < cNum c 1 1 then ended s stBadParam
    else ended (if cNum c 1 1 = 1 then s.egEnable p g else s.egDisable p g) stDone

/-- TB_CONFIG (R117, R430). -/
def State.cmdTb (s : State) (c : Cmd) : State := s.perPlane c fun s p => s.putRegs p [(R.TB_CTL p, cWord c 0)]

/-- TIME_READ (R108, R430). -/
def State.cmdTimeRead (s : State) (c : Cmd) : State :=
  s.onceCmd c fun s p =>
    (s, stDone, toBE 8 (toPt64 (s.release p)).toNat ++ toBE 1 (s.devDom 0) ++ toBE 1 (s.devDom 1) ++ toBE 1 (s.sel p) ++
      toBE 1 (s.rf R.LT_STATUS 31 30))

/-- PORT_CONFIG, PORT_PTP, PORT_RING, PORT_ADDR (R430). -/
def State.cmdPortCfg (s : State) (c : Cmd) : State :=
  let i := cNum c 0 1
  s.perPlane c fun s p =>
    if 3 < i then ended s stBadParam else if s.imgLocked then ended s stConflict
    else s.putBlock (R.PORT_STAGE_CTL p i) [(R.PORT_CFG p i, cWord c 4)]

def State.cmdPortPtp (s : State) (c : Cmd) : State :=
  let i := cNum c 0 1
  s.perPlane c fun s p =>
    if 3 < i then ended s stBadParam
    else s.putRegs p [(R.PORT_PTP_CFG p i, cWord c 4), (R.PORT_ASYM p i, cWord c 8), (R.PORT_IPV4 p i, cWord c 12)]

def State.cmdPortRing (s : State) (c : Cmd) : State :=
  let i := cNum c 0 1
  s.perPlane c fun s p => if 3 < i then ended s stBadParam else s.putRegs p [(R.PORT_RING p i, cWord c 4)]

def State.cmdPortAddr (s : State) (c : Cmd) : State :=
  let i := cNum c 0 1
  s.perPlane c fun s p =>
    if 3 < i then ended s stBadParam
    else s.putRegs p
      [(R.PORT_MAC_LO p i, cWord c 4), (R.PORT_MAC_HI p i, BitVec.ofNat 32 (cNum c 2 2)), (R.PORT_NATIVE_DA_LO p i, cWord c 10),
       (R.PORT_NATIVE_DA_HI p i, BitVec.ofNat 32 (cNum c 8 2)), (R.PORT_NATIVE_TYPE p i, BitVec.ofNat 32 (cNum c 14 2))]

/-- BYPASS_FORCE (R91, R430). -/
def State.cmdBypass (s : State) (c : Cmd) : State := s.onceCmd c fun s _ => ended (s.bypWrite (BitVec.ofNat 32 (cNum c 0 1))) stDone

/-- A table command: first entry and count in `w` octets each, then entries (R432). -/
def State.cmdTable (s : State) (c : Cmd) (typ w nmax : Nat) : State :=
  let n := cNum c w w
  let body := c.ps.drop (2 * w)
  s.perPlane c fun s p =>
    if n < 1 ∨ nmax < n ∨ body.length < n * tableSize typ then ended s stBadParam
    else if s.imgLocked then ended s stConflict
    else partOr s p (s.writeTable p typ (cNum c 0 w) n body)

/-- STREAM_WRITE (R432). -/
def State.cmdStreams (s : State) (c : Cmd) : State :=
  let n := cNum c 0 4
  s.perPlane c fun s p =>
    if n < 1 ∨ 407 < n ∨ c.ps.length < 4 + 20 * n then ended s stBadParam
    else if s.imgLocked then ended s stConflict
    else partOr s p (s.writeStreams p n (c.ps.drop 4))

/-- LUT_WRITE (R432). -/
def State.cmdLut (s : State) (c : Cmd) : State :=
  let n := cNum c 4 2
  s.perPlane c fun s p =>
    if c.ps.length < 6 + 2 * n then ended s stBadParam
    else if s.imgLocked then ended s stConflict
    else partOr s p (s.writeLut p (cNum c 0 1) (cNum c 2 2) n (c.ps.drop 6))

/-- QUEUE_CONFIG (R214, R220, R432). -/
def State.cmdQueue (s : State) (c : Cmd) : State :=
  let q := cNum c 0 2
  s.perPlane c fun s p =>
    if 511 < q ∨ !fitAll (cRegs c (R.Q_CFG p q) 4 4) then ended s stBadParam
    else if s.imgLocked then ended s stConflict
    else if s.pendingAt (R.Q_STAGE_CTL p q) then ended s stConflict
    else
      let s1 := s.stageAll (R.Q_STAGE_CTL p q) (cRegs c (R.Q_CFG p q) 4 4)
      ended (if cNum c 20 1 % 2 = 1 then (if s1.qEn p q then s1 else s1.queueOn p q) else s1.queueOff p q) stDone

/-- QUEUE_FLUSH (R215, R432). -/
def State.cmdFlush (s : State) (c : Cmd) : State :=
  let q := cNum c 0 2
  s.perPlane c fun s p => if 511 < q then ended s stBadParam else ended ((s.flushRequest p q).flushNow p q) stDone

/-- JOB_CANCEL (R277, R432). -/
def State.cmdCancel (s : State) (c : Cmd) : State :=
  let n := cNum c 0 2
  let js := (List.range n).map fun i => cNum c (2 + 2 * i) 2
  s.perPlane c fun s p =>
    if n < 1 ∨ 32 < n ∨ c.ps.length < 2 + 2 * n ∨ js.any (fun j => decide (4095 < j)) then ended s stBadParam
    else ended (s.each js fun s j => s.cancelJob p j) stDone

/-- GUARD_SET (R296, R432). -/
def State.cmdGuard (s : State) (c : Cmd) : State :=
  s.perPlane c fun s p =>
    let v := BitVec.ofNat 32 (cNum c 0 2)
    if !fitsReg (R.REL_GUARD p) v then ended s stBadParam
    else if s.imgLocked then ended s stConflict
    else s.putBlock (R.REL_STAGE_CTL p) [(R.REL_GUARD p, v)]

/-- A valid descriptor of plane `p` names pulse output `n` (R310). -/
def State.pulseNamed (s : State) (p : Plane) (n : Nat) : Bool :=
  (s.pl p).descs.any fun d => rdValid d.2 && outOf d.2 == 40 + n && rdKind d.2 != 0

/-- PULSE_ONE, PULSE_PERIODIC, PULSE_STOP: `mk` gives the copy's programme from the time it acts (R310, R311, R432). -/
def State.cmdPulse (s : State) (c : Cmd) (one : Bool) (prog : List Byte) (stop : Bool) : State :=
  let n := cNum c 0 1
  match s.targets c with
  | .error st => s.refuse c ((s.coreFor c).getD s.lead) st
  | .ok (ps, split) =>
    let busy := ps.filter fun p => s.pulseNamed p n
    if 15 < n ∨ (!stop ∧ badProg prog) then s.answer c (ps.map fun p => (p, stBadParam, [])) split
    else if busy ≠ [] then s.answer c (busy.map fun p => (p, stConflict, [])) split
    else
      let core := (s.coreFor c).getD s.lead
      let now := s.release core
      let t := ofPt64 now (BitVec.ofNat 64 (cNum c 4 8))
      let soon : Int := now + s.rf (R.REL_CTL core) 7 0 * unitsPerUs
      let at_ := max t soon
      let late := one && decide (t < soon)
      let phase := if one then toPt64 at_ else BitVec.ofNat 64 (cNum c 4 8)
      let cmd : PulseCmd := { out := n, at_ := at_, data := if stop then [] else prog ++ toBE 8 phase.toNat, cmd := c, late := late }
      let s1 := (s.accept c ps split stAccepted).each ps fun s p =>
        let s2 := s.modPl p fun x => { x with pulses := x.pulses ++ [cmd] }
        if late then (s2.count (R.REL_COUNTERS p 6)).raiseP p 152 else s2
      s1.when late fun s => s.pulseLate n

def State.cmdPulseOne (s : State) (c : Cmd) : State := s.cmdPulse c true (toBE 4 0 ++ slice c.ps 12 4 ++ toBE 8 0) false
def State.cmdPulsePeriodic (s : State) (c : Cmd) : State := s.cmdPulse c false (slice c.ps 12 16) false
def State.cmdPulseStop (s : State) (c : Cmd) : State := s.cmdPulse c false [] true

/-- CAPTURE_CONFIG, LTC_CONFIG (R432). -/
def State.cmdCapture (s : State) (c : Cmd) : State :=
  s.onceCmd c fun s p => if 7 < cNum c 0 1 then ended s stBadParam else s.putRegs p [(R.CI_CFG (cNum c 0 1), cWord c 4)]

def State.cmdLtc (s : State) (c : Cmd) : State :=
  s.onceCmd c fun s p => if 1 < cNum c 0 1 then ended s stBadParam else s.putRegs p [(R.LO_CFG (cNum c 0 1), cWord c 4)]

/-- SL_CONFIG (R345, R433). -/
def State.cmdSlConfig (s : State) (c : Cmd) : State :=
  let n := cNum c 0 1
  s.onceCmd c fun s p =>
    if 31 < n ∨ !fitAll (cRegs c (R.SL_MODE n) 4 12) then ended s stBadParam
    else if s.imgLocked ∨ s.pendingAt (R.SL_STAGE_CTL n) then ended s stConflict
    else (s.stageAll (R.SL_STAGE_CTL n) (cRegs c (R.SL_MODE n) 4 10)).putRegs p [(R.SL_FLOW n, cWord c 44), (R.SL_STUCK n, cWord c 48)]

/-- SL_SEND (R337, R433). -/
def State.cmdSlSend (s : State) (c : Cmd) : State :=
  let n := cNum c 0 1
  let hdr := cWord c 4
  let len := hdrLen hdr
  match s.targets c, s.coreFor c with
  | .ok (_, split), some p =>
    if 31 < n ∨ 4096 < len ∨ badHdr hdr ∨ c.ps.length < 8 + len then s.answer c [(p, stBadParam, [])] split
    else if !(s.slS n).txRoom len then s.answer c [(p, stNoResource, [])] split
    else (s.accept c [p] split stAccepted).slQueued n { hdr := hdr, data := slice c.ps 8 len, owner := .cmd c }
  | .error st, _ => s.refuse c ((s.coreFor c).getD s.lead) st
  | _, none => s.refuse c s.lead stPlaneAbsent

/-- CAN_CONFIG (R364, R375, R433). -/
def State.cmdCanConfig (s : State) (c : Cmd) : State :=
  let n := cNum c 0 1
  s.onceCmd c fun s p =>
    if 7 < n ∨ !fitAll (cRegs c (R.CAN_CFG n) 4 4) ∨ !fitsReg (R.CAN_WARN n) (cWord c 20) then ended s stBadParam
    else if s.imgLocked ∨ s.pendingAt (R.CAN_STAGE_CTL n) then ended s stConflict
    else
      let (s1, st) := (s.stageAll (R.CAN_STAGE_CTL n) (cRegs c (R.CAN_CFG n) 4 4)).putRegs p [(R.CAN_WARN n, cWord c 20)]
      (s1.canSetEn n (cNum c 24 1 % 2 == 1), st)

/-- CAN_SCHEDULE (R364, R433). -/
def State.cmdCanSchedule (s : State) (c : Cmd) : State :=
  let n := cNum c 0 1
  let a := cNum c 1 1
  let k := cNum c 2 1
  let b := cNum c 3 1
  let m := cNum c 4 1
  s.onceCmd c fun s _ =>
    if 7 < n ∨ 256 < a + k ∨ 64 < b + m ∨ c.ps.length < 8 + 8 * k + 4 * m then ended s stBadParam
    else
      let slots := (List.range k).flatMap fun i =>
        [(R.CAN_SLOT_START n (a + i), cWord c (8 + 8 * i)), (R.CAN_SLOT_WIN n (a + i), cWord c (12 + 8 * i))]
      let objs := (List.range m).map fun i => (R.CAN_TXO_CFG n (b + i), cWord c (8 + 8 * k + 4 * i))
      if !fitAll (slots ++ objs) then ended s stBadParam
      else if s.imgLocked ∨ s.pendingAt (R.CAN_STAGE_CTL n) then ended s stConflict
      else ended (s.stageAll (R.CAN_STAGE_CTL n) (slots ++ objs)) stDone

/-- CAN_SEND (R359, R433). -/
def State.cmdCanSend (s : State) (c : Cmd) : State :=
  let n := cNum c 0 1
  let m := cNum c 1 1
  let fr := slice c.ps 4 (8 + cNum c 9 1)
  match s.targets c, s.coreFor c with
  | .ok (_, split), some p =>
    if 7 < n ∨ 63 < m ∨ c.ps.length < 4 + fr.length then s.answer c [(p, stBadParam, [])] split
    else if s.txoSrc n m != 2 || s.badFrame n fr then (s.canBad n).answer c [(p, stBadParam, [])] split
    else ((s.accept c [p] split stAccepted).canHostFrame n m fr (.cmd c)).1
  | .error st, _ => s.refuse c ((s.coreFor c).getD s.lead) st
  | _, none => s.refuse c s.lead stPlaneAbsent

/-- OUTPUT_CONFIG (R67, R68, R433). -/
def State.cmdOutput (s : State) (c : Cmd) : State :=
  let a := cNum c 4 1
  let n := cNum c 5 1
  s.onceCmd c fun s p =>
    if n < 1 ∨ 58 < a + n ∨ c.ps.length < 8 + n then ended s stBadParam
    else s.putRegs p ((R.LDH_CTL, cWord c 0) :: (List.range n).map fun i => (R.LDH_OUT_CFG (a + i), BitVec.ofNat 32 (cNum c (8 + i) 1)))

/-- WIN_CONFIG (R413, R433). -/
def State.cmdWinConfig (s : State) (c : Cmd) : State :=
  let n := cNum c 0 1
  s.perPlane c fun s p =>
    if 63 < n then ended s stBadParam else if s.imgLocked then ended s stConflict
    else s.putBlock (R.BRG_WIN_STAGE_CTL p n) (cRegs c (R.BRG_WIN_CFG p n) 4 5)

/-- WIN_READ and WIN_WRITE: an access of the control core of each plane the command acts on (R382, R433). -/
def State.cmdWinAccess (s : State) (c : Cmd) (len : Nat) (data : List Byte) : State :=
  let n := cNum c 0 1
  let off := cNum c 4 4
  match s.targets c with
  | .error st => s.refuse c ((s.coreFor c).getD s.lead) st
  | .ok (ps, split) =>
    if 63 < n ∨ (len ≠ 4 ∧ len ≠ 8) ∨ off % 4 ≠ 0 ∨ 2 ^ 26 < off + len then s.answer c (ps.map fun p => (p, stBadParam, [])) split
    else (s.hold c ps split).each ps fun s p => s.coreAcc p c n off data len

/-- The value of WIN_WRITE as the host view's octets: a 32-bit word in little-endian lanes (R388). -/
def State.cmdWinRead (s : State) (c : Cmd) : State := s.cmdWinAccess c (cNum c 8 1) []
def State.cmdWinWrite (s : State) (c : Cmd) : State := s.cmdWinAccess c 4 (toLE 4 (cNum c 8 4))

/-- BRIDGE_CTL (R411, R412, R433). -/
def State.cmdBridgeCtl (s : State) (c : Cmd) : State :=
  s.perPlane c fun s p =>
    s.putRegs p [(R.BRG_CTL p, cWord c 0), (R.BRG_RDM_UID_LO p, cWord c 6), (R.BRG_RDM_UID_HI p, BitVec.ofNat 32 (cNum c 4 2))]

end Sys2Proof.Machine
end

