-- ==== Sys2Proof/Machine/Maint.lean ====
section
/-!
DEFINITION. The maintenance sequencer and the configuration image commands, groups 0x09 and 0x0A (R434, R440-R447, R484).
-/
namespace Sys2Proof.Machine

/-- A status that nothing decides: some code of R22. Log 85. -/
def State.freeStatus (s : State) : Nat × State :=
  let (w, s1) := s.free32
  (([stBadParam, stNoResource, stConflict, stNotPermitted, stTimeout, stFarError] : List Nat).getD (w.toNat % 6) stFarError, s1)

/-- The planes whose flashes a command names (R77, R434): FW_STAGE reaches a plane in BOOT too (R477), and FLASH_WRITE and FLASH_CHUNK
with PLANES = BOTH write both flashes. Log 86. -/
def State.flashTargets (s : State) (c : Cmd) : Except Nat (List Plane × Bool) :=
  let boots (p : Plane) : Bool := c.op == 0x0903 && decide ((s.pl p).st = .boot)
  let here (p : Plane) : Bool := s.active p || s.cmdCore == some p || boots p
  if s.cmdCore.isNone || s.mode == 4 then s.targets c
  else match planesOf c.planes with
    | [p] => if boots p then .ok ([p], false) else s.targets c
    | ps => .ok (if c.op = 0x0903 then ps.filter here else ps, false)

/-- The planes an operation acts on as it starts. -/
def State.mntActs (s : State) (m : MaintOp) : List Plane :=
  match m.cmd with
  | some c => match s.targets c with | .ok (ps, _) => ps | .error _ => []
  | none => []

/-- The one plane that an operation names. -/
def MaintOp.plane (m : MaintOp) : Plane := match planesOf m.planes with | p :: _ => p | [] => .a

/-- The answer of PLANE_REJOIN by the state of the named plane (R82, R446); none where a rejoin may start. -/
def State.rejoinWhy (s : State) (p : Plane) (auto : Bool) : Option Nat :=
  let x := s.pl p
  if !s.active (other p) then some stNotPermitted
  else match x.st with
    | .off => some stPlaneAbsent
    | .held => some stNotPermitted
    | .active => if auto then none else some stDone
    | .sync | .copy => some stConflict
    | .boot => if x.dead then some stPlaneAbsent else none
    | .relearn | .relearnWait => none

/-- Ports of the ring that LINK_CAL measures are fit for it (R161). -/
def State.calMay (s : State) (p : Plane) (side : Bool) : Bool :=
  let i := if side then 2 else 0
  s.portMode p i == 1 && s.portMode p (i + 1) == 1 && !s.wrapped p i && !s.wrapped p (i + 1)

/-- The status with which an operation ends instead of starting (R82, R161, R446, R481). -/
def State.mntWhy (s : State) (m : MaintOp) : Option Nat :=
  let p := m.plane
  if (m.op = 0 ∨ m.op = 1) ∧ s.pwrMode = 1 then some stNotPermitted
  else if m.op = 1 then s.rejoinWhy p m.cmd.isNone
  else if m.op = 3 ∨ m.op = 7 then (if !s.active (other p) then some stNotPermitted else if !s.active p then some stPlaneAbsent else none)
  else if m.op = 4 then
    let side := match m.cmd with | some c => cNum c 0 1 == 1 | none => false
    if (s.mntActs m).all fun q => s.calMay q side then none else some stNotPermitted
  else none

/-- LINK_CAL begins (R160). -/
def State.calBegin (s : State) (p : Plane) (c : Cmd) : State :=
  let n := if cNum c 1 1 = 0 then 64 else cNum c 1 1
  s.modPl p fun x =>
    { x with cal := some { side := cNum c 0 1 == 1, probes := n, east := true, sent := 0, sumE := 0, nE := 0, sumW := 0, nW := 0,
                           members := 0, void := false } }

/-- TIME_SWITCH arms the switch; one to the selected domain is done (R114, R116). -/
def State.switchBegin (s : State) (m : MaintOp) (c : Cmd) : State :=
  let d := cNum c 0 1
  let ps := if s.mode = 3 then bothPlanes else s.mntActs m
  if ps.all fun p => s.sel p == d then s.mntDone m stDone []
  else s.each (ps.filter fun p => s.sel p != d) fun s p => s.arm p d (cNum c 8 8) true

/-- An operation, entered as running, begins (R82, R434, R484, R486). -/
def State.mntGo (s : State) (m : MaintOp) : State :=
  let p := m.plane
  match m.op, m.cmd with
  | 1, _ => if (s.pl p).st = .boot ∧ (s.pl p).fw.isNone then s else s.rejoinWaits p
  | 3, _ => (s.frMirror.planeLost p .held (some m)).setRb (R.AON_BOOT (planeNum p)) 31 true
  | 7, _ => s.planeLost p .held (some m)
  | 4, some c => s.each (s.mntActs m) fun s q => s.calBegin q c
  | 5, some c => s.switchBegin m c
  | _, _ => s

/-- Enters an operation as running, with its record (R447, R485). -/
def State.mntEnter (s : State) (m : MaintOp) : State :=
  { s with maint := s.maint ++ [m] }.record 7 (srcOf s.lead) (toBE 2 (0x0901 + m.op) ++ [0, 0])

/-- The sequencer takes an operation's command (R445, R446). -/
def State.mntTake (s : State) (c : Cmd) (op : Nat) (acting : List Plane) (split : Bool) (data : List Byte) : State :=
  let by_ := (s.coreFor c).getD s.lead
  let m : MaintOp := { op := op, planes := c.planes, cmd := some c, data := data, fail := none }
  let present := s.maint ++ s.maintQ
  let queue := !s.maintQ.isEmpty || present.any fun q => mntTable q.op op == 1
  let why := if queue && op == 4 then none else s.mntWhy m
  if present.any fun q => mntTable q.op op == 2 then s.refuse c by_ stConflict
  else match why with
    | some st => if st = stDone then s.answer c (acting.map fun p => (p, stDone, [])) split else s.refuse c by_ st
    | none =>
      if queue then
        (if 8 ≤ s.maintQ.length then s.refuse c by_ stNoResource
         else { s.accept c acting split stQueued with maintQ := s.maintQ ++ [m] })
      else ((s.accept c acting split stAccepted).mntEnter m).mntGo m

/-- MAINT_QUEUE_START (R445). -/
def State.mntNext (s : State) : State :=
  match s.maintQ with
  | [] => s
  | m :: rest =>
    if s.maint.all fun q => mntTable q.op m.op == 0 then
      let s1 := State.mntEnter { s with maintQ := rest } m
      match s1.mntWhy m with
      | some st => s1.mntDone m st []
      | none => s1.mntGo m
    else s

/-- A sequencer command whose planes follow R77; `bad` tells a parameter out of range. -/
def State.mntPlain (s : State) (c : Cmd) (op : Nat) (bad : Bool) : State :=
  match s.targets c with
  | .error st => s.refuse c ((s.coreFor c).getD s.lead) st
  | .ok (ps, split) => if bad then s.answer c (ps.map fun p => (p, stBadParam, [])) split else s.mntTake c op ps split []

/-- PLANE_REJOIN, FW_SWAP and SELF_TEST name one plane (R434, R459). -/
def State.mntOne (s : State) (c : Cmd) (op : Nat) : State :=
  let by_ := (s.coreFor c).getD s.lead
  let host : Bool := match c.src with | .hostQ _ => true | .ring .. => false
  match planesOf c.planes with
  | [p] =>
    if s.cmdCore.isNone then s.refuse c by_ stPlaneAbsent
    else if s.mode = 4 ∧ host ∧ p ≠ s.lead then s.refuse c by_ stNotPermitted
    else s.mntTake c op [p] false []
  | _ => s.refuse c by_ stBadParam

/-- SCRUB (R434). -/
def State.cmdScrub (s : State) (c : Cmd) : State := s.mntPlain c 0 (decide (3600 < cNum c 0 2))

def State.cmdRejoin (s : State) (c : Cmd) : State := s.mntOne c 1
def State.cmdSwap (s : State) (c : Cmd) : State := s.mntOne c 3
def State.cmdSelfTest (s : State) (c : Cmd) : State := s.mntOne c 7

/-- LINK_CAL, TIME_SWITCH (R434). -/
def State.cmdLinkCal (s : State) (c : Cmd) : State := s.mntPlain c 4 (decide (1 < cNum c 0 1))
def State.cmdSwitch (s : State) (c : Cmd) : State := s.mntPlain c 5 (decide (1 < cNum c 0 1))

/-- FW_STAGE and FLASH_WRITE: `data` is what host memory held (R434, R484). -/
def State.mntFlash (s : State) (c : Cmd) (op : Nat) (bad : Bool) (data : List Byte) : State :=
  match s.flashTargets c with
  | .error st => s.refuse c ((s.coreFor c).getD s.lead) st
  | .ok (ps, split) => if bad then s.answer c (ps.map fun p => (p, stBadParam, [])) split else s.mntTake c op ps split data

def State.cmdStage (s : State) (c : Cmd) (image : List Byte) : State :=
  let n := cNum c 4 4
  s.mntFlash c 2 (decide (1 < cNum c 0 1) || (cNum c 0 1 == 0 && decide (7 * 2 ^ 20 < n))) (if cNum c 0 1 = 0 then slice image 0 n else [])

def State.cmdFlash (s : State) (c : Cmd) (data : List Byte) : State :=
  let n := cNum c 4 4
  let src := cNum c 0 1
  let bad := decide (2 < src) || decide (3 < cNum c 1 1) || (src == 0 && decide (12 * 2 ^ 20 < n)) || (src == 2 && s.activeImg.isEmpty)
  s.mntFlash c 6 bad (if src = 0 then slice data 0 n else if src = 2 then s.activeImg else [])

/-- The running operation of a kind. -/
def State.mntRun (s : State) (op : Nat) : Option MaintOp := s.maint.find? fun m => m.op == op

/-- Writes octets to a plane's flash, each 4 KiB sector they start erased first (R434). -/
def State.flashFill (s : State) (p : Plane) (a : Nat) (bs : List Byte) : State :=
  s.flashPut p a (bs ++ List.replicate ((4096 - bs.length % 4096) % 4096) erased)

/-- Parts of an operation end on several planes; the last completes it. -/
def State.mntParts (s : State) (m : MaintOp) (parts : List (Plane × Nat × List Byte)) : State :=
  let s1 := match m.cmd with
    | some c => s.each parts fun s e => s.part c e.1 e.2.1 e.2.2
    | none => s
  let (st, _, _) := combine s.lead parts false
  s1.mntDone m st []

/-- What a scrub pass found in plane `p` is counted, and base flags are lost (R218, R259). Log 142. -/
def State.scrubbed (s : State) (p : Plane) (c : ScrubCnt) : State :=
  ((s.storeFixed p c.storeFixed).modPl p fun x => x.loseBase c.applied).buEcc p c.buFixed c.buBad

/-- The result of a scrub of one plane: corrected and uncorrectable words (R434). -/
def scrubResult (c : ScrubCnt) : List Byte :=
  toBE 4 (min (c.storeFixed + c.buFixed) 0xFFFFFFFF) ++ toBE 4 (min (c.storeBad + c.buBad) 0xFFFFFFFF)

/-- SCRUB_DONE (R218, R259, R434): what the pass found in each plane that it covered. -/
def State.scrubDone (s : State) (a b : ScrubCnt) : State :=
  match s.mntRun 0 with
  | none => s
  | some m =>
    let acts := match m.cmd with | some c => (match s.targets c with | .ok (ps, _) => ps | .error _ => []) | none => []
    let cnt (p : Plane) : ScrubCnt := match p with | .a => a | .b => b
    (s.each acts fun s p => s.scrubbed p (cnt p)).mntParts m (acts.map fun p => (p, stDone, scrubResult (cnt p)))

/-- FW_STAGE_DONE: `a` and `b` judge the inactive slots of planes A and B as they have been written (R470, R477, R484). -/
def State.stageDone (s : State) (a b : SlotCheck) : State :=
  match s.mntRun 2 with
  | none => s
  | some m =>
    let acts := match m.cmd with | some c => (match s.flashTargets c with | .ok (ps, _) => ps | .error _ => []) | none => []
    let fill (s : State) (p : Plane) : State :=
      if m.data.isEmpty then s else s.flashFill p (fwAddr (1 - s.fwActive p)) m.data
    let s1 := s.each acts fill
    let judge (p : Plane) : Plane × Nat × List Byte :=
      match s1.slotCheck p (1 - s1.fwActive p) (match p with | .a => a | .b => b) with
      | .good v _ => (p, stDone, toBE 4 v.toNat)
      | _ => (p, stBadParam, [])
    s1.mntParts m (acts.map judge)

/-- An image slot of a plane's flash holds the active image (R444). -/
def State.holdsActive (s : State) (p : Plane) : Bool :=
  [0, 1, 2, 3].any fun k => match s.slotImage p k with
    | some im => s.rb R.AON_IMAGE_INFO 31 && decide (imgIdentity im = s.aonIdent)
    | none => false

/-- FLASH_WRITE_DONE: whether each flash took the image (R434, R444, R470). -/
def State.flashDone (s : State) (okA okB : Bool) : State :=
  match s.mntRun 6 with
  | none => s
  | some m =>
    let slot := match m.cmd with | some c => cNum c 1 1 | none => 0
    let acts := match m.cmd with | some c => (match s.flashTargets c with | .ok (ps, _) => ps | .error _ => []) | none => []
    let ok (p : Plane) : Bool := match p with | .a => okA | .b => okB
    let put (s : State) (p : Plane) : State :=
      if ok p then (if m.data.isEmpty then s else s.flashFill p (slotAddr slot) m.data)
      else s.record 0x0E 0 (toBE 1 (planeNum p) ++ toBE 3 (slotAddr slot / 4096))
    let (bad, s0) := s.freeStatus
    let s1 := s0.each acts put
    let ident (p : Plane) : List Byte := let h := s1.flashOcts p (slotAddr slot) 64; slice h 8 8 ++ slice h 24 4
    let mine := acts.any fun p => ok p && decide (ident p = s1.aonIdent)
    let s2 :=
      if mine && s1.holdsActive .a && s1.holdsActive .b then
        ((s1.setRb R.AON_IMAGE_INFO 27 true).setRf R.AON_IMAGE_INFO 25 24 slot).bootImage
      else s1
    s2.mntParts m (acts.map fun p => if ok p then (p, stDone, ident p) else (p, bad, []))

/-- SELF_TEST_DONE: the plane is released to boot and rejoin (R434, R446). -/
def State.testDone (s : State) (mask : Word) : State :=
  match s.maint.find? fun m => m.op == 7 && m.data.isEmpty with
  | some m => { s with maint := s.maint.map fun q => if q = m then { m with data := toBE 4 mask.toNat } else q }
  | none => s

/-- LINK_CAL_COMPLETE at plane `p` (R160, R161). -/
def State.calDone (s : State) (p : Plane) : State :=
  match s.mntRun 4, (s.pl p).cal with
  | some m, some c =>
    if c.east ∨ c.sent < c.probes then s
    else
      let (ok, res) := calResult c
      let st := if ok then stDone else stTimeout
      let s1 := s.modPl p fun x => { x with cal := none }
      let s2 := match m.cmd with | some d => s1.part d p st res | none => s1
      if (s2.pl (other p)).cal.isSome then s2 else s2.mntDone m st []
  | _, _ => s

/-- An armed TIME_SWITCH has taken place, or been given up (R114). -/
def State.switchDone (s : State) (ok : Bool) : State :=
  match s.mntRun 5 with
  | some m => s.mntDone m (if ok then stDone else stNotPermitted) []
  | none => s

/-- MAINT_STATUS (R434). -/
def State.cmdMaintStatus (s : State) (c : Cmd) : State :=
  let mask := s.maint.foldl (fun a m => a ||| 2 ^ m.op) 0
  let tags := (s.maint.take 4).flatMap fun m => toBE 2 (match m.cmd with | some d => d.tag.toNat | none => 0)
  s.onceCmd c fun s _ => (s, stDone, toBE 1 mask ++ toBE 1 s.maintQ.length ++ tags)

/-- A running or queued operation uses a slot of the flashes of some of the planes `ps` (R434). -/
def State.slotBusy (s : State) (ps : List Plane) (region slot : Nat) : Bool :=
  (s.maint ++ s.maintQ).any fun m => match m.cmd with
    | none => false
    | some c => (if region = 1 then m.op == 2 else m.op == 6 && cNum c 1 1 == slot) &&
        match s.flashTargets c with | .ok (qs, _) => qs.any ps.contains | .error _ => false

/-- FLASH_CHUNK (R434). -/
def State.cmdChunk (s : State) (c : Cmd) : State :=
  let region := cNum c 0 1
  let slot := cNum c 1 1
  let off := cNum c 4 4
  let data := c.ps.drop 8
  let size := if region = 0 then 12 * 2 ^ 20 else 7 * 2 ^ 20
  let bad := decide (1 < region) || (region == 0 && decide (3 < slot)) || off % 4096 != 0 || data.isEmpty || decide (8144 < data.length) ||
    decide (size < off + data.length)
  match s.flashTargets c with
  | .error st => s.refuse c ((s.coreFor c).getD s.lead) st
  | .ok (ps, split) =>
    if bad then s.answer c (ps.map fun p => (p, stBadParam, [])) split
    else if s.slotBusy ps region slot then s.answer c (ps.map fun p => (p, stConflict, [])) split
    else
      let one (s : State) (p : Plane) : State × Part :=
        let base := if region = 0 then slotAddr slot else fwAddr (1 - s.fwActive p)
        let (s1, ok1) := s.flashWrite p (base + off) (data.take 4096)
        let (s2, ok2) := if 4096 < data.length then s1.flashWrite p (base + off + 4096) (data.drop 4096) else (s1, true)
        if ok1 && ok2 then (s2, stDone, [])
        else
          let (st, s3) := s2.freeStatus
          (s3, st, [])
      let (s1, parts) := ps.foldl (fun (a : State × List (Plane × Nat × List Byte)) p =>
        let (s2, e) := one a.1 p
        (s2, a.2 ++ [(p, e)])) (s, [])
      s1.answer c parts split

/-- IMAGE_QUERY (R434). -/
def State.cmdQuery (s : State) (c : Cmd) : State :=
  let src := cNum c 0 1
  s.onceCmd c fun s p =>
    if src = 1 ∧ cNum c 1 1 ≤ 3 then
      (s, stDone, match s.slotImage p (cNum c 1 1) with | some im => imgIdentity im | none => List.replicate 12 0)
    else if src = 2 then (s, stDone, s.aonIdent)
    else ended s stBadParam

/-- An IMAGE_COMMIT is open (R442). -/
def State.commitOpen (s : State) : Bool := s.img.isSome || s.checks.any fun i => !i.verify

/-- IMAGE_COMMIT and IMAGE_VERIFY; `image` is what host memory held (R442, R443, R481). -/
def State.cmdImage (s : State) (c : Cmd) (image : List Byte) (verify : Bool) : State :=
  let by_ := (s.coreFor c).getD s.lead
  match s.targets c with
  | .error st => s.refuse c by_ st
  | .ok (ps, split) =>
    if 1 < cNum c 0 1 ∨ (cNum c 0 1 = 1 ∧ 3 < cNum c 1 1) then (s.answer c (ps.map fun p => (p, stBadParam, [])) split).raise 30
    else if !verify && (s.mode == 4 || s.pwrMode == 1) then s.refuse c by_ stNotPermitted
    else if !verify && s.commitOpen then s.refuse c by_ stConflict
    else
      let im := match cmdSlot c with
        | some k => (s.slotImage by_ k).getD []
        | none => image
      { s.accept c ps split stAccepted with
        checks := s.checks ++ [{ cmd := c, image := im, verify := verify, applyAt := none, late := false }] }

/-- An open image command ends in a refusal (R442). -/
def State.imgFails (s : State) (i : ImgS) (parts : List (Plane × Nat × List Byte)) : State :=
  let s1 := s.each parts fun s e => s.raiseIf (e.2.1 == stOverBudget) (evOf e.1 149)
  let s2 := s1.each parts fun s e => s.part i.cmd e.1 e.2.1 e.2.2
  s2.raise 30

/-- IMAGE_CHECK_DONE: the checks of the image command accepted first end (R442, R443, R522). -/
def State.imgChecked (s0 : State) : State :=
  match s0.checks with
  | [] => s0
  | i :: rest =>
    let s : State := { s0 with checks := rest }
    let ps := s.imgPlanes i.cmd
    let empty := (cmdSlot i.cmd).isSome && i.image.isEmpty
    let judge (p : Plane) : Plane × Nat × List Byte :=
      if empty then (p, stBadParam, imgRefuse 0xFFFFFFFF 0 7)
      else match s.judgeImage p i.image with
        | some (st, res) => (p, st, res)
        | none => (p, stDone, [])
    let parts := ps.map judge
    if ps.isEmpty then s.complete i.cmd stPlaneAbsent []
    else if parts.any fun e => e.2.1 != stDone then s.imgFails i parts
    else if i.verify then s.complete i.cmd stDone []
    else
      let p := s.cmdCore.getD s.lead
      let e := (s.pl p).egS (imgCanvas i.image)
      let named := cNum i.cmd 16 8
      let live := s.egEn p (imgCanvas i.image) && e.live
      { s with img := some { i with applyAt := if live then some (max named (e.next + 2)) else none,
                                    late := live && decide (named ≠ 0) && decide (named < e.next) } }

/-- The apply point of an open image has come: its boundary is the next of the canvas generator, or there is none (R442, R522).
Log 83. -/
def State.imgDue (s : State) (i : ImgS) : Bool :=
  let p := s.cmdCore.getD s.lead
  let g := imgCanvas i.image
  let e := (s.pl p).egS g
  match i.applyAt with
    | some a => !(s.egEn p g && e.live) || decide (a ≤ e.next)
    | none => true

/-- IMAGE_APPLY (R441-R444, R470, R522). -/
def State.imgApply (s : State) : State :=
  match s.img with
  | none => s
  | some i =>
    if !s.imgDue i then s
    else
      let ps := s.imgPlanes i.cmd
      let im := i.image
      let one (s : State) (p : Plane) : State :=
        if (s.pl p).relearn.isSome then s.relearnLoad p im else ((s.writeImage p im).writeImgRegs im (some p)).applyIdle p
      let s1 := (s.each ps one).writeRing im
      let s2 := (s1.recordImage im (cmdSlot i.cmd)).bootImage
      let s3 := (s2.record 8 1 (toBE 4 (imgCrc im))).raise 29
      let res := (match i.applyAt with | some a => toBE 8 a | none => List.replicate 8 0xFF) ++ toBE 1 i.late.toNat
      State.complete { s3 with img := none, imgPause := imgFull im || s3.imgPause, imgBuf := !imgFull im || s3.imgBuf } i.cmd stDone res

/-- IMAGE_WRITE_DONE: the pause of a FULL image ends, or the change buffers of a DELTA image are empty (R443). -/
def State.imgWritten (s : State) : State := { s with imgPause := false, imgBuf := false }

end Sys2Proof.Machine
end

