-- ==== Sys2Proof/Machine/Snuffer.lean ====
section
/-!
DEFINITION. The Snuffer path (R436-R439).
-/
namespace Sys2Proof.Machine

/-- OUTPUTS, PORTS and WHAT of the parameters (R437). -/
def snfOuts (c : Cmd) : Nat := cNum c 0 8
def snfPorts (c : Cmd) : Nat := cNum c 8 1
def snfWhat (c : Cmd) : Nat := cNum c 9 1

/-- The streams named (R437). -/
def snfStreams (c : Cmd) : List (BitVec 24) := (List.range (cNum c 12 1)).map fun i => BitVec.ofNat 24 (cNum c (16 + 4 * i) 4)

/-- The command names streams: STOP_STREAM, or RESUME with WHAT bit 3. -/
def snfLists (c : Cmd) : Bool := c.op == 0x0F03 || (c.op == 0x0F04 && snfWhat c / 8 % 2 == 1)

/-- Parameters out of range (R423, R437). -/
def snfBad (c : Cmd) : Bool :=
  let named := c.op == 0x0F01 || c.op == 0x0F04 || c.op == 0x0F05
  (named && (decide (2 ^ 58 ≤ snfOuts c) || decide (16 ≤ snfPorts c) || cNum c 10 2 != 0)) ||
    (named && (if c.op = 0x0F04 then decide (32 ≤ snfWhat c) else snfWhat c != 0)) ||
    (snfLists c && (decide (16 < cNum c 12 1) || decide (c.ps.length < 16 + 4 * cNum c 12 1)))

/-- Streams in force with new ones named, each once. -/
def addStreams (old new : List (BitVec 24)) : List (BitVec 24) := new.foldl (fun l st => if l.contains st then l else l ++ [st]) old

/-- The Snuffer state after an operation (R438); none when STOP_STREAM meets the limit of 256. -/
def snfAfter (x : SnfS) (c : Cmd) : Option SnfS :=
  let o := BitVec.ofNat 58 (snfOuts c)
  let p := BitVec.ofNat 4 (snfPorts c)
  let what (i : Nat) : Bool := snfWhat c / 2 ^ i % 2 == 1
  if c.op = 0x0F01 then some { x with black := x.black ||| (o &&& BitVec.ofNat 58 (2 ^ 40 - 1)), pBlack := x.pBlack ||| p }
  else if c.op = 0x0F02 then some { x with hold := true, holdEnds := false }
  else if c.op = 0x0F03 then
    let l := addStreams x.stopped (snfStreams c)
    if 256 < l.length then none else some { x with stopped := l }
  else if c.op = 0x0F04 then
    let stopped := if what 4 then [] else if what 3 then x.stopped.filter fun st => !(snfStreams c).contains st else x.stopped
    some { x with
      black := if what 0 then x.black &&& ~~~o else x.black, pBlack := if what 0 then x.pBlack &&& ~~~p else x.pBlack,
      safe := if what 1 then x.safe &&& ~~~o else x.safe, pSafe := if what 1 then x.pSafe &&& ~~~p else x.pSafe,
      holdEnds := x.holdEnds || (what 2 && x.hold), stopped := stopped }
  else some { x with safe := x.safe ||| o, pSafe := x.pSafe ||| p }

/-- HOLD cancels every open draw instance of a plane (R277, R438). -/
def State.holdPlane (s : State) (p : Plane) : State :=
  s.each ((s.pl p).inst.filter fun e => !jBuild e.2.desc) fun s e =>
    let s1 := s.count (R.SNF_HOLD_CANCEL p)
    if e.2.st = .run then s1.modPl p fun x => x.modInst e.1 fun i => { i with ending := some (if i.ending = some 3 then 3 else 11) }
    else s1.finishInst p e.1 11 true

/-- ABRUPT on output `n` (R438): what a line transmits stops after its character, a queue frame ABORTED; a pulse ends. Log 87. -/
def State.snfCut (s : State) (n : Nat) : State :=
  if n < 32 then
    match (s.slS n).tx with
    | some t =>
      let s1 := s.emit (.serialCut n)
      match t.frame with
      | some f => (s1.modSl n fun x => { x with tx := none }).slTxnEnd n f.owner 5 [] s.lantern
      | none => s1
    | none => s
  else if 40 ≤ n ∧ n < 56 then s.pulseCut (n - 40)
  else s

/-- What BLACKOUT or SAFE_STATE does at once to output `n` (R360, R438). -/
def State.snfOut (s : State) (c : Cmd) (was : SnfS) (n : Nat) : State :=
  let safe := c.op == 0x0F05
  let s1 := if 32 ≤ n ∧ n < 40 then s.canSnuff (n - 32) else s
  let s2 := if safe && !(was.safe.getLsbD n || (s.outS n).safe) then s1.enterSafe n else s1
  let s3 := if safe ∧ 40 ≤ n ∧ s.rf (R.LDH_OUT_CFG n) 1 0 ≠ 2 then (if n < 56 then s2.pulseStop (n - 40) false else s2.ltcQuiet (n - 56)) else s2
  if c.abrupt then s3.snfCut n else s3

/-- ORIGIN as SNF_LAST and the flight recorder show it (R439, R485). Log 88. -/
def State.snfOrigin (s : State) (c : Cmd) : Nat := match c.src with | .hostQ _ => s.sourceNum | .ring _ o _ _ => o.toNat

/-- The Lantern part executes an operation (R436, R438, R439, R448, R485). -/
def State.snfExec (s : State) (c : Cmd) (x : SnfS) : State :=
  let ring : Bool := match c.src with | .hostQ _ => false | .ring .. => true
  let s1 := { s with snf := x, snfAon := x }.count R.SNF_ACTS
  let s2 := s1.setReg R.SNF_LAST (pack [(c.op.toNat % 256, 24), (ring.toNat, 22), (s.snfOrigin c, 0)])
  let s3 := (s2.setReg64 R.SNF_LAST_TIME_LO (s.lantern / 16)).record 6 1 (toBE 2 c.op.toNat ++ toBE 2 (s.snfOrigin c))
  let s4 := s3.raise 26
  if c.op = 0x0F02 then s4.each (bothPlanes.filter fun p => (s.pl p).runsJobs) State.holdPlane
  else if c.op = 0x0F01 ∨ c.op = 0x0F05 then
    s4.each ((List.range 58).filter fun n => snfOuts c / 2 ^ n % 2 == 1 && (c.op == 0x0F05 || decide (n < 40))) fun st n => st.snfOut c s.snf n
  else s4

/-- Executes an operation and answers it (R426, R436, R438). -/
def State.snfAct (s : State) (c : Cmd) (first : Bool) : State :=
  match snfAfter s.snf c with
  | none => s.sendReply c s.lead stNoResource 0 [] first true
  | some x =>
    let (st, flags, res) := combine s.lead ((bothPlanes.filter s.active).map fun p => (p, stDone, [])) false
    (s.snfExec c x).sendReply c s.lead st flags res first true

/-- The time of a timed command has come, or the boundary of the canvas generator at or after it (R422, R436), on Lantern time. The packet's
AT bit and AT field time a ring command; TIMED and PT64 of its sentence do not. Log 114. -/
def State.snfDue (s : State) (c : Cmd) : Bool :=
  let at_ := ofPt64 s.lantern c.at64
  if c.epoch then
    match s.mirror[s.canvasEg s.lead]? with
    | some m => m.en && decide ((epochTime m.base m.origin m.num m.den (epochAtOrAfter m.base m.origin m.num m.den at_) : Int) ≤ s.lantern)
    | none => false
  else decide (at_ ≤ s.lantern)

/-- A Snuffer command (R436, R437). -/
def State.cmdSnuffer (s : State) (c : Cmd) : State :=
  if snfBad c then s.refuse c s.lead stBadParam
  else if !c.timed || s.snfDue c then s.snfAct c true
  else if 64 ≤ s.snfTimed.length then s.refuse c s.lead stNoResource
  else { s.sendReply c s.lead stAccepted 0 [] true false with snfTimed := s.snfTimed ++ [c] }

/-- SNUFFER_TIMED_ACT (R436). -/
def State.snfTimedAct (s : State) : State :=
  match s.snfTimed.find? s.snfDue with
  | some c => { s with snfTimed := s.snfTimed.erase c }.snfAct c false
  | none => s

end Sys2Proof.Machine
end

