-- ==== Sys2Proof/Machine/Service.lean ====
section
/-!
DEFINITION. What several chapters meet in: an epoch boundary of a plane, inputs taken from the Lantern ring, the dispatcher's
steps, event messages and sentences, wake sources, temperature, JTAG, SNAPSHOT, and the passing of time.
-/
namespace Sys2Proof.Machine

/-- The open image reaches E(a) at the next boundary of plane `p`'s generator `g` (R442, R522). -/
def State.imgAt (s : State) (p : Plane) (g : Nat) : Bool :=
  match s.img with
  | some i => imgCanvas i.image == g && match i.applyAt with
      | some a => decide (a ≤ ((s.pl p).egS g).next)
      | none => false
  | none => false

/-- A DELTA image that applies at the boundary at which plane `p` stands: an instance that opens there, in either plane, uses the
descriptors from before it (R242, R281, R314, R443). -/
def State.imgAtBoundary (s : State) (p : Plane) (g : Nat) : State :=
  let t := s.imgApply
  if t.imgPause then t
  else t.each bothPlanes fun u q =>
    if ((s.pl q).egS g).next = ((s.pl p).egS g).next then u.modPl q fun x => { x with before := some ((s.pl q).jobs, (s.pl q).descs) } else u

/-- EPOCH_BOUNDARY: first what comes about at the boundary of an image, of the lead and of IDLE's end, then the boundary itself
and the count of RELEARN (R76, R87, R114, R119, R430, R442, R481). Log 83. -/
def State.epochStep (s : State) (p : Plane) (g : Nat) : State :=
  let e := (s.pl p).egS g
  if !(s.present p && s.egEn p g && e.live) then s
  else
    let s1 := if s.imgAt p g then s.imgAtBoundary p g else s
    let s2 := if s1.canvasEg p = g then s1.modPl p fun x => { x with noOpen := x.noOpen - 1 } else s1
    let s3 := if g = 0 ∧ s2.lead = p then s2.applyLead else s2
    let (s4, done) := s3.boundary p g
    let s5 := match done with | some ok => s4.switchDone ok | none => s4
    if g = 0 then s5.relearnTick p else s5

/-- DOMAIN_SWITCH: the armed switch, at its boundary (R111, R114). -/
def State.switchStep (s : State) (p : Plane) : State :=
  let (s1, done) := s.switchNow p
  match done with | some ok => s1.switchDone ok | none => s1

/-- REFERENCE_LOST: a PTP servo forgets its timeTransmitter (R106, R152). -/
def State.refGone (s : State) (p : Plane) (d : Nat) : State :=
  (s.refLost p d).modPl p fun x => { x with masters := modAt d (fun _ => none) x.masters }

/-- HOLD_WARN_EXPIRY (R107, R134); HOLD_WARN = 0 never warns (R103). -/
def State.holdWarn (s : State) (p : Plane) (d : Nat) : State :=
  s.raiseIf (s.present p && s.domState p d == 4 && fld ((s.pl p).domS d).cfg 10 0 != 0) (120 + d)

/-- An input of the Lantern ring that back-pressure holds (R280). -/
def State.foreignHeld (s : State) (p : Plane) (f : Foreign) : Bool :=
  s.ingressOn p && match s.parse p 0 f with | .ok x => s.inputHeld p x | .error _ => false

/-- The Lantern stamp of item `k` of a line, and of an entry of a controller's receive queue (R176, R326, R355). -/
def State.slStamp (s : State) (n k : Nat) : Int := match (s.slS n).items[k]? with | some i => i.stamp | none => 0
def State.canStamp (s : State) (n : Nat) (inseq : Word) : Int :=
  match (s.canS n).rxq.find? fun r => r.inseq == inseq with | some r => r.stamp | none => 0

/-- FOREIGN_INPUT: an input of the Lantern ring must wait for the plane and is taken unless held; its Lantern stamp becomes release time
(R172, R176, R280, R313, R329, R355). `arrival` stamps a frame of a port. -/
def State.foreignIn (s : State) (p : Plane) (arrival : Int) (f : Foreign) : State :=
  let line (n : Fin 32) : State := match (s.slInputs p n).find? fun e => decide (e.2 = f) with
    | some (k, _) => if s.foreignHeld p f then s else (s.foreign p (s.toRelease (s.slStamp n.val k)) f).slTaken p n k
    | none => s
  let lan : State := match s.lanIn.find? fun e => decide (e.input = f) && (if p = .a then e.toA else e.toB) with
    | some e => if s.foreignHeld p f then s else (s.foreign p (s.toRelease e.stamp) f).lanTaken p fun d => decide (d = e)
    | none => s
  match f with
  | .serPkt n _ _ _ => line n
  | .serTel n _ _ _ _ => line n
  | .can n _ _ _ inseq => match (s.canInputs p n).find? fun e => decide (e.2 = f) with
    | some _ => if s.foreignHeld p f then s
      else (s.foreign p (s.toRelease (s.canStamp n.val inseq)) f).modCan n.val fun x => x.taken p fun r => r.inseq == inseq
    | none => s
  | .capture .. => lan
  | .ltc .. => lan
  | .eth .. => s.foreign p arrival f

/-- Adds to AON_TAPER_CNT.CRC_ERR (R80). -/
def State.taperCrc (s : State) (n : Nat) : State := s.addSat R.AON_TAPER_CNT 15 0 n

/-- TAPER_SENTENCE_RECEIVE: the oldest sentence on its way to plane `p` arrives with its arrival time and SEQ, or is lost to a CRC
error (R72, R80, R523). -/
def State.taperIn (s : State) (p : Plane) (crcErr : Bool) : State :=
  match s.link.find? fun e => decide (e.1 = p) with
  | none => s.when crcErr fun s => s.taperCrc 1
  | some e =>
    let s1 := { s with link := s.link.erase e }
    if crcErr then s1.taperCrc 1
    else if s.taperUp && (s.active p || s.finalPass p) then s1.arrive p 5 e.2.1 e.2.2
    else s1

/-- The digest that plane `p` computes over what it released on a port in an epoch (R71). Log 131. -/
def State.ownDigest (s : State) (p : Plane) (port epoch : Nat) : BitVec 64 :=
  Config.digest (((s.pl p).rlsd.filter fun e => e.1 == epoch && e.2.1 == port).map fun e => e.2.2)

/-- DIGEST_RECEIVE: the peer's digest meets plane `p`'s own (R71); an epoch with a mismatch counts once (R80). -/
def State.digest (s : State) (p : Plane) (port epoch : Nat) (peer : BitVec 64) : State :=
  if s.mode = 3 ∧ s.ownDigest p port epoch ≠ peer then
    (s.when (s.digMm != some epoch) fun s => { s with digMm := some epoch }.addSat R.AON_TAPER_CNT 23 16 1).raise 113
  else s

/-- PAIR_KEY_EXPIRE: keys expire in the order in which they came (R187). -/
def State.pairExpire (s : State) (p : Plane) : State := s.modPl p fun x => { x with pairs := x.pairs.drop 1 }

/-- DUP_WINDOW_EXPIRE (R143, R428). -/
def State.dupExpire (s : State) (p : Plane) (origin : BitVec 10) (cls : BitVec 3) : State :=
  { s.modPl p fun x => { x with dup := Tab.erase (origin.toNat * 8 + cls.toNat) x.dup } with
    seen := s.seen.filter fun e => !(e.1 == origin && e.2.2 / 4 == cls.toNat && e.2.2 % 4 == planeNum p) }

/-- PTP_CUT_RESTORE (R147). -/
def State.cutBack (s : State) (p : Plane) (port : Nat) : State := s.setRb (R.PORT_STATUS p port) 25 false

/-- RECORD_COMPLETE (R209, R270). -/
def State.recordDone (s : State) (p : Plane) (q : Nat) : State :=
  let s0 := s.modQ p q fun x => { x with writing := x.writing.map fun r => { r with seenIn := (s.pl p).openFor r } }
  let (s1, r) := s0.completeRec p q
  match r with | some r => s1.observe p r | none => s1

/-- JOB_TIMEOUT (R271). -/
def State.jobTimeout (s : State) (p : Plane) (j : Nat) : State :=
  match (s.pl p).instOf j with
  | some i => if i.st = .wait then s.modPl p fun x => (x.modInst j fun i => { i with timedOut := true }).wakeInst j else s
  | none => s

/-- JOB_DISPATCH (R228, R275). -/
def State.jobDispatch (s : State) (p : Plane) (e : Nat) (ecc : StoreEcc) : State :=
  if ((s.pl p).engs.getD e none).isSome ∨ 16 ≤ e ∨ !s.jobsMove p then s
  else match (s.pl p).nextReady with | some j => s.startJob p e j ecc | none => s

/-- JOB_COMPLETE: the run of the job on an engine has come to its end (R228, R276, R278). -/
def State.jobDone (s : State) (p : Plane) (e : Nat) : State :=
  match (s.pl p).engs.getD e none with
  | none => s
  | some g => match (s.pl p).instOf g.job with
    | none => s.modPl p fun x => { x with engs := modAt e (fun _ => none) x.engs }
    | some i => if (g.left = 0 ∨ i.ending.isSome) ∧ s.jobsMove p then s.finishInst p g.job (runOutcome i (s.release p)) false else s

/-- CARRY_COMPLETE: the uncorrectable words are those of STALE lines' sources (R229, R259). -/
def State.carryDone (s : State) (p : Plane) (fixed : Nat) (bad : List Nat) : State :=
  if s.present p then
    let ws := bad.eraseDups.filter fun w => (s.pl p).isStale (s.pl p).half (w / 8)
    (s.modPl p fun x => x.carryRest ws).buEcc p fixed ws.length
  else s

/-- COLD_START_COUNT_START (R475). Epochs count from then, once the image is in (R87). -/
def State.coldCount (s : State) (p : Plane) : State :=
  (s.relearnFold p).modRelearn p fun r => if r.cold then { r with counting := true } else r

/-- RELEARN_MUTE_EXPIRE (R87). -/
def State.unmute (s : State) (p : Plane) : State := s.modRelearn p fun r => { r with muted := false }

/-- PLANE_DOMAIN_FAIL (R55, R81). -/
def State.domainFails (s : State) (p : Plane) : State := if s.present p then s.planeLost p .off none else s

/-- W1C_WRITE: `hw` are bits that hardware sets in the same cycle (R12). -/
def State.w1cAccess (s : State) (r : Req) (off : Nat) (v hw : Word) : State := s.access r off 4 true fun s => s.w1cWrite r off v hw

/-- MSIX_ENABLE (R450). -/
def State.msixOn (s : State) : State :=
  if s.msixEn || !s.hostOn then s else State.requestAll { s with msixEn := true } s.activeVecs

/-- MSIX_UNMASK of a vector, or of the function (R450). -/
def State.msixUnmask (s : State) (vec : Option (Fin 64)) : State :=
  if !s.hostOn then s
  else match vec with
    | some v => s.maskVec v.val false
    | none => State.msixSend { s with funcMask := false }

/-- EVENT_SENTENCE_HOLDOFF (R451). -/
def State.holdoff (s : State) (n : Nat) : State :=
  let (_, cnt, first) := s.held n
  if 0 < cnt && s.anyActive && s.devValid then s.sendEvent n cnt first else s.setHeld n (false, cnt, first)

/-- A wake receiver has matched (R343, R372, R483). -/
def State.wakeHit (s : State) (cfg hit ev src : Nat) : State :=
  if s.aonOn && s.pwrMode == 2 && s.rb cfg 31 then ((s.setRb hit 31 true).raise ev).wake src else s

/-- A wake receiver's character of `data` bits, without parity, by the inversion and divider of its AON_SLWAKE_CFG: the sampling of R323
in clocks of 2.048 MHz (R343, R348). -/
def wakeChar (cfg : Word) (data : Nat) (wave : List (Bool × Nat)) : Option RxChar :=
  sampleChar (pack [(data, 26), ((bit cfg 29).toNat, 14)]) (cfg <<< 8) wave

/-- `clocks` of 2.048 MHz are at least `us` µs. -/
def wakeLong (clocks us : Nat) : Bool := decide (us * 256 ≤ clocks * 125)

/-- What wake receiver `n` has received matches (R343, R348). Log 148. -/
def State.slMatch (s : State) (n : Nat) (h : SlHeard) : Bool :=
  let m := s.reg (R.AON_SLWAKE_MATCH n)
  let cfg := s.reg (R.AON_SLWAKE_CFG n)
  match bit cfg 30, h with
  | false, .char wave =>
    match wakeChar cfg 9 wave with
    | some c => c.bits.testBit 8 && !c.fe && (c.bits ^^^ fld m 8 0) &&& fld m 24 16 &&& 0xFF == 0
    | none => false
  | true, .telegram start chars =>
    match rxWave (bit cfg 29) start, chars.mapM (wakeChar cfg 8) with
    | [(false, low), (true, high)], some cs =>
      let os := cs.map fun c => BitVec.ofNat 8 c.bits
      wakeLong low 88 && wakeLong high 8 && os != [] && octs os 0 1 == fld m 31 24 &&
        slice os (fld m 23 21) (fld m 20 18) == (toBE 4 (s.reg (R.AON_SLWAKE_ID n)).toNat).take (fld m 20 18) &&
        decide (fld m 20 18 ≤ 4) && decide (fld m 23 21 + fld m 20 18 ≤ os.length)
    | _, _ => false
  | _, _ => false

/-- SL_WAKE_MATCH (R343). -/
def State.slWakes (s : State) (n : Nat) (h : SlHeard) : State :=
  if s.slMatch n h then s.wakeHit (R.AON_SLWAKE_CFG n) (R.AON_SLWAKE_HIT n) (8 + n) (1 + n) else s

/-- CAN_WAKE_DETECT (R372). -/
def State.canWakes (s : State) (n : Nat) (h : CanHeard) : State :=
  let cfg := s.reg (R.AON_CANWAKE_CFG n)
  let hit : Bool := match bit cfg 30, h with
    | false, .dominant clocks => decide (fld cfg 28 24 ≤ clocks)
    | true, .frame desc data =>
      !frBrs desc && wakeFrame (bit cfg 29) (s.reg (R.AON_CANWAKE_ID n)) (s.reg (R.AON_CANWAKE_IDMASK n)) (s.reg (R.AON_CANWAKE_DATA n))
        (s.reg (R.AON_CANWAKE_DMASK n)) desc data
    | _, _ => false
  if hit then s.wakeHit (R.AON_CANWAKE_CFG n) (R.AON_CANWAKE_HIT n) (12 + n) (5 + n) else s

/-- WAKE_N_ASSERT, ALARM_MATCH (R483). -/
def State.wakePin (s : State) : State := if s.rb R.AON_WAKE_CFG 31 then s.wake 7 else s
def State.alarm (s : State) : State :=
  if s.rb R.AON_WAKE_CFG 30 ∧ s.reg64 R.AON_TICKS_LO % 2 ^ 48 = s.reg64 R.AON_ALARM_LO % 2 ^ 48 then s.wake 8 else s

/-- TEMP_SENSOR_UPDATE (R518). -/
def State.tempUpdate (s : State) (a b pin : Byte) : State :=
  if !s.pinOn then s
  else
    let s1 := s.setReg R.GID_TEMP (pack [(a.toNat, 24), (b.toNat, 16), (pin.toNat, 8)])
    let seen := (if s.present .a then [a.toInt] else []) ++ (if s.present .b then [b.toInt] else []) ++ [pin.toInt]
    s1.setRf R.GID_TEMP_MAX 7 0 (toU 8 (seen.foldl max (sext 8 (s.rf R.GID_TEMP_MAX 7 0))))

/-- IDCODE (R513). -/
def idcode : Word := pack [(2, 28), (0x1024, 12), (Config.jedec.toNat, 1), (1, 0)]

/-- The cells of the boundary register (R513). -/
def boundaryCells : Nat := 3 * scanBalls.length

/-- The level at a ball that another drives, or none does, as far as State holds it: CTS, RESET_N; else it is free (R331, R472). -/
def State.levelIn (s : State) (b : Ball) : Bool × State :=
  match b with
  | .slCts n => ((s.slS n.val).cts, s)
  | .resetN => (!s.rstLow, s)
  | _ => s.freeB

/-- A ball's three cells as the boundary register captures them: its level, the level its block would drive, whether it drives it (R513).
Log 89. -/
def State.capture (s : State) (b : Ball) : List Bool × State :=
  match s.ball b with
  | .drive l => ([l, l, true], s)
  | .busy =>
    let (l, s1) := s.freeB
    ([l, l, true], s1)
  | _ =>
    let (l, s1) := s.levelIn b
    let (o, s2) := s1.freeB
    ([l, o, false], s2)

/-- The boundary register captures the balls and shifts its cells out (R513). -/
def State.scanOut (s : State) : State :=
  let (cs, s1) := scanBalls.foldl (fun (a : List Bool × State) b =>
    let (c, t) := a.2.capture b
    (a.1 ++ c, t)) ([], s)
  s1.emit (.scan cs)

/-- JTAG instructions (R489, R513): SAMPLE captures the balls, and the cells shifted in meanwhile stay loaded; EXTEST drives the balls from them.
Log 89. -/
def State.jtagId (s : State) : State := { s with jtagIr := 0x01 }.emit (.jtag idcode)
def State.jtagPreload (s : State) (cells : List Bool) : State :=
  { s.scanOut with jtagIr := 0x02, jtagCells := (cells ++ List.replicate boundaryCells false).take boundaryCells }
def State.jtagExtest (s : State) : State := { s.scanOut with jtagIr := 0x00 }
def State.jtagBypass (s : State) (code : Byte) : State := { s with jtagIr := if code ≤ 0x02 then 0xFF else code }

/-- The sections of a snapshot: first offset and octets (R488). -/
def State.snapSections (s : State) : List (Nat × Nat) :=
  [(0x000000, 0x3000), (0x100000, 0x1000), (0x200000, 0xB1000)] ++ (if s.present .a then [(0x400000, 0x201000)] else []) ++
    (if s.present .b then [(0x800000, 0x201000)] else []) ++ [(0xE00000, 0x10000)]

/-- What the snapshot shows of registers whose value the plane keeps and that another read would latch or take: the timebase's and the window
locks (R96, R401, R488). Log 163. -/
def State.snapOwn (s : State) (p : Plane) (off : Nat) : Option Word :=
  let n := (off - R.BRG_WIN_LOCK p 0) / 0x40
  if off = R.TB_RAW_LO p then some ((s.pl p).raw.truncate 32)
  else if R.BRG_WIN_LOCK p 0 ≤ off ∧ n < 64 ∧ off = R.BRG_WIN_LOCK p n then some (pack [((((s.pl p).winS n).lock).getD 0, 1)])
  else ((s.tbSnap p).find? fun e => e.1 == off).map fun e => BitVec.ofNat 32 e.2

/-- A register's value in a snapshot: without the effect of a read (R488). -/
def State.snapReg32 (s : State) (off : Nat) : Word × State :=
  if 0xE00000 ≤ off then ((s.aperture off).1, s)
  else match (planeOf off).bind fun p => s.snapOwn p off with
    | some v => (v, s)
    | none => s.freeBits off (s.view off)

/-- The octets of a snapshot (R488). -/
def State.snapOctets (s : State) : List Byte × State :=
  let secs := s.snapSections
  let total := 64 + (secs.map fun e => 16 + e.2).sum
  let ver (p : Plane) : List Byte := toBE 4 (if s.present p then s.reg (R.AON_FW_VER (planeNum p)) else 0).toNat
  let head := toBE 4 0x5358534E ++ toBE 4 total ++ toBE 4 (s.reg R.GID_IDENT).toNat ++ toBE 4 (s.reg R.AON_DEVNUM).toNat ++
    toBE 6 (s.reg64 R.AON_TICKS_LO % 2 ^ 48) ++ [0, 0] ++ toBE 8 (toPt64 s.lantern).toNat ++ ver .a ++ ver .b ++ s.aonIdent ++
    toBE 4 secs.length ++ List.replicate 8 0
  let sec (acc : List Byte × State) (e : Nat × Nat) : List Byte × State :=
    (List.range (e.2 / 4)).foldl (fun a k =>
      let (w, s1) := a.2.snapReg32 (e.1 + 4 * k)
      (a.1 ++ toBE 4 w.toNat, s1)) (acc.1 ++ toBE 4 e.1 ++ toBE 4 e.2 ++ List.replicate 8 0, acc.2)
  secs.foldl sec (head, s)

/-- SNAPSHOT, from QB alone (R430, R488). -/
def State.cmdSnapshot (s : State) (c : Cmd) : State :=
  let ok : Bool := match c.src with | .hostQ q => q == 3 | .ring .. => false
  s.onceCmd c fun s _ =>
    if !ok then ended s stNotPermitted
    else
      let (os, s1) := s.snapOctets
      (s1.emit (.hostWrite (cNum c 0 8) os), stDone, toBE 4 os.length)

/-- AON_TICKS counts the crystal's 32.768 kHz (R472, R483): `tickFrac` counts in billionths of a crystal period. -/
def State.aonTick (s : State) : State :=
  if !(s.aonOn && s.crystal) then s
  else if s.tickFrac + 65536 < 1000000000 then { s with tickFrac := s.tickFrac + 65536 }
  else { s with tickFrac := s.tickFrac + 65536 - 1000000000 }.setReg64 R.AON_TICKS_LO ((s.reg64 R.AON_TICKS_LO + 1) % 2 ^ 48)

/-- The raw counter of a plane advances by 2 ns (R94). -/
def PlaneS.rawTick (x : PlaneS) : PlaneS := if x.present then { x with raw := x.raw + 32 } else x

/-- What the rules judge at the end of a cycle: RTS of each line under FLOW (R330, R344), watermarks and peaks of the queues (R217), power of
PIN after both feeds' declarations (R520). Log 156. -/
def State.endCycle (s : State) : State :=
  let s1 := (((List.finRange 32).foldl State.slFlow s).judgeQueues .a).judgeQueues .b
  { s1.when (s1.aonOn && !s1.feedGood .a && !s1.feedGood .b) State.pinRule with frNow := [] }

/-- 2 ns pass: one cycle of the Lantern ring and two of each plane (R94, R125). Log 1. -/
def State.tick (s0 : State) : State :=
  let s := s0.endCycle
  let lt := if s.pinOn then ((s.lt : Int) + 32 * 2 ^ 40 + 32 * s.sreg R.LT_FREQ_ADJ).toNat else s.lt
  State.aonTick { s with lt := lt, pA := s.pA.rawTick, pB := s.pB.rawTick }

/-- STAGE_COMMIT (`bit` 1) and STAGE_DISCARD (`bit` 4): a write of a block's stage control register that keeps VIEW (R13). -/
def State.stageBit (s : State) (r : Req) (off bit : Nat) : State :=
  if isStageCtl off then s.regWrite r off 4 ((s.reg off &&& 2) ||| BitVec.ofNat 32 bit) else s

/-- STAGE_COMMIT_APPLY: the boundary of a block, and what a port's new mode means for its pair's join check (R14, R480). -/
def State.stageApply (s : State) (off : Nat) : State :=
  let s1 := s.blockApply off
  match planeOf off with
  | some p => s1.joinRecheck p
  | none => s1

/-- A write of CAN_CTL whose EN and SLEEP bits are the present ones, changed by `f` (R371, R375). -/
def State.canBits (s : State) (r : Req) (n : Nat) (f : Word → Word) : State :=
  s.regWrite r (R.CAN_CTL n) 4 (f (s.reg (R.CAN_CTL n) &&& 0xC0000000))

/-- AON_BYP_CTL bits 11:8 show the bypass pins (R90, R491). -/
def State.driveByp (s : State) : State :=
  s.setRf R.AON_BYP_CTL 11 8
    ((s.bypOpen 0).toNat + 2 * (s.bypOpen 1).toNat + 4 * (s.bypOpen 2).toNat + 8 * (s.bypOpen 3).toNat)

/-- What a command that changes `s` to `t` leaves: the queue as it was, the bypass pins at the levels of R90, no pending message of a vector
that is not active, and the interrupt pins at their levels (R450). Log 81. -/
def State.after (s t : State) : State :=
  let u := State.ballsMove s t.bypass.driveByp
  { u with pending := s.pending, pba := u.pba &&& u.activeVecs }

end Sys2Proof.Machine
end

