-- ==== Sys2Proof/Machine/RowsBridge.lean ====
section
/-!
DEFINITION. The commands of the bridge and remote windows: one meaning per row of the table.
-/
namespace Sys2Proof.Machine

/-- BRIDGE_READ (R383, R397). -/
def execBridgeRead (off : Word) (len : Nat) (s : State) : Res := .next (s.after ((s.bridgeRead off.toNat len).drain))

/-- BRIDGE_WRITE (R382, R383). -/
def execBridgeWrite (off : Word) (data : List Byte) (be : List Bool) (s : State) : Res :=
  .next (s.after ((s.bridgeWrite off.toNat data be).drain))

/-- BRIDGE_FETCHADD (R400). -/
def execBridgeFetchadd (off : Word) (wide : Bool) (x : BitVec 64) (s : State) : Res :=
  .next (s.after ((s.bridgeAtomic off.toNat (if wide then 8 else 4) (.fetchAdd x)).drain))

/-- BRIDGE_SWAP (R400). -/
def execBridgeSwap (off : Word) (wide : Bool) (x : BitVec 64) (s : State) : Res :=
  .next (s.after ((s.bridgeAtomic off.toNat (if wide then 8 else 4) (.swap x)).drain))

/-- BRIDGE_CAS (R400). -/
def execBridgeCas (off : Word) (size : Nat) (cmp x : BitVec 64) (s : State) : Res :=
  .next (s.after ((s.bridgeAtomic off.toNat size (.cas cmp x)).drain))

/-- POSTED_HOLD_DRAIN (R382). -/
def execPostedHoldDrain (p : Plane) (s : State) : Res := .next (s.after ((s.holdDrain p).drain))

/-- BRIDGE_TARGET_READ: with `wait` the request stays in the intake behind what the lead plane is executing (R387, R406). Log 80. -/
def execBridgeTargetRead (p : Plane) (origin : BitVec 10) (wait : Bool) (payload : List Byte) (s : State) : Res :=
  .next (s.after ((s.bridgeTarget p origin 1 payload).when (!wait) State.drain))

/-- BRIDGE_TARGET_WRITE (R387). -/
def execBridgeTargetWrite (p : Plane) (origin : BitVec 10) (wait : Bool) (payload : List Byte) (s : State) : Res :=
  .next (s.after ((s.bridgeTarget p origin 2 payload).when (!wait) State.drain))

/-- BRIDGE_TARGET_WRITE_POSTED (R387). -/
def execBridgeTargetWritePosted (p : Plane) (origin : BitVec 10) (wait : Bool) (payload : List Byte) (s : State) : Res :=
  .next (s.after ((s.bridgeTarget p origin 3 payload).when (!wait) State.drain))

/-- BRIDGE_RESPONSE_RECEIVE (R385). -/
def execBridgeResponseReceive (p : Plane) (payload : List Byte) (s : State) : Res := .next (s.after ((s.bridgeResp p payload).drain))

/-- BRIDGE_TIMEOUT (R397). -/
def execBridgeTimeout (p : Plane) (entry : Fin 512) (s : State) : Res := .next (s.after ((s.bridgeTimeout p entry.val).drain))

/-- BRG_WIN_FENCE_READ (R403). -/
def execBrgWinFenceRead (r : Req) (p : Plane) (n : Fin 64) (s : State) : Res := .next (s.after ((s.fenceReg r p n.val).drain))

/-- BRG_WIN_LOCK_READ (R401). -/
def execBrgWinLockRead (r : Req) (p : Plane) (n : Fin 64) (s : State) : Res :=
  .next (s.after ((s.regRead r (R.BRG_WIN_LOCK p n.val) 4 0).drain))

/-- BRG_WIN_LOCK_RELEASE (R401). -/
def execBrgWinLockRelease (r : Req) (p : Plane) (n : Fin 64) (v : Word) (s : State) : Res :=
  .next (s.after ((s.regWrite r (R.BRG_WIN_LOCK p n.val) 4 v).drain))

/-- LOCK_EXPIRE (R401). -/
def execLockExpire (p : Plane) (n : Fin 64) (s : State) : Res := .next (s.after ((s.lockExpire p n.val).drain))

/-- PREFETCH_AGE (R404). -/
def execPrefetchAge (p : Plane) (n : Fin 64) (s : State) : Res := .next (s.after (s.pfDrop p n.val 7))

/-- RDM_ACK_TIMER_EXPIRE (R396). -/
def execRdmAckTimerExpire (p : Plane) (n : Fin 64) (s : State) : Res := .next (s.after ((s.ackTimer p n.val).drain))

/-- BRG_MAP_SEL_WRITE (R411). -/
def execBrgMapSelWrite (r : Req) (p : Plane) (v : Word) (s : State) : Res := .next (s.after (s.regWrite r (R.BRG_MAP_SEL p) 4 v))

end Sys2Proof.Machine
end

