-- ==== Sys2Proof/Machine/RowsCan.lean ====
section
/-!
DEFINITION. The commands of CAN FD controllers: one meaning per row of the table.
-/
namespace Sys2Proof.Machine

/-- CAN_FRAME_RECEIVE (R354). -/
def execCanFrameReceive (n : Fin 8) (stamp : Nat) (rtr : Bool) (desc data : List Byte) (s : State) : Res :=
  .next (s.after ((s.canReceive n.val stamp rtr desc data).drain))

/-- CAN_RXB_POP (R356). -/
def execCanRxbPop (r : Req) (n : Fin 8) (v : Word) (s : State) : Res := .next (s.after (s.regWrite r (R.CAN_RXB_POP n.val) 4 v))

/-- CAN_TXW_SEND (R359). -/
def execCanTxwSend (r : Req) (n : Fin 8) (v : Word) (s : State) : Res :=
  .next (s.after ((s.regWrite r (R.CAN_TXW_CMD n.val) 4 (setBit v 31 false)).drain))

/-- CAN_TXW_ABORT (R360). -/
def execCanTxwAbort (r : Req) (n : Fin 8) (v : Word) (s : State) : Res :=
  .next (s.after ((s.regWrite r (R.CAN_TXW_CMD n.val) 4 (setBit v 31 true)).drain))

/-- CAN_SLOT_OPEN (R362). -/
def execCanSlotOpen (n : Fin 8) (sl : Byte) (s : State) : Res := .next (s.after ((s.canSlotOpen n.val sl.toNat).drain))

/-- CAN_FRAME_START (R363). -/
def execCanFrameStart (n : Fin 8) (s : State) : Res := .next (s.after ((s.canStart n.val).drain))

/-- CAN_TX_SUCCESS (R358). -/
def execCanTxSuccess (n : Fin 8) (s : State) : Res := .next (s.after ((s.canSent n.val).drain))

/-- CAN_ARB_LOST (R363). -/
def execCanArbLost (n : Fin 8) (s : State) : Res := .next (s.after ((s.canArbLost n.val).drain))

/-- CAN_BUS_ERROR (R365). -/
def execCanBusError (n : Fin 8) (k : CanErr) (s : State) : Res := .next (s.after ((s.canError n.val k).drain))

/-- CAN_LONE (R367). -/
def execCanLone (n : Fin 8) (s : State) : Res := .next (s.after ((s.canLone n.val).drain))

/-- CAN_SLOT_CLOSE (R363). -/
def execCanSlotClose (n : Fin 8) (s : State) : Res := .next (s.after ((s.canSlotClose n.val).drain))

/-- CAN_RECOVER (R366). -/
def execCanRecover (r : Req) (n : Fin 8) (s : State) : Res := .next (s.after ((s.canBits r n.val (fun w => w ||| 0x20000000)).drain))

/-- CAN_RECOVERY_DONE (R366). -/
def execCanRecoveryDone (n : Fin 8) (s : State) : Res := .next (s.after (s.canRecovered n.val))

/-- CAN_INTEGRATION_DONE (R365). -/
def execCanIntegrationDone (n : Fin 8) (s : State) : Res := .next (s.after (s.canJoin n.val))

/-- CAN_ENABLE (R375). -/
def execCanEnable (r : Req) (n : Fin 8) (s : State) : Res := .next (s.after ((s.canBits r n.val fun w => setBit w 31 true).drain))

/-- CAN_DISABLE (R375). -/
def execCanDisable (r : Req) (n : Fin 8) (s : State) : Res := .next (s.after ((s.canBits r n.val fun w => setBit w 31 false).drain))

/-- CAN_SLEEP (R371). -/
def execCanSleep (r : Req) (n : Fin 8) (s : State) : Res := .next (s.after ((s.canBits r n.val fun w => setBit w 30 true).drain))

/-- CAN_SLEEP_CLEAR (R371). -/
def execCanSleepClear (r : Req) (n : Fin 8) (s : State) : Res := .next (s.after ((s.canBits r n.val fun w => setBit w 30 false).drain))

/-- CAN_WAKE (R371). -/
def execCanWake (n : Fin 8) (heard : CanHeard) (s : State) : Res := .next (s.after (s.canWake n.val heard))

/-- CAN_WAKE_DETECT (R372). -/
def execCanWakeDetect (n : Fin 2) (heard : CanHeard) (s : State) : Res := .next (s.after (s.canWakes n.val heard))

end Sys2Proof.Machine
end

