-- ==== Sys2Proof/Machine/RowsIngress.lean ====
section
/-!
DEFINITION. The commands of ingress and sentence queues: one meaning per row of the table.
-/
namespace Sys2Proof.Machine

/-- FOREIGN_INPUT (R172). -/
def execForeignInput (p : Plane) (arrival : Nat) (f : Foreign) (s : State) : Res := .next (s.after (s.foreignIn p arrival f))

/-- ALLOCATE_CANDIDATE (R186). -/
def execAllocateCandidate (p : Plane) (s : State) : Res := .next (s.after (s.allocate p))

/-- PAIR_KEY_EXPIRE (R187). -/
def execPairKeyExpire (p : Plane) (s : State) : Res := .next (s.after (s.pairExpire p))

/-- SYNC_GROUP_TIMEOUT (R192). -/
def execSyncGroupTimeout (p : Plane) (g : BitVec 8) (s : State) : Res := .next (s.after (s.syncTimeout p g.toNat))

/-- ING_RULE_SEL_WRITE (R198). -/
def execIngRuleSelWrite (r : Req) (p : Plane) (v : Word) (s : State) : Res := .next (s.after (s.regWrite r (R.ING_RULE_SEL p) 4 v))

/-- ING_STREAM_SEL_WRITE (R198). -/
def execIngStreamSelWrite (r : Req) (p : Plane) (v : Word) (s : State) : Res := .next (s.after (s.regWrite r (R.ING_STREAM_SEL p) 4 v))

/-- SENTENCE_ADMIT (R211, R212): a commit that waits for this boundary comes first (R217). -/
def execSentenceAdmit (p : Plane) (q : Fin 512) (s : State) : Res := .next (s.after ((s.qApply p q.val).admitNext p q.val))

/-- RECORD_COMPLETE (R209). -/
def execRecordComplete (p : Plane) (q : Fin 512) (s : State) : Res := .next (s.after (s.recordDone p q.val))

/-- CONSUMER_WORD_READ (R209, R218). -/
def execConsumerWordRead (p : Plane) (q : Fin 512) (eccBad : Bool) (eccFixed : Fin 9) (s : State) : Res :=
  .next (s.after (s.readWord p q.val eccBad eccFixed.val))

/-- QUEUE_ENABLE (R214). -/
def execQueueEnable (r : Req) (p : Plane) (q : Fin 512) (s : State) : Res := .next (s.after (s.regWrite r (R.Q_CTL p q.val) 4 0x80000000))

/-- QUEUE_DISABLE (R214). -/
def execQueueDisable (r : Req) (p : Plane) (q : Fin 512) (s : State) : Res := .next (s.after (s.regWrite r (R.Q_CTL p q.val) 4 0))

/-- Q_CTL_FLUSH (R215). -/
def execQCtlFlush (r : Req) (p : Plane) (q : Fin 512) (s : State) : Res :=
  .next (s.after (s.regWrite r (R.Q_CTL p q.val) 4 ((s.reg (R.Q_CTL p q.val) &&& 0x80000000) ||| 0x40000000)))

/-- FLUSH_APPLY (R215). -/
def execFlushApply (p : Plane) (q : Fin 512) (s : State) : Res := .next (s.after (s.flushNow p q.val))

end Sys2Proof.Machine
end

