-- ==== Sys2Proof/Machine/RowsJobs.lean ====
section
/-!
DEFINITION. The commands of Burin engines and the dispatcher: one meaning per row of the table.
-/
namespace Sys2Proof.Machine

/-- MOVE_NOP (R239). -/
def execMoveNop (p : Plane) (e : Fin 16) (ecc : MoveEcc) (s : State) : Res := .next (s.after (s.execMove p e.val 0 ecc))

/-- MOVE_APPLY (R234-R236). -/
def execMoveApply (p : Plane) (e : Fin 16) (ecc : MoveEcc) (s : State) : Res := .next (s.after (s.execMove p e.val 1 ecc))

/-- MOVE_FIELD (R246-R249). -/
def execMoveField (p : Plane) (e : Fin 16) (ecc : MoveEcc) (s : State) : Res := .next (s.after (s.execMove p e.val 2 ecc))

/-- MOVE_MERGE (R253-R256). -/
def execMoveMerge (p : Plane) (e : Fin 16) (ecc : MoveEcc) (s : State) : Res := .next (s.after (s.execMove p e.val 3 ecc))

/-- MOVE_CONST (R246). -/
def execMoveConst (p : Plane) (e : Fin 16) (ecc : MoveEcc) (s : State) : Res := .next (s.after (s.execMove p e.val 4 ecc))

/-- MOVE_COPY (R239). -/
def execMoveCopy (p : Plane) (e : Fin 16) (ecc : MoveEcc) (s : State) : Res := .next (s.after (s.execMove p e.val 5 ecc))

/-- BU_APPLY_SEL_WRITE (R260). -/
def execBuApplySelWrite (r : Req) (p : Plane) (v : Word) (s : State) : Res := .next (s.after (s.regWrite r (R.BU_APPLY_SEL p) 4 v))

/-- CANVAS_APERTURE_READ (R262). -/
def execCanvasApertureRead (r : Req) (off : BitVec 24) (size : Nat) (s : State) : Res :=
  .next (s.after (if 0xC00000 ≤ off.toNat ∧ off.toNat < 0xE00000 then s.regRead r off.toNat size 0 else s))

/-- JOB_TIMEOUT (R271). -/
def execJobTimeout (p : Plane) (j : BitVec 12) (s : State) : Res := .next (s.after (s.jobTimeout p j.toNat))

/-- JOB_DISPATCH (R275). -/
def execJobDispatch (p : Plane) (e : Fin 16) (ecc : StoreEcc) (s : State) : Res := .next (s.after (s.jobDispatch p e.val ecc))

/-- JOB_COMPLETE (R276, R278). -/
def execJobComplete (p : Plane) (e : Fin 16) (s : State) : Res := .next (s.after (s.jobDone p e.val))

/-- JOB_WINDOW_CLOSE (R276). -/
def execJobWindowClose (p : Plane) (j : BitVec 12) (s : State) : Res := .next (s.after (s.windowClose p j.toNat))

/-- DSP_CANCEL_WRITE (R277). -/
def execDspCancelWrite (r : Req) (p : Plane) (v : Word) (s : State) : Res := .next (s.after (s.regWrite r (R.DSP_CANCEL p) 4 v))

/-- DSP_JOB_SEL_WRITE (R287). -/
def execDspJobSelWrite (r : Req) (p : Plane) (v : Word) (s : State) : Res := .next (s.after (s.regWrite r (R.DSP_JOB_SEL p) 4 v))

/-- LOG_TAIL_WRITE (R287, R411, R453). -/
def execLogTailWrite (r : Req) (off : BitVec 24) (v : Word) (s : State) : Res :=
  .next (s.after (if (logOf off.toNat).isSome then s.regWrite r off.toNat 4 v else s))

/-- CARRY_COMPLETE (R229). -/
def execCarryComplete (p : Plane) (fixed : Nat) (bad : List Nat) (s : State) : Res := .next (s.after (s.carryDone p fixed bad))

end Sys2Proof.Machine
end

