-- ==== Sys2Proof/Machine/RowsMaint.lean ====
section
/-!
DEFINITION. The commands of maintenance, image and Snuffer command packets: one meaning per row of the table.
-/
namespace Sys2Proof.Machine

/-- SCRUB (R434). -/
def execScrub (c : Cmd) (s : State) : Res := .next (s.after ((s.runCmd 0x0901 c (·.cmdScrub c)).drain))

/-- SCRUB_DONE (R434). -/
def execScrubDone (a b : ScrubCnt) (s : State) : Res := .next (s.after (s.scrubDone a b))

/-- PLANE_REJOIN (R82, R434). -/
def execPlaneRejoin (c : Cmd) (s : State) : Res := .next (s.after ((s.runCmd 0x0902 c (·.cmdRejoin c)).drain))

/-- FW_STAGE (R434, R484). -/
def execFwStage (c : Cmd) (image : List Byte) (s : State) : Res := .next (s.after ((s.runCmd 0x0903 c (·.cmdStage c image)).drain))

/-- FW_STAGE_DONE (R470, R484). -/
def execFwStageDone (a b : SlotCheck) (s : State) : Res := .next (s.after ((s.stageDone a b).drain))

/-- FW_SWAP (R434, R484). -/
def execFwSwap (c : Cmd) (s : State) : Res := .next (s.after ((s.runCmd 0x0904 c (·.cmdSwap c)).drain))

/-- LINK_CAL (R160, R434). -/
def execLinkCal (c : Cmd) (s : State) : Res := .next (s.after ((s.runCmd 0x0905 c (·.cmdLinkCal c)).drain))

/-- TIME_SWITCH (R114, R434). -/
def execTimeSwitch (c : Cmd) (s : State) : Res := .next (s.after ((s.runCmd 0x0906 c (·.cmdSwitch c)).drain))

/-- FLASH_WRITE (R434). -/
def execFlashWrite (c : Cmd) (data : List Byte) (s : State) : Res := .next (s.after ((s.runCmd 0x0907 c (·.cmdFlash c data)).drain))

/-- FLASH_WRITE_DONE (R434, R470). -/
def execFlashWriteDone (okA okB : Bool) (s : State) : Res := .next (s.after ((s.flashDone okA okB).drain))

/-- SELF_TEST (R434). -/
def execSelfTest (c : Cmd) (s : State) : Res := .next (s.after ((s.runCmd 0x0908 c (·.cmdSelfTest c)).drain))

/-- SELF_TEST_DONE (R434). -/
def execSelfTestDone (mask : Word) (s : State) : Res := .next (s.after (s.testDone mask))

/-- MAINT_STATUS (R434). -/
def execMaintStatus (c : Cmd) (s : State) : Res := .next (s.after ((s.runCmd 0x0909 c (·.cmdMaintStatus c)).drain))

/-- MAINT_QUEUE_START (R445). -/
def execMaintQueueStart (s : State) : Res := .next (s.after ((s.mntNext).drain))

/-- IMAGE_COMMIT (R442). -/
def execImageCommit (c : Cmd) (image : List Byte) (s : State) : Res :=
  .next (s.after ((s.runCmd 0x0A01 c (·.cmdImage c image false)).drain))

/-- IMAGE_CHECK_DONE (R442). -/
def execImageCheckDone (s : State) : Res := .next (s.after ((s.imgChecked).drain))

/-- IMAGE_APPLY (R442, R443). -/
def execImageApply (s : State) : Res := .next (s.after ((s.imgApply).drain))

/-- IMAGE_WRITE_DONE (R443). -/
def execImageWriteDone (s : State) : Res := .next (s.after (s.imgWritten))

/-- IMAGE_QUERY (R434). -/
def execImageQuery (c : Cmd) (s : State) : Res := .next (s.after ((s.runCmd 0x0A02 c (·.cmdQuery c)).drain))

/-- IMAGE_VERIFY (R443). -/
def execImageVerify (c : Cmd) (image : List Byte) (s : State) : Res := .next (s.after ((s.runCmd 0x0A03 c (·.cmdImage c image true)).drain))

/-- FLASH_CHUNK (R434). -/
def execFlashChunk (c : Cmd) (s : State) : Res := .next (s.after ((s.runCmd 0x0A04 c (·.cmdChunk c)).drain))

/-- BLACKOUT (R438). -/
def execBlackout (c : Cmd) (s : State) : Res := .next (s.after ((s.runCmd 0x0F01 c (·.cmdSnuffer c)).drain))

/-- HOLD (R438). -/
def execHold (c : Cmd) (s : State) : Res := .next (s.after ((s.runCmd 0x0F02 c (·.cmdSnuffer c)).drain))

/-- STOP_STREAM (R438). -/
def execStopStream (c : Cmd) (s : State) : Res := .next (s.after ((s.runCmd 0x0F03 c (·.cmdSnuffer c)).drain))

/-- RESUME (R438). -/
def execResume (c : Cmd) (s : State) : Res := .next (s.after ((s.runCmd 0x0F04 c (·.cmdSnuffer c)).drain))

/-- SAFE_STATE (R438). -/
def execSafeState (c : Cmd) (s : State) : Res := .next (s.after ((s.runCmd 0x0F05 c (·.cmdSnuffer c)).drain))

/-- SNUFFER_TIMED_ACT (R436). -/
def execSnufferTimedAct (s : State) : Res := .next (s.after ((s.snfTimedAct).drain))

end Sys2Proof.Machine
end

