-- ==== Sys2Proof/Machine/RowsPlane.lean ====
section
/-!
DEFINITION. The commands of feeds, planes, join checks, power, reset and service: one meaning per row of the table.
-/
namespace Sys2Proof.Machine

/-- FEED_BELOW_THRESHOLD (R56). -/
def execFeedBelowThreshold (f : Plane) (s : State) : Res := .next (s.after (s.feedFalls f))

/-- FEED_ABOVE_RESTORE (R56). -/
def execFeedAboveRestore (f : Plane) (s : State) : Res := .next (s.after (s.feedRises f))

/-- FEED_DECLARED_LOST (R56, R81). -/
def execFeedDeclaredLost (f : Plane) (s : State) : Res := .next (s.after ((s.feedLost f).drain))

/-- FEED_DECLARED_GOOD (R56). -/
def execFeedDeclaredGood (f : Plane) (s : State) : Res := .next (s.after (s.feedComes f))

/-- PLANE_DOMAIN_FAIL (R55, R81). -/
def execPlaneDomainFail (p : Plane) (s : State) : Res := .next (s.after ((s.domainFails p).drain))

/-- TAPER_DOWN (R72). -/
def execTaperDown (crcErrs : BitVec 16) (s : State) : Res := .next (s.after ((s.taperCrc crcErrs.toNat).taperGoes).drain)

/-- TAPER_UP (R72). -/
def execTaperUp (s : State) : Res := .next (s.after ((s.taperComes).drain))

/-- TAPER_SENTENCE_RECEIVE (R523). -/
def execTaperSentenceReceive (p : Plane) (crcErr : Bool) (s : State) : Res := .next (s.after (s.taperIn p crcErr))

/-- DIGEST_RECEIVE (R71). -/
def execDigestReceive (p : Plane) (port : Fin 4) (epoch : Nat) (peer : BitVec 64) (s : State) : Res :=
  .next (s.after (s.digest p port.val epoch peer))

/-- PLANE_HOLD_SET (R79). -/
def execPlaneHoldSet (r : Req) (v : Word) (s : State) : Res := .next (s.after ((s.regWrite r R.AON_PSUP_CTL 4 v).drain))

/-- PLANE_HOLD_RELEASE (R79). -/
def execPlaneHoldRelease (r : Req) (v : Word) (s : State) : Res := .next (s.after ((s.regWrite r R.AON_PSUP_CTL 4 v).drain))

/-- AON_BYP_CTL_WRITE (R91). -/
def execAonBypCtlWrite (r : Req) (v : Word) (s : State) : Res := .next (s.after (s.regWrite r R.AON_BYP_CTL 4 v))

/-- BOOT_COMPLETE (R473, R477). -/
def execBootComplete (p : Plane) (first second : SlotCheck) (s : State) : Res := .next (s.after ((s.bootComplete p first second).drain))

/-- REJOIN_SYNC_DONE (R83). -/
def execRejoinSyncDone (p : Plane) (s : State) : Res := .next (s.after (s.rejoinSynced p))

/-- REJOIN_PASS_DONE (R83). -/
def execRejoinPassDone (p : Plane) (dirty : Nat) (s : State) : Res := .next (s.after (s.rejoinPass p dirty))

/-- REJOIN_FINAL_PASS (R84). -/
def execRejoinFinalPass (p : Plane) (dirty : Nat) (s : State) : Res := .next (s.after (s.rejoinFinal p dirty))

/-- REJOIN_SLOW (R84). -/
def execRejoinSlow (p : Plane) (s : State) : Res := .next (s.after (s.rejoinSlow p))

/-- REJOIN_HANDOVER (R83). -/
def execRejoinHandover (p : Plane) (s : State) : Res := .next (s.after ((s.rejoinHandover p).drain))

/-- REJOIN_FIRST_RELEASE (R83). -/
def execRejoinFirstRelease (p : Plane) (s : State) : Res := .next (s.after (s.rejoinFirst p))

/-- PLANE_REJOIN_TIMEOUT (R82). -/
def execPlaneRejoinTimeout (p : Plane) (s : State) : Res := .next (s.after (s.rejoinTimeout p))

/-- IMAGE_LOAD_DONE (R86). -/
def execImageLoadDone (p : Plane) (s : State) : Res := .next (s.after ((s.imageLoaded p).drain))

/-- RELEARN_MUTE_EXPIRE (R87). -/
def execRelearnMuteExpire (p : Plane) (s : State) : Res := .next (s.after (s.unmute p))

/-- RELEARN_DONE (R87). -/
def execRelearnDone (p : Plane) (s : State) : Res := .next (s.after (s.relearnDone p))

/-- RELEARN_LIMIT_REACHED (R87). -/
def execRelearnLimitReached (p : Plane) (s : State) : Res := .next (s.after (s.relearnLimit p))

/-- AON_POWER_ON (R473). -/
def execAonPowerOn (f : Plane) (s : State) : Res := .next (s.after (s.aonComes f))

/-- PIN_RESET_RELEASE (R472). -/
def execPinResetRelease (s : State) : Res := .next (s.after (s.pinComes))

/-- RESET_N_ASSERT (R472). -/
def execResetNAssert (s : State) : Res := .next (s.after ((s.rstFalls).drain))

/-- RESET_N_RELEASE (R471, R472). -/
def execResetNRelease (s : State) : Res := .next (s.after (s.rstRises))

/-- PERST_ASSERT (R472). -/
def execPerstAssert (s : State) : Res := .next (s.after (s.perst))

/-- JOIN_LOCAL_PASS (R479). -/
def execJoinLocalPass (p : Plane) (side : Bool) (s : State) : Res := .next (s.after (s.joinLocal p side))

/-- JOIN_LOCAL_TIMEOUT (R479, R480). -/
def execJoinLocalTimeout (p : Plane) (side : Bool) (s : State) : Res := .next (s.after (s.joinLocalOut p side))

/-- JOIN_NOTICE_SEND (R479). -/
def execJoinNoticeSend (p : Plane) (side : Bool) (s : State) : Res := .next (s.after (s.joinNotice p side))

/-- JOIN_NOTICE_RETURN (R479). -/
def execJoinNoticeReturn (p : Plane) (side : Bool) (s : State) : Res := .next (s.after (s.joinReturns p side))

/-- JOIN_CONFIRM_TIMEOUT (R480). -/
def execJoinConfirmTimeout (p : Plane) (side : Bool) (s : State) : Res := .next (s.after (s.joinConfirmOut p side))

/-- JOIN_RETRY (R480). -/
def execJoinRetry (p : Plane) (side : Bool) (s : State) : Res := .next (s.after (s.joinAgain p side))

/-- PWR_REQ_RUN (R481). -/
def execPwrReqRun (r : Req) (s : State) : Res := .next (s.after (s.regWrite r R.AON_PWR_CTL 4 0))

/-- PWR_REQ_IDLE (R481). -/
def execPwrReqIdle (r : Req) (s : State) : Res := .next (s.after (s.regWrite r R.AON_PWR_CTL 4 0x40000000))

/-- IDLE_ENTER (R481). -/
def execIdleEnter (s : State) : Res := .next (s.after (s.idleEnter))

/-- PWR_REQ_STANDBY (R481, R482). -/
def execPwrReqStandby (r : Req) (s : State) : Res := .next (s.after ((s.regWrite r R.AON_PWR_CTL 4 0x80000000).drain))

/-- WAKE_N_ASSERT (R483). -/
def execWakeNAssert (s : State) : Res := .next (s.after (s.wakePin))

/-- ALARM_MATCH (R483). -/
def execAlarmMatch (s : State) : Res := .next (s.after (s.alarm))

/-- RECORDER_MIRROR (R486). -/
def execRecorderMirror (s : State) : Res := .next (s.after (s.frMirror))

/-- AON_FR_FLUSH (R486). -/
def execAonFrFlush (r : Req) (s : State) : Res :=
  .next (s.after (s.regWrite r R.AON_FR_CTL 4 ((s.reg R.AON_FR_CTL &&& 0x80000000) ||| 0x40000000)))

/-- AON_FR_MARK (R485). -/
def execAonFrMark (r : Req) (v : Word) (s : State) : Res := .next (s.after (s.regWrite r R.AON_FR_MARK 4 v))

/-- TEMP_SENSOR_UPDATE (R518). -/
def execTempSensorUpdate (a b pin : Byte) (s : State) : Res := .next (s.after (s.tempUpdate a b pin))

/-- GID_TEMP_MAX_READ (R518). -/
def execGidTempMaxRead (r : Req) (s : State) : Res := .next (s.after (s.regRead r R.GID_TEMP_MAX 4 0))

/-- GPIO_SET (R519). -/
def execGpioSet (r : Req) (v : Word) (s : State) : Res := .next (s.after (s.regWrite r R.GPIO_SET 4 v))

/-- GPIO_CLR (R519). -/
def execGpioClr (r : Req) (v : Word) (s : State) : Res := .next (s.after (s.regWrite r R.GPIO_CLR 4 v))

/-- JTAG_IDCODE (R513). -/
def execJtagIdcode (s : State) : Res := .next (s.after (s.jtagId))

/-- JTAG_SAMPLE_PRELOAD (R513). -/
def execJtagSamplePreload (cells : List Bool) (s : State) : Res := .next (s.after (s.jtagPreload cells))

/-- JTAG_EXTEST (R489, R513). -/
def execJtagExtest (s : State) : Res := .next (s.after (s.jtagExtest))

/-- JTAG_BYPASS (R489, R513). -/
def execJtagBypass (code : Byte) (s : State) : Res := .next (s.after (s.jtagBypass code))

/-- CRYSTAL_START (R472). -/
def execCrystalStart (s : State) : Res := .next (s.after ({ s with crystal := s.crystal || s.aonOn }))

/-- PLANE_RESET_RELEASE (R472). -/
def execPlaneResetRelease (p : Plane) (s : State) : Res := .next (s.after ((s.planeComes p).drain))

/-- LOOP_PROBE_SEND (R479). -/
def execLoopProbeSend (p : Plane) (side : Bool) (s : State) : Res := .next (s.after (s.loopProbe p side))

/-- COLD_START_COUNT_START (R475). -/
def execColdStartCountStart (p : Plane) (s : State) : Res := .next (s.after (s.coldCount p))

end Sys2Proof.Machine
end

