-- ==== Sys2Proof/Machine/RowsQueue.lean ====
section
/-!
DEFINITION. The commands of host queues, command sentences and the command packets of R430 to R433: one meaning per row of the table.
-/
namespace Sys2Proof.Machine

/-- SQ_DOORBELL (R419, R420). -/
def execSqDoorbell (q : Fin 4) (v : Word) (s : State) : Res := .next (s.after (s.sqDoorbell q.val v))

/-- RQ_DOORBELL (R419, R420). -/
def execRqDoorbell (q : Fin 4) (v : Word) (s : State) : Res := .next (s.after (s.rqDoorbell q.val v))

/-- HQ_ENABLE (R420). -/
def execHqEnable (r : Req) (q : Fin 4) (v : Word) (s : State) : Res := .next (s.after (s.regWrite r (R.HQ_CTL q.val) 4 (setBit v 31 true)))

/-- HQ_DISABLE (R420). -/
def execHqDisable (r : Req) (q : Fin 4) (v : Word) (s : State) : Res :=
  .next (s.after (s.regWrite r (R.HQ_CTL q.val) 4 (setBit v 31 false)))

/-- COMMAND_FETCH (R417, R420). -/
def execCommandFetch (q : Fin 4) (dma : DmaEnd) (entry params : List Byte) (s : State) : Res :=
  .next (s.after (s.commandFetch q dma entry params))

/-- COMMAND_SENTENCE_RECEIVE (R428, R429). -/
def execCommandSentenceReceive (p : Plane) (spur : Bool) (octets : List Byte) (s : State) : Res :=
  .next (s.after (s.commandSentence p spur octets))

/-- STATUS_REPLY_RECEIVE (R428). -/
def execStatusReplyReceive (p : Plane) (octets : List Byte) (s : State) : Res := .next (s.after (s.statusReply p octets))

/-- NOP (R430). -/
def execNop (c : Cmd) (s : State) : Res := .next (s.after ((s.runCmd 0x0100 c (·.cmdNop c)).drain))

/-- IDENTIFY (R430). -/
def execIdentify (c : Cmd) (s : State) : Res := .next (s.after ((s.runCmd 0x0101 c (·.cmdIdentify c)).drain))

/-- SET_DEVNUM (R430, R431). -/
def execSetDevnum (c : Cmd) (s : State) : Res := .next (s.after ((s.runCmd 0x0102 c (·.cmdSetDevnum c)).drain))

/-- SET_LEAD (R76, R430). -/
def execSetLead (c : Cmd) (s : State) : Res := .next (s.after ((s.runCmd 0x0103 c (·.cmdSetLead c)).drain))

/-- SET_LEAD_APPLY (R430). -/
def execSetLeadApply (s : State) : Res := .next (s.after ((s.applyLead).drain))

/-- PLANE_HOLD (R79, R430). -/
def execPlaneHold (c : Cmd) (s : State) : Res := .next (s.after ((s.runCmd 0x0104 c (·.cmdHold c)).drain))

/-- REG_READ (R430). -/
def execRegRead (c : Cmd) (s : State) : Res := .next (s.after ((s.runCmd 0x0105 c (·.cmdRegRead c)).drain))

/-- REG_WRITE (R430). -/
def execRegWrite (c : Cmd) (s : State) : Res := .next (s.after ((s.runCmd 0x0106 c (·.cmdRegWrite c)).drain))

/-- SNAPSHOT (R488). -/
def execSnapshot (c : Cmd) (s : State) : Res := .next (s.after ((s.runCmd 0x0107 c (·.cmdSnapshot c)).drain))

/-- DISCOVER (R430). -/
def execDiscover (c : Cmd) (s : State) : Res := .next (s.after ((s.runCmd 0x0108 c (·.cmdDiscover c)).drain))

/-- TD_CONFIG (R430). -/
def execTdConfig (c : Cmd) (s : State) : Res := .next (s.after ((s.runCmd 0x0201 c (·.cmdTd c)).drain))

/-- EG_SET (R430). -/
def execEgSet (c : Cmd) (s : State) : Res := .next (s.after ((s.runCmd 0x0202 c (·.cmdEgSet c)).drain))

/-- EG_ENABLE (R430). -/
def execEgEnable (c : Cmd) (s : State) : Res := .next (s.after ((s.runCmd 0x0203 c (·.cmdEgEnable c)).drain))

/-- TB_CONFIG (R430). -/
def execTbConfig (c : Cmd) (s : State) : Res := .next (s.after ((s.runCmd 0x0204 c (·.cmdTb c)).drain))

/-- TIME_READ (R430). -/
def execTimeRead (c : Cmd) (s : State) : Res := .next (s.after ((s.runCmd 0x0205 c (·.cmdTimeRead c)).drain))

/-- PORT_CONFIG (R430). -/
def execPortConfig (c : Cmd) (s : State) : Res := .next (s.after ((s.runCmd 0x0301 c (·.cmdPortCfg c)).drain))

/-- PORT_PTP (R430). -/
def execPortPtp (c : Cmd) (s : State) : Res := .next (s.after ((s.runCmd 0x0302 c (·.cmdPortPtp c)).drain))

/-- PORT_RING (R430). -/
def execPortRing (c : Cmd) (s : State) : Res := .next (s.after ((s.runCmd 0x0303 c (·.cmdPortRing c)).drain))

/-- PORT_ADDR (R430). -/
def execPortAddr (c : Cmd) (s : State) : Res := .next (s.after ((s.runCmd 0x0304 c (·.cmdPortAddr c)).drain))

/-- BYPASS_FORCE (R91, R430). -/
def execBypassForce (c : Cmd) (s : State) : Res := .next (s.after ((s.runCmd 0x0305 c (·.cmdBypass c)).drain))

/-- RULE_WRITE (R432). -/
def execRuleWrite (c : Cmd) (s : State) : Res := .next (s.after ((s.runCmd 0x0401 c (·.cmdTable c 1 2 254)).drain))

/-- STREAM_WRITE (R432). -/
def execStreamWrite (c : Cmd) (s : State) : Res := .next (s.after ((s.runCmd 0x0402 c (·.cmdStreams c)).drain))

/-- QUEUE_CONFIG (R432). -/
def execQueueConfig (c : Cmd) (s : State) : Res := .next (s.after ((s.runCmd 0x0403 c (·.cmdQueue c)).drain))

/-- QUEUE_FLUSH (R215, R432). -/
def execQueueFlush (c : Cmd) (s : State) : Res := .next (s.after ((s.runCmd 0x0404 c (·.cmdFlush c)).drain))

/-- MOVE_WRITE (R432). -/
def execMoveWrite (c : Cmd) (s : State) : Res := .next (s.after ((s.runCmd 0x0501 c (·.cmdTable c 4 4 509)).drain))

/-- PROFILE_WRITE (R432). -/
def execProfileWrite (c : Cmd) (s : State) : Res := .next (s.after ((s.runCmd 0x0502 c (·.cmdTable c 5 2 254)).drain))

/-- LUT_WRITE (R432). -/
def execLutWrite (c : Cmd) (s : State) : Res := .next (s.after ((s.runCmd 0x0503 c (·.cmdLut c)).drain))

/-- MERGE_WRITE (R432). -/
def execMergeWrite (c : Cmd) (s : State) : Res := .next (s.after ((s.runCmd 0x0504 c (·.cmdTable c 7 2 63)).drain))

/-- JOB_WRITE (R432). -/
def execJobWrite (c : Cmd) (s : State) : Res := .next (s.after ((s.runCmd 0x0505 c (·.cmdTable c 8 2 63)).drain))

/-- JOB_CANCEL (R277, R432). -/
def execJobCancel (c : Cmd) (s : State) : Res := .next (s.after ((s.runCmd 0x0506 c (·.cmdCancel c)).drain))

/-- DESC_WRITE (R432). -/
def execDescWrite (c : Cmd) (s : State) : Res := .next (s.after ((s.runCmd 0x0601 c (·.cmdTable c 9 2 254)).drain))

/-- GUARD_SET (R432). -/
def execGuardSet (c : Cmd) (s : State) : Res := .next (s.after ((s.runCmd 0x0602 c (·.cmdGuard c)).drain))

/-- PULSE_ONE (R310, R432). -/
def execPulseOne (c : Cmd) (s : State) : Res := .next (s.after ((s.runCmd 0x0603 c (·.cmdPulseOne c)).drain))

/-- PULSE_PERIODIC (R310, R432). -/
def execPulsePeriodic (c : Cmd) (s : State) : Res := .next (s.after ((s.runCmd 0x0604 c (·.cmdPulsePeriodic c)).drain))

/-- PULSE_STOP (R310, R432). -/
def execPulseStop (c : Cmd) (s : State) : Res := .next (s.after ((s.runCmd 0x0605 c (·.cmdPulseStop c)).drain))

/-- CAPTURE_CONFIG (R432). -/
def execCaptureConfig (c : Cmd) (s : State) : Res := .next (s.after ((s.runCmd 0x0606 c (·.cmdCapture c)).drain))

/-- LTC_CONFIG (R432). -/
def execLtcConfig (c : Cmd) (s : State) : Res := .next (s.after ((s.runCmd 0x0607 c (·.cmdLtc c)).drain))

/-- SL_CONFIG (R433). -/
def execSlConfig (c : Cmd) (s : State) : Res := .next (s.after ((s.runCmd 0x0701 c (·.cmdSlConfig c)).drain))

/-- SL_SEND (R433). -/
def execSlSend (c : Cmd) (s : State) : Res := .next (s.after ((s.runCmd 0x0702 c (·.cmdSlSend c)).drain))

/-- CAN_CONFIG (R433). -/
def execCanConfig (c : Cmd) (s : State) : Res := .next (s.after ((s.runCmd 0x0703 c (·.cmdCanConfig c)).drain))

/-- CAN_SCHEDULE (R433). -/
def execCanSchedule (c : Cmd) (s : State) : Res := .next (s.after ((s.runCmd 0x0704 c (·.cmdCanSchedule c)).drain))

/-- CAN_SEND (R433). -/
def execCanSend (c : Cmd) (s : State) : Res := .next (s.after ((s.runCmd 0x0705 c (·.cmdCanSend c)).drain))

/-- OUTPUT_CONFIG (R433). -/
def execOutputConfig (c : Cmd) (s : State) : Res := .next (s.after ((s.runCmd 0x0706 c (·.cmdOutput c)).drain))

/-- WIN_CONFIG (R433). -/
def execWinConfig (c : Cmd) (s : State) : Res := .next (s.after ((s.runCmd 0x0801 c (·.cmdWinConfig c)).drain))

/-- MAP_WRITE (R433). -/
def execMapWrite (c : Cmd) (s : State) : Res := .next (s.after ((s.runCmd 0x0802 c (·.cmdTable c 11 2 509)).drain))

/-- WIN_READ (R433). -/
def execWinRead (c : Cmd) (s : State) : Res := .next (s.after ((s.runCmd 0x0803 c (·.cmdWinRead c)).drain))

/-- WIN_WRITE (R433). -/
def execWinWrite (c : Cmd) (s : State) : Res := .next (s.after ((s.runCmd 0x0804 c (·.cmdWinWrite c)).drain))

/-- BRIDGE_CTL (R433). -/
def execBridgeCtl (c : Cmd) (s : State) : Res := .next (s.after ((s.runCmd 0x0805 c (·.cmdBridgeCtl c)).drain))

end Sys2Proof.Machine
end

