-- ==== Sys2Proof/Machine/RowsReg.lean ====
section
/-!
DEFINITION. The commands of registers, their staging, and the event registers: one meaning per row of the table.
-/
namespace Sys2Proof.Machine

/-- HOST_REGISTER_WRITE (R6, R8), and a host write of BAR4 (R20), which has no row of its own. -/
def execHostRegisterWrite (r : Req) (bar4 : Bool) (off : BitVec 24) (size : Nat) (v : Word) (s : State) : Res :=
  .next (s.after ((s.barWrite r bar4 off.toNat size v).drain))

/-- HOST_ATOMICOP_BAR0_BAR4 (R6, R383). -/
def execHostAtomicopBar0Bar4 (bar4 : Bool) (off : BitVec 24) (s : State) : Res :=
  .next (s.after (if s.hostOn then s.emit (.unsupported (if bar4 then 4 else 0) off.toNat) else s))

/-- LO_REGISTER_READ (R6, R10), and a host read of BAR4 (R20), which has no row of its own. -/
def execLoRegisterRead (r : Req) (bar4 : Bool) (off : BitVec 24) (size : Nat) (s : State) : Res :=
  .next (s.after (s.barRead r bar4 off.toNat size))

/-- TB_RAW_READ (R96). -/
def execTbRawRead (r : Req) (p : Plane) (s : State) : Res := .next (s.after (s.regRead r (R.TB_RAW_LO p) 4 0))

/-- LO_REGISTER_WRITE (R10). -/
def execLoRegisterWrite (r : Req) (off : BitVec 24) (v : Word) (s : State) : Res := .next (s.after ((s.regWrite r off.toNat 4 v).drain))

/-- HI_REGISTER_WRITE (R10). -/
def execHiRegisterWrite (r : Req) (off : BitVec 24) (v : Word) (s : State) : Res := .next (s.after ((s.regWrite r off.toNat 4 v).drain))

/-- RS_READ (R8, R12, R198). -/
def execRsRead (r : Req) (off : BitVec 24) (size : Nat) (hw : Word) (s : State) : Res := .next (s.after (s.regRead r off.toNat size hw))

/-- W1C_WRITE (R8, R12). -/
def execW1cWrite (r : Req) (off : BitVec 24) (v hw : Word) (s : State) : Res := .next (s.after ((s.w1cAccess r off.toNat v hw).drain))

/-- STAGE_COMMIT (R13-R15). -/
def execStageCommit (r : Req) (off : BitVec 24) (s : State) : Res := .next (s.after (s.stageBit r off.toNat 1))

/-- STAGE_DISCARD (R13). -/
def execStageDiscard (r : Req) (off : BitVec 24) (s : State) : Res := .next (s.after (s.stageBit r off.toNat 4))

/-- STAGE_COMMIT_APPLY (R14). -/
def execStageCommitApply (off : BitVec 24) (s : State) : Res := .next (s.after ((s.stageApply off.toNat).drain))

/-- EV_STATUS_WRITE (R12, R450, R457): events of `hw` are raised in the same cycle. -/
def execEvStatusWrite (r : Req) (i : Fin 8) (v hw : Word) (s : State) : Res :=
  .next (s.after (s.w1cAccess r (R.EV_STATUS i.val) v hw))

/-- EV_MASK_WRITE (R450). -/
def execEvMaskWrite (r : Req) (i : Fin 8) (v : Word) (s : State) : Res := .next (s.after (s.regWrite r (R.EV_MASK i.val) 4 v))

/-- EV_ROUTE_WRITE (R454, R457). -/
def execEvRouteWrite (r : Req) (n : Byte) (v : Word) (s : State) : Res := .next (s.after (s.regWrite r (R.EV_ROUTE n.toNat) 4 v))

/-- MSIX_ENABLE (R450). -/
def execMsixEnable (s : State) : Res := .next (s.after (s.msixOn))

/-- MSIX_UNMASK (R450). -/
def execMsixUnmask (vec : Option (Fin 64)) (s : State) : Res := .next (s.after (s.msixUnmask vec))

/-- EVENT_SENTENCE_HOLDOFF (R451). -/
def execEventSentenceHoldoff (n : Byte) (s : State) : Res := .next (s.after (s.holdoff n.toNat))

/-- EVENT_SENTENCE_RECEIVE (R452). -/
def execEventSentenceReceive (p : Plane) (octets : List Byte) (s : State) : Res := .next (s.after (s.eventSentenceIn p octets))

end Sys2Proof.Machine
end

