-- ==== Sys2Proof/Machine/RowsRelease.lean ====
section
/-!
DEFINITION. The commands of release, pulse, capture and LTC: one meaning per row of the table.
-/
namespace Sys2Proof.Machine

/-- PIN_COPY_RECEIVE (R60-R63). -/
def execPinCopyReceive (p : Plane) (n : Fin 58) (oseq : Word) (obj : Byte) (k : CopyKind) (s : State) : Res :=
  .next (s.after (s.copyReceive p n.val oseq obj k))

/-- DECISION_POINT (R61). -/
def execDecisionPoint (n : Fin 58) (oseq : Word) (s : State) : Res := .next (s.after (s.decide_ n.val oseq))

/-- PIN_RELEASE (R298). -/
def execPinRelease (n : Fin 58) (oseq : Word) (s : State) : Res := .next (s.after ((s.release_ n.val oseq).drain))

/-- PULSE_EDGE (R305). -/
def execPulseEdge (n : Fin 16) (leading : Bool) (s : State) : Res := .next (s.after (s.pulseEdge n.val leading))

/-- ETH_LAUNCH_PREPARE (R300). -/
def execEthLaunchPrepare (p : Plane) (d : BitVec 12) (s : State) : Res := .next (s.after (s.ethPrepare p d.toNat))

/-- ETH_LAUNCH (R302). -/
def execEthLaunch (p : Plane) (d : BitVec 12) (s : State) : Res := .next (s.after (s.ethLaunch p d.toNat))

/-- REL_DESC_SEL_WRITE (R315). -/
def execRelDescSelWrite (r : Req) (p : Plane) (v : Word) (s : State) : Res := .next (s.after (s.regWrite r (R.REL_DESC_SEL p) 4 v))

/-- PULSE_TURN (R310). -/
def execPulseTurn (n : Fin 16) (s : State) : Res := .next (s.after (s.pulseTurn n.val))

/-- CAPTURE_EDGE (R313). -/
def execCaptureEdge (i : Fin 8) (rising : Bool) (s : State) : Res := .next (s.after (s.captureEdge i rising))

/-- LTC_FRAME_RECEIVE (R175, R318). -/
def execLtcFrameReceive (i : Fin 2) (rate : BitVec 2) (hms : List Byte) (ub : BitVec 32) (start : Nat) (s : State) : Res :=
  .next (s.after (s.ltcReceive i rate hms ub start))

/-- LTC_LOCK_LOST (R318). -/
def execLtcLockLost (i : Fin 2) (s : State) : Res := .next (s.after (s.ltcLost i.val))

end Sys2Proof.Machine
end

