-- ==== Sys2Proof/Machine/RowsRing.lean ====
section
/-!
DEFINITION. The commands of links, the rings, PTP, LINK_CAL and PRP: one meaning per row of the table.
-/
namespace Sys2Proof.Machine

/-- LINK_DOWN (R145). -/
def execLinkDown (p : Plane) (port : Fin 4) (faults : BitVec 2) (s : State) : Res :=
  .next (s.after ((s.linkDownAt p port faults).joinRecheck p))

/-- LINK_UP (R145). -/
def execLinkUp (p : Plane) (port : Fin 4) (s : State) : Res := .next (s.after (s.linkUpAt p port))

/-- UNWRAP (R148). -/
def execUnwrap (p : Plane) (port : Fin 4) (s : State) : Res := .next (s.after (s.unwrapAt p port))

/-- DRAIN_END (R148). -/
def execDrainEnd (p : Plane) (port : Fin 4) (s : State) : Res := .next (s.after (s.drainEndAt p port))

/-- WRAP_NOTICE_SEND (R147). -/
def execWrapNoticeSend (p : Plane) (s : State) : Res := .next (s.after (s.wrapNotice p))

/-- WRAP_NOTICE_RECEIVE (R147). -/
def execWrapNoticeReceive (p : Plane) (port : Fin 4) (s : State) : Res := .next (s.after (s.liftCut p port))

/-- PTP_CUT_RESTORE (R147). -/
def execPtpCutRestore (p : Plane) (port : Fin 4) (s : State) : Res := .next (s.after (s.cutBack p port.val))

/-- DUP_WINDOW_EXPIRE (R143). -/
def execDupWindowExpire (p : Plane) (origin : BitVec 10) (cls : BitVec 3) (s : State) : Res := .next (s.after (s.dupExpire p origin cls))

/-- NATIVE_SENTENCE_RECEIVE (R171). -/
def execNativeSentenceReceive (p : Plane) (port : Fin 4) (fcsOk : Bool) (frame : List Byte) (s : State) : Res :=
  .next (s.after (s.nativeReceive p port fcsOk frame))

/-- SENTENCE_TRANSMIT (R34). -/
def execSentenceTransmit (p : Plane) (port : Fin 4) (s : State) : Res := .next (s.after (s.transmit p port).drain)

/-- PTP_MESSAGE_RECEIVE (R155). -/
def execPtpMessageReceive (p : Plane) (port : Fin 4) (fcsOk : Bool) (frame : List Byte) (stamps : List Nat) (s : State) : Res :=
  .next (s.after (s.ptpReceive p port fcsOk frame stamps))

/-- DELAY_REQ_SEND (R158). -/
def execDelayReqSend (p : Plane) (d : Fin 2) (s : State) : Res := .next (s.after (s.delayReq p d.val))

/-- PDELAY_REQ_SEND (R158). -/
def execPdelayReqSend (p : Plane) (port : Fin 4) (s : State) : Res := .next (s.after (s.pdelayReq p port))

/-- PEER_DELAY_LOST (R158). -/
def execPeerDelayLost (p : Plane) (port : Fin 4) (s : State) : Res := .next (s.after (s.peerLost p port))

/-- PRP_SUPERVISION_SEND (R164). -/
def execPrpSupervisionSend (p : Plane) (port : Fin 4) (s : State) : Res := .next (s.after (s.prpSupervise p port))

/-- LINK_CAL_PROBE_SEND (R160). -/
def execLinkCalProbeSend (p : Plane) (s : State) : Res := .next (s.after (s.calProbe p))

/-- LINK_CAL_PROBE_RECEIVE (R160). -/
def execLinkCalProbeReceive (p : Plane) (port : Fin 4) (octets : List Byte) (residence : Nat) (s : State) : Res :=
  .next (s.after (s.calReceive p port octets residence))

/-- LINK_CAL_COMPLETE (R161). -/
def execLinkCalComplete (p : Plane) (s : State) : Res := .next (s.after (s.calDone p))

/-- DISCARDED_FRAME_RECEIVE (R137, R142, R145, R169). -/
def execDiscardedFrameReceive (p : Plane) (port : Fin 4) (why : Fin 7) (s : State) : Res := .next (s.after (s.discarded p port why.val))

/-- PRP_SUPERVISION_RECEIVE (R164). -/
def execPrpSupervisionReceive (p : Plane) (port : Fin 4) (s : State) : Res := .next (s.after (s.prpSupIn p port.val))

end Sys2Proof.Machine
end

