-- ==== Sys2Proof/Machine/RowsSerial.lean ====
section
/-!
DEFINITION. The commands of serial lines: one meaning per row of the table.
-/
namespace Sys2Proof.Machine

/-- SL_CHAR_RECEIVE (R323). -/
def execSlCharReceive (n : Fin 32) (edge : Nat) (wave : List (Bool × Nat)) (s : State) : Res :=
  .next (s.after ((s.slChar n edge wave).drain))

/-- SL_BREAK_DETECT (R341). -/
def execSlBreakDetect (n : Fin 32) (s : State) : Res := .next (s.after ((s.slBreak n).drain))

/-- SL_IDLE_MARK (R327). -/
def execSlIdleMark (n : Fin 32) (s : State) : Res := .next (s.after ((s.slIdle n).drain))

/-- SL_TEL_BREAK (R334). -/
def execSlTelBreak (n : Fin 32) (edge low high : Nat) (s : State) : Res :=
  .next (s.after ((s.slTelBreak n edge low high).drain))

/-- SL_TELEGRAM_END (R334). -/
def execSlTelegramEnd (n : Fin 32) (s : State) : Res := .next (s.after ((s.slTelegramEnd n).drain))

/-- SL_TEL_GAP (R334). -/
def execSlTelGap (n : Fin 32) (s : State) : Res := .next (s.after ((s.slTelGap n).drain))

/-- SL_STUCK (R342). -/
def execSlStuck (n : Fin 32) (s : State) : Res := .next (s.after (s.slStuck n))

/-- SL_STUCK_CLEAR (R342). -/
def execSlStuckClear (n : Fin 32) (s : State) : Res := .next (s.after (s.slUnstuck n))

/-- SL_CTS_CHANGE (R331). -/
def execSlCtsChange (n : Fin 32) (levels : List (Bool × Nat)) (s : State) : Res := .next (s.after (s.slCts n levels))

/-- SL_TXQ_DATA_WRITE (R337). -/
def execSlTxqDataWrite (r : Req) (n : Fin 32) (v : Word) (s : State) : Res :=
  .next (s.after ((s.regWrite r (R.SL_TXQ_DATA n.val) 4 v).drain))

/-- SL_RXQ_POP (R345). -/
def execSlRxqPop (r : Req) (n : Fin 32) (v : Word) (s : State) : Res := .next (s.after (s.regWrite r (R.SL_RXQ_POP n.val) 4 v))

/-- SL_TXQ_FRAME_START (R338). -/
def execSlTxqFrameStart (n : Fin 32) (s : State) : Res := .next (s.after ((s.slFrameStart n).drain))

/-- SL_TX_FRAME_END (R339). -/
def execSlTxFrameEnd (n : Fin 32) (s : State) : Res := .next (s.after ((s.slTxEnd n).drain))

/-- SL_DE_LAG_END (R330). -/
def execSlDeLagEnd (n : Fin 32) (s : State) : Res := .next (s.after (s.slDeLagEnd n))

/-- SL_RESPONSE_TIMEOUT (R339). -/
def execSlResponseTimeout (n : Fin 32) (low : Bool) (s : State) : Res := .next (s.after ((s.slRespTimeout n low).drain))

/-- SL_DUB_WAIT_END (R339). -/
def execSlDubWaitEnd (n : Fin 32) (s : State) : Res := .next (s.after ((s.slDubEnd n).drain))

/-- SL_WAKE_MATCH (R343). -/
def execSlWakeMatch (n : Fin 4) (heard : SlHeard) (s : State) : Res := .next (s.after (s.slWakes n.val heard))

end Sys2Proof.Machine
end

