-- ==== Sys2Proof/Machine/RowsTime.lean ====
section
/-!
DEFINITION. The commands of timebase, epochs and the Lantern clock: one meaning per row of the table.
-/
namespace Sys2Proof.Machine

/-- TD_COMMIT_APPLY (R99). -/
def execTdCommitApply (p : Plane) (d : Fin 2) (s : State) : Res := .next (s.after (s.tdApply p d.val))

/-- EG_COMMIT_APPLY (R120, R121). -/
def execEgCommitApply (p : Plane) (g : Fin 4) (s : State) : Res := .next (s.after (s.egApply p g.val))

/-- EG_CTL_EN_SET (R121). -/
def execEgCtlEnSet (r : Req) (p : Plane) (g : Fin 4) (s : State) : Res := .next (s.after (s.regWrite r (R.EG_CTL p g.val) 4 0x80000000))

/-- EG_CTL_EN_CLEAR (R121). -/
def execEgCtlEnClear (r : Req) (p : Plane) (g : Fin 4) (s : State) : Res := .next (s.after (s.regWrite r (R.EG_CTL p g.val) 4 0))

/-- EPOCH_BOUNDARY (R119). -/
def execEpochBoundary (p : Plane) (g : Fin 4) (s : State) : Res := .next (s.after ((s.epochStep p g.val).drain))

/-- CANVAS_CLOSE (R228). -/
def execCanvasClose (p : Plane) (s : State) : Res := .next (s.after (s.canvasClose p))

/-- KEY_OVERDUE_CHECK (R42). -/
def execKeyOverdueCheck (p : Plane) (g : Fin 4) (s : State) : Res := .next (s.after (s.keyCheck p g.val))

/-- SERVO_UPDATE (R106). -/
def execServoUpdate (p : Plane) (d : Fin 2) (s : State) : Res := .next (s.after (s.servoUpdate p d.val))

/-- REFERENCE_LOST (R106). -/
def execReferenceLost (p : Plane) (d : Fin 2) (s : State) : Res := .next (s.after (s.refGone p d.val))

/-- HOLD_WARN_EXPIRY (R107). -/
def execHoldWarnExpiry (p : Plane) (d : Fin 2) (s : State) : Res := .next (s.after (s.holdWarn p d.val))

/-- DOMAIN_SWITCH (R111, R114). -/
def execDomainSwitch (p : Plane) (s : State) : Res := .next (s.after (s.switchStep p))

/-- BRIDGE_DECAY_STEP (R113). -/
def execBridgeDecayStep (p : Plane) (s : State) : Res := .next (s.after (s.decay p))

/-- TIME_JUMP (R115). -/
def execTimeJump (p : Plane) (s : State) : Res := .next (s.after (s.jumpNow p))

/-- LANTERN_SAMPLE (R126). -/
def execLanternSample (s : State) : Res := .next (s.after (s.lanternSample))

/-- LANTERN_HOLDOVER (R126). -/
def execLanternHoldover (s : State) : Res := .next (s.after (s.lanternHold))

/-- LANTERN_EPOCH_BOUNDARY (R128). -/
def execLanternEpochBoundary (g : Fin 4) (s : State) : Res := .next (s.after (s.lanternBoundary g.val))

/-- SKEW_MEASURE (R129). -/
def execSkewMeasure (p : Plane) (s : State) : Res := .next (s.after (s.skew p))

end Sys2Proof.Machine
end

