-- ==== Sys2Proof/Machine/Dispatch.lean ====
section
/-!
DEFINITION. What each command does: one arm per constructor.
-/
namespace Sys2Proof.Machine

/-- The effect of a command on everything but the queue (`pending`), which every meaning leaves alone. -/
def exec (i : Instr) (s : State) : Host.Outcome State Fault Refusal :=
  match i with
  | .hostRegisterWrite r bar4 off size v => Sys2Proof.Machine.execHostRegisterWrite r bar4 off size v s
  | .hostAtomicopBar0Bar4 bar4 off => Sys2Proof.Machine.execHostAtomicopBar0Bar4 bar4 off s
  | .loRegisterRead r bar4 off size => Sys2Proof.Machine.execLoRegisterRead r bar4 off size s
  | .tbRawRead r p => Sys2Proof.Machine.execTbRawRead r p s
  | .loRegisterWrite r off v => Sys2Proof.Machine.execLoRegisterWrite r off v s
  | .hiRegisterWrite r off v => Sys2Proof.Machine.execHiRegisterWrite r off v s
  | .rsRead r off size hw => Sys2Proof.Machine.execRsRead r off size hw s
  | .w1cWrite r off v hw => Sys2Proof.Machine.execW1cWrite r off v hw s
  | .stageCommit r off => Sys2Proof.Machine.execStageCommit r off s
  | .stageDiscard r off => Sys2Proof.Machine.execStageDiscard r off s
  | .stageCommitApply off => Sys2Proof.Machine.execStageCommitApply off s
  | .tdCommitApply p d => Sys2Proof.Machine.execTdCommitApply p d s
  | .egCommitApply p g => Sys2Proof.Machine.execEgCommitApply p g s
  | .egCtlEnSet r p g => Sys2Proof.Machine.execEgCtlEnSet r p g s
  | .egCtlEnClear r p g => Sys2Proof.Machine.execEgCtlEnClear r p g s
  | .epochBoundary p g => Sys2Proof.Machine.execEpochBoundary p g s
  | .canvasClose p => Sys2Proof.Machine.execCanvasClose p s
  | .keyOverdueCheck p g => Sys2Proof.Machine.execKeyOverdueCheck p g s
  | .feedBelowThreshold f => Sys2Proof.Machine.execFeedBelowThreshold f s
  | .feedAboveRestore f => Sys2Proof.Machine.execFeedAboveRestore f s
  | .feedDeclaredLost f => Sys2Proof.Machine.execFeedDeclaredLost f s
  | .feedDeclaredGood f => Sys2Proof.Machine.execFeedDeclaredGood f s
  | .planeDomainFail p => Sys2Proof.Machine.execPlaneDomainFail p s
  | .pinCopyReceive p n oseq obj k => Sys2Proof.Machine.execPinCopyReceive p n oseq obj k s
  | .decisionPoint n oseq => Sys2Proof.Machine.execDecisionPoint n oseq s
  | .pinRelease n oseq => Sys2Proof.Machine.execPinRelease n oseq s
  | .pulseEdge n leading => Sys2Proof.Machine.execPulseEdge n leading s
  | .taperDown crcErrs => Sys2Proof.Machine.execTaperDown crcErrs s
  | .taperUp => Sys2Proof.Machine.execTaperUp s
  | .taperSentenceReceive p crcErr => Sys2Proof.Machine.execTaperSentenceReceive p crcErr s
  | .digestReceive p port epoch peer => Sys2Proof.Machine.execDigestReceive p port epoch peer s
  | .planeHoldSet r v => Sys2Proof.Machine.execPlaneHoldSet r v s
  | .planeHoldRelease r v => Sys2Proof.Machine.execPlaneHoldRelease r v s
  | .aonBypCtlWrite r v => Sys2Proof.Machine.execAonBypCtlWrite r v s
  | .bootComplete p first second => Sys2Proof.Machine.execBootComplete p first second s
  | .rejoinSyncDone p => Sys2Proof.Machine.execRejoinSyncDone p s
  | .rejoinPassDone p dirty => Sys2Proof.Machine.execRejoinPassDone p dirty s
  | .rejoinFinalPass p dirty => Sys2Proof.Machine.execRejoinFinalPass p dirty s
  | .rejoinSlow p => Sys2Proof.Machine.execRejoinSlow p s
  | .rejoinHandover p => Sys2Proof.Machine.execRejoinHandover p s
  | .rejoinFirstRelease p => Sys2Proof.Machine.execRejoinFirstRelease p s
  | .planeRejoinTimeout p => Sys2Proof.Machine.execPlaneRejoinTimeout p s
  | .imageLoadDone p => Sys2Proof.Machine.execImageLoadDone p s
  | .relearnMuteExpire p => Sys2Proof.Machine.execRelearnMuteExpire p s
  | .relearnDone p => Sys2Proof.Machine.execRelearnDone p s
  | .relearnLimitReached p => Sys2Proof.Machine.execRelearnLimitReached p s
  | .servoUpdate p d => Sys2Proof.Machine.execServoUpdate p d s
  | .referenceLost p d => Sys2Proof.Machine.execReferenceLost p d s
  | .holdWarnExpiry p d => Sys2Proof.Machine.execHoldWarnExpiry p d s
  | .domainSwitch p => Sys2Proof.Machine.execDomainSwitch p s
  | .bridgeDecayStep p => Sys2Proof.Machine.execBridgeDecayStep p s
  | .timeJump p => Sys2Proof.Machine.execTimeJump p s
  | .lanternSample => Sys2Proof.Machine.execLanternSample s
  | .lanternHoldover => Sys2Proof.Machine.execLanternHoldover s
  | .lanternEpochBoundary g => Sys2Proof.Machine.execLanternEpochBoundary g s
  | .skewMeasure p => Sys2Proof.Machine.execSkewMeasure p s
  | .linkDown p port faults => Sys2Proof.Machine.execLinkDown p port faults s
  | .linkUp p port => Sys2Proof.Machine.execLinkUp p port s
  | .unwrap p port => Sys2Proof.Machine.execUnwrap p port s
  | .drainEnd p port => Sys2Proof.Machine.execDrainEnd p port s
  | .wrapNoticeSend p => Sys2Proof.Machine.execWrapNoticeSend p s
  | .wrapNoticeReceive p port => Sys2Proof.Machine.execWrapNoticeReceive p port s
  | .ptpCutRestore p port => Sys2Proof.Machine.execPtpCutRestore p port s
  | .dupWindowExpire p origin cls => Sys2Proof.Machine.execDupWindowExpire p origin cls s
  | .nativeSentenceReceive p port fcsOk frame => Sys2Proof.Machine.execNativeSentenceReceive p port fcsOk frame s
  | .sentenceTransmit p port => Sys2Proof.Machine.execSentenceTransmit p port s
  | .foreignInput p arrival f => Sys2Proof.Machine.execForeignInput p arrival f s
  | .allocateCandidate p => Sys2Proof.Machine.execAllocateCandidate p s
  | .pairKeyExpire p => Sys2Proof.Machine.execPairKeyExpire p s
  | .syncGroupTimeout p g => Sys2Proof.Machine.execSyncGroupTimeout p g s
  | .ingRuleSelWrite r p v => Sys2Proof.Machine.execIngRuleSelWrite r p v s
  | .ingStreamSelWrite r p v => Sys2Proof.Machine.execIngStreamSelWrite r p v s
  | .ptpMessageReceive p port fcsOk frame stamps => Sys2Proof.Machine.execPtpMessageReceive p port fcsOk frame stamps s
  | .delayReqSend p d => Sys2Proof.Machine.execDelayReqSend p d s
  | .pdelayReqSend p port => Sys2Proof.Machine.execPdelayReqSend p port s
  | .peerDelayLost p port => Sys2Proof.Machine.execPeerDelayLost p port s
  | .prpSupervisionSend p port => Sys2Proof.Machine.execPrpSupervisionSend p port s
  | .linkCalProbeSend p => Sys2Proof.Machine.execLinkCalProbeSend p s
  | .linkCalProbeReceive p port octets residence => Sys2Proof.Machine.execLinkCalProbeReceive p port octets residence s
  | .linkCalComplete p => Sys2Proof.Machine.execLinkCalComplete p s
  | .sentenceAdmit p q => Sys2Proof.Machine.execSentenceAdmit p q s
  | .recordComplete p q => Sys2Proof.Machine.execRecordComplete p q s
  | .consumerWordRead p q eccBad eccFixed => Sys2Proof.Machine.execConsumerWordRead p q eccBad eccFixed s
  | .queueEnable r p q => Sys2Proof.Machine.execQueueEnable r p q s
  | .queueDisable r p q => Sys2Proof.Machine.execQueueDisable r p q s
  | .qCtlFlush r p q => Sys2Proof.Machine.execQCtlFlush r p q s
  | .flushApply p q => Sys2Proof.Machine.execFlushApply p q s
  | .moveNop p e ecc => Sys2Proof.Machine.execMoveNop p e ecc s
  | .moveApply p e ecc => Sys2Proof.Machine.execMoveApply p e ecc s
  | .moveField p e ecc => Sys2Proof.Machine.execMoveField p e ecc s
  | .moveMerge p e ecc => Sys2Proof.Machine.execMoveMerge p e ecc s
  | .moveConst p e ecc => Sys2Proof.Machine.execMoveConst p e ecc s
  | .moveCopy p e ecc => Sys2Proof.Machine.execMoveCopy p e ecc s
  | .buApplySelWrite r p v => Sys2Proof.Machine.execBuApplySelWrite r p v s
  | .canvasApertureRead r off size => Sys2Proof.Machine.execCanvasApertureRead r off size s
  | .jobTimeout p j => Sys2Proof.Machine.execJobTimeout p j s
  | .jobDispatch p e ecc => Sys2Proof.Machine.execJobDispatch p e ecc s
  | .jobComplete p e => Sys2Proof.Machine.execJobComplete p e s
  | .jobWindowClose p j => Sys2Proof.Machine.execJobWindowClose p j s
  | .dspCancelWrite r p v => Sys2Proof.Machine.execDspCancelWrite r p v s
  | .dspJobSelWrite r p v => Sys2Proof.Machine.execDspJobSelWrite r p v s
  | .logTailWrite r off v => Sys2Proof.Machine.execLogTailWrite r off v s
  | .ethLaunchPrepare p d => Sys2Proof.Machine.execEthLaunchPrepare p d s
  | .ethLaunch p d => Sys2Proof.Machine.execEthLaunch p d s
  | .relDescSelWrite r p v => Sys2Proof.Machine.execRelDescSelWrite r p v s
  | .pulseTurn n => Sys2Proof.Machine.execPulseTurn n s
  | .captureEdge idx rising => Sys2Proof.Machine.execCaptureEdge idx rising s
  | .ltcFrameReceive idx rate hms ub start => Sys2Proof.Machine.execLtcFrameReceive idx rate hms ub start s
  | .ltcLockLost idx => Sys2Proof.Machine.execLtcLockLost idx s
  | .slCharReceive n edge wave => Sys2Proof.Machine.execSlCharReceive n edge wave s
  | .slBreakDetect n => Sys2Proof.Machine.execSlBreakDetect n s
  | .slIdleMark n => Sys2Proof.Machine.execSlIdleMark n s
  | .slTelBreak n edge low high => Sys2Proof.Machine.execSlTelBreak n edge low high s
  | .slTelegramEnd n => Sys2Proof.Machine.execSlTelegramEnd n s
  | .slTelGap n => Sys2Proof.Machine.execSlTelGap n s
  | .slStuck n => Sys2Proof.Machine.execSlStuck n s
  | .slStuckClear n => Sys2Proof.Machine.execSlStuckClear n s
  | .slCtsChange n levels => Sys2Proof.Machine.execSlCtsChange n levels s
  | .slTxqDataWrite r n v => Sys2Proof.Machine.execSlTxqDataWrite r n v s
  | .slRxqPop r n v => Sys2Proof.Machine.execSlRxqPop r n v s
  | .slTxqFrameStart n => Sys2Proof.Machine.execSlTxqFrameStart n s
  | .slTxFrameEnd n => Sys2Proof.Machine.execSlTxFrameEnd n s
  | .slDeLagEnd n => Sys2Proof.Machine.execSlDeLagEnd n s
  | .slResponseTimeout n low => Sys2Proof.Machine.execSlResponseTimeout n low s
  | .slDubWaitEnd n => Sys2Proof.Machine.execSlDubWaitEnd n s
  | .slWakeMatch n heard => Sys2Proof.Machine.execSlWakeMatch n heard s
  | .canFrameReceive n stamp rtr desc data => Sys2Proof.Machine.execCanFrameReceive n stamp rtr desc data s
  | .canRxbPop r n v => Sys2Proof.Machine.execCanRxbPop r n v s
  | .canTxwSend r n v => Sys2Proof.Machine.execCanTxwSend r n v s
  | .canTxwAbort r n v => Sys2Proof.Machine.execCanTxwAbort r n v s
  | .canSlotOpen n sl => Sys2Proof.Machine.execCanSlotOpen n sl s
  | .canFrameStart n => Sys2Proof.Machine.execCanFrameStart n s
  | .canTxSuccess n => Sys2Proof.Machine.execCanTxSuccess n s
  | .canArbLost n => Sys2Proof.Machine.execCanArbLost n s
  | .canBusError n k => Sys2Proof.Machine.execCanBusError n k s
  | .canLone n => Sys2Proof.Machine.execCanLone n s
  | .canSlotClose n => Sys2Proof.Machine.execCanSlotClose n s
  | .canRecover r n => Sys2Proof.Machine.execCanRecover r n s
  | .canRecoveryDone n => Sys2Proof.Machine.execCanRecoveryDone n s
  | .canIntegrationDone n => Sys2Proof.Machine.execCanIntegrationDone n s
  | .canEnable r n => Sys2Proof.Machine.execCanEnable r n s
  | .canDisable r n => Sys2Proof.Machine.execCanDisable r n s
  | .canSleep r n => Sys2Proof.Machine.execCanSleep r n s
  | .canSleepClear r n => Sys2Proof.Machine.execCanSleepClear r n s
  | .canWake n heard => Sys2Proof.Machine.execCanWake n heard s
  | .canWakeDetect n heard => Sys2Proof.Machine.execCanWakeDetect n heard s
  | .bridgeRead off len => Sys2Proof.Machine.execBridgeRead off len s
  | .bridgeWrite off data be => Sys2Proof.Machine.execBridgeWrite off data be s
  | .bridgeFetchadd off wide x => Sys2Proof.Machine.execBridgeFetchadd off wide x s
  | .bridgeSwap off wide x => Sys2Proof.Machine.execBridgeSwap off wide x s
  | .bridgeCas off size cmp x => Sys2Proof.Machine.execBridgeCas off size cmp x s
  | .postedHoldDrain p => Sys2Proof.Machine.execPostedHoldDrain p s
  | .bridgeTargetRead p origin wait payload => Sys2Proof.Machine.execBridgeTargetRead p origin wait payload s
  | .bridgeTargetWrite p origin wait payload => Sys2Proof.Machine.execBridgeTargetWrite p origin wait payload s
  | .bridgeTargetWritePosted p origin wait payload => Sys2Proof.Machine.execBridgeTargetWritePosted p origin wait payload s
  | .bridgeResponseReceive p payload => Sys2Proof.Machine.execBridgeResponseReceive p payload s
  | .bridgeTimeout p entry => Sys2Proof.Machine.execBridgeTimeout p entry s
  | .brgWinFenceRead r p n => Sys2Proof.Machine.execBrgWinFenceRead r p n s
  | .brgWinLockRead r p n => Sys2Proof.Machine.execBrgWinLockRead r p n s
  | .brgWinLockRelease r p n v => Sys2Proof.Machine.execBrgWinLockRelease r p n v s
  | .lockExpire p n => Sys2Proof.Machine.execLockExpire p n s
  | .prefetchAge p n => Sys2Proof.Machine.execPrefetchAge p n s
  | .rdmAckTimerExpire p n => Sys2Proof.Machine.execRdmAckTimerExpire p n s
  | .brgMapSelWrite r p v => Sys2Proof.Machine.execBrgMapSelWrite r p v s
  | .sqDoorbell q v => Sys2Proof.Machine.execSqDoorbell q v s
  | .rqDoorbell q v => Sys2Proof.Machine.execRqDoorbell q v s
  | .hqEnable r q v => Sys2Proof.Machine.execHqEnable r q v s
  | .hqDisable r q v => Sys2Proof.Machine.execHqDisable r q v s
  | .commandFetch q dma entry params => Sys2Proof.Machine.execCommandFetch q dma entry params s
  | .commandSentenceReceive p spur octets => Sys2Proof.Machine.execCommandSentenceReceive p spur octets s
  | .statusReplyReceive p octets => Sys2Proof.Machine.execStatusReplyReceive p octets s
  | .nop c => Sys2Proof.Machine.execNop c s
  | .identify c => Sys2Proof.Machine.execIdentify c s
  | .setDevnum c => Sys2Proof.Machine.execSetDevnum c s
  | .setLead c => Sys2Proof.Machine.execSetLead c s
  | .setLeadApply => Sys2Proof.Machine.execSetLeadApply s
  | .planeHold c => Sys2Proof.Machine.execPlaneHold c s
  | .regRead c => Sys2Proof.Machine.execRegRead c s
  | .regWrite c => Sys2Proof.Machine.execRegWrite c s
  | .snapshot c => Sys2Proof.Machine.execSnapshot c s
  | .discover c => Sys2Proof.Machine.execDiscover c s
  | .tdConfig c => Sys2Proof.Machine.execTdConfig c s
  | .egSet c => Sys2Proof.Machine.execEgSet c s
  | .egEnable c => Sys2Proof.Machine.execEgEnable c s
  | .tbConfig c => Sys2Proof.Machine.execTbConfig c s
  | .timeRead c => Sys2Proof.Machine.execTimeRead c s
  | .portConfig c => Sys2Proof.Machine.execPortConfig c s
  | .portPtp c => Sys2Proof.Machine.execPortPtp c s
  | .portRing c => Sys2Proof.Machine.execPortRing c s
  | .portAddr c => Sys2Proof.Machine.execPortAddr c s
  | .bypassForce c => Sys2Proof.Machine.execBypassForce c s
  | .ruleWrite c => Sys2Proof.Machine.execRuleWrite c s
  | .streamWrite c => Sys2Proof.Machine.execStreamWrite c s
  | .queueConfig c => Sys2Proof.Machine.execQueueConfig c s
  | .queueFlush c => Sys2Proof.Machine.execQueueFlush c s
  | .moveWrite c => Sys2Proof.Machine.execMoveWrite c s
  | .profileWrite c => Sys2Proof.Machine.execProfileWrite c s
  | .lutWrite c => Sys2Proof.Machine.execLutWrite c s
  | .mergeWrite c => Sys2Proof.Machine.execMergeWrite c s
  | .jobWrite c => Sys2Proof.Machine.execJobWrite c s
  | .jobCancel c => Sys2Proof.Machine.execJobCancel c s
  | .descWrite c => Sys2Proof.Machine.execDescWrite c s
  | .guardSet c => Sys2Proof.Machine.execGuardSet c s
  | .pulseOne c => Sys2Proof.Machine.execPulseOne c s
  | .pulsePeriodic c => Sys2Proof.Machine.execPulsePeriodic c s
  | .pulseStop c => Sys2Proof.Machine.execPulseStop c s
  | .captureConfig c => Sys2Proof.Machine.execCaptureConfig c s
  | .ltcConfig c => Sys2Proof.Machine.execLtcConfig c s
  | .slConfig c => Sys2Proof.Machine.execSlConfig c s
  | .slSend c => Sys2Proof.Machine.execSlSend c s
  | .canConfig c => Sys2Proof.Machine.execCanConfig c s
  | .canSchedule c => Sys2Proof.Machine.execCanSchedule c s
  | .canSend c => Sys2Proof.Machine.execCanSend c s
  | .outputConfig c => Sys2Proof.Machine.execOutputConfig c s
  | .winConfig c => Sys2Proof.Machine.execWinConfig c s
  | .mapWrite c => Sys2Proof.Machine.execMapWrite c s
  | .winRead c => Sys2Proof.Machine.execWinRead c s
  | .winWrite c => Sys2Proof.Machine.execWinWrite c s
  | .bridgeCtl c => Sys2Proof.Machine.execBridgeCtl c s
  | .scrub c => Sys2Proof.Machine.execScrub c s
  | .scrubDone a b => Sys2Proof.Machine.execScrubDone a b s
  | .planeRejoin c => Sys2Proof.Machine.execPlaneRejoin c s
  | .fwStage c image => Sys2Proof.Machine.execFwStage c image s
  | .fwStageDone a b => Sys2Proof.Machine.execFwStageDone a b s
  | .fwSwap c => Sys2Proof.Machine.execFwSwap c s
  | .linkCal c => Sys2Proof.Machine.execLinkCal c s
  | .timeSwitch c => Sys2Proof.Machine.execTimeSwitch c s
  | .flashWrite c data => Sys2Proof.Machine.execFlashWrite c data s
  | .flashWriteDone okA okB => Sys2Proof.Machine.execFlashWriteDone okA okB s
  | .selfTest c => Sys2Proof.Machine.execSelfTest c s
  | .selfTestDone mask => Sys2Proof.Machine.execSelfTestDone mask s
  | .maintStatus c => Sys2Proof.Machine.execMaintStatus c s
  | .maintQueueStart => Sys2Proof.Machine.execMaintQueueStart s
  | .imageCommit c image => Sys2Proof.Machine.execImageCommit c image s
  | .imageCheckDone => Sys2Proof.Machine.execImageCheckDone s
  | .imageApply => Sys2Proof.Machine.execImageApply s
  | .imageWriteDone => Sys2Proof.Machine.execImageWriteDone s
  | .imageQuery c => Sys2Proof.Machine.execImageQuery c s
  | .imageVerify c image => Sys2Proof.Machine.execImageVerify c image s
  | .flashChunk c => Sys2Proof.Machine.execFlashChunk c s
  | .blackout c => Sys2Proof.Machine.execBlackout c s
  | .hold c => Sys2Proof.Machine.execHold c s
  | .stopStream c => Sys2Proof.Machine.execStopStream c s
  | .resume c => Sys2Proof.Machine.execResume c s
  | .safeState c => Sys2Proof.Machine.execSafeState c s
  | .snufferTimedAct => Sys2Proof.Machine.execSnufferTimedAct s
  | .evStatusWrite r idx v hw => Sys2Proof.Machine.execEvStatusWrite r idx v hw s
  | .evMaskWrite r idx v => Sys2Proof.Machine.execEvMaskWrite r idx v s
  | .evRouteWrite r n v => Sys2Proof.Machine.execEvRouteWrite r n v s
  | .msixEnable => Sys2Proof.Machine.execMsixEnable s
  | .msixUnmask vec => Sys2Proof.Machine.execMsixUnmask vec s
  | .eventSentenceHoldoff n => Sys2Proof.Machine.execEventSentenceHoldoff n s
  | .eventSentenceReceive p octets => Sys2Proof.Machine.execEventSentenceReceive p octets s
  | .aonPowerOn f => Sys2Proof.Machine.execAonPowerOn f s
  | .pinResetRelease => Sys2Proof.Machine.execPinResetRelease s
  | .resetNAssert => Sys2Proof.Machine.execResetNAssert s
  | .resetNRelease => Sys2Proof.Machine.execResetNRelease s
  | .perstAssert => Sys2Proof.Machine.execPerstAssert s
  | .joinLocalPass p side => Sys2Proof.Machine.execJoinLocalPass p side s
  | .joinLocalTimeout p side => Sys2Proof.Machine.execJoinLocalTimeout p side s
  | .joinNoticeSend p side => Sys2Proof.Machine.execJoinNoticeSend p side s
  | .joinNoticeReturn p side => Sys2Proof.Machine.execJoinNoticeReturn p side s
  | .joinConfirmTimeout p side => Sys2Proof.Machine.execJoinConfirmTimeout p side s
  | .joinRetry p side => Sys2Proof.Machine.execJoinRetry p side s
  | .pwrReqRun r => Sys2Proof.Machine.execPwrReqRun r s
  | .pwrReqIdle r => Sys2Proof.Machine.execPwrReqIdle r s
  | .idleEnter => Sys2Proof.Machine.execIdleEnter s
  | .pwrReqStandby r => Sys2Proof.Machine.execPwrReqStandby r s
  | .wakeNAssert => Sys2Proof.Machine.execWakeNAssert s
  | .alarmMatch => Sys2Proof.Machine.execAlarmMatch s
  | .recorderMirror => Sys2Proof.Machine.execRecorderMirror s
  | .aonFrFlush r => Sys2Proof.Machine.execAonFrFlush r s
  | .aonFrMark r v => Sys2Proof.Machine.execAonFrMark r v s
  | .tempSensorUpdate a b pin => Sys2Proof.Machine.execTempSensorUpdate a b pin s
  | .gidTempMaxRead r => Sys2Proof.Machine.execGidTempMaxRead r s
  | .gpioSet r v => Sys2Proof.Machine.execGpioSet r v s
  | .gpioClr r v => Sys2Proof.Machine.execGpioClr r v s
  | .jtagIdcode => Sys2Proof.Machine.execJtagIdcode s
  | .jtagSamplePreload cells => Sys2Proof.Machine.execJtagSamplePreload cells s
  | .jtagExtest => Sys2Proof.Machine.execJtagExtest s
  | .jtagBypass code => Sys2Proof.Machine.execJtagBypass code s
  | .crystalStart => Sys2Proof.Machine.execCrystalStart s
  | .planeResetRelease p => Sys2Proof.Machine.execPlaneResetRelease p s
  | .loopProbeSend p side => Sys2Proof.Machine.execLoopProbeSend p side s
  | .carryComplete p fixed bad => Sys2Proof.Machine.execCarryComplete p fixed bad s
  | .coldStartCountStart p => Sys2Proof.Machine.execColdStartCountStart p s
  | .discardedFrameReceive p port why => Sys2Proof.Machine.execDiscardedFrameReceive p port why s
  | .prpSupervisionReceive p port => Sys2Proof.Machine.execPrpSupervisionReceive p port s

end Sys2Proof.Machine
end

