-- ==== Sys2Proof/Safety.lean ====
section
/-!
DEFINITION. The words in which claims about the block are stated: what holds between two commands, when a command packet begins,
and a change made at each plane in turn.
-/
namespace Sys2Proof.Machine

/-- What holds between two commands (R90, R450): no pending message of a vector that is not active, and AON_BYP_CTL 11:8 at the
levels of the bypass pins. Log 81. -/
def State.Settled (s : State) : Prop :=
  s.pba &&& ~~~s.activeVecs = 0 ∧ ∀ k, k < 4 → s.rb R.AON_BYP_CTL (8 + k) = s.bypOpen k

/-- The state once the executor of command `c` has taken it from those that wait (R417). -/
def State.taken (s : State) (c : Cmd) : State := { s with accepted := s.accepted.erase c }

/-- Command packet `c` of opcode `op` begins: its executor takes it next, control core `p` runs, and it acts on planes `ps`; `split`
says that it completes NOT_PERMITTED for being sent to both planes in SPLIT (R77, R416, R417, R459). -/
def State.begins (s : State) (op : Nat) (c : Cmd) (p : Plane) (ps : List Plane) (split : Bool) : Prop :=
  c.op.toNat = op ∧ s.nextCmd (op / 256 == 0xF) = some c ∧ s.coreFor c = some p ∧ s.targets c = .ok (ps, split)

/-- The canonical form of the registers: offsets strictly rising, none listed at its reset value. -/
abbrev State.regsWf (s : State) : Prop := s.regs.wf resetOf

/-- A duplicate-discard window has `x` on record: it lies among H - 1,023 to H and is recorded (R143). -/
def recorded (w : DupWin) (x : Word) : Bool := decide ((w.high - x).toNat < 1024) && w.rec_.getLsbD (w.high - x).toNat

/-- `f` at each plane of a list in turn; none where `f` stops at one of them. -/
def onEach (f : State → Plane → Option State) : List Plane → State → Option State
  | [], s => some s
  | p :: ps, s => match f s p with
    | some t => onEach f ps t
    | none => none

/-- Every plane of `ps` has done its part, without a result. -/
def allDone (ps : List Plane) : List (Plane × Nat × List Byte) := ps.map fun p => (p, stDone, [])

/-- Command packets of opcode `op`, as the rows `i` give them, do `f` at each plane they act on, and complete DONE (R77, R426). -/
def packetDoes (i : Cmd → Instr) (op : Nat) (f : Cmd → State → Plane → Option State) : Prop :=
  ∀ (s : State) (c : Cmd) (p : Plane) (ps : List Plane) (split : Bool) (t : State), s.begins op c p ps split →
    onEach (f c) ps (s.taken c) = some t → exec (i c) s = .next (s.after ((t.answer c (allDone ps) split).drain))

/-- Command packets of opcode `op` do `f` once for the device at the control core's plane: it gives the state, STATUS and RESULT
(R416, R426). -/
def packetAnswers (i : Cmd → Instr) (op : Nat) (f : Cmd → State → Plane → Option (State × Nat × List Byte)) : Prop :=
  ∀ (s : State) (c : Cmd) (p : Plane) (ps : List Plane) (split : Bool) (t : State) (st : Nat) (res : List Byte),
    s.begins op c p ps split → f c (s.taken c) p = some (t, st, res) →
    exec (i c) s = .next (s.after ((t.answer c [(p, st, res)] split).drain))

/-- Command packets of opcode `op` leave the state that `f` gives, their replies among it; `f` has the planes they act on and whether
they complete NOT_PERMITTED in SPLIT. -/
def packetGives (i : Cmd → Instr) (op : Nat) (f : Cmd → State → Plane → List Plane → Bool → Option State) : Prop :=
  ∀ (s : State) (c : Cmd) (p : Plane) (ps : List Plane) (split : Bool) (t : State), s.begins op c p ps split →
    f c (s.taken c) p ps split = some t → exec (i c) s = .next (s.after t.drain)

/-- Command packets of opcode `op` that cannot act on the planes they name are refused with the status of R77 and R459. -/
def packetRefused (i : Cmd → Instr) (op : Nat) : Prop :=
  ∀ (s : State) (c : Cmd) (st : Nat), c.op.toNat = op → s.nextCmd (op / 256 == 0xF) = some c → s.targets c = .error st →
    exec (i c) s = .next (s.after (((s.taken c).refuse c (((s.taken c).coreFor c).getD s.lead) st).drain))

/-- Writes of registers by a control core's command, none where a value lies outside its field's range (R8). -/
def putRegsAll (r : Req) (ws : List (Nat × Word)) (t : State) : Option State :=
  if ws.all fun w => fitsReg w.1 w.2 then some (ws.foldl (fun u w => u.writeAll r w.1 w.2) t) else none

/-- The stage copies of a block written and committed (R427), none while a commit waits or where a value lies outside its field's range
(R8). -/
def stageBlock (sc : Nat) (ws : List (Nat × Word)) (t : State) : Option State :=
  if (ws.all fun w => fitsReg w.1 w.2) && !t.pendingAt sc then some (t.stageAll sc ws) else none

end Sys2Proof.Machine
end

