-- ==== Sys2Proof/WellFormed.lean ====
section
/-!
DEFINITION. Which operands a command can be spelt with: the opcode of a packet's row, the limits of the packet header (R422,
R423), and the octet counts that fix a row's operands. `exec` gives every term a meaning; these checks say which terms the
environment can send.
-/
namespace Sys2Proof

/-- The opcode of a command packet's row with its packet (R430-R438); none for the other rows. -/
def packetOf : Instr → Option (Nat × Cmd)
  | .nop c => some (0x0100, c)
  | .identify c => some (0x0101, c)
  | .setDevnum c => some (0x0102, c)
  | .setLead c => some (0x0103, c)
  | .planeHold c => some (0x0104, c)
  | .regRead c => some (0x0105, c)
  | .regWrite c => some (0x0106, c)
  | .snapshot c => some (0x0107, c)
  | .discover c => some (0x0108, c)
  | .tdConfig c => some (0x0201, c)
  | .egSet c => some (0x0202, c)
  | .egEnable c => some (0x0203, c)
  | .tbConfig c => some (0x0204, c)
  | .timeRead c => some (0x0205, c)
  | .portConfig c => some (0x0301, c)
  | .portPtp c => some (0x0302, c)
  | .portRing c => some (0x0303, c)
  | .portAddr c => some (0x0304, c)
  | .bypassForce c => some (0x0305, c)
  | .ruleWrite c => some (0x0401, c)
  | .streamWrite c => some (0x0402, c)
  | .queueConfig c => some (0x0403, c)
  | .queueFlush c => some (0x0404, c)
  | .moveWrite c => some (0x0501, c)
  | .profileWrite c => some (0x0502, c)
  | .lutWrite c => some (0x0503, c)
  | .mergeWrite c => some (0x0504, c)
  | .jobWrite c => some (0x0505, c)
  | .jobCancel c => some (0x0506, c)
  | .descWrite c => some (0x0601, c)
  | .guardSet c => some (0x0602, c)
  | .pulseOne c => some (0x0603, c)
  | .pulsePeriodic c => some (0x0604, c)
  | .pulseStop c => some (0x0605, c)
  | .captureConfig c => some (0x0606, c)
  | .ltcConfig c => some (0x0607, c)
  | .slConfig c => some (0x0701, c)
  | .slSend c => some (0x0702, c)
  | .canConfig c => some (0x0703, c)
  | .canSchedule c => some (0x0704, c)
  | .canSend c => some (0x0705, c)
  | .outputConfig c => some (0x0706, c)
  | .winConfig c => some (0x0801, c)
  | .mapWrite c => some (0x0802, c)
  | .winRead c => some (0x0803, c)
  | .winWrite c => some (0x0804, c)
  | .bridgeCtl c => some (0x0805, c)
  | .scrub c => some (0x0901, c)
  | .planeRejoin c => some (0x0902, c)
  | .fwStage c _ => some (0x0903, c)
  | .fwSwap c => some (0x0904, c)
  | .linkCal c => some (0x0905, c)
  | .timeSwitch c => some (0x0906, c)
  | .flashWrite c _ => some (0x0907, c)
  | .selfTest c => some (0x0908, c)
  | .maintStatus c => some (0x0909, c)
  | .imageCommit c _ => some (0x0A01, c)
  | .imageQuery c => some (0x0A02, c)
  | .imageVerify c _ => some (0x0A03, c)
  | .flashChunk c => some (0x0A04, c)
  | .blackout c => some (0x0F01, c)
  | .hold c => some (0x0F02, c)
  | .stopStream c => some (0x0F03, c)
  | .resume c => some (0x0F04, c)
  | .safeState c => some (0x0F05, c)
  | _ => none

/-- The packet is of its row's opcode, names planes that exist, waits for a time in group 0x0F alone, and is not too long (R422,
R423). -/
def packetOk (op : Nat) (c : Cmd) : Bool :=
  decide (c.op.toNat = op) && decide (c.planes ≠ 3) && (!c.timed || op / 256 == 0xF) &&
    decide (c.ps.length ≤ if op / 256 = 0xF then 96 else 8160)

/-- Octets of one access of a BAR (R6). -/
def accessSize (size : Nat) : Bool := size == 1 || size == 2 || size == 4 || size == 8

/-- The operands other than a packet's (R6, R23, R175, R184, R383, R417, R513). -/
def operandsOk : Instr → Bool
  | .hostRegisterWrite _ _ _ size _ => accessSize size
  | .loRegisterRead _ _ _ size => accessSize size
  | .rsRead _ _ size _ => accessSize size
  | .slCharReceive _ _ wave => wave.all fun r => decide (0 < r.2)
  | .canWake _ (.frame desc data) => desc.length == 8 && decide (data.length ≤ 64)
  | .canWakeDetect _ (.frame desc data) => desc.length == 8 && decide (data.length ≤ 64)
  | .bridgeRead _ len => decide (0 < len)
  | .bridgeWrite _ data be => data.length == be.length && decide (0 < data.length)
  | .bridgeCas _ size _ _ => size == 4 || size == 8 || size == 16
  | .commandFetch _ _ entry _ => entry.length == 64
  | .commandSentenceReceive _ _ octets => decide (32 ≤ octets.length)
  | .statusReplyReceive _ octets => decide (32 ≤ octets.length)
  | .eventSentenceReceive _ octets => decide (32 ≤ octets.length)
  | .canFrameReceive _ _ _ desc data => desc.length == 8 && decide (data.length ≤ 64)
  | .ltcFrameReceive _ _ hms _ _ => hms.length == 4
  | .jtagSamplePreload cells => cells.length == 702
  | _ => true

/-- A command the environment can send. -/
def wellFormed (i : Instr) : Bool :=
  operandsOk i && match packetOf i with
    | some (op, c) => packetOk op c
    | none => true

end Sys2Proof
end

