-- ==== Sys2Proof/Certificates/Slice0/Obligations.lean ====
section
/-!
DEFINITION. The statements about the block. A statement of what a command does gives its whole next state in terms of the state
and operands: `exec c s = .next (s.after t)`, where `t` is the change and `after` leaves the queue as it was and brings the
bypass pins and pending messages to their levels (statements LevelsAlreadyRight and EveryStepSettles say what `after` adds).
`drain` is what follows by itself within the command, such as an access that the command lets go on.
-/

open Sys2Proof Sys2Proof.Machine

/-! Queue, time, reset, levels -/

/-- A step takes the command at the front of the queue and runs it with the queue's rest. -/
def Obligations.StepRunsFrontCommand : Prop :=
  ∀ (c : Instr) (cs : List Instr) (s : State), step { s with pending := c :: cs } = exec c { s with pending := cs }

/-- Every command in the queue comes to its next state, first in, first out: as many steps as commands stand in front leave the
rest of the queue. -/
def Obligations.CommandsRunInOrder : Prop :=
  ∀ (cs ds : List Instr) (s : State), s.pending = cs ++ ds →
    ∃ t : State, Host.Core.run Sys2Proof.core cs.length s = .next t ∧ t.pending = ds

/-- On an empty queue the cycle ends, with what is judged at its end (RTS, the queues' watermarks, power of PIN), and 2 ns pass: the raw
counter of a present plane counts 32 (R94), Lantern time advances with LT_FREQ_ADJ while PIN is out of reset (R125), and beyond the end of
the cycle only AON_TICKS may change among the registers and nothing is put out. That an empty queue means 2 ns and the end of a cycle is
the model's choice: logs 1 and 156. -/
def Obligations.TimePassesOnAnEmptyQueue : Prop :=
  ∀ s : State, s.pending = [] →
    let e := s.endCycle
    ∃ u : State, step s = .next (s.after u) ∧
      (∀ p, (u.pl p).raw = if e.present p then (e.pl p).raw + 32 else (e.pl p).raw) ∧
      u.lt = (if e.pinOn then ((e.lt : Int) + 32 * 2 ^ 40 + 32 * e.sreg R.LT_FREQ_ADJ).toNat else e.lt) ∧
      (∀ off, off ≠ R.AON_TICKS_LO → off ≠ R.AON_TICKS_LO + 4 → u.reg off = e.reg off) ∧ u.out = e.out

/-- Before power every register holds its reset value, no plane is powered, no command waits, nothing has been put out, and the levels are
settled; reset values that the register tables state are there. That no feed is applied yet is the model's choice of a beginning: log 5. -/
def Obligations.ResetState : Prop :=
  State.reset.pending = [] ∧ State.reset.out = [] ∧ State.reset.Settled ∧ State.reset.mode = 0 ∧ (∀ p, (State.reset.pl p).st = .off) ∧
    (∀ off, State.reset.reg off = resetOf off) ∧
    State.reset.reg R.GID_SENT_CTL = 0xFF ∧ State.reset.reg R.AON_PSUP_CTL = 0x300C ∧
    (∀ i, i < 8 → State.reset.reg (R.EV_MASK i) = 0xFFFFFFFF) ∧
    (∀ n, n < 256 → State.reset.reg (R.EV_ROUTE n) = BitVec.ofNat 32 (0x80000000 + n % 64 * 0x10000)) ∧
    (∀ p, State.reset.reg (R.TD_CFG p 0) = 0x07F00A58 ∧ State.reset.reg (R.TD_CFG p 1) = 0x07E00A58)

/-- A step from a settled state leaves a settled state: after every command the bypass pins stand at the levels of R90, and no
message waits for a vector that is not active (R450). That both follow within the command is the model's choice: log 81. -/
def Obligations.EveryStepSettles : Prop := ∀ s t : State, s.Settled → step s = .next t → t.Settled

/-- What `after` adds: nothing but the queue, where the change leaves settled levels and moves no ball: neither the column of R502, nor what
EXTEST drives, nor an interrupt pin. Logs 81 and 152. -/
def Obligations.LevelsAlreadyRight : Prop :=
  ∀ s t : State, t.Settled → t.regsWf → s.ballPhase = t.ballPhase → s.extLevels = t.extLevels → (∀ p, s.irqLevel p = t.irqLevel p) →
    s.after t = { t with pending := s.pending }

/-! Numbers, octets and check codes -/

/-- The octets of a sentence spell it: 32 octets of header, then the payload, and reading them gives the sentence back, with every
field at every value. -/
def Obligations.HeaderSpellsSentence : Prop :=
  ∀ h : Sent, h.header.length = 32 ∧ h.octets.drop 32 = h.payload ∧ parseSent h.octets h.payload = h

/-- A sentence's octets are the 32 of its header, each field and each reserved bit where R23 puts it, and then its payload. HCRC: the check value of R24, its place over octets 0-27 alone, and that a sentence sealed
by its origin passes the header checks of R25 when its fields lie in their ranges. -/
def Obligations.HeaderFieldsAndCheck : Prop :=
  (∀ h : Sent, let bs := h.octets
    nfld (octs bs 0 1) 7 4 = h.ver.toNat ∧ nfld (octs bs 0 1) 3 1 = h.cls.toNat ∧ nfld (octs bs 0 1) 0 0 = h.key.toNat ∧
    nfld (octs bs 1 1) 7 5 = h.prio.toNat ∧ nfld (octs bs 1 1) 4 4 = h.timed.toNat ∧ nfld (octs bs 1 1) 3 3 = h.last.toNat ∧
    nfld (octs bs 1 1) 2 2 = h.ackreq.toNat ∧ octs bs 2 2 = h.plen.toNat ∧ nfld (octs bs 4 2) 15 15 = h.unnum.toNat ∧
    nfld (octs bs 4 2) 9 0 = h.origin.toNat ∧ octs bs 6 2 = h.talker.toNat ∧ octs bs 8 3 = h.stream.toNat ∧
    octs bs 11 1 = h.sub.toNat ∧ octs bs 12 4 = h.seq.toNat ∧ octs bs 16 8 = h.pt64.toNat ∧ octs bs 24 4 = h.tag.toNat ∧
    octs bs 28 1 = h.hops.toNat ∧ octs bs 29 1 = h.ttl.toNat ∧ octs bs 30 2 = h.hcrc.toNat ∧
    nfld (octs bs 1 1) 1 0 = h.rsv1.toNat ∧ nfld (octs bs 4 2) 14 10 = h.rsv2.toNat ∧ bs.drop 32 = h.payload) ∧
  crc16 [0x31, 0x32, 0x33, 0x34, 0x35, 0x36, 0x37, 0x38, 0x39] = 0x29B1 ∧
  (∀ h : Sent, h.seal.hcrc = BitVec.ofNat 16 (crc16 (h.seal.octets.take 28))) ∧
  (∀ (h : Sent) (a b : Byte), ({ h with hops := a, ttl := b } : Sent).body = h.body) ∧
  (∀ h : Sent, h.payload.length ≤ 8192 → (h.timed = true → h.pt64.toNat % 2 ^ 32 ≤ 999999999) → (h.cls = 7 → h.payload.length ≤ 128) →
    headerErr h.seal true = false)

/-- A dial time without FRAC that lies within 2^31 s of now comes back from its PT64. -/
def Obligations.PresentationTimeRoundTrip : Prop :=
  ∀ (now x : Int), 0 ≤ x → x % 16 = 0 → now - 2 ^ 31 * unitsPerSec ≤ x → x < now + 2 ^ 31 * unitsPerSec →
    ofPt64 now (toPt64 x) = x ∧ (toPt64 x).toNat % 2 ^ 32 ≤ 999999999

/-! Registers -/

/-- A host or control-core write of a register that only holds configuration is a write by the access types of its row, and a read of it returns
it. Bits under such a write: an RW bit takes the value written, kept within the field's range; a W1C bit clears where 1 is written unless
hardware sets it in that cycle; any other bit stays. No other register changes. Of TB_CTL: each field in its range is taken and each outside
keeps its value. What the writes of the registers that do more than hold a value do is in the statements of their families. -/
def Obligations.RegisterMasks : Prop :=
  (∀ (s : State) (r : Req) (off : BitVec 24) (v : Word) (row : RegRow), s.reqOn r = true → off.toNat % 4 = 0 → off.toNat < 0xC00000 →
    s.there off.toNat = true → rowOf off.toNat = some row → row.pair = .single → isStageCtl off.toNat = false → logOf off.toNat = none →
    isHqBase off.toNat = false →
    off.toNat ∉ [R.AON_PSUP_CTL, R.AON_BYP_CTL, R.AON_PWR_CTL, R.AON_FR_CTL, R.AON_FR_MARK, R.GPIO_SET, R.GPIO_CLR] →
    (∀ i, i < 2 → off.toNat ≠ R.LO_CFG i) → (∀ i, i < 4 → off.toNat ≠ R.HQ_CTL i) →
    (∀ i, i < 8 → off.toNat ∉ [R.EV_STATUS i, R.EV_MASK i, R.CAN_CTL i, R.CAN_RXB_POP i, R.CAN_TXW_CMD i, R.CI_CFG i]) →
    (∀ i, i < 16 → off.toNat ≠ R.PO_CFG i) → (∀ i, i < 32 → off.toNat ∉ [R.SL_TXQ_DATA i, R.SL_RXQ_POP i, R.SL_FLOW i]) →
    (∀ i, i < 256 → off.toNat ≠ R.EV_ROUTE i) →
    (∀ p, off.toNat ∉ [R.ING_RULE_SEL p, R.ING_STREAM_SEL p, R.BU_APPLY_SEL p, R.DSP_CANCEL p, R.DSP_JOB_SEL p, R.REL_DESC_SEL p,
      R.BRG_MAP_SEL p]) →
    (∀ p i, i < 4 → off.toNat ≠ R.EG_CTL p i ∧ off.toNat ≠ R.PORT_RING p i) →
    (∀ p i, i < 64 → off.toNat ≠ R.BRG_WIN_ERR p i ∧ off.toNat ≠ R.BRG_WIN_LOCK p i) → (∀ p i, i < 512 → off.toNat ≠ R.Q_CTL p i) →
    exec (.hostRegisterWrite r false off 4 v) s = .next (s.after (s.put row off.toNat v 0).drain)) ∧
  (∀ (s : State) (r : Req) (off : BitVec 24), s.reqOn r = true →
    off.toNat = R.GID_SENT_CTL ∨ off.toNat = R.AON_JOIN_CFG ∨ off.toNat = R.LT_CTL ∨ off.toNat = R.LDH_CTL ∨
      (∃ p, s.present p = true ∧ off.toNat ∈ [R.TB_CTL p, R.REL_CTL p, R.BRG_CTL p, R.ING_CTL p, R.BU_CTL p, R.PORT_RING p 0]) →
    exec (.loRegisterRead r false off 4) s = .next (s.after (s.emit (.read r off.toNat (s.reg off.toNat))))) ∧
  (∀ (s : State) (r : Req) (p : Plane) (off : BitVec 24) (v : Word), s.reqOn r = true → s.present p = true → off.toNat = R.TB_CTL p →
    let field (hi lo min max : Nat) (u : State) : Prop := u.rf (R.TB_CTL p) hi lo =
      if min ≤ fld v hi lo ∧ fld v hi lo ≤ max then fld v hi lo else s.rf (R.TB_CTL p) hi lo
    ∃ u : State, exec (.hostRegisterWrite r false off 4 v) s = .next (s.after u.drain) ∧ field 23 14 1 1000 u ∧ field 13 7 1 127 u ∧
      field 6 0 1 100 u ∧ u.rf (R.TB_CTL p) 25 24 = fld v 25 24 ∧ u.rf (R.TB_CTL p) 31 26 = s.rf (R.TB_CTL p) 31 26 ∧
      (∀ o, o ≠ R.TB_CTL p → u.reg o = s.reg o) ∧ (∀ q, u.pl q = s.pl q) ∧ u.out = s.out) ∧
  ∀ (s : State) (row : RegRow) (off i : Nat) (v hw : Word), i < 32 →
    ((row.w1c.testBit i = false → row.rw.testBit i = true →
        ((s.put row off v hw).reg off).getLsbD i = (row.fit (s.reg off) v).getLsbD i) ∧
      (row.w1c.testBit i = true → row.rw.testBit i = false →
        ((s.put row off v hw).reg off).getLsbD i = (hw.getLsbD i || ((s.reg off).getLsbD i && !v.getLsbD i))) ∧
      (row.w1c.testBit i = false → row.rw.testBit i = false →
        ((s.put row off v hw).reg off).getLsbD i = (s.reg off).getLsbD i) ∧
      ∀ o, o ≠ off → (s.put row off v hw).reg o = s.reg o)

/-- Reads and writes of registers by the host and the control cores. A host access of BAR0 that is not a naturally aligned 32-bit one meets a
Completer Abort and is recorded as an access error, an AtomicOp an Unsupported Request, and neither changes anything else. A read of an RS
register returns its value and clears its RS bits, but for those that hardware sets in that cycle; a W1C write clears the bits written 1, but
for those that hardware sets in that cycle. A read of TB_RAW_LO returns the low half of the raw counter and latches the plane's timebase
snapshot for this requester alone. -/
def Obligations.RegisterAccesses : Prop :=
  (∀ (s : State) (off : BitVec 24) (size : Nat) (v : Word) (bar4 : Bool), s.hostOn = true →
    (size ≠ 4 ∨ off.toNat % 4 ≠ 0 →
      let refused (write : Bool) : State :=
        (((s.emit (.abort 0 off.toNat)).setReg R.EV_ACC_INFO (BitVec.ofNat 32 (1 * 2 ^ 24 + write.toNat))).setReg R.EV_ACC_ADDR
          (BitVec.ofNat 32 off.toNat)).raise 14
      exec (.hostRegisterWrite .host false off size v) s = .next (s.after (refused true).drain) ∧
      exec (.loRegisterRead .host false off size) s = .next (s.after (refused false)) ∧
      exec (.rsRead .host off size v) s = .next (s.after (refused false))) ∧
    exec (.hostAtomicopBar0Bar4 bar4 off) s = .next (s.after (s.emit (.unsupported (if bar4 then 4 else 0) off.toNat)))) ∧
  (∀ (s : State) (r : Req) (off : BitVec 24) (hw : Word) (row : RegRow), s.reqOn r = true → off.toNat % 4 = 0 → off.toNat < 0xC00000 →
    s.there off.toNat = true → rowOf off.toNat = some row → row.pair = .single → row.rs ≠ 0 →
    (∀ i, i < 8 → off.toNat ≠ R.CI_COUNT i) → off.toNat ≠ R.GID_TEMP_MAX →
    (∀ p i, off.toNat ≠ R.TB_RAW_LO p ∧ off.toNat ≠ R.BRG_WIN_LOCK p i ∧ off.toNat ≠ R.BRG_WIN_FENCE p i ∧ off.toNat ≠ R.STORE_LOW_MARK p ∧
      off.toNat ≠ R.Q_PEAK p i ∧ off.toNat ≠ R.ING_RULE_HITS p ∧ off.toNat ≠ R.ING_STREAM_ACC p ∧ off.toNat ≠ R.ING_STREAM_DROP p) →
    isTbSnap off.toNat = false →
    ∃ u : State, exec (.rsRead r off 4 hw) s = .next (s.after (u.emit (.read r off.toNat (s.shown off.toNat)))) ∧
      u.reg off.toNat = (s.reg off.toNat &&& ~~~(BitVec.ofNat 32 row.rs)) ||| (hw &&& BitVec.ofNat 32 row.rs) ∧
      (∀ o, o ≠ off.toNat → u.reg o = s.reg o) ∧ (∀ p, u.pl p = s.pl p) ∧ u.out = s.out) ∧
  (∀ (s : State) (r : Req) (off : BitVec 24) (v hw : Word) (m n : Nat), s.reqOn r = true →
    (n < 32 ∧ off.toNat = R.SL_EVENT n ∧ m = 0xFF) ∨ (n < 8 ∧ off.toNat = R.CAN_EVENT n ∧ m = 0x1FF) →
    ∃ u : State, exec (.w1cWrite r off v hw) s = .next (s.after u.drain) ∧
      u.reg off.toNat = (s.reg off.toNat &&& ~~~(v &&& BitVec.ofNat 32 m)) ||| (hw &&& BitVec.ofNat 32 m) ∧
      (∀ o, o ≠ off.toNat → u.reg o = s.reg o) ∧ (∀ p, u.pl p = s.pl p) ∧ u.out = s.out) ∧
  (∀ (s : State) (r : Req) (p : Plane), s.reqOn r = true → s.present p = true →
    ∃ u : State, exec (.tbRawRead r p) s = .next (s.after (u.emit (.read r (R.TB_RAW_LO p) ((s.pl p).raw.truncate 32)))) ∧
      u.latched r (R.TB_RAW_HI p) = BitVec.ofNat 32 ((s.pl p).raw.toNat / 2 ^ 32) ∧
      u.latched r (R.TB_SNAP_TD0_NS_LO p) = BitVec.ofNat 32 (s.dial p 0 / 16) ∧
      u.latched r (R.TB_SNAP_TD1_NS_LO p) = BitVec.ofNat 32 (s.dial p 1 / 16) ∧
      u.latched r (R.TB_DIAL_NS_LO p) = BitVec.ofNat 32 (toU 68 (s.release p) / 16) ∧
      (∀ q o, q ≠ r → u.latched q o = s.latched q o) ∧ (∀ o, u.reg o = s.reg o) ∧ (∀ q, u.pl q = s.pl q) ∧ u.out = s.out)

/-- While a plane is absent (R18), a read of its range returns all ones and a write to it changes nothing but what the host access-error
event shows (with the causes of R456), which each access raises; a write to the read-only apertures does the same. That a plane is absent
in OFF and HELD alone (log 9) and that the event is raised for every requester (log 100) is the model's reading. -/
def Obligations.AbsentAndReadOnlyRanges : Prop :=
  ∀ (s : State) (r : Req) (off : BitVec 24) (v : Word), s.reqOn r = true → off.toNat % 4 = 0 →
    let error (cause : Nat) (write : Bool) : State :=
      ((s.setReg R.EV_ACC_INFO (BitVec.ofNat 32 (cause * 2 ^ 24 + write.toNat))).setReg R.EV_ACC_ADDR (BitVec.ofNat 32 off.toNat)).raise 14
    (∀ p, planeOf off.toNat = some p → s.present p = false →
      exec (.loRegisterRead r false off 4) s = .next (s.after ((error 2 false).emit (.read r off.toNat 0xFFFFFFFF))) ∧
      exec (.rsRead r off 4 v) s = .next (s.after ((error 2 false).emit (.read r off.toNat 0xFFFFFFFF))) ∧
      exec (.hostRegisterWrite r false off 4 v) s = .next (s.after (error 2 true).drain)) ∧
    (0xC00000 ≤ off.toNat → exec (.hostRegisterWrite r false off 4 v) s = .next (s.after (error 3 true).drain))

/-- 64-bit pairs of the Lantern ring and the planes: a write of the low half of a writable pair is held and changes no register, the
write of the high half brings both, and a read of a low half latches the high one for this requester alone. That a value held for one
register waits for its own other half, whoever writes that, is the model's reading: log 12. -/
def Obligations.RegisterPairs : Prop :=
  ∀ (s : State) (r : Req) (off : BitVec 24) (v l : Word) (row lrow : RegRow), s.reqOn r = true → off.toNat % 4 = 0 →
    0x200000 ≤ off.toNat → off.toNat < 0xC00000 → s.there off.toNat = true → rowOf off.toNat = some row →
    isStageCtl off.toNat = false → logOf off.toNat = none →
    (row.pair = .lo → row.holds = true →
      exec (.loRegisterWrite r off v) s = .next (s.after { s with loHeld := Tab.put off.toNat v s.loHeld }.drain)) ∧
    (row.pair = .hi → row.holds = true → Tab.find (loOf off.toNat) s.loHeld = some l → rowOf (loOf off.toNat) = some lrow →
      exec (.hiRegisterWrite r off v) s = .next (s.after
        (({ s with loHeld := Tab.erase (loOf off.toNat) s.loHeld }.put lrow (loOf off.toNat) l 0).put row off.toNat v 0).drain)) ∧
    (row.pair = .lo → planeOf off.toNat = none → (∀ i, i < 8 → off.toNat ≠ R.CI_LAST_LO i) →
      exec (.loRegisterRead r false off 4) s = .next (s.after
        ((s.latch r (hiOf off.toNat) (s.shown (hiOf off.toNat))).emit (.read r off.toNat (s.shown off.toNat)))))

/-- Writes of a block's stage control register: a COMMIT while one is pending is ignored and sets OVERRUN, DISCARD takes effect before
COMMIT, and a COMMIT snapshots the stage copy. -/
def Obligations.StageControl : Prop :=
  ∀ (s : State) (r : Req) (off : BitVec 24) (v : Word), s.reqOn r = true → off.toNat % 4 = 0 → 0x200000 ≤ off.toNat →
    off.toNat < 0xC00000 → s.there off.toNat = true → isStageCtl off.toNat = true → s.stage.sorted →
    let s1 := (if bit v 30 then s.setRb off.toNat 30 false else s).setRb off.toNat 1 (bit v 1)
    (bit v 2 = true → exec (.hostRegisterWrite r false off 4 v) s = .next (s.after
      ((s1.unstage off.toNat (stageEnd off.toNat)).endCommit off.toNat).drain)) ∧
    (bit v 2 = false → bit v 0 = true → s.rb off.toNat 31 = true → exec (.hostRegisterWrite r false off 4 v) s =
      .next (s.after (s1.setRb off.toNat 30 true).drain)) ∧
    (bit v 2 = false → bit v 0 = true → s.rb off.toNat 31 = false →
      ∃ u : State, exec (.hostRegisterWrite r false off 4 v) s = .next (s.after u.drain) ∧ u.rb off.toNat 31 = true ∧
        u.stage = s.stage ∧ ∀ o x, Tab.find o s.stage = some x → off.toNat ≤ o → o < stageEnd off.toNat → Tab.find o u.snap = some x)

/-- The duplicate-discard window of an origin and class decides by d = SEQ - H modulo 2^32, and after an acceptance has on record the
sequence number and, of what it had, what still lies in H - 1,023 to H. -/
def Obligations.DuplicateWindow : Prop :=
  ∀ (w : DupWin) (seq : Word), let d := (seq - w.high).toNat
    (dupCheck none seq).1 = none ∧ (dupCheck none seq).2.high = seq ∧
      (∀ x, recorded (dupCheck none seq).2 x = decide (x = seq)) ∧
    ((dupCheck (some w) seq).1 =
      if 1 ≤ d ∧ d < 2 ^ 31 then none
      else if d = 0 ∨ recorded w seq = true then some true
      else if (w.high - seq).toNat ≤ 1023 then none
      else some false) ∧
    ((dupCheck (some w) seq).1 = none → (dupCheck (some w) seq).2.high = (if 1 ≤ d ∧ d < 2 ^ 31 then seq else w.high) ∧
      ∀ x, recorded (dupCheck (some w) seq).2 x =
        (decide (x = seq) || (recorded w x && decide (((dupCheck (some w) seq).2.high - x).toNat < 1024)))) ∧
    ((dupCheck (some w) seq).1 ≠ none → (dupCheck (some w) seq).2 = w)

/-! Registers: staging, events, MSI-X -/

/-- COMMIT snapshots the stage copy of a block's registers and sets PENDING, and while one is pending sets OVERRUN and nothing else; DISCARD
reloads the stage copy and cancels what is pending (R13-R15). At its boundary a block's pending commit applies its whole snapshot and PENDING
clears: a serial line, a CAN controller with no frame on its bus, a port, a queue between records, the release guard, a window with no access
open; what a queue's levels did in the cycle is judged by the old watermarks. STAGE_VIEW and OVERRUN stay as they are where nothing else is said. -/
def Obligations.StageCommandsAndApply : Prop :=
  (∀ (s : State) (r : Req) (off : BitVec 24), s.reqOn r = true → off.toNat % 4 = 0 → 0x200000 ≤ off.toNat →
    off.toNat < 0xC00000 → s.there off.toNat = true → isStageCtl off.toNat = true →
    (s.rb off.toNat 31 = false → s.stage.sorted →
      (∀ o, off.toNat ≤ o → o < stageEnd off.toNat → Tab.find o s.snap = none) →
      ∃ u : State, exec (.stageCommit r off) s = .next (s.after u) ∧ u.rb off.toNat 31 = true ∧
        (∀ k, k < 31 → u.rb off.toNat k = s.rb off.toNat k) ∧
        (∀ o, off.toNat < o → o < stageEnd off.toNat → u.snapReg o = s.staged o) ∧
        (∀ o, o < off.toNat ∨ stageEnd off.toNat ≤ o → u.snapReg o = s.snapReg o) ∧
        (∀ o, o ≠ off.toNat → u.reg o = s.reg o) ∧ u.stage = s.stage ∧ u.out = s.out) ∧
    (s.rb off.toNat 31 = true →
      ∃ u : State, exec (.stageCommit r off) s = .next (s.after u) ∧ u.rb off.toNat 30 = true ∧
        (∀ k, k < 32 → k ≠ 30 → u.rb off.toNat k = s.rb off.toNat k) ∧
        (∀ o, o ≠ off.toNat → u.reg o = s.reg o) ∧ u.snap = s.snap ∧ u.stage = s.stage ∧ u.out = s.out) ∧
    (∃ u : State, exec (.stageDiscard r off) s = .next (s.after u) ∧ u.rb off.toNat 31 = false ∧
      (∀ k, k < 31 → u.rb off.toNat k = s.rb off.toNat k) ∧
      (∀ o, off.toNat < o → o < stageEnd off.toNat → u.staged o = s.reg o ∧ u.snapReg o = s.reg o) ∧
      (∀ o, o < off.toNat ∨ stageEnd off.toNat ≤ o → u.staged o = s.staged o ∧ u.snapReg o = s.snapReg o) ∧
      (∀ o, o ≠ off.toNat → u.reg o = s.reg o) ∧ u.out = s.out)) ∧
  (∀ (s : State) (sc : Nat), s.snap.sorted → (s.applyBlock sc).rb sc 31 = false ∧
    (∀ o, sc < o → o < stageEnd sc → (s.applyBlock sc).reg o = s.snapReg o) ∧
    ∀ o, o < sc ∨ stageEnd sc ≤ o → o ≠ sc → (s.applyBlock sc).reg o = s.reg o) ∧
  ∀ (s : State) (p : Plane) (off : BitVec 24) (n : Nat), s.rb off.toNat 31 = true →
    (∀ h : n < 32, off.toNat = R.SL_STAGE_CTL n → badSlCfg n s.snapReg = false →
      exec (.stageCommitApply off) s = .next (s.after (State.slReconf s (s.applyBlock off.toNat) ⟨n, h⟩).drain)) ∧
    (n < 8 → off.toNat = R.CAN_STAGE_CTL n → (s.canEn n = true → (s.canS n).onBus = none ∧ (s.canS n).rx = false) → s.badCanCfg n s.snapReg = false →
      exec (.stageCommitApply off) s = .next (s.after (s.applyBlock off.toNat).drain)) ∧
    (n < 4 → off.toNat = R.PORT_STAGE_CTL p n → fld (s.reg (R.PORT_CFG p n)) 31 27 = fld (s.snapReg (R.PORT_CFG p n)) 31 27 →
      exec (.stageCommitApply off) s = .next (s.after ((s.applyBlock off.toNat).joinRecheck p).drain)) ∧
    (n < 512 → off.toNat = R.Q_STAGE_CTL p n → ((s.pl p).q n).writing = none →
      s.badQueueCfg p n (s.snapReg (R.Q_CFG p n)) (s.snapReg (R.Q_LIMIT p n)) (s.snapReg (R.Q_WM_HI p n))
        (s.snapReg (R.Q_WM_LO p n)) = false →
      let t := s.judgeNow p n
      exec (.stageCommitApply off) s = .next (s.after ((State.levelQ t (t.applyBlock off.toNat) p n).joinRecheck p).drain)) ∧
    (off.toNat = R.REL_STAGE_CTL p →
      exec (.stageCommitApply off) s = .next (s.after (((s.applyBlock off.toNat).readmit p).joinRecheck p).drain)) ∧
    (n < 64 → off.toNat = R.BRG_WIN_STAGE_CTL p n → (s.pl p).winQuiet n = true → s.badWin p n s.snapReg = false →
      exec (.stageCommitApply off) s = .next (s.after ((((s.applyBlock off.toNat).pfDrop p n 5).modPl p fun x => x.winFresh n).joinRecheck p).drain))

/-- Event registers and MSI-X: EV_STATUS bits clear where 1 is written, but an event that hardware raises in that cycle keeps its bit;
masks and routes take the value, and messages of vectors that are or become active are requested; enabling MSI-X requests a message for
every active vector, and unmasking a vector or the function sends what is pending, unmasked and still active. -/
def Obligations.EventRegistersAndMessages : Prop :=
  (∀ (s : State) (r : Req) (i : Fin 8) (n : Byte) (v : Word), s.reqOn r = true →
    exec (.evStatusWrite r i v 0) s =
      .next (s.after ((s.setReg (R.EV_STATUS i.val) (s.reg (R.EV_STATUS i.val) &&& ~~~v)).settle 0 true)) ∧
    (∀ hw : Word, (∀ j, j < 32 → bit hw j = true → s.rb (R.EV_ROUTE (32 * i.val + j)) 29 = false) →
      ∃ u : State, exec (.evStatusWrite r i v hw) s = .next (s.after u) ∧
        u.reg (R.EV_STATUS i.val) = (s.reg (R.EV_STATUS i.val) &&& ~~~v) ||| hw ∧
        ∀ o, o ≠ R.EV_STATUS i.val → u.reg o = s.reg o) ∧
    exec (.evMaskWrite r i v) s = .next (s.after ((s.setReg (R.EV_MASK i.val) v).settle 0 true)) ∧
    exec (.evRouteWrite r n v) s = .next (s.after ((s.setReg (R.EV_ROUTE n.toNat)
      ((s.reg (R.EV_ROUTE n.toNat) &&& ~~~0xE03F0003) ||| (v &&& 0xE03F0003))).settle s.activeVecs false))) ∧
  ∀ (s : State) (v : Fin 64), s.hostOn = true →
    (s.msixEn = false → exec .msixEnable s = .next (s.after (State.requestAll { s with msixEn := true } s.activeVecs))) ∧
    (s.msixEn = true → s.funcMask = false →
      let mask := s.vecMask &&& ~~~(BitVec.ofNat 64 (2 ^ v.val))
      let due := s.pba &&& ~~~mask
      exec (.msixUnmask (some v)) s = .next (s.after
        (State.requestAll { s with vecMask := mask, pba := s.pba &&& ~~~due } (due &&& s.activeVecs)))) ∧
    (s.msixEn = true →
      let due := s.pba &&& ~~~s.vecMask
      exec (.msixUnmask none) s = .next (s.after
        (State.requestAll { s with funcMask := false, pba := s.pba &&& ~~~due } (due &&& s.activeVecs))))

/-- Event sentences: when the holdoff of an event ends with raises uncovered, one sentence covers them, and without any the holdoff
ends; a first copy that the time-lead plane has from its own lane or over the Taper link is a record of the collect log and raises EV15.
That the event sentences of SPLIT leave on both lanes, and when what gathers while no plane is ACTIVE leaves, are the model's readings: logs
161 and 17. -/
def Obligations.EventSentenceCommands : Prop :=
  ∀ (s : State) (p : Plane) (n : Byte) (octets : List Byte),
    (0 < (s.held n.toNat).2.1 → s.anyActive = true → s.devValid = true →
      exec (.eventSentenceHoldoff n) s = .next (s.after (s.sendEvent n.toNat (s.held n.toNat).2.1 (s.held n.toNat).2.2))) ∧
    ((s.held n.toNat).2.1 = 0 →
      exec (.eventSentenceHoldoff n) s = .next (s.after (s.setHeld n.toNat (false, 0, (s.held n.toNat).2.2)))) ∧
    (let t := parseSent octets (octets.drop 32)
     let head := (s.reg R.EV_COLLECT_HEAD).toNat
     let record := toBE 2 t.origin.toNat ++ [0, 0] ++ slice (octets.drop 32) 0 12
     t.stream.toNat = 0xFF0002 → s.rb R.EV_SENT_CTL 31 = true → s.leadHears p = true →
     (s.devValid = false ∨ t.unnum = true ∨ t.origin.toNat ≠ s.devnum) →
     (∀ e, e ∈ s.seen → ¬(e.1 = t.origin ∧ e.2.1 = t.seq ∧ e.2.2 / 4 = 2)) → unread head (s.reg R.EV_COLLECT_TAIL).toNat 7 < 64 →
      exec (.eventSentenceReceive p octets) s = .next (s.after ((([0, 1, 2, 3].foldl
        (fun (u : State) j => u.setReg (R.EV_COLLECT (head % 64) j) (BitVec.ofNat 32 (octs record (4 * j) 4)))
        { s with seen := s.seen ++ [(t.origin, t.seq, 8 + planeNum p)] }).setReg R.EV_COLLECT_HEAD
          (BitVec.ofNat 32 ((head + 1) % 128))).raise 15)))

/-! Time -/

/-- A pending commit of a domain at its raw tick, without the seed of RELEARN: SET takes OFFSET and anchor as written, STEP adds to the
dial time, RATE keeps it; the anchor of the last two is the present raw value, INC_ADJ is the committed one, PENDING clears, and
where the domain is the selected one SET and STEP fold the change into the bridge, so that release time does not step. -/
def Obligations.DomainCommit : Prop :=
  ∀ (s : State) (p : Plane) (d : Fin 2), s.rb (R.TD_STAGE_CTL p d) 31 = true → ((s.pl p).dom.getD d DomS.rest).seed = false →
    let kind := fld (s.snapReg (R.TD_KIND p d)) 1 0
    let raw := (s.pl p).raw.toNat
    ∃ u : State,
      exec (.tdCommitApply p d) s = .next (s.after
        (if (kind = 1 ∨ kind = 2) ∧ s.sel p = d ∧ (s.pl p).cold = false then
          (u.modPl p fun x => { x with bridge := x.bridge - sext 68 (toU 68 ((u.dial p d : Int) - s.dial p d)) }).checkBridge p
        else u)) ∧
      u.rb (R.TD_STAGE_CTL p d) 31 = false ∧ u.reg (R.TD_INC_ADJ p d) = s.snapReg (R.TD_INC_ADJ p d) ∧
      (kind = 2 → u.tdOffset p d = s.snap64 (R.TD_OFFSET_NS_LO p d) * 16 + fld (s.snapReg (R.TD_OFFSET_FRAC p d)) 3 0 ∧
        u.reg64 (R.TD_ANCHOR_LO p d) = s.snap64 (R.TD_ANCHOR_LO p d)) ∧
      (kind = 1 → u.tdOffset p d = toU 68 ((s.dial p d : Int) + sext 32 (s.snapReg (R.TD_STEP p d)).toNat) ∧
        u.reg64 (R.TD_ANCHOR_LO p d) = raw) ∧
      (kind = 0 ∨ kind = 3 → u.tdOffset p d = s.dial p d ∧ u.reg64 (R.TD_ANCHOR_LO p d) = raw) ∧
      (∀ q, (u.pl q).bridge = (s.pl q).bridge) ∧ u.out = s.out ∧
      ∀ off, off < R.TD_STAGE_CTL p d ∨ R.TD_CFG p d ≤ off → u.reg off = s.reg off

/-- Epoch generators: EN set starts a generator at the first boundary after release time, EN cleared ends its boundaries, a pending
commit of a stopped one applies and of a running one keeps the last boundary as its base, and a period outside R120 is refused with
EV127. A boundary moves to the next index; in DUPLEX the planes' parameters are compared at it (R122); at a boundary of EG0 an armed switch
takes place, a jump is made and the automatic decision is taken (R114, R115); at a boundary of the canvas generator the Canvas goes on as
statement CanvasAndKeyframes says. That a commit on a live generator acts as of the boundary just begun is the model's reading (log 116), as
is that a boundary's row does all that its rules give it (logs 13 and 83). -/
def Obligations.EpochGeneratorCommands : Prop :=
  ∀ (s : State) (r : Req) (p : Plane) (g : Fin 4), s.reqOn r = true → s.present p = true →
    let e := (s.pl p).egS g
    let num := s.snapReg (R.EG_NUM p g)
    let den := s.snapReg (R.EG_DEN p g)
    let sc := R.EG_STAGE_CTL p g
    (s.egEn p g = false → s.rb sc 31 = false → g.val < (s.pl p).eg.length →
      ∃ u : State, exec (.egCtlEnSet r p g) s = .next (s.after u) ∧ u.egEn p g = true ∧
        (u.pl p).egS g =
          ⟨true, e.index, epochAfter (s.egBase p g) (s.egOrigin p g) (s.egNum p g) (s.egDen p g) (s.release p)⟩) ∧
    (s.egEn p g = true → g.val < (s.pl p).eg.length →
      ∃ u : State, exec (.egCtlEnClear r p g) s = .next (s.after u) ∧ u.egEn p g = false ∧
        (u.pl p).egS g = ⟨false, e.index, e.next⟩ ∧ (∀ off, off ≠ R.EG_CTL p g → u.reg off = s.reg off) ∧ u.out = s.out) ∧
    (s.rb sc 31 = true → validPeriod num.toNat den.toNat = false → e.live = true →
      exec (.egCommitApply p g) s = .next (s.after (((s.endCommit sc).setRb (R.EG_CTL p g) 29 true).raise 127))) ∧
    (s.rb sc 31 = true → validPeriod num.toNat den.toNat = true → e.live = false → s.egEn p g = false → s.canvasEg p ≠ g →
      exec (.egCommitApply p g) s = .next (s.after ((s.applyBlock sc).mirrorFrom p g))) ∧
    (s.rb sc 31 = true → validPeriod num.toNat den.toNat = true → e.live = true → s.canvasEg p ≠ g →
      exec (.egCommitApply p g) s = .next (s.after (((((((s.setReg64 (R.EG_BASE_NS_LO p g) (s.egTime p g e.index / 16)).setReg64
        (R.EG_ORIGIN_LO p g) e.index).setReg (R.EG_NUM p g) num).setReg (R.EG_DEN p g) den).endCommit sc).unstage
          (R.EG_BASE_NS_LO p g) (R.EG_INDEX_LO p g)).mirrorFrom p g))) ∧
    (s.egEn p g = true → e.live = true → s.img = none → s.rb sc 31 = false →
      let s1 := (s.modEg p g fun e => { e with index := e.next, next := e.next + 1 }).setRb (R.EG_CTL p g) 30 true
      let y := (s1.pl (other p)).egS g
      let same := s1.egNum .a g = s1.egNum .b g ∧ s1.egDen .a g = s1.egDen .b g ∧ s1.egBase .a g = s1.egBase .b g ∧
        s1.egOrigin .a g = s1.egOrigin .b g ∧ s1.egEn .a g = s1.egEn .b g
      let behind := s1.egEn (other p) g = true ∧ (y.live = false ∨ y.next = e.next)
      (s.canvasEg p ≠ g → g.val ≠ 0 → s.mode ≠ 3 ∨ same ∨ behind → exec (.epochBoundary p g) s = .next (s.after s1.drain)) ∧
      (s.canvasEg p ≠ g → g.val ≠ 0 → s.mode = 3 → ¬same → ¬behind → exec (.epochBoundary p g) s = .next (s.after
        (((s1.setRb (R.EG_CTL .a g) 28 true).setRb (R.EG_CTL .b g) 28 true).raise 127).drain)) ∧
      (s.canvasEg p ≠ g → g.val = 0 → s.mode ≠ 3 ∨ same ∨ behind → s.setLead = none → (s.pl p).relearn = none →
        let r := s1.switchNow p
        let s2 := (r.1.jumpNow p).autoSwitch p
        let s3 := match r.2 with | some ok => s2.switchDone ok | none => s2
        ((s3.pl p).relearn = none → exec (.epochBoundary p g) s = .next (s.after s3.drain)) ∧
        ((s.pl p).sw = none → (s.pl p).jump = false → s.rb (R.TB_CTL p) 25 = false → s.rb (R.TB_CTL .a) 25 = false → s.rb (R.TB_CTL .b) 25 = false →
          exec (.epochBoundary p g) s = .next (s.after s1.drain))) ∧
      (s.canvasEg p = g → g.val ≠ 0 → s.mode ≠ 3 ∨ same ∨ behind → s.snf.holdEnds = false → s.rb (R.REL_STAGE_CTL p) 31 = false →
        exec (.epochBoundary p g) s = .next (s.after (((((s.modPl p fun x => { x with noOpen := x.noOpen - 1 }).modEg p g fun e =>
          { e with index := e.next, next := e.next + 1 }).setRb (R.EG_CTL p g) 30 true).canvasBoundary p e.next).drain))))

/-- The Canvas at the boundaries of the canvas generator and at G(k), and the check of keyframes. At E(k - 1) the halves swap, every line of the
half that becomes DRAWING is STALE, LIVE is judged of every stream on its applied state, and a draw instance of epoch k opens for each valid
draw job, with deadline G(k) (R228, R229, R236, R264). G(k) closes the Canvas of epoch k, once, and only where the canvas generator runs and
has had a boundary: log 123. At each boundary of a stream's generator the ages of its fragments' keyframes grow, and each that has become
overdue raises EV134 once (R42). -/
def Obligations.CanvasAndKeyframes : Prop :=
  (∀ (s : State) (p : Plane) (n : Nat), (∀ e, e ∈ (s.pl p).inst → jBuild e.2.desc = true) → (s.pl p).cancel = [] → s.snf.hold = false →
    let u := s.canvasBoundary p n
    let window := s.rf (R.BU_CTL p) 15 0
    (u.pl p).half = (if (s.pl p).started then !(s.pl p).half else false) ∧ (u.pl p).started = true ∧ (u.pl p).closed = false ∧
      (u.pl p).stale = true ∧ (u.pl p).clean = [] ∧
      (u.pl p).applied = (s.pl p).applied.map (fun e =>
        let en := (Tab.get (0 : BitVec 128) e.1 (s.pl p).tabs.streams).toNat
        (e.1, { e.2 with prev := e.2.live, live := baseAll en e.2 &&
          (match e.2.lastEpoch with | none => false | some l => decide (n + 1 ≤ l + window)) &&
          !(s.snf.stopped.any fun st => st.toNat % 2 ^ 18 == e.1 && entryValid en st.toNat) })) ∧
      ((s.pl p).runsJobs = true → s.rf R.AON_PWR_STATUS 31 30 ≠ 1 → s.imgPause = false → (s.pl p).noOpen = 0 → (s.pl p).before = none →
        ∀ j, j ∈ (s.pl p).jobsOf false → ∃ i, (u.pl p).instOf j = some i ∧ i.epoch = n + 1 ∧ i.deadline = s.gK p (n + 1) ∧
          i.desc = (s.pl p).job j ∧ i.half = (u.pl p).half)) ∧
  ∀ (s : State) (p : Plane) (g : Fin 4),
    (s.egEn p (s.canvasEg p) = false ∨ s.rb (R.EG_CTL p (s.canvasEg p)) 30 = false ∨ (s.pl p).closed = true →
      exec (.canvasClose p) s = .next (s.after s)) ∧
    (s.egEn p (s.canvasEg p) = true → s.rb (R.EG_CTL p (s.canvasEg p)) 30 = true → (s.pl p).closed = false →
     let k := ((s.pl p).egS (s.canvasEg p)).next
     ∃ u : State, exec (.canvasClose p) s = .next (s.after (u.modPl p fun x =>
        { x with obs := x.obs.filter fun o => decide (k < o.2) })) ∧
       u = ((((s.closeJobs p false).closeJobs p true).modPl p fun x => { x with closed := true }).setRb (R.REL_STATUS p) 31
        (k % 2 == 1)).openJobs p true k) ∧
    (let entry (t : State) (st : Nat) : Nat := (Tab.get (0 : BitVec 128) st (t.pl p).tabs.streams).toNat
     let late (en : Nat) (d : StreamDyn) : List Nat := ((d.keys.filter fun k => decide (k.1 ≤ nfld en 83 76)).filter fun k =>
        decide (nfld en 105 98 ≤ k.2) && !d.overdue.contains k.1).map Prod.fst
     let aged (en : Nat) (d : StreamDyn) : StreamDyn :=
       { d with keys := d.keys.map fun k => (k.1, min (k.2 + 1) 256), overdue := d.overdue ++ late en d }
     let on (t : State) (st : Nat) : Prop := nfld (entry t st) 127 127 = 1 ∧ eEg (entry t st) = g
     exec (.keyOverdueCheck p g) s = .next (s.after ((s.pl p).sdyn.foldl (fun (t : State) e =>
        if on t e.1 then (t.modPl p fun x => { x with sdyn := Tab.set StreamDyn.none_ e.1 (aged (entry t e.1) e.2) x.sdyn }).each
          (late (entry t e.1) e.2) fun t _ => t.raiseP p 134
        else t) s)) ∧
     ((s.pl p).sdyn.sorted → (∀ e, e ∈ (s.pl p).sdyn → e.1 < 2 ^ 18 ∧ (on s e.1 → late (entry s e.1) e.2 = [])) →
       ∃ u : State, exec (.keyOverdueCheck p g) s = .next (s.after u) ∧
         (∀ st, st < 2 ^ 18 → (on s st → (u.pl p).sd st = aged (entry s st) ((s.pl p).sd st)) ∧ (¬ on s st → (u.pl p).sd st = (s.pl p).sd st)) ∧
         (∀ off, u.reg off = s.reg off) ∧ u.out = s.out))

/-- A servo update with a measured offset moves a domain among FREE, ACQUIRE, LOCKED, LOCKED_PEER and HOLDOVER, counts the updates within 50
ns that LOCKED needs (in LOCKED_PEER only those against the plane's own reference), and shows the offset. Loss of the reference: LOCKED and
ACQUIRE follow a LOCKED peer in DUPLEX, LOCKED enters HOLDOVER otherwise; a servo forgets its timeTransmitter. HOLD_WARN_EXPIRY raises the
domain's event while it is in HOLDOVER, but for a HOLD_WARN of 0; SOURCE = NONE leads to FREE. That a servo measures what its Syncs, edges or
frames brought since its last update is the model's reading (log 135), as is that a domain in ACQUIRE with no peer to follow stays there, and
one in HOLDOVER whose peer locks only later (log 136). -/
def Obligations.DomainStates : Prop :=
  (∀ (s : State) (p : Plane) (d : Fin 2) (offset : Int), s.present p = true → 1 ≤ s.rf (R.TD_CFG p d) 31 28 →
    s.rf (R.TD_CFG p d) 31 28 ≤ 4 → d.val < (s.pl p).dom.length → s.measured p d = some offset →
    let st := s.domState p d
    let own := ((s.pl p).domS d).ref
    let run := if offset.natAbs ≤ 800 then ((s.pl p).domS d).run + 1 else 0
    ∃ u : State, exec (.servoUpdate p d) s = .next (s.after ((State.domEvents s u).autoSwitch p)) ∧
      (st = 0 ∨ st = 4 → u.domState p d = 1) ∧ (st = 1 → u.domState p d = if 16 ≤ run then 2 else 1) ∧
      (st = 2 → u.domState p d = if 16000 < offset.natAbs then 1 else 2) ∧
      (st = 3 → s.peerLocked p d = true → u.domState p d = if own ∧ 16 ≤ run then 2 else 3) ∧
      (st = 3 → s.peerLocked p d = false → u.domState p d = 4) ∧
      (st ≠ 3 → ((u.pl p).domS d).run = run) ∧
      u.rf (R.TD_STATUS p d) 23 0 = toU 24 (clamp (-8388607) 8388607 offset)) ∧
  (∀ (s : State) (p : Plane) (d : Fin 2),
    let y := (s.pl p).domS d
    (s.domState p d = 3 → y.ref = false → s.measured p d = some ((s.dial p d : Int) - s.dial (other p) d)) ∧
    (s.domState p d ≠ 3 ∨ y.ref = true → s.measured p d = if s.rf (R.TD_CFG p d) 31 11 = fld y.cfg 31 11 then y.meas else none) ∧
    (s.present p = true → s.rf (R.TD_CFG p d) 31 28 = 0 → s.measured p d = none → d.val < (s.pl p).dom.length →
      ∃ u : State, exec (.servoUpdate p d) s = .next (s.after (State.domEvents s u).autoAll) ∧ u.domState p d = 0 ∧ ((u.pl p).domS d).run = 0)) ∧
  ∀ (s : State) (p : Plane) (d : Fin 2),
    (let st := s.domState p d
     ∃ u : State, exec (.referenceLost p d) s = .next (s.after (((State.domEvents s u).autoSwitch p).modPl p fun x =>
        { x with masters := modAt d.val (fun _ => none) x.masters })) ∧
      (st = 2 ∨ st = 1 → s.peerLocked p d = true → u.domState p d = 3) ∧ (st = 1 → s.peerLocked p d = false → u.domState p d = 1) ∧
      (st = 2 → s.peerLocked p d = false → u.domState p d = 4) ∧ (st = 0 ∨ st = 4 → u.domState p d = st)) ∧
    (s.present p = true → s.domState p d = 4 → fld ((s.pl p).domS d).cfg 10 0 ≠ 0 →
      exec (.holdWarnExpiry p d) s = .next (s.after (s.raise (120 + d.val)))) ∧
    (fld ((s.pl p).domS d).cfg 10 0 = 0 → exec (.holdWarnExpiry p d) s = .next (s.after s))

/-- Release time: an armed switch at its boundary moves the selection and folds the difference into the bridge, which in DUPLEX follows what
the plane that came to the boundary first has decided for both; the bridge decays by one 1/16 ns towards 0; a time jump clears it, and a
jump forwards skips the instances and the Ethernet releases whose times it passes over. An armed switch whose target leaves LOCKED and
LOCKED_PEER is given up, an open TIME_SWITCH ending NOT_PERMITTED at its boundary; that a target which comes back does not bring it back, that
one plane decides for both in DUPLEX and that EV123 is not raised for the fold of the switch itself are the model's readings: log 134. -/
def Obligations.ReleaseTimeCommands : Prop :=
  ∀ (s : State) (p : Plane),
    let moved (t : State) (w : Switch) : State := (t.modPl p fun x =>
      { x with bridge := x.bridge + ((s.dial p (s.sel p) : Int) - s.dial p w.target) }).setRf (R.TB_CTL p) 31 31 w.target
    let told (t : State) (w : Switch) (b : Bool) : State := t.when (s.mode == 3) fun s => s.modPl (other p) fun x =>
      { x with sw := x.sw.map fun v => if v.target = w.target then { v with go := some b } else v }
    let done (t : State) (w : Switch) (b : Bool) : State :=
      if w.cmd.isSome then t.switchDone b else if w.given.isSome then t.switchDone false else t
    let near := s.bridgeOk (if s.mode = 3 then s.lead else p)
    let index := ((s.pl p).egS 0).index
    (∀ w : Switch, (s.pl p).sw = some w →
      (w.due (s.grid p) index = true → s.sel p ≠ w.target →
        (w.go = none → domGood (s.devDom w.target) = true → near = true →
          exec (.domainSwitch p) s = .next (s.after (done (((moved ((told s w true).disarm p) w).raise 122).record 9 (srcOf p) [1]) w true))) ∧
        (w.go = none → domGood (s.devDom w.target) = false →
          exec (.domainSwitch p) s = .next (s.after (done ((told s w false).disarm p) w false))) ∧
        (w.go = none → domGood (s.devDom w.target) = true → near = false →
          exec (.domainSwitch p) s = .next (s.after (done ((told (s.raise 123) w false).disarm p) w false))) ∧
        (∀ b, w.go = some b → exec (.domainSwitch p) s = .next (s.after
          (done (if b then (moved ((told s w b).disarm p) w).record 9 (srcOf p) [1] else (told s w b).disarm p) w b)))) ∧
      (w.due (s.grid p) index = false → ∀ b, w.given = some b → b ≤ index → exec (.domainSwitch p) s = .next (s.after ((s.modPl p fun x =>
        { x with sw := if w.auto.isSome || w.cmd.isSome then some { w with given := none } else none }).switchDone false))) ∧
      (w.due (s.grid p) index = false → (∀ b, w.given = some b → index < b) → exec (.domainSwitch p) s = .next (s.after s)) ∧
      (w.go = none → w.target ≤ 1 → ((s.loseSwitch w.target).pl p).sw = (if w.given.isSome then w.given else w.cmd).map (fun b =>
        (⟨w.target, none, none, some b, none⟩ : Switch)) ∧ (s.loseSwitch w.target).rb (R.TB_CTL p) 30 = false)) ∧
    (∀ (w : Switch) (grid n : Nat), w.due grid n = true ↔
      (∃ a, w.auto = some a ∧ (n = a ∨ (a < n ∧ n % grid = 0))) ∨ ∃ b, w.cmd = some b ∧ b ≤ n) ∧
    exec (.bridgeDecayStep p) s = .next (s.after (s.modPl p fun x =>
      { x with bridge := if 0 < x.bridge then x.bridge - 1 else if x.bridge < 0 then x.bridge + 1 else 0 })) ∧
    ((s.pl p).jump = true →
      let s1 := s.modPl p fun x => { x with bridge := 0, jump := false }
      let t0 := s.release p
      let t1 := s1.release p
      let s2 := [0, 1, 2, 3].foldl (fun (s : State) g => s.modEg p g fun e => { e with next := max e.next (epochAfter (s.egBase p g)
        (s.egOrigin p g) (s.egNum p g) (s.egDen p g) t1) }) s1
      let s3 := s2.each (s.pl p).descs fun t e => if s.ethBetween p t0 t1 e.2 = 0 then t else
        (((t.modPl p fun x => (x.modDst e.1 fun y => { y with prep := none }).setLast e.1 4).addSat (R.REL_COUNTERS p 7) 31 0
          (s.ethBetween p t0 t1 e.2)).raiseP p 153)
      let s4 := s3.skipInsts p fun i => decide (i.deadline ≤ t1) && decide (t0 < t1)
      let u := (s4.raise 124).record 9 (srcOf p) [2]
      exec (.timeJump p) s = .next (s.after (if s.lead = p then { u with ltStep := true } else u)) ∧
      (t1 ≤ t0 → s4 = s2) ∧
      (t0 < t1 → ∀ j i, (s3.pl p).instOf j = some i → i.deadline ≤ t1 → (s4.pl p).instOf j = none))

/-- Lantern time: the first sample of the lead plane sets it and the mode TRACK; a later one slews it towards the plane's release time, by
no more than 16 units and never beyond, under a frequency within the limit of R126. Loss of the reference is HOLDOVER with EV126, a mirror
steps at its boundary, and the planes' skew is measured in DUPLEX; outside DUPLEX it stands (log 137). The loop's frequency word and step are free
within the rule's bounds: log 11. -/
def Obligations.LanternCommands : Prop :=
  ∀ (s : State) (p : Plane) (g : Fin 4),
    (s.pinOn = true → s.active s.lead = true →
      let x := s.release s.lead
      let err := x - s.lantern
      let s1 := ((s.setReg R.LT_PHASE_ERR (BitVec.ofNat 32 (toU 32 (clamp (-2147483648) 2147483647 err)))).setRf
        R.LT_STATUS 31 30 1).setRf R.LT_STATUS 29 29 (planeNum s.lead)
      (s.rf R.LT_STATUS 31 30 = 0 ∨ s.ltStep = true →
        exec .lanternSample s = .next (s.after (State.lanternSet { s1 with ltPhase := err } x))) ∧
      (s.rf R.LT_STATUS 31 30 ≠ 0 → s.ltStep = false →
        ∃ u : State, exec .lanternSample s = .next (s.after u) ∧ u.reg R.LT_STATUS = s1.reg R.LT_STATUS ∧
          u.reg R.LT_PHASE_ERR = s1.reg R.LT_PHASE_ERR ∧ (sext 32 (u.reg R.LT_FREQ_ADJ).toNat).natAbs ≤ 219902325 ∧
          (err < 0 → u.lt ≤ s.lt ∧ s.lt ≤ u.lt + min 16 err.natAbs * 2 ^ 40) ∧
          (0 ≤ err → s.lt ≤ u.lt ∧ u.lt ≤ s.lt + min 16 err.natAbs * 2 ^ 40) ∧
          (∀ o, o ≠ R.LT_STATUS → o ≠ R.LT_PHASE_ERR → o ≠ R.LT_FREQ_ADJ → u.reg o = s.reg o) ∧ u.out = s.out)) ∧
    (s.pinOn = true → s.rf R.LT_STATUS 31 30 = 1 →
      exec .lanternHoldover s = .next (s.after (((s.setRf R.LT_STATUS 31 30 2).raise 126).record 9 1 [3]))) ∧
    (s.pinOn = true → (s.mirror.getD g ⟨false, 1, 60, 0, 0, 0, 0⟩).en = true →
      exec (.lanternEpochBoundary g) s = .next (s.after
        { s with mirror := modAt g.val (fun m => { m with index := m.next, next := m.next + 1 }) s.mirror })) ∧
    (s.mode = 3 →
      let v := clamp (-2147483647) 2147483647 (s.release p - s.release (other p))
      let far := decide (s.rf R.LT_CTL 15 8 * 16 < v.natAbs)
      let n := (s.pl p).skewRun
      exec (.skewMeasure p) s = .next (s.after (((s.setReg (R.TB_PEER_SKEW p) (BitVec.ofNat 32 (toU 32 v))).modPl p fun x =>
        { x with skewRun := if n < 3 then (if far then n + 1 else 0) else if far then 3 else if 102 ≤ n then 0 else n + 1 }).raiseIf
          (n == 2 && far) 125)))

/-! Feeds, planes, power and service -/

/-- Feeds: crossing the threshold starts the loss count and clears ABOVE, crossing the restore level sets it; a feed declared lost takes
its plane with it, counts, and raises its event, and one declared good raises its event; below the threshold of both feeds all but
the flashes is lost. While the other feed is still being declared good, PIN keeps its power until the end of the cycle (R520; log 156). -/
def Obligations.FeedCommands : Prop :=
  ∀ (s : State) (f : Plane), s.aonOn = true →
    let k := planeNum f
    let low := (s.setFeed f ⟨true, false⟩).setRb R.AON_FEED_STATUS k false
    (s.feedGood f = true ∨ s.feedGood (other f) = true ∨ s.feedAbove (other f) = true →
      exec (.feedBelowThreshold f) s = .next (s.after low)) ∧
    (s.feedGood f = false → s.feedGood (other f) = false → s.feedAbove (other f) = false →
      exec (.feedBelowThreshold f) s = .next (s.after s.aonLost)) ∧
    exec (.feedAboveRestore f) s = .next (s.after ((s.setFeed f ⟨false, !s.feedGood f⟩).setRb R.AON_FEED_STATUS k true)) ∧
    (s.feedGood f = true → (s.feedS f).below = true →
      let s1 := ((s.setRb R.AON_FEED_STATUS (2 + k) false).addSat R.AON_FEED_STATUS (16 + 8 * k + 7) (16 + 8 * k) 1).setFeed f
        ⟨false, false⟩
      let s2 := ((s1.raise k).record 2 0 [BitVec.ofNat 8 k, 0]).planeLost f .off none
      exec (.feedDeclaredLost f) s = .next (s.after
        (if s2.feedGood (other f) = true then s2.refRule.pinRule else if (s2.feedS (other f)).counting = true then s2.refRule
          else if s2.feedAbove (other f) = true then s2.refRule.pinRule else s2.aonLost).drain)) ∧
    (s.feedGood f = false → (s.feedS f).counting = true →
      exec (.feedDeclaredGood f) s = .next (s.after (((((s.setRb R.AON_FEED_STATUS (2 + k) true).setFeed f ⟨false, false⟩).raise
        (2 + k)).record 2 0 [BitVec.ofNat 8 k, 1]).refRule.pinRule.holdRule)))

/-- The Taper link: its loss counts, raises EV112, loses what is on its way and is recorded; its return lets waiting rejoins start, and in
SPLIT makes the plane that does not lead resynchronise; sentences handed over reach the ingress of an ACTIVE plane in their order and with
their arrival times, or are lost to a CRC error, which counts; a digest that differs from the plane's own in DUPLEX raises EV113 and is counted
once an epoch. That CRC errors come with these two rows, and which function the digest is, are the model's choices: log 131. -/
def Obligations.TaperCommands : Prop :=
  ∀ (s : State) (p : Plane) (port : Fin 4) (errs : BitVec 16) (epoch : Nat) (peer : BitVec 64),
    (s.taperUp = true →
      let s0 := s.addSat R.AON_TAPER_CNT 15 0 errs.toNat
      let s1 := (({ s0 with taperUp := false, link := [] }.addSat R.AON_TAPER_CNT 31 24 1).raise 112).record 0x0D 0 [0, 0, 0, 0]
      let s2 := State.modeFrom s0 s1
      (∀ q, (s2.pl q).rejoin = none) → exec (.taperDown errs) s = .next (s.after s2.suspendRule.drain)) ∧
    (s.taperUp = false → s.aonOn = true → (s.active .a && s.active .b) = false →
      exec .taperUp s = .next (s.after (((State.modeFrom s { s with taperUp := true }).suspendRule.tryRejoin .a).tryRejoin .b).drain)) ∧
    (s.taperUp = false → s.aonOn = true → s.active .a = true → s.active .b = true →
      let s1 := { s with taperUp := true }.modPl (other s.lead) fun y => { y with rejoin := some ⟨.waitTaper, 0, 0, 0, true⟩ }
      exec .taperUp s = .next (s.after (((State.modeFrom s s1).suspendRule.tryRejoin .a).tryRejoin .b).drain)) ∧
    (∀ (before rest : List (Plane × Int × Sent)) (arrival : Int) (h : Sent), s.link = before ++ (p, arrival, h) :: rest →
      (∀ e, e ∈ before → e.1 ≠ p) →
      (s.taperUp = true → s.active p = true → exec (.taperSentenceReceive p false) s =
        .next (s.after ({ s with link := before ++ rest }.arrive p 5 arrival h))) ∧
      exec (.taperSentenceReceive p true) s = .next (s.after ({ s with link := before ++ rest }.addSat R.AON_TAPER_CNT 15 0 1))) ∧
    (let own := Config.digest (((s.pl p).rlsd.filter fun e => e.1 == epoch && e.2.1 == port.val).map fun e => e.2.2)
     (s.mode = 3 → own ≠ peer → s.digMm ≠ some epoch → exec (.digestReceive p port epoch peer) s =
       .next (s.after (({ s with digMm := some epoch }.addSat R.AON_TAPER_CNT 23 16 1).raise 113))) ∧
     (s.mode = 3 → own ≠ peer → s.digMm = some epoch → exec (.digestReceive p port epoch peer) s = .next (s.after (s.raise 113))) ∧
     (s.mode ≠ 3 ∨ own = peer → exec (.digestReceive p port epoch peer) s = .next (s.after s)))

/-- Boot and RELEARN: good firmware in the first slot, or after a fallback in the second, lets a plane leave BOOT; the image found loads
into a plane in RELEARN, and RELEARN ends ACTIVE with EV117 when the outputs are ready, or with EV118 at its limit, which counts the boundaries of EG0
and, while EG0 is disabled, every 1/60 s from when counting begins. That whether a signature verifies, and the headers of slots that nothing
has written, come with the row is the model's choice: log 51. -/
def Obligations.BootAndRelearnCommands : Prop :=
  ∀ (s : State) (p : Plane),
    (∀ (v : Word) (k : BitVec 16) (second : SlotCheck), (s.pl p).st = .boot → (s.pl p).fw = none → (s.pl p).dead = false →
      s.mntOf p = none → s.rb (R.AON_BOOT (planeNum p)) 31 = false →
      ∀ first : SlotCheck,
      (s.slotCheck p (s.fwActive p) first = .good v k →
        exec (.bootComplete p first second) s = .next (s.after (((((s.modPl p fun x => { x with fw := some (v, k) }).setReg
          (R.AON_FW_VER (planeNum p)) v).bootShows p (s.fwActive p) 1 false).afterBoot p).drain))) ∧
      ((∀ w l, s.slotCheck p (s.fwActive p) first ≠ .good w l) → s.slotCheck p (1 - s.fwActive p) second = .good v k →
        exec (.bootComplete p first second) s = .next (s.after ((((((s.modPl p fun x => { x with fw := some (v, k) }).setReg
          (R.AON_FW_VER (planeNum p)) v).bootShows p (1 - s.fwActive p) 1 true).raiseP p 156).afterBoot p).drain)))) ∧
    (∀ (slot : Nat) (c : SlotCheck), let h := s.flashOcts p (fwAddr slot) 16
      (h = List.replicate 16 0xFF → s.slotCheck p slot c = c) ∧
      (h ≠ List.replicate 16 0xFF → c ≠ .flashErr →
        (octs h 0 4 ≠ 0x53584657 → s.slotCheck p slot c = .noHeader) ∧
        (octs h 0 4 = 0x53584657 → 7 * 2 ^ 20 - 512 < octs h 12 4 → s.slotCheck p slot c = .badLength) ∧
        (octs h 0 4 = 0x53584657 → octs h 12 4 ≤ 7 * 2 ^ 20 - 512 → octs h 10 1 ≤ 3 → ∀ v k, c = .good v k →
          s.slotCheck p slot c = .good (BitVec.ofNat 32 (octs h 4 4)) (BitVec.ofNat 16 (octs h 8 2))))) ∧
    (∀ (x : RelearnS) (im : List Byte), (s.pl p).relearn = some x → s.findImage p = some im → (s.pl p).st = .relearn →
      x.loaded = false → x.suspended = false → exec (.imageLoadDone p) s = .next (s.after (s.relearnLoad p im).drain)) ∧
    (∀ x : RelearnS, (s.pl p).relearn = some x →
      exec (.relearnMuteExpire p) s = .next (s.after (s.modPl p fun y => { y with relearn := some { x with muted := false } })) ∧
      let r := { x with count := x.count + (if x.loaded && x.counting && !x.suspended && !s.egEn p 0 then
          ((s.pl p).raw.toNat + 2 ^ 64 - x.since) % 2 ^ 64 * 60 / unitsPerSec else 0), since := (s.pl p).raw.toNat }
      exec (.coldStartCountStart p) s = .next (s.after (s.modPl p fun y =>
        { y with relearn := some (if x.cold then { r with counting := true } else r) }))) ∧
    (let on := (s.modPl p fun x => { x with seqs := [], relearn := none }).setPState p .active
     (s.relearnMay p = true → (s.pl p).outputsReady = true →
       exec (.relearnDone p) s = .next (s.after (((on.raise 117).suspendRule).tryRejoin (other p)))) ∧
     (∀ x : RelearnS, (s.pl p).relearn = some x → s.relearnMay p = true →
       s.rf R.AON_PSUP_CTL 15 8 ≤ x.count + (if s.egEn p 0 then 0 else
         ((s.pl p).raw.toNat + 2 ^ 64 - x.since) % 2 ^ 64 * 60 / unitsPerSec) →
       exec (.relearnLimitReached p) s = .next (s.after (((on.raise 118).suspendRule).tryRejoin (other p)))))

/-- A rejoin goes through its phases: alignment, copy passes until the dirty set is small enough or eight were run, the final pass, the
handover with the peer's state, and the first release with EV114; sixteen epochs without a final pass raise EV116, and a rejoin that
the Taper link keeps waiting times out. -/
def Obligations.RejoinCommands : Prop :=
  ∀ (s : State) (p : Plane) (x : RejoinS) (dirty : Nat), (s.pl p).rejoin = some x →
    (x.phase = .sync → exec (.rejoinSyncDone p) s =
      .next (s.after (((s.alignTime p).modRejoin p fun y => { y with phase := .pass }).setPState p .copy))) ∧
    (x.phase = .pass → exec (.rejoinPassDone p dirty) s = .next (s.after (s.modRejoin p fun y =>
      { y with passes := y.passes + 1, dirty := dirty,
               phase := if decide (dirty ≤ s.finalMax p) || decide (8 ≤ x.passes) then .awaitGuard else .pass }))) ∧
    (x.phase = .awaitGuard → s.imgPause = false → s.imgBuf = false → dirty ≤ s.finalMax p → exec (.rejoinFinalPass p dirty) s =
      .next (s.after (s.modRejoin p fun y => { y with phase := .final, dirty := dirty }))) ∧
    (x.phase = .awaitGuard → s.imgPause = false → s.imgBuf = false → s.finalMax p < dirty → exec (.rejoinFinalPass p dirty) s =
      .next (s.after (s.modRejoin p fun y =>
        { y with dirty := dirty, passes := y.passes + 1, tries := if y.tries < 16 then y.tries + 1 else y.tries }))) ∧
    (x.tries = 16 → exec (.rejoinSlow p) s = .next (s.after ((s.modRejoin p fun y => { y with tries := 17 }).raise 116))) ∧
    (x.phase = .final → s.active (other p) = true → x.resync = false →
      let y := copyPlane (s.pl p) (s.pl (other p)) (s.pl p).st (some { x with phase := .firstRelease })
      exec (.rejoinHandover p) s = .next (s.after (((((((s.copyRegs p).alignTime p).each [0, 1, 2, 3] fun t i => t.wrapDown p i).setPl p
        y).setPState p .active).each (s.pl p).finalQ fun t e => t.replay p e.1 e.2.1 e.2.2).rejoinCompletes p).drain)) ∧
    (x.phase = .firstRelease → exec (.rejoinFirstRelease p) s =
      .next (s.after ((s.modPl p fun y => { y with rejoin := none }).raise 114))) ∧
    (∀ (m : MaintOp) (c : Cmd), x.phase = .waitTaper → s.mntOf p = some m → m.op = 1 → m.cmd = some c → s.taperUp = false →
      (s.pl p).st ≠ .boot ∨ (s.pl p).fw.isSome = true → exec (.planeRejoinTimeout p) s =
        .next (s.after ((s.modPl p fun y => { y with rejoin := none }).mntDone m stTimeout [])))

/-- Power and resets: AON comes up with its straps sampled and every bypass pin closed, PIN leaves reset with the Snuffer state kept in
AON, a plane enters BOOT from its reset state and is lost with one of its domains, RESET_N takes PIN and both planes down and samples the
straps again when it rises, PERST# resets the MSI-X table and masks. A hold is released, refused for the only ACTIVE
plane and set for a plane whose peer is ACTIVE, and of both set together while both planes are ACTIVE the lead's is refused, as R79 says; the
bypass pins are forced, as R91 says. That a failed domain leaves its plane OFF (log 115), that a held plane ends its part in open commands as
a lost one does (log 103), that PIN leaves reset by its own row after RESET_N (log 70) and what MSI-X holds after PERST# (log 5) are the
model's readings. -/
def Obligations.PowerUpAndReset : Prop :=
  ∀ (s : State) (r : Req) (p : Plane) (v : Word),
    (s.present p = true → exec (.planeDomainFail p) s = .next (s.after (s.planeLost p .off none).drain)) ∧
    (let kept := (s.when (decide (16 ≤ fld v 15 8)) fun s => s.setRf R.AON_PSUP_CTL 15 8 (fld v 15 8)).setRf R.AON_PSUP_CTL 3 2 (fld v 3 2)
     let free := (kept.setRb R.AON_PSUP_CTL 0 false).setRb R.AON_PSUP_CTL 1 false
     s.reqOn r = true →
     (fld v 1 0 = 0 → s.taperUp = false → (∀ q, (s.pl q).rejoin = none) →
       exec (.planeHoldRelease r v) s = .next (s.after free.drain)) ∧
     (fld v 1 0 = 2 ^ planeNum p → s.rb R.AON_PSUP_CTL (planeNum p) = false → s.active p = true → s.active (other p) = false →
       s.taperUp = false → (∀ q, (s.pl q).rejoin = none) → exec (.planeHoldSet r v) s = .next (s.after free.drain)) ∧
     (fld v 1 0 = 2 ^ planeNum p → s.rb R.AON_PSUP_CTL (planeNum p) = false → s.present p = true → s.active (other p) = true →
       exec (.planeHoldSet r v) s = .next (s.after
         ((((((kept.setRb R.AON_PSUP_CTL 0 (decide (p = .a))).setRb R.AON_PSUP_CTL 1 (decide (p = .b))).planeLost p .held none).holdRule).tryRejoin
           .a).tryRejoin .b).drain)) ∧
     (let held (q : Plane) : Bool := s.rb R.AON_PSUP_CTL (planeNum q)
      let two := bit v 0 && bit v 1 && !held .a && !held .b && s.active .a && s.active .b
      let hold (q : Plane) : Bool := bit v (planeNum q) &&
        !(!held q && ((s.active q && !s.active (other q)) || (two && decide (s.lead = q))))
      let lose (t : State) (q : Plane) : State := if hold q && !held q && t.present q then t.planeLost q .held none else t
      exec (.planeHoldSet r v) s = .next (s.after
        (((((lose (lose ((kept.setRb R.AON_PSUP_CTL 0 (hold .a)).setRb R.AON_PSUP_CTL 1 (hold .b)) .a) .b).holdRule).tryRejoin
          .a).tryRejoin .b).drain))) ∧
     (bit v 0 = true → bit v 1 = true → s.rb R.AON_PSUP_CTL 0 = false → s.rb R.AON_PSUP_CTL 1 = false → s.active .a = true →
      s.active .b = true → let x := other s.lead
      exec (.planeHoldSet r v) s = .next (s.after
        ((((((kept.setRb R.AON_PSUP_CTL 0 (decide (x = .a))).setRb R.AON_PSUP_CTL 1 (decide (x = .b))).planeLost x .held none).holdRule).tryRejoin
          .a).tryRejoin .b).drain)) ∧
     exec (.aonBypCtlWrite r v) s = .next (s.after ((s.setRf R.AON_BYP_CTL 3 0 (fld v 3 0)).bypass))) ∧
    (s.aonOn = false → exec (.aonPowerOn p) s = .next (s.after (((({ s with aonOn := true }.sampleStraps 1).setFeed p ⟨false, true⟩).setRb
      R.AON_FEED_STATUS (planeNum p) true).each [0, 1, 2, 3] fun t k => t.emit (.bypass k .closed)))) ∧
    (s.pinPow = true → s.pinOn = false → s.rstLow = false →
      exec .pinResetRelease s = .next (s.after { s with pinOn := true, snf := s.snfAon }.holdRule)) ∧
    ((s.pl p).st = .off ∨ (s.pl p).st = .held → s.mayPower p = true → s.rb R.AON_PSUP_CTL (planeNum p) = false → s.maint = [] →
      exec (.planeResetRelease p) s =
        .next (s.after ({ s.planeReset p with qsUp := if s.qsUp.contains p then s.qsUp else s.qsUp ++ [p] }.setPState p .boot).drain)) ∧
    (s.aonOn = true → s.rstLow = false → exec .resetNAssert s = .next (s.after { s with rstLow := true }.allDown.drain)) ∧
    (s.rstLow = true → exec .resetNRelease s = .next (s.after ({ s with rstLow := false }.sampleStraps 2))) ∧
    exec .perstAssert s =
      .next (s.after { s with vecMask := BitVec.allOnes 64, msixTab := [], msixEn := false, funcMask := false, pba := 0 })

/-- A ring pair's join check: probes, the local pass that opens the pin, notices, the notice's return that confirms it, failures of both
phases, and the retry. That the port octet of probes and notices is the pair's east port is the model's choice: log 162. -/
def Obligations.JoinCheckCommands : Prop :=
  ∀ (s : State) (p : Plane) (side : Bool),
    let k := pinOf p side
    let j := (s.pl p).joinS side
    s.joinTail side = BitVec.ofNat 8 (if side then 2 else 0) :: 0 :: 0 :: toBE 4 (s.reg R.AON_DEVNUM).toNat ∧
    (s.joinMay p side = true → s.joinSt k = 0 →
      let n := ((s.setJoinSt k 1).modJoin p side fun _ => ⟨1, 0⟩).notice p (3 :: s.joinTail side)
      exec (.loopProbeSend p side) s = .next (s.after (n.2.sendOwn p side.toNat n.1 false))) ∧
    (s.joinSt k = 1 → j.sent = 4 → s.devValid = true →
      exec (.joinLocalPass p side) s = .next (s.after (s.setJoinSt k 2).bypass)) ∧
    (s.joinSt k = 1 → j.sent = 4 → s.devValid = false →
      exec (.joinLocalPass p side) s = .next (s.after ((s.setJoinSt k 3).setRb R.AON_JOIN_STATUS (15 - k) false).bypass)) ∧
    (s.joinSt k = 1 → exec (.joinLocalTimeout p side) s = .next (s.after (s.joinFails p side false))) ∧
    (s.joinSt k = 2 → j.notices < 3 →
      let n := (s.modJoin p side fun y => { y with notices := y.notices + 1 }).notice p (4 :: s.joinTail side)
      exec (.joinNoticeSend p side) s = .next (s.after (n.2.sendOwn p side.toNat n.1 false))) ∧
    (s.joinSt k = 2 → 0 < j.notices → exec (.joinNoticeReturn p side) s =
      .next (s.after ((s.setJoinSt k 3).setRb R.AON_JOIN_STATUS (15 - k) false))) ∧
    (s.joinSt k = 2 → j.notices = 3 → exec (.joinConfirmTimeout p side) s = .next (s.after (s.joinFails p side true))) ∧
    (s.joinSt k = 4 → exec (.joinRetry p side) s =
      .next (s.after ((s.setJoinSt k 0).modJoin p side fun _ => ⟨0, 0⟩)))

/-- Power modes: RUN from IDLE, IDLE at once where no canvas generator runs and at its boundary otherwise, STANDBY with a wake source
enabled and its refusal without one, and the wake sources, which return the device to RUN from STANDBY; a wake receiver samples its characters
by its own registers. That a wake identifier of more than four octets matches nothing (log 148) and that REQ = RUN cancels a request for IDLE
that waits (log 151) are the model's readings. -/
def Obligations.PowerModeCommands : Prop :=
  ∀ (s : State) (r : Req),
    (s.reqOn r = true → s.pwrMode = 1 →
      let s2 := ((s.setRf R.AON_PWR_CTL 31 30 0).setRf R.AON_PWR_STATUS 31 30 0).pwrRecord
      exec (.pwrReqRun r) s = .next (s.after (((s2.each bothPlanes fun t p =>
        t.modPl p fun x => { x with noOpen := if t.canvasLive p then 3 else 0 }).tryRejoin .a).tryRejoin .b))) ∧
    (s.reqOn r = true → s.pinOn = true → (∀ p, s.present p = true → s.canvasLive p = false) →
      exec (.pwrReqIdle r) s = .next (s.after (s.setRf R.AON_PWR_CTL 31 30 1).idleEnter)) ∧
    (s.reqOn r = true → s.pinOn = true → (∃ p, s.present p = true ∧ s.canvasLive p = true) →
      exec (.pwrReqIdle r) s = .next (s.after (s.setRf R.AON_PWR_CTL 31 30 1))) ∧
    (s.rf R.AON_PWR_CTL 31 30 = 1 → s.pwrMode = 0 → exec .idleEnter s =
      .next (s.after (((s.setRf R.AON_PWR_STATUS 31 30 1).pwrRecord).each bothPlanes fun t p => t.skipInsts p fun _ => true))) ∧
    (s.reqOn r = true → s.pwrMode ≠ 2 → s.wakeEnabled = true →
      let s1 := { s.setRf R.AON_PWR_CTL 31 30 2 with snfAon := s.snf }
      exec (.pwrReqStandby r) s = .next (s.after
        { (((s1.setRf R.AON_PWR_STATUS 31 30 2).pwrRecord).frMirror).allDown with pinPow := false }.drain)) ∧
    (s.reqOn r = true → s.pwrMode ≠ 2 → s.wakeEnabled = false →
      exec (.pwrReqStandby r) s = .next (s.after (s.setRb R.AON_PWR_STATUS 29 true).drain)) ∧
    (s.rb R.AON_WAKE_CFG 31 = true → exec .wakeNAssert s = .next (s.after (s.wake 7))) ∧
    (s.rb R.AON_WAKE_CFG 30 = true → s.reg64 R.AON_TICKS_LO % 2 ^ 48 = s.reg64 R.AON_ALARM_LO % 2 ^ 48 →
      exec .alarmMatch s = .next (s.after (s.wake 8))) ∧
    (s.aonOn = true → s.pwrMode = 2 →
      (∀ (n : Fin 4) (heard : SlHeard), s.rb (R.AON_SLWAKE_CFG n) 31 = true → s.slMatch n heard = true →
        exec (.slWakeMatch n heard) s =
          .next (s.after (((s.setRb (R.AON_SLWAKE_HIT n) 31 true).raise (8 + n.val)).wake (1 + n.val)))) ∧
      ∀ (n : Fin 2) (heard : CanHeard), s.rb (R.AON_CANWAKE_CFG n) 31 = true →
        (∀ clocks, heard = .dominant clocks → s.rb (R.AON_CANWAKE_CFG n) 30 = false ∧ s.rf (R.AON_CANWAKE_CFG n) 28 24 ≤ clocks) →
        (∀ desc data, heard = .frame desc data → s.rb (R.AON_CANWAKE_CFG n) 30 = true ∧ frBrs desc = false ∧
          wakeFrame (s.rb (R.AON_CANWAKE_CFG n) 29) (s.reg (R.AON_CANWAKE_ID n)) (s.reg (R.AON_CANWAKE_IDMASK n))
            (s.reg (R.AON_CANWAKE_DATA n)) (s.reg (R.AON_CANWAKE_DMASK n)) desc data = true) →
        exec (.canWakeDetect n heard) s =
          .next (s.after (((s.setRb (R.AON_CANWAKE_HIT n) 31 true).raise (12 + n.val)).wake (5 + n.val)))) ∧
    (∀ (n : Fin 4) (wave : List (Bool × Nat)), s.rb (R.AON_SLWAKE_CFG n) 30 = false →
      (s.slMatch n (.char wave) = true ↔ ∃ c, wakeChar (s.reg (R.AON_SLWAKE_CFG n)) 9 wave = some c ∧ c.bits.testBit 8 = true ∧ c.fe = false ∧
        (c.bits ^^^ s.rf (R.AON_SLWAKE_MATCH n) 8 0) &&& s.rf (R.AON_SLWAKE_MATCH n) 24 16 &&& 0xFF = 0)) ∧
    ∀ (n : Fin 4) (heard : SlHeard), s.slMatch n heard = false → exec (.slWakeMatch n heard) s = .next (s.after s)

/-- The flight recorder, the temperatures, the general-purpose pins, JTAG and the crystal. The recorder's mirror takes each completed group of
256 records that still stands in the ring and is not in the mirror yet, with a record of kind 0 and the next sector sequence in place of its
first. Whether a write of the flash fails is free (log 64); the levels SAMPLE captures of balls that the block does not drive are free, and
JTAG_BYPASS with codes 0 to 2 counts as 0xFF (log 89). -/
def Obligations.ServiceCommands : Prop :=
  ∀ (s : State) (r : Req) (v : Word) (a b pin code : Byte) (cells : List Bool),
    (∀ g, g ∈ s.frGroups ↔ g < s.frDone / 256 ∧ s.frSent ≤ g ∧ s.frDone < 256 * g + 4097) ∧
    (s.anyActive = true → s.frGroups = [] → exec .recorderMirror s = .next (s.after { s with frSent := s.frDone / 256 })) ∧
    (s.anyActive = true → ∀ (g k q : Nat), s.frGroups = [g] →
      (s.mirrorLast s.lead = none ∧ k = 0 ∧ q = 0 ∨ ∃ k0 q0, s.mirrorLast s.lead = some (k0, q0) ∧ k = (k0 + 1) % 256 ∧ q = (q0 + 1) % 2 ^ 32) →
      let recs := (List.range 255).flatMap fun i => toBE 16 (Tab.get (0 : BitVec 128) ((256 * g + i + 1) % 4096) s.fr).toNat
      exec .recorderMirror s = .next (s.after { (s.flashWrite s.lead (0x00F00000 + 4096 * k)
        (s.frRec 0 (srcOf s.lead) (toBE 4 q) ++ recs)).1 with frSent := s.frDone / 256 })) ∧
    (s.anyActive = true → exec .recorderMirror s = .next (s.after s.frMirror) ∧ s.frMirror.frSent = s.frDone / 256) ∧
    (s.reqOn r = true →
      exec (.aonFrFlush r) s = .next (s.after ((s.setRb R.AON_FR_CTL 31 (s.rb R.AON_FR_CTL 31)).frMirror)) ∧
      exec (.aonFrMark r v) s = .next (s.after (s.record 0x0F 0 (toBE 4 v.toNat))) ∧
      exec (.gpioSet r v) s = .next (s.after (s.setReg R.GPIO_OUT (s.reg R.GPIO_OUT ||| v))) ∧
      exec (.gpioClr r v) s = .next (s.after (s.setReg R.GPIO_OUT (s.reg R.GPIO_OUT &&& ~~~v))) ∧
      let now := (if s.present .a then [sext 8 (s.rf R.GID_TEMP 31 24)] else []) ++
        (if s.present .b then [sext 8 (s.rf R.GID_TEMP 23 16)] else [])
      ∃ u : State, exec (.gidTempMaxRead r) s = .next (s.after (u.emit (.read r R.GID_TEMP_MAX (s.reg R.GID_TEMP_MAX)))) ∧
        u.rf R.GID_TEMP_MAX 7 0 = toU 8 (now.foldl max (sext 8 (s.rf R.GID_TEMP 15 8))) ∧
        (∀ o, o ≠ R.GID_TEMP_MAX → u.reg o = s.reg o) ∧ u.out = s.out) ∧
    (s.pinOn = true →
      let seen := (if s.present .a then [a.toInt] else []) ++ (if s.present .b then [b.toInt] else []) ++ [pin.toInt]
      let s1 := s.setReg R.GID_TEMP (BitVec.ofNat 32 (a.toNat * 2 ^ 24 + b.toNat * 2 ^ 16 + pin.toNat * 2 ^ 8))
      exec (.tempSensorUpdate a b pin) s = .next (s.after
        (s1.setRf R.GID_TEMP_MAX 7 0 (toU 8 (seen.foldl max (sext 8 (s.rf R.GID_TEMP_MAX 7 0))))))) ∧
    exec .jtagIdcode s = .next (s.after ({ s with jtagIr := 0x01 }.emit
      (.jtag (BitVec.ofNat 32 (2 * 2 ^ 28 + 0x1024 * 2 ^ 12 + Config.jedec.toNat * 2 + 1))))) ∧
    (cells.length = 702 → exec (.jtagSamplePreload cells) s = .next (s.after { s.scanOut with jtagIr := 0x02, jtagCells := cells })) ∧
    exec .jtagExtest s = .next (s.after { s.scanOut with jtagIr := 0x00 }) ∧
    (∃ cs : List Bool, s.scanOut.out = s.out ++ [.scan cs] ∧ cs.length = 702) ∧
    (0x02 < code → exec (.jtagBypass code) s = .next (s.after { s with jtagIr := code })) ∧
    (s.aonOn = true → exec .crystalStart s = .next (s.after { s with crystal := true }))

/-! Links, rings, PTP -/

/-- Links: a link lost or found writes PORT_STATUS and raises its event; the fault bits follow the faults that are present; a port that wraps shows
it, raises its event, and an east port's waiting sentences go round the wrap, those a drain has passed on before those it still holds; a port
already down wraps when WRAP_EN is set. Unwrapping drains an east port, whose held sentences then follow in order as their class buffers have
room, and lets a west port turn on, until the drain ends. A wrap notice goes east on a ring with a wrapped port, and one received lifts the PTP cut
where it is configured and voids a LINK_CAL that runs on the ring; 3 ms after the last notice the cut is restored; an expired duplicate window
forgets what it recorded, and no other does. What becomes of sentences that wait at a port that goes down (log 26), which rows show the faults
(log 139) and what the 2 MiB of the drain hold count (log 138) are the model's choices; the phase of a link's transmit blocks is free (log 55). -/
def Obligations.LinksAndWraps : Prop :=
  (∀ (s : State) (p : Plane) (port : Fin 4) (faults : BitVec 2),
    let i := port.val
    let shown := s.setRf (R.PORT_STATUS p i) 29 28 faults.toNat
    let wrapping (u : State) : State :=
      let wt := u.takeTx p port
      let hd := wt.2.takeHold p port
      let s5 := (hd.2.setRb (R.PORT_STATUS p i) 26 false).modPort p port fun x => { x with turning := false }
      let s6 := ((s5.setRb (R.PORT_STATUS p i) 30 true).raiseP p 132).voidCal p port
      if u.portMode p i = 1 ∧ u.rb (R.PORT_RING p i) 31 = true ∧ u.wrapped p i = false then
        (if isWest port then s6 else s6.resend p (ringOf port) (wt.1 ++ hd.1)) else s5
    (s.portMode p i ≠ 0 → faults = 0 ∨ s.linkUp p i = false →
      exec (.linkDown p port faults) s = .next (s.after (shown.joinRecheck p))) ∧
    (s.portMode p i ≠ 0 → faults ≠ 0 → s.linkUp p i = true →
      let s1 := ((shown.setRb (R.PORT_STATUS p i) 31 false).setRb (R.PORT_STATUS p i) 27 false).modPort p port fun x => { x with wait := [] }
      exec (.linkDown p port faults) s = .next (s.after ((wrapping ((s1.count (R.PORT_COUNTERS p i 13)).raiseP p (128 + i))).joinRecheck p))) ∧
    (∀ (r : Req) (off : BitVec 24) (v : Word) (row : RegRow), s.reqOn r = true → s.present p = true → off.toNat = R.PORT_RING p i →
      rowOf off.toNat = some row → let u := s.put row off.toNat v 0
      (s.portMode p i = 0 ∨ s.linkUp p i = true ∨ s.wrapped p i = true →
        exec (.hostRegisterWrite r false off 4 v) s = .next (s.after u.drain)) ∧
      (s.portMode p i ≠ 0 → s.linkUp p i = false → s.wrapped p i = false →
        exec (.hostRegisterWrite r false off 4 v) s = .next (s.after (wrapping u).drain))) ∧
    (s.present p = true → s.portMode p i ≠ 0 → s.linkUp p i = false →
      let fec := s.rb (R.PORT_CFG p i) 27 && !(s.portMode p i == 2 && s.rb (R.PORT_CFG p i) 28)
      let up := s.setReg (R.PORT_STATUS p i) (setFld (setFld (s.reg (R.PORT_STATUS p i)) 29 27 fec.toNat) 31 31 1)
      ∃ ctr phase : Nat, phase < s.blockLen p i ∧ exec (.linkUp p port) s = .next (s.after (({ up with freeCtr := ctr }.modPort p port fun x =>
        { x with busy := 0, phase := phase }).raiseP p (128 + i)))) ∧
    (s.wrapped p i = true → s.linkUp p i = true →
      let s1 := (s.setRb (R.PORT_STATUS p i) 30 false).raiseP p 132
      exec (.unwrap p port) s = .next (s.after (if isWest port then s1.modPort p port fun x => { x with turning := true }
        else s1.setRb (R.PORT_STATUS p i) 26 true))) ∧
    (isWest port = true → exec (.drainEnd p port) s = .next (s.after (s.modPort p port fun x => { x with turning := false }))) ∧
    (isWest port = false → s.rb (R.PORT_STATUS p i) 26 = true →
      exec (.drainEnd p port) s = .next (s.after ((s.setRb (R.PORT_STATUS p i) 26 false).feedHold p port (s.pl p).hold.length)))) ∧
  ∀ (s : State) (p : Plane) (port : Fin 4) (origin : BitVec 10) (cls : BitVec 3),
    (let ring (r : Nat) (u : State) : State :=
      let e := (eastPort r).val
      let w := (westPort r).val
      let n := u.notice p (toBE 1 1 ++ toBE 1 (if u.wrapped p e then e else w) ++ toBE 2 0 ++ toBE 4 (u.reg R.AON_DEVNUM).toNat)
      if u.wrapped p e || u.wrapped p w then n.2.sendOwn p r n.1 false else u
     s.active p = true → exec (.wrapNoticeSend p) s = .next (s.after (ring 1 (ring 0 s)))) ∧
    (s.present p = true → s.portMode p port.val = 1 → s.linkUp p port.val = true →
      ∃ u, exec (.wrapNoticeReceive p port) s = .next (s.after u) ∧ (∀ off, u.reg off =
        if (off = R.PORT_STATUS p (2 * ringOf port) ∧ s.rb (R.PORT_PTP_CFG p (2 * ringOf port)) 30 = true) ∨
          (off = R.PORT_STATUS p (2 * ringOf port + 1) ∧ s.rb (R.PORT_PTP_CFG p (2 * ringOf port + 1)) 30 = true)
        then setBit (s.reg off) 25 true else s.reg off) ∧
        (∀ c, (s.pl p).cal = some c → c.side.toNat = ringOf port → (u.pl p).cal = some { c with void := true }) ∧
        u.pl (other p) = s.pl (other p)) ∧
    (s.linkUp p port.val = false → exec (.wrapNoticeReceive p port) s = .next (s.after s)) ∧
    exec (.ptpCutRestore p port) s = .next (s.after (s.setRb (R.PORT_STATUS p port.val) 25 false)) ∧
    (∃ u, exec (.dupWindowExpire p origin cls) s = .next (s.after u) ∧ u.regs = s.regs ∧ u.pl (other p) = s.pl (other p) ∧
      (∀ k, Tab.find k (u.pl p).dup = if k = origin.toNat * 8 + cls.toNat then none else
        Tab.find k (s.pl p).dup))

/-- Native frames: a good, untagged frame of the native type at a ring port of a plane that forwards counts, is passed on as
`State.forward` says, and unless its header is wrong or its stream is a system stream its sentence reaches the ingress with the time
of its arrival; frames on a link that is down count a drop, and each frame that a port discards counts by its reason. A port's next sentence
leaves as one frame, on a RING port a Snuffer sentence only 10 µs after the one before; on a SPUR port one, but for a Snuffer sentence, leaves
only where it ends before the launch that is pending. That the handlers of system streams have rows of their own (log 24), that the arrival stamp
is release time when the row runs (log 35), the order of a SPUR port's frames before a launch (log 144) and the reasons of discarded frames (log
141) are the model's choices. -/
def Obligations.NativeFrames : Prop :=
  ∀ (s : State) (p : Plane) (port : Fin 4) (frame : List Byte),
    let i := port.val
    let body := frame.drop 14
    let h := parseSent body ((body.drop 32).take (octs body 2 2))
    let s1 := s.count (R.PORT_COUNTERS p i 0)
    (s.present p = true → s.portMode p i = 1 → s.linkUp p i = true → 60 ≤ frame.length → frame.length ≤ 8238 →
      octs frame 12 2 ≠ 0x8100 → octs frame 12 2 = s.rf (R.PORT_NATIVE_TYPE p i) 15 0 → octs body 2 2 = body.length - 32 →
      s.prpOn p i = false → s.forwards p = true → isProbe h = false → s.ownSent h = false →
      (isWest port && s.removes (ringOf port) h) = false →
      exec (.nativeSentenceReceive p port true frame) s = .next (s.after
        (let t := s1.forward p port h false
         if headerErr h true then t.ing p 0
         else if h.stream.toNat = 0 ∨ 0xFF0005 ≤ h.stream.toNat then t.ing p 1
         else if strCmd ≤ h.stream.toNat then t
         else t.arrive p i (s.release p) h))) ∧
    (s.present p = true → s.portMode p i ≠ 0 → s.linkUp p i = false → ∀ ok,
      exec (.nativeSentenceReceive p port ok frame) s = .next (s.after (s.count (R.PORT_COUNTERS p i 3)))) ∧
    (∀ t, s.linkUp p i = true → (s.pl p).hold = [] → s.txChoice p port = some t →
      let u := s.modPl p fun x => { x with txq := removeFirst t x.txq }
      exec (.sentenceTransmit p port) s = .next (s.after (((if t.cls = 7 then u.modPort p port fun x => { x with snfAt := some (s.pl p).raw }
        else u).wireSent p port t.sent t.fwd t.stomp).drain))) ∧
    (s.linkUp p i = true → (s.pl p).hold = [] → s.txChoice p port = none → exec (.sentenceTransmit p port) s =
      .next (s.after (if s.portMode p i = 2 then s.sendWaiting p port else s).drain)) ∧
    (s.portMode p i ≠ 2 → s.txChoice p port = nextTx ((s.pl p).txq.filter fun t => t.cls != 7 ||
      (match ((s.pl p).portS i).snfAt with | none => true | some at0 => decide (10 * unitsPerUs ≤ ((s.pl p).raw - at0).toNat))) port) ∧
    (∀ t, s.portMode p i = 2 → s.txChoice p port = some t → t ∈ (s.pl p).txq ∧ t.port = port ∧
      (t.cls = 7 ∨ s.fits p i (s.frameOcts p i (s.sentFrame p i t.sent t.fwd t.stomp)).length = true)) ∧
    (∀ why : Fin 7, s.present p = true → s.portMode p i ≠ 0 → s.linkUp p i = true → exec (.discardedFrameReceive p port why) s =
      .next (s.after (match why with
        | 0 => s.count (R.PORT_COUNTERS p i 1)
        | 1 => s1.count (R.PORT_COUNTERS p i 2)
        | 5 => (s.count (R.PORT_COUNTERS p i 1)).count (R.PORT_COUNTERS p i 2)
        | 6 => if s.rb (R.PORT_STATUS p i) 27 then s.count (R.PORT_COUNTERS p i 15) else s
        | 2 => s1.count (R.PORT_COUNTERS p i 3)
        | _ => if s.portMode p i = 1 then s1.count (R.PORT_COUNTERS p i 3) else s1))) ∧
    (∀ why : Fin 7, s.present p = true → s.portMode p i ≠ 0 → s.linkUp p i = false → exec (.discardedFrameReceive p port why) s =
      .next (s.after (if why.val ≠ 6 then s.count (R.PORT_COUNTERS p i 3)
        else if s.rb (R.PORT_STATUS p i) 27 then s.count (R.PORT_COUNTERS p i 15) else s)))

/-- PTP: Pdelay requests of a P2P port are answered, an answer to this port's request gives the mean link delay, clamped into 32 bits; end to
end messages at a P2P port are dropped and counted (the counter is the model's choice: log 140); a Sync of the timeTransmitter gives the servo the
domain's offset; Delay_Req and Pdelay_Req are sent with the next sequence number and, whenever they leave the port, the dial time then; three
silent intervals make the delay unknown and raise an event. That messages are laid out as IEEE 1588 has them (log 28), the servo's equations (log
135), the domain and interval of a Pdelay_Req (log 39), where sequence numbers start (log 40) and which way fractions are cut (log 38) are the
model's choices. -/
def Obligations.PtpCommands : Prop :=
  ∀ (s : State) (p : Plane) (port : Fin 4) (frame : List Byte) (stamps : List Nat) (o : Nat) (udp : Bool) (d : Fin 2) (c : Master),
    let i := port.val
    let m := frame.drop o
    let typ := octs m 0 1 % 16
    let s1 := (s.count (R.PORT_COUNTERS p i 0)).count (R.PORT_COUNTERS p i 8)
    (ptpAt frame = some (o, udp) → s.present p = true → s.portMode p i ≠ 0 → s.linkUp p i = true → s.ptpOpen p i = true →
      s.forwards p = true → s.p2p p i = true → s.prpOn p i = false → (s.portMode p i = 1 → octs frame 12 2 ≠ 0x8100) → 60 ≤ frame.length →
      frame.length + 4 ≤ s.maxFrame p port →
      (typ = 2 → exec (.ptpMessageReceive p port true frame stamps) s = .next (s.after (s1.pdelayResp p port m (stamps.getD i 0)))) ∧
      (typ = 3 → slice m 44 10 = s.portId p i → octs m 30 2 = (((s.pl p).port.getD i PortS.rest).pdSeq).toNat →
        octs m 6 1 / 2 % 2 = 0 →
        exec (.ptpMessageReceive p port true frame stamps) s = .next (s.after (s1.setReg (R.PORT_LINK_DELAY p i) (BitVec.ofNat 32
          (min 0xFFFFFFFE (max 0 (Int.fdiv ((stamps.getD i 0 * 4096 : Nat) - sext 64 (octs m 8 8)) 2))).toNat)))) ∧
      (typ = 1 ∨ typ = 9 → exec (.ptpMessageReceive p port true frame stamps) s = .next (s.after (s1.count (R.PORT_COUNTERS p i 3)))) ∧
      (typ = 0 → octs m 6 1 / 2 % 2 = 0 → (s.pl p).ptpDone (ptpKey m) = true → d.val < (s.pl p).dom.length → d.val < (s.pl p).masters.length →
        s.followers p (octs m 4 1) = [d.val] → (s.pl p).masters.getD d.val none = some c → c.identity = slice m 20 10 →
        BitVec.ofNat 16 (octs m 30 2) ∉ c.syncs → s.reg (R.PORT_LINK_DELAY p i) ≠ 0xFFFFFFFF →
        ∃ u : State, exec (.ptpMessageReceive p port true frame stamps) s = .next (s.after u) ∧ ((u.pl p).domS d.val).ref = true ∧
          ((u.pl p).domS d.val).meas = some (s.dial p d.val - tsOf m - Int.fdiv (sext 64 (octs m 8 8) + s.sreg (R.PORT_ASYM p i)) 4096 -
            (s.reg (R.PORT_LINK_DELAY p i)).toNat / 4096))) ∧
    (∀ (f : WireFrame) (dd at0 : Nat) (req : Bool), f.orig = some (dd, at0, req) → at0 + 44 ≤ f.body.length →
      let g := s.stampOrig p i f
      let dial := s.dialAt p dd (s.egressRaw p i)
      slice g.1.body (at0 + 34) 10 = ts80 dial ∧ octs g.1.body (at0 + 8) 8 = dial % 16 * 4096 ∧ g.1.body.length = f.body.length ∧
        s.wireNow p port f = g.2.wireNow p port { g.1 with orig := none }) ∧
    (let cfg := ((s.pl p).domS d.val).cfg
     (s.pl p).masters.getD d.val none = some c → c.syncs ≠ [] → s.forwards p = true → fld cfg 31 28 = 1 →
      s.ptpOpen p c.port.val = true → s.p2p p c.port.val = false →
      ∃ msg : List Byte, exec (.delayReqSend p d) s =
          .next (s.after ((s.modDom p d.val fun y => { y with drSeq := y.drSeq + 1 }).ptpSend p c.port false msg (some (d.val, true)))) ∧
        msg.length = 44 ∧ octs msg 0 1 = 1 ∧ octs msg 4 1 = fld cfg 27 20 ∧ octs msg 30 2 = (((s.pl p).domS d.val).drSeq).toNat) ∧
    (s.forwards p = true → s.ptpOpen p i = true → s.p2p p i = true →
      ∃ (s2 : State) (e : Fin 2) (msg : List Byte), exec (.pdelayReqSend p port) s = .next (s.after ((s2.modPort p port fun x =>
          { x with pdSeq := ((s.pl p).port.getD i PortS.rest).pdSeq + 1 }).ptpSend p port true msg (some (e.val, false)))) ∧
        s2 = { s with freeCtr := s2.freeCtr } ∧ msg.length = 54 ∧ octs msg 0 1 = 2 ∧ octs msg 4 1 = s.rf (R.TD_CFG p e.val) 27 20 ∧
        octs msg 30 2 = (((s.pl p).port.getD i PortS.rest).pdSeq + 1).toNat) ∧
    (s.present p = true → s.portMode p i ≠ 0 → s.p2p p i = true → exec (.peerDelayLost p port) s =
      .next (s.after ((s.setReg (R.PORT_LINK_DELAY p i) 0xFFFFFFFF).raiseP p 133)))

/-- LINK_CAL and PRP supervision: probes go out eastward and then westward; a probe of another device is passed on with the time it
took added, one of this device's own ends its round; without a device number none leaves; the run completes when every probe was sent. Supervision frames carry the next
number, and received ones count; a SPUR port without PRP accepts one too, and a RING port drops it. That probes have a row of their own (log 25), what
of a notice is free (log 27), the rounding of LINK_CAL (log 38), the layout of a supervision frame (log 28) and that its trailer's LanId is not
looked at (log 153) are the model's choices. -/
def Obligations.CalibrationAndPrp : Prop :=
  ∀ (s : State) (p : Plane) (port : Fin 4) (bs : List Byte) (residence : Nat) (c : CalS),
    let i := port.val
    let h := parseSent bs (bs.drop 32)
    let s1 := s.count (R.PORT_COUNTERS p i 0)
    let acc := sext 64 (octs h.payload 8 8)
    let on := h.payload.take 8 ++ toBE 8 (toU 64 (acc + (residence * 4096 : Nat) + s.sreg (R.PORT_ASYM p i)))
    ((s.pl p).cal = some c → c.sent < c.probes →
      let n := s.notice p (2 :: List.replicate 15 0)
      let sent := n.2.modPl p fun x => { x with cal := some { c with sent := c.sent + 1 } }
      exec (.linkCalProbeSend p) s = .next (s.after (if s.devValid then sent.sendOwn p c.side.toNat n.1 (!c.east) else sent))) ∧
    ((s.pl p).cal = some c → c.east = true → c.sent = c.probes → 0 < c.probes →
      let n := s.notice p (2 :: List.replicate 15 0)
      let sent := n.2.modPl p fun x => { x with cal := some { c with east := false, sent := 1 } }
      exec (.linkCalProbeSend p) s = .next (s.after (if s.devValid then sent.sendOwn p c.side.toNat n.1 true else sent))) ∧
    (s.present p = true → s.portMode p i = 1 → isProbe h = true → s.linkUp p i = true →
      (s.ownSent h = false → s.forwards p = true → exec (.linkCalProbeReceive p port bs residence) s =
        .next (s.after (s1.forward p port { h with payload := on } false))) ∧
      (s.ownSent h = true → (s.pl p).cal = some c → c.side.toNat = ringOf port →
        ∃ u : State, exec (.linkCalProbeReceive p port bs residence) s = .next (s.after u) ∧ (u.pl p).cal = some
          (if isWest port then { c with sumE := c.sumE + ((residence * 4096 : Nat) - acc), nE := c.nE + 1, members := h.hops.toNat + 1 }
           else { c with sumW := c.sumW + ((residence * 4096 : Nat) - acc), nW := c.nW + 1 }))) ∧
    (∀ (m : MaintOp) (d : Cmd), s.mntRun 4 = some m → m.cmd = some d → (s.pl p).cal = some c → c.east = false →
      c.probes ≤ c.sent →
      let st := if (calResult c).1 then stDone else stTimeout
      let s2 := (s.modPl p fun x => { x with cal := none }).part d p st (calResult c).2
      exec (.linkCalComplete p) s = .next (s.after (if (s2.pl (other p)).cal.isSome then s2 else s2.mntDone m st []))) ∧
    (s.active p = true → s.prpOn p i = true → s.linkUp p i = true → s.rb (R.PORT_PRP p i) 31 = true →
      let sa := s.addr48 (R.PORT_MAC_LO p i)
      exec (.prpSupervisionSend p port) s = .next (s.after ((s.modPort p port fun x => { x with supSeq := x.supSeq + 1 }).wire p port
        0x01154E000100 sa 0x88FB (toBE 2 1 ++ toBE 2 (((s.pl p).port.getD i PortS.rest).supSeq).toNat ++ [20, 6] ++ toBE 6 sa ++ [0, 0])
        false false))) ∧
    (s.present p = true → s.linkUp p i = true → s.portMode p i ≠ 0 →
      let s1 := s.count (R.PORT_COUNTERS p i 0)
      exec (.prpSupervisionReceive p port) s = .next (s.after (if s.portMode p i = 1 then s1.count (R.PORT_COUNTERS p i 3)
        else if s.prpOn p i then s1.count (R.PORT_COUNTERS p i 12) else s1))) ∧
    (s.present p = true → s.linkUp p i = false → s.portMode p i ≠ 0 → exec (.prpSupervisionReceive p port) s =
      .next (s.after (s.count (R.PORT_COUNTERS p i 3))))

/-! Ingress, queues, jobs -/

/-- Ingress: a parsed foreign input is matched, or counts why it was refused, at its release time: for an input of the Lantern ring that is its
Lantern stamp moved by the latest phase error (log 135), and the input leaves the ring's buffer; one that back-pressure holds or that does not
wait stays or is nothing; a frame of a spur port meets the port's own checks first. The allocator takes the first candidate through pairing, the
sACN sequence, termination, the synchronisation hold and the rest (R186); pairing keys expire oldest first; a synchronised group without packets
becomes UNSYNCED, drops and counts every sentence it held, and raises EV136. That a candidate stamped as its group's last synchronisation
packet is not held (log 121), that in DUPLEX the allocator's state is the lead's and shows in both planes (log 32), and that the layouts of
foreign frames are those of the public standards (log 28) are the model's readings. -/
def Obligations.IngressCommands : Prop :=
  ∀ (s : State) (p : Plane) (arrival : Nat) (f : Foreign),
    (∀ (stamp : Int) (t : State), s.ingressOn p = true → s.foreignHeld p f = false →
      ((∃ i, s.parse p (stamp + s.ltPhase) f = .error i ∧ t = s.ing p i) ∨
        ∃ x, s.parse p (stamp + s.ltPhase) f = .ok x ∧ s.inputHeld p x = false ∧ t = s.matched p (stamp + s.ltPhase) 4 x) →
      (∀ e : LanIn, ((∃ i up n, f = .capture i up n) ∨ ∃ i rate hms ub n, f = .ltc i rate hms ub n) →
        s.lanIn.find? (fun e => decide (e.input = f) && (if p = .a then e.toA else e.toB)) = some e → e.stamp = stamp →
        exec (.foreignInput p arrival f) s = .next (s.after (t.lanTaken p fun d => decide (d = e)))) ∧
      (∀ (n : Fin 32) (k : Nat), ((∃ bad os q, f = .serPkt n bad os q) ∨ ∃ bad chk os q, f = .serTel n bad chk os q) →
        (s.slInputs p n).find? (fun e => decide (e.2 = f)) = some (k, f) → s.slStamp n k = stamp →
        exec (.foreignInput p arrival f) s = .next (s.after (t.slTaken p n k))) ∧
      (∀ (n : Fin 8) (rtr : Bool) (desc data : List Byte) (q : Word), f = .can n rtr desc data q →
        ((s.canInputs p n).find? fun e => decide (e.2 = f)).isSome = true → s.canStamp n q = stamp →
        exec (.foreignInput p arrival f) s = .next (s.after (t.modCan n.val fun x => x.taken p fun r => r.inseq == q)))) ∧
    (s.foreignHeld p f = true → (∀ port frame, f ≠ .eth port frame) → exec (.foreignInput p arrival f) s = .next (s.after s)) ∧
    (∀ (port : Fin 4) (frame : List Byte), f = .eth port frame →
      let i := port.val
      let r := s.spurFrame p port frame
      (r.1 = false ∨ s.ingressOn p = false → exec (.foreignInput p arrival f) s = .next (s.after r.2)) ∧
      (r.1 = true → s.ingressOn p = true →
        (∀ k, r.2.parse p arrival f = .error k → exec (.foreignInput p arrival f) s = .next (s.after (r.2.ing p k))) ∧
        ∀ x, r.2.parse p arrival f = .ok x → x.lantern = none →
          exec (.foreignInput p arrival f) s = .next (s.after (r.2.matched p arrival i x))) ∧
      (s.present p = true → s.portMode p i = 2 → s.linkUp p i = true → ptpAt frame = none → 60 ≤ frame.length → frame.length ≤ 9212 →
        s.prpOn p i = false → octs frame 12 2 ∉ [0x8100, 0x8808, 0x88FB, s.rf (R.PORT_NATIVE_TYPE p i) 15 0] →
        r = (true, s.count (R.PORT_COUNTERS p i 0)))) ∧
    (∀ (c : Cand) (rest : List Cand), (s.pl p).cands = c :: rest →
      let q := s.allocPlane p
      let st := c.stream.toNat
      let s0 := s.modPl p fun x => { x with cands := rest }
      let answers (t : State) : Prop := exec (.allocateCandidate p) s = .next (s.after (t.mirrorAlloc q st))
      let paired := ∃ k, c.pairKey = some k ∧ k ∈ (s.pl q).pairs
      let s1 := match c.pairKey with | some k => s0.modPl q fun x => { x with pairs := x.pairs ++ [k] } | none => s0
      (paired → answers (s0.lose q 15 st)) ∧
      (¬ paired → c.sacn = none → answers (s1.finish q c c.arrival)) ∧
      (∀ a, ¬ paired → c.sacn = some a →
        let old := ∃ l, ((s1.pl q).sd st).lastSeq = some l ∧ let d := sext 8 ((a.seq.toNat + 256 - l.toNat) % 256); -19 ≤ d ∧ d ≤ 0
        let s2 := s1.modPl q fun x => x.modSd st fun d => { d with lastSeq := some a.seq, terminated := a.terminated }
        let g := nfld c.entry.toNat 42 35
        let y := (s2.pl q).grp g
        let hold := g ≠ 0 ∧ a.syncAddr ≠ 0 ∧ (y.st ≠ 2 ∨ a.force = true) ∧ y.stamp ≠ some c.arrival
        (old → answers (s1.lose q 19 st)) ∧
        (¬ old → a.terminated = true → answers (s2.raiseP q 135)) ∧
        (¬ old → a.terminated = false → hold →
          answers ((if ((s2.pl q).sd st).held.isSome then s2.lose q 20 st else s2).modPl q fun x => x.modSd st fun d => { d with held := some c })) ∧
        (¬ old → a.terminated = false → ¬ hold → answers (s2.finish q c c.arrival)))) ∧
    exec (.pairKeyExpire p) s = .next (s.after (s.modPl p fun x => { x with pairs := x.pairs.drop 1 })) ∧
    (∀ g : BitVec 8,
      (((s.pl p).grp g.toNat).st = 1 → exec (.syncGroupTimeout p g) s = .next (s.after (((s.pl p).heldIn g.toNat fun _ => true).foldl
        (fun (t : State) c => (t.lose p 20 c.stream.toNat).modPl p fun x => x.modSd c.stream.toNat fun d => { d with held := none })
        ((s.modPl p fun x => { x with
          sync := Tab.set ⟨0, none, 0, none⟩ g.toNat { (s.pl p).grp g.toNat with st := 2 } x.sync }).raiseP p 136)))) ∧
      (((s.pl p).grp g.toNat).st ≠ 1 → exec (.syncGroupTimeout p g) s = .next (s.after s)) ∧
      ∀ c, c ∈ (s.pl p).heldIn g.toNat (fun _ => true) ↔ (∃ e, e ∈ (s.pl p).sdyn ∧ e.2.held = some c) ∧ nfld c.entry.toNat 42 35 = g.toNat)

/-- Queues: a sentence that fits in its limit and its cells is being written with the next QSEQ, one that does not fit is dropped with
its marker, one for a queue that is not enabled counts; a completed record stands last, and a control core that consumes the queue is told; a
read takes one word, which goes out with its tag to a control core, and the item with its last word; a flush leaves only the record being read; EN and
FLUSH act as written. Levels are judged at the end of the cycle: one that stands as at its start crosses nothing, and one that has come to the high
watermark crosses it. That occupancy counts complete items (log 14), where what the dispatcher has read waits (log 16), and what ends a cycle (log
156) are the model's choices. -/
def Obligations.QueueCommands : Prop :=
  ∀ (s : State) (r : Req) (p : Plane) (q : Fin 512) (w : Rec) (rest : List (Int × Rec)),
    let x := (s.pl p).q q.val
    (∀ c : Int, x.writing = none → x.ready = (c, w) :: rest → s.flushPend p q.val = false → s.rb (R.Q_STAGE_CTL p q.val) 31 = false →
      let s1 := s.modQ p q.val fun y => { y with ready := rest }
      let y := (s1.pl p).q q.val
      exec (.sentenceAdmit p q) s = .next (s.after (
        if s1.qEn p q.val = false ∨ s1.rf R.AON_PWR_STATUS 31 30 = 1 then s1.count (R.Q_DROP_DIS p q.val)
        else if w.words + y.occ + 1 ≤ s1.rf (R.Q_LIMIT p q.val) 18 0 ∧ y.cellsFor (y.occ + w.words + 1) ≤
            (s1.qMin p q.val - s1.qHeld p q.val) + s1.sharedFree p + s1.qHeld p q.val then
          State.storeLevel s1 (((s1.modQ p q.val fun z => { z with writing := some { w with qseq := z.qseq }, qseq := z.qseq + 1 }).modPl
            p fun z => z.entered w.sent.stream.toNat).count (R.Q_ADMIT p q.val)) p
        else State.afterQ s1 (s1.dropNewest p q.val w) p q.val))) ∧
    (x.writing = some w → x.doomed = false → s.flushPend p q.val = false →
      let w1 := { w with seenIn := (s.pl p).openFor w }
      let s0 := s.modQ p q.val fun y => { y with writing := some w1 }
      let s1 := s0.modQ p q.val fun y => { y with writing := none, items := y.items ++ [.record w1] }
      let t := State.afterQ s0 s1 p q.val
      let told := if t.rf (R.Q_CFG p q.val) 31 30 = 1 then t.emit (.notice p q.val false) else t
      exec (.recordComplete p q) s = .next (s.after (if s.qDispatcher p q.val then told.observe p w1 else told))) ∧
    (∀ (rc : Rec) (more : List QItem) (fixed : Fin 9), x.items = .record rc :: more → s.flushPend p q.val = false →
      let last := decide (rc.words ≤ x.readPos + 1)
      let n := rc.sent.payload.length
      let tag := (x.readPos == 0).toNat * 2 ^ 13 + last.toNat * 2 ^ 12 + if last && n != 0 then (n - 1) % 64 + 1 else 64
      let s1 := s.addSat (R.STORE_ECC_CORR p) 31 0 fixed.val
      let s2 := if s1.rf (R.Q_CFG p q.val) 31 30 = 1 then
          s1.emit (.word p q.val (BitVec.ofNat 16 tag) (slice (QItem.record rc).octets (64 * x.readPos) 64)) else s1
      (last = false → exec (.consumerWordRead p q false fixed) s = .next (s.after (State.afterQ s
        (s2.modQ p q.val fun y => { y with items := .record rc :: more, readPos := x.readPos + 1, head := (y.head + 1) % 4 }) p q.val))) ∧
      (last = true → exec (.consumerWordRead p q false fixed) s = .next (s.after (State.afterQ s
        ((s2.modQ p q.val fun y => { y with items := more, readPos := 0, head := (y.head + 1) % 4 }.settle).itemRead p q.val (.record rc))
        p q.val)))) ∧
    (s.flushPend p q.val = true → x.writing = none → exec (.flushApply p q) s = .next (s.after (State.afterQ s
      (((s.modQ p q.val fun y => y.keepRead.settle).setRb (R.Q_STATUS p q.val) 31 false).addSat (R.Q_FLUSHED p q.val) 31 0 x.unbegun)
      p q.val))) ∧
    (s.reqOn r = true → s.present p = true →
      (s.qEn p q.val = false → exec (.queueEnable r p q) s =
        .next (s.after ((s.setRb (R.Q_CTL p q.val) 31 true).backPressure p q.val))) ∧
      (s.qEn p q.val = true → exec (.queueDisable r p q) s = .next (s.after (State.storeLevel s
        (((s.setRb (R.Q_CTL p q.val) 31 false).modQ p q.val fun y =>
          { y.keepRead with doomed := y.doomed || y.writing.isSome }.settle).addSat (R.Q_FLUSHED p q.val) 31 0 x.unbegun) p))) ∧
      (s.qEn p q.val = true → exec (.qCtlFlush r p q) s =
        .next (s.after ((s.setRb (R.Q_STATUS p q.val) 31 true).flushNow p q.val)))) ∧
    (∀ old : Bool × Bool, x.occ ≤ (s.reg (R.Q_PEAK p q.val)).toNat →
      (s.hiLive p q.val = old.1 → s.loLive p q.val = old.2 → s.judgeQ p q.val old = s) ∧
      (s.hiLive p q.val = true → old.1 = false → s.loLive p q.val = false → s.judgeQ p q.val old = s.crossed p q.val 31))

/-- Writing a selector latches the snapshot of the entry it names, and changes no other register: the counters and words of a rule, a
stream, a release descriptor and a map, the state of a stream, of its applications, of a job and of a descriptor. A log's tail moves to where it
is written unless that would pass the head. A read of the Canvas aperture answers four octets of the half it names, the lowest in the lowest
bits. That RATE_COUNT shows 255 for more is the model's choice: log 166. -/
def Obligations.SelectorsLogTailsAperture : Prop :=
  (∀ (s : State) (r : Req) (p : Plane) (v : Word), s.reqOn r = true → s.present p = true →
    let words (u : State) (off n : Nat) (w : Nat) : Prop := ∀ i, i < n → u.reg (off + 4 * i) = BitVec.ofNat 32 (w / 2 ^ (32 * (n - 1 - i)))
    let others (u : State) (offs : List Nat) : Prop := ∀ off, off ∉ offs → u.reg off = s.reg off
    let data (off n : Nat) : List Nat := (List.range n).map fun i => off + 4 * i
    let k := fld v 11 0
    (∃ u, exec (.ingRuleSelWrite r p v) s = .next (s.after u) ∧ u.reg (R.ING_RULE_SEL p) = BitVec.ofNat 32 (fld v 13 0) ∧
      u.reg (R.ING_RULE_HITS p) = Tab.get 0 (fld v 13 0) (s.pl p).hits ∧
      words u (R.ING_RULE_DATA p 0) 8 (Tab.get (0 : BitVec 256) (fld v 13 0) (s.pl p).rules).toNat ∧
      u.pl p = { s.pl p with ruleSnap := some (fld v 13 0, Tab.get 0 (fld v 13 0) (s.pl p).hits) } ∧
      others u ([R.ING_RULE_SEL p, R.ING_RULE_HITS p] ++ data (R.ING_RULE_DATA p 0) 8)) ∧
    (let e := (s.pl p).streamEntry (fld v 17 0)
     let d := (s.pl p).sd (fld v 17 0)
     ∃ u, exec (.ingStreamSelWrite r p v) s = .next (s.after u) ∧ u.reg (R.ING_STREAM_SEL p) = BitVec.ofNat 32 (fld v 17 0) ∧
      u.reg (R.ING_STREAM_ACC p) = d.acc ∧ u.reg (R.ING_STREAM_DROP p) = d.drop ∧ words u (R.ING_STREAM_DATA p 0) 4 e ∧
      u.reg (R.ING_STREAM_STATE p) = pack [(nfld e 127 127, 31), (d.terminated.toNat, 30), ((!d.overdue.isEmpty).toNat, 29),
        (d.held.isSome.toNat, 28), ((d.lastSeq.getD 0).toNat, 20), (min 255 (d.rateCount (s.rateEpoch p e (s.release p))), 12)] ∧
      u.pl p = s.pl p ∧ others u ([R.ING_STREAM_SEL p, R.ING_STREAM_STATE p, R.ING_STREAM_ACC p, R.ING_STREAM_DROP p] ++
        data (R.ING_STREAM_DATA p 0) 4)) ∧
    (let e := (s.pl p).streamEntry (fld v 17 0)
     let y := (s.pl p).ap (fld v 17 0)
     ∃ u, exec (.buApplySelWrite r p v) s = .next (s.after u) ∧ u.reg (R.BU_APPLY_SEL p) = BitVec.ofNat 32 (fld v 17 0) ∧
      u.reg64 (R.BU_APPLY_EPOCH_LO p) = y.lastEpoch.getD 0 % 2 ^ 64 ∧ u.rb (R.BU_APPLY_STATE p) 31 = (nfld e 127 127 == 1 && y.live) ∧
      u.rb (R.BU_APPLY_STATE p) 30 = (nfld e 127 127 == 1 && y.prev) ∧ u.rb (R.BU_APPLY_STATE p) 29 = (nfld e 127 127 == 1 && baseAll e y) ∧
      u.pl p = s.pl p ∧ others u ([R.BU_APPLY_SEL p, R.BU_APPLY_STATE p] ++ data (R.BU_APPLY_EPOCH_LO p) 2 ++ data (R.BU_APPLY_ARRIVAL_LO p) 2 ++
        data (R.BU_APPLY_PT_LO p) 2)) ∧
    (∃ u, exec (.dspJobSelWrite r p v) s = .next (s.after u) ∧ u.reg (R.DSP_JOB_SEL p) = BitVec.ofNat 32 k ∧
      fld (u.reg (R.DSP_JOB_STATE p)) 31 28 = (s.pl p).jobState k ∧ u.rb (R.DSP_JOB_STATE p) 27 = jValid ((s.pl p).job k) ∧
      u.rb (R.DSP_JOB_STATE p) 26 = jBuild ((s.pl p).job k) ∧
      words u (R.DSP_JOB_REC p 0) 4 (beNat (slice (Tab.get [] k (s.pl p).recs) 0 16)) ∧ u.pl p = s.pl p ∧
      others u ([R.DSP_JOB_SEL p, R.DSP_JOB_STATE p, R.DSP_JOB_COST p, R.DSP_JOB_SLACK p] ++ data (R.DSP_JOB_REC p 0) 4)) ∧
    (∃ u, exec (.relDescSelWrite r p v) s = .next (s.after u) ∧ u.reg (R.REL_DESC_SEL p) = BitVec.ofNat 32 k ∧
      words u (R.REL_DESC_DATA p 0) 8 ((s.pl p).desc k).toNat ∧ u.reg64 (R.REL_DESC_LAUNCH_LO p) = ((s.pl p).dst k).launch / 16 % 2 ^ 64 ∧
      u.rb (R.REL_DESC_STATE p) 31 = rdValid ((s.pl p).desc k) ∧ fld (u.reg (R.REL_DESC_STATE p)) 27 24 = ((s.pl p).dst k).last % 16 ∧
      u.pl p = s.pl p ∧ others u ([R.REL_DESC_SEL p, R.REL_DESC_STATE p] ++ data (R.REL_DESC_LAUNCH_LO p) 2 ++ data (R.REL_DESC_DATA p 0) 8)) ∧
    (∃ u, exec (.brgMapSelWrite r p v) s = .next (s.after u) ∧ u.reg (R.BRG_MAP_SEL p) = BitVec.ofNat 32 (fld v 13 0) ∧
      words u (R.BRG_MAP_DATA p 0) 4 (Tab.get (0 : BitVec 128) (fld v 13 0) (s.pl p).maps).toNat ∧ u.pl p = s.pl p ∧
      others u ([R.BRG_MAP_SEL p] ++ data (R.BRG_MAP_DATA p 0) 4))) ∧
  ∀ (s : State) (r : Req) (off : BitVec 24) (v : Word), s.reqOn r = true →
    (∀ head bits, logOf off.toNat = some (head, bits) → s.there off.toNat = true →
      let h := (s.reg head).toNat % 2 ^ bits
      let t := (s.reg off.toNat).toNat % 2 ^ bits
      let n := v.toNat % 2 ^ bits
      exec (.logTailWrite r off v) s = .next (s.after
        (if unread n t bits ≤ unread h t bits then s.setReg off.toNat (BitVec.ofNat 32 n) else s))) ∧
    (0xC00000 ≤ off.toNat → off.toNat < 0xE00000 → off.toNat % 4 = 0 →
      let c := s.reg R.GID_CV_APER
      let p : Plane := if bit c 31 then .b else .a
      let half := if fld c 30 29 = 0 then false else if fld c 30 29 = 1 then true else if fld c 30 29 = 2 then (s.pl p).half
        else !(s.pl p).half
      let a := fld c 1 0 * 2 ^ 21 + (off.toNat - 0xC00000)
      let o (i : Nat) : Nat := ((s.pl p).cvRead half (a + i)).toNat
      s.present p = true → exec (.canvasApertureRead r off 4) s =
        .next (s.after (s.emit (.read r off.toNat (BitVec.ofNat 32 (o 0 + 2 ^ 8 * o 1 + 2 ^ 16 * o 2 + 2 ^ 24 * o 3))))))

/-- The moves, within their window and with whole sources: what was uncorrectable in what they read counts and reads as 0, then the engine
writes what its move's function gives, counts its saturated fields and its fields, adds its cost to its instance, and steps to its next
entry. A move whose entry, profile or merge list was uncorrectable, or that has no input, costs one cycle and does nothing else. The model's
choices and readings: such a move costs one cycle, and the errors of the Burin memories come as operands (log 142); a move costs exactly the
bound of R257 (log 20); a sentence whose entry was rewritten while it waited and pieces that the window discards (logs 167, 168). -/
def Obligations.MoveCommands : Prop :=
  (∀ (s : State) (p : Plane) (e : Fin 16) (g0 : EngS) (i : Inst) (ecc : MoveEcc), (s.pl p).engs.getD e.val none = some g0 →
    (s.pl p).instOf g0.job = some i → g0.left ≠ 0 → s.windowOver p i = false → i.ending = none → s.egEn p (s.canvasEg p) = true →
    let g := g0.mark ecc
    let m := g.move
    let n := mvN m
    let s1 := s.moveEcc p ecc
    let x := s1.pl p
    let step (t : State) (cost : Nat) (bad : Bool) : State := t.modPl p fun x =>
      { x.modInst g.job (fun i => { i with cycles := i.cycles + cost, ending := none, ecc := i.ecc || bad }) with
        used := x.used + cost
        engs := modAt e.val (fun _ => some { g with entry := g.entry + 1, left := g.left - 1 }) x.engs }
    let fin (t : State) (cost late fields : Nat) : State :=
      let t1 := t.when (!jBuild i.desc && decide (0 < late)) fun t => (t.addSat (R.BU_COUNTERS p 0) 31 0 late).raiseP p 142
      let t2 := if fields = 0 then t1 else t1.setReg64 (R.BU_FIELDS_LO p) (t1.reg64 (R.BU_FIELDS_LO p) + fields)
      step t2 cost false
    let sat (t : State) (k : Nat) : State := t.addSat (R.BU_COUNTERS p 2) 31 0 k
    (∀ k c, (k, c) ∈ [(0, Instr.moveNop p e ecc), (1, .moveApply p e ecc), (2, .moveField p e ecc), (3, .moveMerge p e ecc),
        (4, .moveConst p e ecc), (5, .moveCopy p e ecc)] → mvOp m = k →
      (g.ruined ecc = true ∨ emptyInput i m = true) → exec c s = .next (s.after (step s1 1 (g.ruined ecc)))) ∧
    (g.ruined ecc = false → emptyInput i m = false → shortSource i m = false →
      (mvOp m = 0 → exec (.moveNop p e ecc) s = .next (s.after (fin s1 1 0 0))) ∧
      (mvOp m = 1 →
        let r := s1.moveApply p g.tabs i m (2 ^ 32)
        exec (.moveApply p e ecc) s = .next (s.after (fin r.1 r.2.1 r.2.2 0))) ∧
      (mvOp m = 2 →
        let r := moveField x g.tabs i m n (2 ^ 32)
        exec (.moveField p e ecc) s = .next (s.after (fin (sat (s1.setPl p r.1) r.2.1) (moveCost g.tabs m) r.2.2 n))) ∧
      (mvOp m = 3 →
        let r := moveMerge x g.tabs i m n (2 ^ 32)
        exec (.moveMerge p e ecc) s = .next (s.after (fin (sat (s1.setPl p r.1) r.2.1) (moveCost g.tabs m) r.2.2 n))) ∧
      (mvOp m = 4 →
        let r := moveConst x g.tabs i m n (2 ^ 32)
        exec (.moveConst p e ecc) s = .next (s.after (fin (sat (s1.setPl p r.1) r.2.1) (moveCost g.tabs m) r.2.2 n))) ∧
      (mvOp m = 5 →
        let r := moveCopy x i m n (2 ^ 32)
        exec (.moveCopy p e ecc) s = .next (s.after (fin (s1.setPl p r.1) (moveCost g.tabs m) r.2 0))))) ∧
  ∀ (s : State) (p : Plane) (ecc : MoveEcc),
    (∀ h o, Tab.get 0 o (((s.moveEcc p ecc).pl p).cv h) = if (h, o / 8) ∈ ecc.canvas then 0 else Tab.get 0 o ((s.pl p).cv h)) ∧
    (s.moveEcc p ecc).rf (R.BU_COUNTERS p 6) 31 0 = min (s.rf (R.BU_COUNTERS p 6) 31 0 + ecc.fixed) 0xFFFFFFFF ∧
    (s.moveEcc p ecc).rf (R.BU_COUNTERS p 7) 31 0 = min (s.rf (R.BU_COUNTERS p 7) 31 0 + eccBad ecc) 0xFFFFFFFF ∧
    (0 < eccBad ecc → (s.moveEcc p ecc).rb (R.EV_STATUS ((143 + 64 * planeNum p) / 32)) ((143 + 64 * planeNum p) % 32) = true)

/-- Jobs: a timeout lets a waiting instance become ready, a free engine takes the instance that `nextReady` names, a finished run ends with
its outcome (R278: CANCELLED, STOPPED, OVERRUN, FALLBACK, PARTIAL or DONE), a window that closes ends an instance that does not run MISSED,
lets a running draw end STOPPED and ends a build whose run is over; a cancellation ends an instance that does not run CANCELLED, stops a running
one, and waits where none is open. The carry's end makes every STALE line its own: nothing that is read changes, but that an uncorrectable word
reads as 0 and counts. The model's readings: while the canvas generator is disabled nothing of this but a timeout and a cancellation moves (log
143); the dispatcher reads what is left of its items at intake, and to which instance an untimed record belongs (logs 16, 21); errors of the
Burin memories come as operands (log 142). -/
def Obligations.JobCommands : Prop :=
  ∀ (s : State) (r : Req) (p : Plane) (e : Fin 16) (j : BitVec 12) (i : Inst) (v : Word) (ecc : StoreEcc),
    let runs := s.egEn p (s.canvasEg p)
    ((s.pl p).instOf j.toNat = some i →
      (i.st = .wait → exec (.jobTimeout p j) s = .next (s.after (s.modPl p fun x =>
        (x.modInst j.toNat fun i => { i with timedOut := true }).wakeInst j.toNat))) ∧
      (runs = true → i.st ≠ .run → exec (.jobWindowClose p j) s = .next (s.after (s.finishInst p j.toNat 4 false))) ∧
      (runs = true → i.st = .run → jBuild i.desc = false → exec (.jobWindowClose p j) s =
        .next (s.after (s.modPl p fun x => x.modInst j.toNat fun i => { i with ending := some (i.ending.getD 6) }))) ∧
      (runs = true → i.st = .run → jBuild i.desc = true → (∀ k g, (s.pl p).engOf j.toNat = some (k, g) → g.left = 0) →
        exec (.jobWindowClose p j) s = .next (s.after (s.finishInst p j.toNat (i.ending.getD 6) false))) ∧
      (runs = false → exec (.jobWindowClose p j) s = .next (s.after s)) ∧
      (s.reqOn r = true → s.present p = true → fld v 11 0 = j.toNat →
        (i.st ≠ .run → exec (.dspCancelWrite r p v) s = .next (s.after (s.finishInst p j.toNat 3 false))) ∧
        (i.st = .run → exec (.dspCancelWrite r p v) s =
          .next (s.after (s.modPl p fun x => x.modInst j.toNat fun i => { i with ending := some 3 }))))) ∧
    (s.reqOn r = true → s.present p = true → (s.pl p).instOf (fld v 11 0) = none → (s.pl p).cancel.contains (fld v 11 0) = false →
      exec (.dspCancelWrite r p v) s = .next (s.after (s.modPl p fun x => { x with cancel := x.cancel ++ [fld v 11 0] }))) ∧
    (∀ k, runs = true → (s.pl p).engs.getD e.val none = none → (s.pl p).nextReady = some k → (s.pl p).instOf k = some i →
      e.val < (s.pl p).engs.length →
      let t := s.startJob p e.val k ecc
      exec (.jobDispatch p e ecc) s = .next (s.after t) ∧
        ∃ (i1 : Inst) (g : EngS), (t.pl p).instOf k = some i1 ∧ i1.st = .run ∧ (t.pl p).engs.getD e.val none = some g ∧ g.job = k ∧
          (i1.fallback = false → g.entry = jFirst i1.desc ∧ g.left = jCount i1.desc) ∧
          (i1.fallback = true → g.entry = jFbFirst i1.desc ∧ g.left = jFbCount i1.desc)) ∧
    (runs = false → exec (.jobDispatch p e ecc) s = .next (s.after s) ∧ exec (.jobComplete p e) s = .next (s.after (
      match (s.pl p).engs.getD e.val none with
      | some g => if (s.pl p).instOf g.job = none then s.modPl p fun x => { x with engs := modAt e.val (fun _ => none) x.engs } else s
      | none => s))) ∧
    (∀ g, runs = true → (s.pl p).engs.getD e.val none = some g → (s.pl p).instOf g.job = some i → g.left = 0 ∨ i.ending ≠ none →
      exec (.jobComplete p e) s = .next (s.after (s.finishInst p g.job
        (match i.ending with
         | some o => o
         | none => if jBuild i.desc = true ∧ i.deadline < s.release p then 5 else if i.fallback then 2 else if i.slotMiss = 0 then 0
           else 1) false))) ∧
    (∀ (fixed : Nat) (bad : List Nat), s.present p = true →
      let ws := bad.eraseDups.filter fun w => (s.pl p).isStale (s.pl p).half (w / 8)
      exec (.carryComplete p fixed bad) s = .next (s.after ((s.modPl p fun x => x.carryRest ws).buEcc p fixed ws.length)) ∧
      (((s.pl p).cv (!(s.pl p).half)).sorted → ∀ o, ((s.pl p).carryRest ws).cvRead (s.pl p).half o = if o / 8 ∈ ws then 0 else (s.pl p).cvRead (s.pl p).half o) ∧
      ∀ o, ((s.pl p).carryRest ws).cvRead (!(s.pl p).half) o = (s.pl p).cvRead (!(s.pl p).half) o)

/-! Release, pulses, captures, LTC -/

/-- Copies of a pin release: the one at the head of its plane's copy path that arrives waits for its decision point, one that stops
partway counts, and one that arrives too late counts and raises EV19; the decision point takes the lead's copy, reports one that
differs from it, and falls back to the other plane's; without any it holds, or enters the safe state and raises EV18. In IDLE a release by a
job has no copy (R481); that a decision taken before IDLE stands is the model's choice: log 155, and so is the order of the rows (log 146). -/
def Obligations.CopiesAndDecisions : Prop :=
  ∀ (s : State) (p : Plane) (n : Fin 58) (oseq : Word) (e : PathC) (rest : List PathC) (obj : Byte) (d : List Byte),
    s.pinOn = true →
    (s.present p = true → (s.pl p).path = e :: rest → e.out = n.val → e.copy.oseq = oseq → e.copy.obj = obj → e.copy.data = some d →
      let s1 := s.modPl p fun x => { x with path := rest }
      (∃ u, exec (.pinCopyReceive p n oseq obj (.frame d)) s = .next (s.after u) ∧
        if (s.outS n.val).past oseq || s1.decidedBy n.val oseq then u = (s1.count R.LDH_LATE_CNT).raise 19
        else u = s1.modOut n.val fun o => { o with copies := o.copies ++ [e.copy] }) ∧
      exec (.pinCopyReceive p n oseq obj .partialCopy) s = .next (s.after (s1.count R.LDH_PARTIAL_CNT))) ∧
    ((s.outS n.val).past oseq = false →
      let o := s.outS n.val
      let k := oseq.toNat / 4096
      let cs := if s.rf R.AON_PWR_STATUS 31 30 = 1 ∧ ∀ e ∈ o.cmds, e.1 ≠ oseq then [] else o.copies.filter fun c => c.oseq == oseq
      let mine := cs.find? fun c => c.plane == s.lead
      let theirs := cs.find? fun c => c.plane != s.lead
      let done (t : State) (ch : Choice) (miss holding safe : Bool) : State := t.modOut n.val fun y => { y with
        copies := o.copies.filter fun c => c.oseq != oseq, chosen := y.chosen ++ [(oseq, ch, cs.length)], missed := (o.tally k).1,
        epoch := some k, miss := miss, holding := holding, safe := safe }
      (∀ a b, mine = some a → theirs = some b → a.obj = b.obj → a.data = b.data →
        exec (.decisionPoint n oseq) s = .next (s.after (done s (s.snuffCopy n.val a) (o.tally k).2 false false))) ∧
      (∀ a b, mine = some a → theirs = some b → a.obj ≠ b.obj ∨ a.data ≠ b.data →
        exec (.decisionPoint n oseq) s = .next (s.after (done (((s.count R.LDH_MISMATCH_CNT).setRb
          (if n.val < 32 then R.LDH_DIV_LO else R.LDH_DIV_HI) (n.val % 32) true).raise 16) (s.snuffCopy n.val a) (o.tally k).2 false false))) ∧
      (∀ a, mine = some a → theirs = none →
        exec (.decisionPoint n oseq) s = .next (s.after (done s (s.snuffCopy n.val a) (o.tally k).2 false false))) ∧
      (∀ b, mine = none → theirs = some b → s.active s.lead = true → s.active (other s.lead) = true →
        exec (.decisionPoint n oseq) s =
          .next (s.after (done (s.count R.LDH_FALLBACK_CNT) (s.snuffCopy n.val b) (o.tally k).2 false false))) ∧
      (mine = none → theirs = none → s.snuffed n.val = false → o.safe = false → s.rb (R.LDH_OUT_CFG n.val) 2 = true →
        (o.tally k).1 < s.rf R.LDH_CTL 15 8 →
        exec (.decisionPoint n oseq) s = .next (s.after (done (s.raiseIf (!o.holding) 17) .hold true true false))) ∧
      (mine = none → theirs = none → s.snuffed n.val = false → o.safe = false → s.rb (R.LDH_OUT_CFG n.val) 2 = false →
        exec (.decisionPoint n oseq) s =
          .next (s.after (done (s.enterSafe n.val) (s.safeChoice n.val) true false true))))

/-- At its time a decided release is the output's last one, and acts: a copy is kept and sent, a skip sends nothing, a hold sends again
what the output last released under the same index. The edges of a pulse programme show the level its output is set up for and follow
the programme; the earliest waiting pulse command takes the next release index of its epoch and joins the copy paths. The model's choices and
readings: a pulse command completes at the release of its copy (log 58), which holds its programme with the epoch's phase (log 97); a periodic
programme's RUNNING (log 53); an LTC output in hold goes on from the address last sent (log 61). -/
def Obligations.PinReleases : Prop :=
  ∀ (s : State) (n : Fin 58) (oseq : Word) (i : Fin 16),
    (∀ (obj : Byte) (d : List Byte) (k : Nat), s.pinOn = true → n.val < 40 →
      let s1 := s.modOut n.val fun o => { o with last := some oseq, chosen := o.chosen.filter fun e => e.1 != oseq }
      (((s.outS n.val).chosen.find? fun e => e.1 == oseq) = some (oseq, .send obj d, k) →
        ∃ u, exec (.pinRelease n oseq) s = .next (s.after u.drain) ∧
          u = ((s1.keep n.val oseq obj d).drive n.val obj d true).pulseReplies n.val oseq false) ∧
      (((s.outS n.val).chosen.find? fun e => e.1 == oseq) = some (oseq, .skip, k) →
        exec (.pinRelease n oseq) s = .next (s.after (s1.pulseReplies n.val oseq false).drain)) ∧
      (((s.outS n.val).chosen.find? fun e => e.1 == oseq) = some (oseq, .hold, k) →
        Tab.find (oseq.toNat % 4096) (s.outS n.val).content = some (obj, d) →
        exec (.pinRelease n oseq) s = .next (s.after ((s1.drive n.val obj d false).pulseReplies n.val oseq false).drain))) ∧
    (∀ g : Prog, (s.po.getD i.val ⟨none, none⟩).prog = some g → g.period = 0 → g.m = 0 → (s.po.getD i.val ⟨none, none⟩).trail = none →
      s.pulseOver i.val g.t0 = false →
      exec (.pulseEdge i true) s = .next (s.after ((s.emit (.pulse i.val (!s.rb (R.PO_CFG i.val) 31))).modPo i.val fun _ =>
        { prog := some { g with m := 1 }, trail := some (g.t0 + g.width * 32) }))) ∧
    (∀ e : Int, (s.po.getD i.val ⟨none, none⟩).trail = some e → (s.po.getD i.val ⟨none, none⟩).prog = none →
      exec (.pulseEdge i false) s = .next (s.after ((s.emit (.pulse i.val (s.rb (R.PO_CFG i.val) 31))).modPo i.val fun _ =>
        ⟨none, none⟩))) ∧
    (∀ c : PulseCmd, s.nextPulse i.val = some c →
      let g := s.canvasEg s.lead
      let k := (epochOf (s.egBase s.lead g) (s.egOrigin s.lead g) (s.egNum s.lead g) (s.egDen s.lead g) c.at_).getD (s.egOrigin s.lead g)
      let had := Tab.get (0, 0) i.val s.pulseIx
      let idx := if had.1 = k then had.2 else 0
      let oseq := oseqOf k idx
      let give (u : State) (p : Plane) : State := if (s.pl p).pulses.contains c then
          (u.modPl p fun x => { x with
            pulses := x.pulses.filter (· != c),
            path := enterPath ⟨Int.fdiv (u.release p) 16, 4096, 40 + i.val, ⟨p, oseq, 0, some c.data⟩⟩ x.path }).count (R.REL_COUNTERS p 4)
        else u
      exec (.pulseTurn i) s = .next (s.after ((give (give { s with pulseIx := Tab.set (0, 0) i.val (k, idx + 1) s.pulseIx } .a) .b).modOut
        (40 + i.val) fun o => { o with cmds := o.cmds ++ [(oseq, c.at_, c.cmd, c.late)] })))

/-- Ethernet launches: a release whose buffer is ready is prepared with its buffer and descriptor, one whose buffer is not ready, or that
comes up in IDLE (R481), is dropped, counts and raises EV151; one that the Snuffer holds is dropped and raises EV151 without counting as missed;
one that has come up before and comes again after a jump back is not repeated (R312). A prepared RAW release leaves its spur port as its frame,
counts, and its launch stamp is the instant its frame starts, at the port's next block from the launch time on, late where another frame was
still leaving; a NATIVE one of a ring port enters the port's Show queue; one whose plane or link is gone, or whose launch falls in IDLE, is lost,
counts and raises EV151. The model's choices: of which epoch a release is prepared (log 54), and where a port's blocks begin (log 55). -/
def Obligations.EthernetLaunch : Prop :=
  ∀ (s : State) (p : Plane) (d : BitVec 12) (k : Nat) (rd : BitVec 256) (buf : List Byte),
    let idle := s.rf R.AON_PWR_STATUS 31 30 = 1
    let came := s.modPl p fun x => x.modDst d.toNat fun y => { y with done := some k }
    let lost := came.modPl p fun x => (x.modDst d.toNat fun y => { y with prep := none }).setLast d.toNat 4
    (s.present p = true → s.egEn p (s.canvasEg p) = true → s.active p = true → rdFormat rd = 0 →
      (∀ ok l, s.launchOf p d.toNat = some (k, rd, ok) → ((s.pl p).dst d.toNat).done = some l → k ≤ l →
        exec (.ethLaunchPrepare p d) s = .next (s.after s)) ∧
      ((∀ l, ((s.pl p).dst d.toNat).done = some l → l < k) →
        (∀ ok, s.launchOf p d.toNat = some (k, rd, ok) → ok = false ∨ idle ∨ s.linkUp p (rdTarget rd) = false ∨ s.portMode p (rdTarget rd) ≠ 2 →
          exec (.ethLaunchPrepare p d) s = .next (s.after ((lost.count (R.REL_COUNTERS p 2)).raiseP p 151))) ∧
        (s.launchOf p d.toNat = some (k, rd, true) → s.imgPause = false → s.linkUp p (rdTarget rd) = true →
          s.portMode p (rdTarget rd) = 2 → ¬ idle →
          (s.snf.pSafe.getLsbD (rdTarget rd) = true → exec (.ethLaunchPrepare p d) s = .next (s.after (lost.raiseP p 151))) ∧
          (s.snf.pSafe.getLsbD (rdTarget rd) = false → s.snf.pBlack.getLsbD (rdTarget rd) = false →
            exec (.ethLaunchPrepare p d) s = .next (s.after (came.modPl p fun x => x.modDst d.toNat fun y =>
              { y with prep := some (k, (s.pl p).buffer k rd, rd) })))))) ∧
    (((s.pl p).dst d.toNat).prep = some (k, buf, rd) →
      let port : Fin 4 := Fin.ofNat 4 (rdTarget rd)
      let s1 := s.modPl p fun x => x.modDst d.toNat fun y => { y with prep := none }
      (s.active p = false ∨ s.linkUp p port.val = false ∨ idle →
        exec (.ethLaunch p d) s = .next (s.after (((s1.modPl p fun x => x.setLast d.toNat 4).count (R.REL_COUNTERS p 2)).raiseP p 151))) ∧
      (s.active p = true → s.linkUp p port.val = true → ¬ idle → rdFormat rd = 0 → s.portMode p port.val = 2 →
        let t := s.eK p k + rdOfs rd * 16
        let due : Int := (((s.pl p).raw.toNat : Int) + (t - s.release p)) * 25
        let free := ((s.pl p).portS port.val).busy
        let start := s.blockAt p port.val (max due.toNat free)
        let s2 := ((s1.modPl p fun x => x.noteRelease k port.val buf).modPort p port fun x => { x with busy := max due.toNat free }).wireNow
          p port ⟨octs buf 0 6, octs buf 6 6, octs buf 12 2, buf.drop 14, false, false, none⟩
        let stamp (u : State) : State := u.modPl p fun x => x.modDst d.toNat fun y =>
          { y with launch := (t + Int.fdiv (start - due) 25).toNat }
        ((free : Int) ≤ due → exec (.ethLaunch p d) s = .next (s.after (stamp ((s2.modPl p fun x => x.setLast d.toNat 1).count
          (R.REL_COUNTERS p 1))))) ∧
        (due < (free : Int) → exec (.ethLaunch p d) s = .next (s.after (stamp ((((s2.modPl p fun x => x.setLast d.toNat 5).count
          (R.REL_COUNTERS p 1)).count (R.REL_COUNTERS p 3)).raiseP p 151))))) ∧
      (s.active p = true → s.linkUp p port.val = true → ¬ idle → rdFormat rd = 1 → s.portMode p port.val = 1 →
        let h := s.nativeRelease p k buf rd (match ((s.pl p).dst d.toNat).seq with | some (_, q) => q | none => 0)
        let r := (s1.modPl p fun x => x.noteRelease k port.val h.octets).enqueueAs p port 0 h false false
        exec (.ethLaunch p d) s = .next (s.after (((r.1.raiseIf r.2 (evOf p 154)).modPl p fun x => x.setLast d.toNat 1).count
          (R.REL_COUNTERS p 1)))))

/-- Inputs: an edge that its input captures gives its time, at the next tick of the Lantern clock less the input's delay (a value of the
device, log 146), and its count, raises its event, and waits for the planes where its input is set to go to ingress; an LTC frame gives
rate and address and, without lock, raises its event, which the loss of lock raises too. Each is a measurement of the servos whose source it
is, at their domain's own dial time: an edge against the nearest boundary of the source's generator, where it is nearer than what was measured
before, a frame against its time of day. How a Lantern stamp is brought to the dial (log 135), that the payload's stamp is the arrival stamp (log
37) and where an LTC frame's digits stand (log 145) are the model's readings. -/
def Obligations.CaptureAndLtc : Prop :=
  ∀ (s : State) (i : Fin 8) (j : Fin 2) (rising : Bool) (rate : BitVec 2) (hms : List Byte) (ub : BitVec 32) (start : Nat),
    (s.pinOn = true → bit (s.reg (R.CI_CFG i.val)) 31 = true → fld (s.reg (R.CI_CFG i.val)) 30 29 = 3 →
      (s.ci.getD i.val ⟨none, 0⟩).last = none →
      let t : Int := ((s.lantern + 31) / 32 * 32 : Nat) - (Config.captureDelay i.val : Nat)
      let n := s.reg (R.CI_COUNT i.val) + 1
      let u := (((((({ s with
          ci := modAt i.val (fun x => { x with last := some t }) s.ci } : State).setReg64 (R.CI_LAST_LO i.val) (t.toNat / 16)).setReg
            (R.CI_COUNT i.val) n).setRb (R.CI_STATUS i.val) 31 rising).setRb (R.CI_STATUS i.val) 30
              true).raise (80 + i.val)).refSeen (fun src inp => (src == 2 || (src == 3 && rising)) && inp == i.val)
                fun p d y => nearer y.meas (s.edgeOffset p y.cfg (s.dialAt p d (toU 64 ((s.pl p).raw.toNat + (t + s.ltPhase - s.release p)))))
      (bit (s.reg (R.CI_CFG i.val)) 28 = false → ∃ w, exec (.captureEdge i rising) s = .next (s.after w) ∧ w = u) ∧
      (bit (s.reg (R.CI_CFG i.val)) 28 = true → ∃ w, exec (.captureEdge i rising) s = .next (s.after w) ∧
        w = if u.takes .a || u.takes .b then { u with lanIn := u.lanIn ++ [⟨t, .capture i rising n, u.takes .a, u.takes .b⟩] } else u)) ∧
    (s.pinOn = true →
      let n := (s.li.getD j.val ⟨none, 0⟩).inseq + 1
      let s1 := ((s.setRb (R.LI_STATUS j.val) 31 true).setRf (R.LI_STATUS j.val) 30 29 rate.toNat).setReg (R.LI_ADDR j.val)
        (BitVec.ofNat 32 (octs hms 0 4))
      let u := (({ s1 with
        li := modAt j.val (fun _ => { last := some (start : Int), inseq := n }) s1.li } : State).raiseIf
          (!s.rb (R.LI_STATUS j.val) 31) (90 + j.val)).refSeen (fun src inp => src == 4 && inp % 2 == j.val)
            fun p d y => some (ltcOffset y.ofs (s.dialAt p d (toU 64 ((s.pl p).raw.toNat + (start + s.ltPhase - s.release p)))) (ltcTod rate.toNat hms))
      ∃ w, exec (.ltcFrameReceive j rate hms ub start) s = .next (s.after w) ∧
        w = if u.takes .a || u.takes .b then { u with lanIn := u.lanIn ++ [⟨start, .ltc j rate hms ub n, u.takes .a, u.takes .b⟩] } else u) ∧
    (s.rb (R.LI_STATUS j.val) 31 = true →
      exec (.ltcLockLost j) s = .next (s.after ((s.setRb (R.LI_STATUS j.val) 31 false).raise (90 + j.val))))

/-! Serial lines -/

/-- Receiving on a line: an armed receiver samples a character from the levels after a falling edge, which counts and enters the packet
or telegram, while a false start only arms it again; a break reported ends the packet and leaves a break entry; silence and the last
character end what they end, as an item with its check and its input sequence, or as a LOST one that counts and raises; in telegram
mode a low of BRK_MIN begins a telegram when the high after it reaches MAB_MIN, and else leaves the line ignored and counts. A line held
low is stuck, shows it and reports it until it is released; a response awaited whose time ran out during that low ends there. RTS in FLOW goes by
the entries that the queue holds at the end of the cycle (R330). The model's choices: how a discovery response is delivered and ends (log 41),
what a commit and full queues do and that RTS keeps its level between its thresholds (log 42), how the levels come (log 147), and what is judged
at a cycle's end (log 156). -/
def Obligations.SerialReceive : Prop :=
  ∀ (s : State) (n : Fin 32) (edge low high : Nat) (wave : List (Bool × Nat)) (c : RxChar),
    let x := s.slS n.val
    let m := s.slMode n.val
    let div := s.reg (R.SL_DIVIDER n.val)
    let fmt := s.reg (R.SL_TEL_FMT n.val)
    let route := s.slRoute n.val
    let host := route == 1 || route == 2
    let ing := route == 0 || route == 2
    let seq := s.reg (R.SL_INSEQ n.val) + 1
    let item (tel chk : Bool) (sum : Nat) : SlItem := ⟨tel, true, chk, x.curErr, sum, x.curLen, x.curStamp, ing && s.takes .a,
      ing && s.takes .b, host, 0, seq⟩
    let ended (t : State) (i : SlItem) : State := ((t.setReg (R.SL_INSEQ n.val) seq).slCount n.val 7).modSl n.val fun y => y.enter i
    let sampled : State := s.modSl n.val fun y => { y with
      armAt := (edge : Int) + 32 * sampleAt div (stopCell m), blind := false, low := c.low,
      endAt := (edge : Int) + 32 * charClocks div (stopCell m - 1) (fld m 22 21) }
    (s.slListens n.val = true → x.blind = false → x.armAt ≤ (edge : Int) → x.phase ≠ .deaf →
      (s.slTel n.val = false → sampleChar m div wave = none → exec (.slCharReceive n edge wave) s = .next (s.after
        (s.modSl n.val fun y => { y with armAt := (edge : Int) + 32 * sampleAt div 0, blind := false }).drain)) ∧
      (sampleChar m div wave = some c → c.fe = false → c.pe = false → x.await = none →
        (s.slTel n.val = false → x.curCount < 4095 → exec (.slCharReceive n edge wave) s = .next (s.after ((sampled.slCount n.val 3).modSl
          n.val fun y => { y.push (slEntry false false (BitVec.ofNat 9 c.bits)) false edge with phase := .packet }).drain)) ∧
        (∀ l k r, s.slTel n.val = true → rxWave (bit m 14) wave = (l, k) :: r → k < s.rf (R.SL_TEL_RX n.val) 31 24 * 500 →
          x.phase = .telegram → x.curCount = 0 → exec (.slCharReceive n edge wave) s = .next (s.after (((sampled.slCount n.val 3).modSl
            n.val fun y => y.push (slEntry false false (BitVec.ofNat 9 c.bits)) false edge).drain))))) ∧
    (s.slListens n.val = true → s.slTel n.val = false → x.low = true → x.phase ≠ .packet → x.phase ≠ .dub → x.hold = none → x.rxq.length < 2048 →
      x.items.length < 64 → x.curLen = 0 →
      let mark (y : SlS) : SlS := ({ y with
        low := false, rxq := y.rxq ++ [BitVec.ofNat 16 (2 ^ 13)],
        items := y.items ++ [⟨false, false, true, false, 0, 1, y.curStamp, false, false, host, 0, 0⟩],
        curLen := 0, curCount := 0, curOcts := [], curErr := false, curStamp := if y.curCount = 0 then 0 else y.curStamp } : SlS).swept
      exec (.slBreakDetect n) s =
        .next (s.after (((s.modSl n.val mark).slCount n.val 6).slEvent n.val 5).drain)) ∧
    (x.phase = .packet → s.slTel n.val = false →
      (x.curLost = false → exec (.slIdleMark n) s =
        .next (s.after (ended (s.modSl n.val fun y => { y with phase := .idle }) (item false true 0)).drain)) ∧
      (x.curLost = true → exec (.slIdleMark n) s = .next (s.after ((((s.modSl n.val fun y => { y with phase := .idle }).modSl n.val
        SlS.dropCur).slCount n.val 8).slEvent n.val 3).drain))) ∧
    (s.slListens n.val = true → s.slTel n.val = true → x.phase ≠ .telegram → x.phase ≠ .dub → x.await = none →
      s.rf (R.SL_TEL_RX n.val) 31 24 * 500 ≤ low →
      let arm (ph : RxPhase) : State := s.modSl n.val fun y =>
        { y.dropCur with phase := ph, armAt := (edge : Int) + 32 * low, blind := false, low := false }
      (s.rf (R.SL_TEL_RX n.val) 23 16 * 500 ≤ high →
        exec (.slTelBreak n edge low high) s = .next (s.after (arm .telegram).drain)) ∧
      (high < s.rf (R.SL_TEL_RX n.val) 23 16 * 500 →
        exec (.slTelBreak n edge low high) s = .next (s.after ((arm .deaf).slCount n.val 9).drain))) ∧
    (x.phase = .telegram → x.await = none →
      (x.curCount ≠ 0 → telComplete fmt x.curOcts = true → x.curLost = false → exec (.slTelegramEnd n) s = .next (s.after
        (ended (s.modSl n.val fun y => { y with phase := .ignore }) (item true (telCheck fmt x.curOcts).1 (telCheck fmt x.curOcts).2)).drain)) ∧
      (lenCoded fmt x.curOcts = true → telComplete fmt x.curOcts = false →
        let t := if x.curLost then (s.slCount n.val 8).slEvent n.val 3 else s
        exec (.slTelGap n) s = .next (s.after ((t.modSl n.val fun y => { y.dropCur with phase := .idle }).slCount n.val 9).drain))) ∧
    (x.phase = .dub → x.curCount ≠ 0 → exec (.slTelGap n) s = .next (s.after (s.slEndDub n true).drain)) ∧
    (s.pinOn = true → s.slEn n.val = true → s.rb (R.SL_STATUS n.val) 28 = false → x.phase ≠ .telegram →
      let t (u : State) : State := ((u.modSl n.val fun y => { y with low := false }).setRb (R.SL_STATUS n.val) 28 true).slEvent n.val 6
      ((∀ a, x.await = some a → a.due = false) → exec (.slStuck n) s = .next (s.after (t s))) ∧
      ∀ a, x.await = some a → a.due = true → exec (.slStuck n) s = .next (s.after (t (s.slTxnEnd n.val a.frame.owner 3 [] s.lantern)))) ∧
    (s.slEn n.val = true → s.slRtsMode n.val = 1 →
      let at_ (b : Bool) : State := s.modSl n.val fun y => { y with rts := b }
      let flow := s.reg (R.SL_FLOW n.val)
      (s.slHeld n = true ∨ fld flow 27 16 ≤ x.rxq.length → s.slFlow n = at_ false) ∧
      (s.slHeld n = false → x.rxq.length < fld flow 27 16 → (x.rxq.length ≤ fld flow 11 0 → s.slFlow n = at_ true) ∧
        (fld flow 11 0 < x.rxq.length → s.slFlow n = s))) ∧
    (s.rb (R.SL_STATUS n.val) 28 = true → exec (.slStuckClear n) s = .next (s.after
      ((s.setRb (R.SL_STATUS n.val) 28 false).modSl n.val fun y => { y with armAt := s.lantern, blind := false })))

/-- Sending on a line: the words written to the transmit queue make frames, header first and data in order, a header without data or
with EXPECT that does not fit is discarded; the first frame starts when the line is free, NEXT_GAP is over and its window allows it; its end is its outcome, or begins the wait for the
response, whose timeout or end is the outcome. CTS, filtered as RXD is, holds the characters of a frame under way. How its levels come and from
when NEXT_GAP runs are the model's choices (log 147). -/
def Obligations.SerialTransmit : Prop :=
  ∀ (s : State) (r : Req) (n : Fin 32) (v : Word) (level : Bool) (k : Nat),
    let x := s.slS n.val
    (s.reqOn r = true → x.partDrop = 0 →
      (x.part = none → x.txRoom (fld v 12 0) = true → fld v 12 0 ≠ 0 → exec (.slTxqDataWrite r n v) s =
        .next (s.after (s.modSl n.val fun y => { y with part := some ⟨v, [], .host⟩ }).drain)) ∧
      (∀ f, x.part = some f → f.data.length + 4 < hdrLen f.hdr → exec (.slTxqDataWrite r n v) s =
        .next (s.after (s.modSl n.val fun y => { y with part := some { f with data := f.data ++ toLE 4 v.toNat } }).drain)) ∧
      (∀ f, x.part = some f → f.data.length < hdrLen f.hdr → hdrLen f.hdr ≤ f.data.length + 4 → badHdr f.hdr = false →
        ∃ data, data = f.data ++ (toLE 4 v.toNat).take (hdrLen f.hdr - f.data.length) ∧ exec (.slTxqDataWrite r n v) s =
          .next (s.after ((s.modSl n.val fun y => { y with part := none }).modSl n.val fun y =>
            { y with txq := y.txq ++ [{ f with data := data }] }).drain)) ∧
      (x.part = none → x.txRoom (fld v 12 0) = false → exec (.slTxqDataWrite r n v) s = .next (s.after (((((s.modSl n.val fun y =>
        { y with partDrop := (fld v 12 0 + 3) / 4 }).slCount n.val 1).setRf (R.SL_TXN n.val) 31 28 6).slEvent n.val 0).drain)))) ∧
    (s.reqOn r = true →
      exec (.slRxqPop r n v) s = .next (s.after ((s.modSl n.val fun y =>
        if bit v 31 then y.popHost 4096 else y.popMany 64 (fld v 11 0))))) ∧
    (∀ f rest, x.txq = f :: rest → s.pinOn = true → s.slEn n.val = true → x.tx = none → x.await = none →
      (∀ e, x.lastEnd = some e → e + (s.rf (R.SL_GAP n.val) 15 0 * 16000 : Nat) ≤ (s.lantern : Int)) → (s.outs.getD n.val OutS.rest).chosen = [] → s.slWindow n.val f = true → exec (.slTxqFrameStart n) s =
        .next (s.after (((s.modSl n.val fun y => { y with txq := rest }).slStart n.val (some f) (hdrTel f.hdr) f.data).drain))) ∧
    (∀ t f, x.tx = some t → t.frame = some f → t.wait = false →
      let s1 := s.modSl n.val fun y => { y with tx := none, deLag := s.slRtsMode n.val == 2 }
      let s2 := (s1.slCount n.val 0).setRf (R.SL_TXN n.val) 15 0 (s1.rf (R.SL_TXN n.val) 15 0 + 1)
      (hdrExpect f.hdr = 0 → exec (.slTxFrameEnd n) s = .next (s.after (s2.slTxnEnd n.val f.owner 1 [] s.lantern).drain)) ∧
      (hdrExpect f.hdr = 1 → exec (.slTxFrameEnd n) s = .next (s.after (s2.modSl n.val fun y =>
        { y with await := some ⟨f, s.lantern, false, false, false, []⟩ }).drain)) ∧
      (hdrExpect f.hdr = 2 → exec (.slTxFrameEnd n) s = .next (s.after ((s2.modSl n.val fun y =>
        { y.dropCur with await := some ⟨f, s.lantern, false, false, false, []⟩, phase := .dub })).drain))) ∧
    (x.deLag = true → exec (.slDeLagEnd n) s = .next (s.after (s.modSl n.val fun y => { y with
      deLag := false, rts := false, armAt := s.lantern, blind := false }))) ∧
    (∀ a, x.await = some a →
      (hdrExpect a.frame.hdr = 1 → a.got = false →
        exec (.slResponseTimeout n false) s = .next (s.after (s.slTxnEnd n.val a.frame.owner 3 [] s.lantern).drain) ∧
        exec (.slResponseTimeout n true) s = .next (s.after (s.modSl n.val fun y => { y with await := some { a with due := true } }).drain)) ∧
      (hdrExpect a.frame.hdr = 2 → a.got = false → exec (.slDubWaitEnd n) s = .next (s.after
        ((s.modSl n.val fun y => { y with phase := .idle }).slTxnEnd n.val a.frame.owner 3 a.octets s.lantern).drain))) ∧
    (x.tx = none → exec (.slCtsChange n [(level, k)]) s =
      .next (s.after (s.modSl n.val fun y => { y with cts := if k < 3 then x.cts else level }))) ∧
    (∀ t, 3 ≤ k → x.tx = some t → t.tel = false → s.slTel n.val = false → bit (s.slMode n.val) 18 = true → t.wait = false → t.stall = level →
      exec (.slCtsChange n [(level != bit (s.slMode n.val) 12, k)]) s = .next (s.after (((s.modSl n.val fun y =>
        { y with cts := level != bit (s.slMode n.val) 12 }).modSl n.val fun y => { y with tx := some { t with stall := !level } }).emit
          (.serialHold n.val (!level)))))

/-! CAN FD controllers -/

/-- Frames of a controller: one received is acknowledged, but in MONITOR and asleep, and is an item stamped on the 2 ns grid with the next input
sequence, or counts and reports an overrun where the queue is full; the bus is idle after it. The host's buffer refills when it is popped; a slot
opens in the cycle of its mirror, and in it the object that goes first starts, with ESI by the error state; success takes it out, counts TEC down
and tells its owner, and a lost arbitration leaves it waiting behind the winner's frame. A window that closes with a scheduled frame not started
counts in CAN_SLOT_MISS and sets SLOT_MISS, unless the controller is asleep, bus-off, integrating or in MONITOR. That a window counts once (log
47), how LAST reads after a discard (log 48), and that TDCV is free (log 50) are the model's choices. -/
def Obligations.CanFrames : Prop :=
  ∀ (s : State) (r : Req) (n : Fin 8) (stamp : Nat) (rtr : Bool) (desc data : List Byte) (v : Word) (sl : Byte),
    let x := s.canS n.val
    (s.canLive n.val = true → s.rec_ n.val ≤ 127 → (∀ p, s.canAnswers p n.val desc data = none) →
      (∀ p, s.canStale p n.val desc data = none) →
      let s0 := if s.canMonitor n.val = false ∧ x.asleep = false then s.emit (.canAck n.val) else s
      let s1 := (((s0.canCount n.val 0).canHeard n.val).canErrs n.val (s.tec n.val) (s.rec_ n.val - 1)).canIdle n.val
      (128 ≤ (s1.canS n.val).rxq.length → exec (.canFrameReceive n stamp rtr desc data) s =
        .next (s.after ((s1.canCount n.val 1).canEvent n.val 3).drain)) ∧
      ((s1.canS n.val).rxq.length < 128 → fld (s.canCfg n.val) 27 26 = 1 →
        let q := s1.reg (R.CAN_INSEQ n.val) + 1
        exec (.canFrameReceive n stamp rtr desc data) s = .next (s.after (((s1.setReg (R.CAN_INSEQ n.val) q).modCan n.val fun y =>
          { y with rxq := y.rxq ++ [⟨rtr, desc, data, stamp / 32 * 32, false, false, true, q⟩] }).canRefill n.val).drain))) ∧
    (s.reqOn r = true →
      exec (.canRxbPop r n v) s = .next (s.after ((s.modCan n.val fun y => { y with rxb := none }).canRefill n.val)) ∧
      exec (.canTxwAbort r n v) s = .next (s.after (s.canDiscard n.val (fld v 5 0) 2).drain) ∧
      (s.txoSrc n.val (fld v 5 0) = 2 → s.badFrame n.val (s.txwFrame n.val) = false → exec (.canTxwSend r n v) s =
        .next (s.after (s.canEnter n.val (fld v 5 0) ⟨s.txwFrame n.val, .host⟩).drain))) ∧
    (s.pinOn = true → s.canEn n.val = true → (s.cycMirror n.val).en = true → s.rf (R.CAN_SLOT_START n.val sl.toNat) 31 30 ≠ 0 →
      exec (.canSlotOpen n sl) s = .next (s.after ((((s.setRf (R.CAN_STATUS n.val) 15 8 sl.toNat).setRf (R.CAN_STATUS n.val) 23 18
        (s.cycle n.val)).modCan n.val fun y => { y with slot := some sl.toNat }).drain))) ∧
    (∀ k m f, x.slot = some k → s.canLive n.val = true → (s.cycMirror n.val).en = true → s.canMonitor n.val = false → x.asleep = false →
      s.rb (R.CAN_CTL n.val) 30 = false → x.onBus = none → x.rx = false → x.stopAtEnd = false → s.pickObj n.val k = some (m, f) →
      exec (.canFrameStart n) s = .next (s.after (((((s.emit (.can n.val (s.sentAs n.val f.octets))).addSat (R.CAN_TXO_STATUS n.val m) 15 0 1).setRb
        (R.CAN_TXO_STATUS n.val m) 29 true).modCan n.val fun y => { y with onBus := some ⟨m, f, s.lantern / 32 * 32, false⟩ }).drain))) ∧
    (∀ b, x.onBus = some b →
      exec (.canArbLost n) s = .next (s.after ((((s.canCount n.val 5).modCan n.val fun y => { y with acks := 0 }).setRb
        (R.CAN_TXO_STATUS n.val b.obj) 29 false).modCan n.val fun y => { y with onBus := none, rx := true }).drain) ∧
      (b.gone = false →
        let s1 := (((s.canTdc n.val b.frame.octets false).canCount n.val 3).canHeard n.val).canErrs n.val (s.tec n.val - 1) (s.rec_ n.val)
        let s2 := (s1.setReg64 (R.CAN_TXO_STAMP_LO n.val b.obj) (b.start / 16)).setRf (R.CAN_TXO_STATUS n.val b.obj) 27 24 1
        exec (.canTxSuccess n) s = .next (s.after (((((s2.modObj n.val b.obj fun o => ⟨o.next, none⟩).setRf
          (R.CAN_TXO_STATUS n.val b.obj) 15 0 0).canTold (some b.frame) true b.start).canOffBus n.val).drain)))) ∧
    (∀ k, x.slot = some k →
      let shut := s.modCan n.val fun y => { y with slot := none }
      let left := ∃ m ∈ s.scheduled n.val k, ∀ b, x.onBus = some b → b.obj ≠ m
      let counts := s.canLive n.val = true ∧ (s.cycMirror n.val).en = true ∧ s.canMonitor n.val = false ∧ x.asleep = false
      (left ∧ counts → exec (.canSlotClose n) s = .next (s.after ((shut.canCount n.val 8).canEvent n.val 2).drain)) ∧
      (¬ (left ∧ counts) → exec (.canSlotClose n) s = .next (s.after shut.drain)) ∧
      ∀ m, m ∈ s.eligible n.val k ↔ m ∈ s.scheduled n.val k ∧ ¬ (s.txoSrc n.val m = 1 ∧ s.canQuiet n.val = true))

/-- Confinement, sleep and wake of a controller: errors of the transmitter count 8, of the receiver 1, and each sends its error flag, but in
MONITOR and asleep; a dominant bit after the error flag counts 8; an ACK error of an error-passive transmitter that reads no dominant bit, and a
stuff error in arbitration, count nothing (log 159); a recessive res bit is a protocol exception or, without PXE, a form error; sixty-four
unacknowledged tries make it LONE; recovery and integration end in their states. EN and SLEEP act when no frame is on the bus: at once where none
is, and else, or where another node's frame that no row begins may be there (free, log 49), when the bus falls idle. A dominant level of the
filter's length, or a frame that meets its masks, wakes: it clears SLEEP and raises the wake's event, which a write of SLEEP = 0 does too. Which
attempts end the row of ACK errors (log 124) and TDCV (log 50) are the model's choices. -/
def Obligations.CanConfinement : Prop :=
  ∀ (s : State) (r : Req) (n : Fin 8) (code : BitVec 4) (dp : Bool),
    let x := s.canS n.val
    (s.canLive n.val = true →
      let speaks := s.canMonitor n.val = false ∧ x.asleep = false
      let flag (u : State) : State := if speaks then u.emit (.canFlag n.val (decide (s.canState n.val = 0))) else u
      let received (k : Nat) (d : Bool) : State :=
        ((((flag s).canCount n.val 2).lec n.val k d).canErrs n.val (s.tec n.val) (s.rec_ n.val + 1)).canIdle n.val
      (∀ b, x.onBus = some b →
        let sent (early : Bool) (k : Nat) (d : Bool) : State := (flag (s.canTdc n.val b.frame.octets early)).canCount n.val 4 |>.lec n.val k d
        let other (u : State) : State := u.modCan n.val fun y => { y with acks := 0 }
        let ends (u : State) (up : Nat) : State := ((u.canErrs n.val (s.tec n.val + up) (s.rec_ n.val)).canOffBus n.val).drain
        exec (.canBusError n (.tx code dp)) s = .next (s.after (ends (other (sent (!dp) code.toNat dp)) 8)) ∧
        exec (.canBusError n .txStuffArb) s = .next (s.after (ends (other (sent true 1 false)) 0)) ∧
        ∀ dominant, exec (.canBusError n (.ack dominant)) s = .next (s.after (ends (((sent false 3 false).canCount n.val 11).modCan n.val
          fun y => { y with acks := y.acks + 1 }) (if s.canState n.val = 1 ∧ dominant = false then 0 else 8)))) ∧
      exec (.canBusError n (.rx code dp)) s = .next (s.after (received code.toNat dp).drain) ∧
      exec (.canBusError n .protocolException) s = .next (s.after (if bit (s.canCfg n.val) 28 then s.canCount n.val 10 else received 2 false).drain) ∧
      exec (.canBusError n .overload) s = .next (s.after ((if speaks then s.emit (.canFlag n.val true) else s).canCount n.val 2).drain) ∧
      exec (.canBusError n .txDominant) s = .next (s.after (s.canErrs n.val (s.tec n.val + 8) (s.rec_ n.val)).drain) ∧
      exec (.canBusError n .rxDominant) s = .next (s.after (s.canErrs n.val (s.tec n.val) (s.rec_ n.val + 8)).drain)) ∧
    (64 ≤ x.acks → s.rb (R.CAN_STATUS n.val) 26 = false →
      exec (.canLone n) s = .next (s.after ((s.setRb (R.CAN_STATUS n.val) 26 true).canEvent n.val 4).drain)) ∧
    (s.pinOn = true → s.canEn n.val = true → s.canState n.val = 2 → x.recovering = true → exec (.canRecoveryDone n) s = .next (s.after ((((s.setRf (R.CAN_ERR n.val) 24 16
      0).setRf (R.CAN_ERR n.val) 15 0 0).canSetState n.val 3).modCan n.val fun y => { y with recovering := false, rx := false }))) ∧
    (s.pinOn = true → s.canEn n.val = true → s.canState n.val = 3 →
      exec (.canIntegrationDone n) s = .next (s.after (((s.setRf (R.CAN_ERR n.val) 31 30 0).canEvent n.val 6).canIdle n.val))) ∧
    (let idle := s.modCan n.val fun y => { y with rx := false }
     let stop := if x.stopAtEnd then (idle.setRb (R.CAN_CTL n.val) 31 false).modCan n.val fun y => { y with stopAtEnd := false, slot := none } else idle
     (s.rb (R.CAN_CTL n.val) 30 = false → s.canIdle n.val = stop) ∧
     (s.rb (R.CAN_CTL n.val) 30 = true → s.canIdle n.val = stop.modCan n.val fun y => { y with asleep := true })) ∧
    (∀ clocks desc data, s.pinOn = true → s.canEn n.val = true → x.asleep = true → s.rb (R.CAN_CTL n.val) 30 = true →
      let cfg := s.reg (R.CAN_WAKE_CFG n.val)
      let woken : State := (((s.setRb (R.CAN_CTL n.val) 30 false).modCan n.val fun y => { y with asleep := false }).canIntegrate n.val).raise (72 + n.val)
      (bit cfg 31 = false → fld cfg 7 0 * 50 ≤ clocks → exec (.canWake n (.dominant clocks)) s = .next (s.after woken)) ∧
      (bit cfg 31 = true → frIde desc = bit cfg 30 →
        (BitVec.ofNat 32 (frId desc) ^^^ s.reg (R.CAN_WAKE_ID n.val)) &&& s.reg (R.CAN_WAKE_IDMASK n.val) = 0 →
        (BitVec.ofNat 32 (octs data 0 4) ^^^ s.reg (R.CAN_WAKE_DATA n.val)) &&& s.reg (R.CAN_WAKE_DMASK n.val) = 0 →
        exec (.canWake n (.frame desc data)) s = .next (s.after woken))) ∧
    (s.reqOn r = true → x.stopAtEnd = false →
      let there := x.onBus ≠ none ∨ x.rx = true
      let maybe := ¬ there ∧ s.pinOn = true ∧ s.canState n.val ≠ 2
      let drawn := s.free32.2.modCan n.val fun y => { y with rx := bit s.free32.1 0 }
      let off (u : State) : State := (u.setRb (R.CAN_CTL n.val) 31 false).modCan n.val fun y => { y with slot := none }
      let late (u : State) : State := u.modCan n.val fun y => { y with stopAtEnd := true }
      let sleep (u : State) (now : Bool) : State := (u.setRb (R.CAN_CTL n.val) 30 true).modCan n.val fun y => { y with asleep := now }
      (s.rb (R.CAN_CTL n.val) 30 = false →
        (s.canEn n.val = false → exec (.canEnable r n) s =
          .next (s.after ((s.setRb (R.CAN_CTL n.val) 31 true).canIntegrate n.val).drain)) ∧
        (s.canEn n.val = true →
          (there → exec (.canDisable r n) s = .next (s.after (late s).drain) ∧ exec (.canSleep r n) s = .next (s.after (sleep s false).drain)) ∧
          (maybe → exec (.canDisable r n) s = .next (s.after (if bit s.free32.1 0 then late drawn else off drawn).drain) ∧
            exec (.canSleep r n) s = .next (s.after (sleep drawn (!bit s.free32.1 0)).drain)) ∧
          (¬ there → ¬ maybe → exec (.canDisable r n) s = .next (s.after (off s).drain) ∧
            exec (.canSleep r n) s = .next (s.after (sleep s true).drain))) ∧
        (s.canEn n.val = true → s.canState n.val = 2 →
          exec (.canRecover r n) s = .next (s.after (s.modCan n.val fun y => { y with recovering := true }).drain))) ∧
      (s.rb (R.CAN_CTL n.val) 30 = true → s.canEn n.val = true → x.asleep = true → exec (.canSleepClear r n) s = .next (s.after
        ((((s.setRb (R.CAN_CTL n.val) 30 false).modCan n.val fun y => { y with asleep := false }).canIntegrate n.val).raise (72 + n.val)).drain)))

/-! The bridge -/

/-- The host's accesses through the remote windows: a read, a write and an AtomicOp that are not refused take the lowest free tracker
entry of the lead, with the next order of acceptance, and go on from there; a write that finds none free waits in the posted buffer
unless that is full (with the commit of its window pending or not), from which the oldest takes the next free entry. What follows by itself
within a command (log 72) is the model's choice. -/
def Obligations.BridgeAccesses : Prop :=
  (∀ (s : State) (off : Word) (e : Nat) (x : BitVec 64), s.hostOn = true → s.active s.lead = true →
    let p := s.lead
    let n := barWin off.toNat
    let o := barOfs off.toNat
    let taken (kind : AccKind) (posted : Bool) (o len : Nat) (data : List Byte) (be : List Bool) : State :=
      (s.modPl p fun y => { y with accOrd := y.accOrd + 1 }).putTrk p e (s.newAcc p n (s.pl p).accOrd none posted kind o len data be)
    s.winOff p n = false → (s.pl p).freeEntry = some e →
    (∀ len, 0 < len → len ≤ 256 → o + len ≤ 2 ^ 26 →
      exec (.bridgeRead off len) s = .next (s.after (taken .read false o len [] []).drain)) ∧
    (∀ wide : Bool, let size := if wide then 8 else 4
      o % size = 0 → ((s.pl p).winS n).pf = none →
      exec (.bridgeFetchadd off wide x) s = .next (s.after (taken (.fetchAdd x) false o size (List.replicate size 0) []).drain) ∧
      exec (.bridgeSwap off wide x) s = .next (s.after (taken (.swap x) false o size (List.replicate size 0) []).drain) ∧
      ∀ cmp, exec (.bridgeCas off size cmp x) s = .next (s.after (taken (.cas cmp x) false o size (List.replicate size 0) []).drain)) ∧
    (∀ (data : List Byte) (be : List Bool), off.toNat % 4 = 0 → data ≠ [] → data.length % 4 = 0 → o + data.length ≤ 2 ^ 26 →
      be = List.replicate data.length true → (s.pl p).posted = [] → ((s.pl p).winS n).pf = none →
      exec (.bridgeWrite off data be) s = .next (s.after (taken .write true o data.length data be).drain))) ∧
  ∀ (s : State) (off : Word) (data : List Byte),
    (s.hostOn = true → s.active s.lead = true → off.toNat % 4 = 0 → data ≠ [] → data.length % 4 = 0 →
      barOfs off.toNat + data.length ≤ 2 ^ 26 → s.winOff s.lead (barWin off.toNat) = false → (s.pl s.lead).freeEntry = none ∨ (s.pl s.lead).posted ≠ [] →
      (s.pl s.lead).posted.length < 256 → ((s.pl s.lead).winS (barWin off.toNat)).pf = none →
      exec (.bridgeWrite off data (List.replicate data.length true)) s = .next (s.after (((s.modPl s.lead fun y =>
        { y with accOrd := y.accOrd + 1 }).modPl s.lead fun y => { y with posted := y.posted ++ [⟨(s.pl s.lead).accOrd,
          barWin off.toNat * 2 ^ 26 + barOfs off.toNat, data, List.replicate data.length true,
            s.pendingAt (R.BRG_WIN_STAGE_CTL s.lead (barWin off.toNat))⟩] }).drain))) ∧
    (∀ (p : Plane) (w : PostS) (ws : List PostS) (e : Nat), (s.pl p).posted = w :: ws → (s.pl p).freeEntry = some e →
      exec (.postedHoldDrain p) s = .next (s.after ((s.modPl p fun y => { y with posted := ws }).putTrk p e
        { s.newAcc p (barWin w.off) w.ord none true .write (barOfs w.off) w.data.length w.data w.be with late := w.late }).drain))

/-- Requests served as target and responses to requests: a request that the lead accepts enters the intake of its class, one that finds all
128 entries in use is dropped, counts and raises EV101; in its turn, once a response entry is free, it is answered with the octets read or with
DONE, and one that is refused with its status, and counts; an answer goes to the ring where there is room for it. A response is matched to its
tracker entry, counts, and ends the unit under way with its data or its error. When a request is executed is the row's operand (log 80); what
follows by itself within a command (log 72), what R384 leaves open of a bridge sentence's header (logs 27, 78) and which responses count (log
149) are the model's choices. -/
def Obligations.BridgeTargetAndResponse : Prop :=
  ∀ (s : State) (p : Plane) (origin : BitVec 10) (wait : Bool) (payload : List Byte),
    let len := octs payload 1 1
    let addr := octs payload 8 4
    let counted (i : Nat) : State := s.count (R.BRG_COUNTERS p i)
    (∀ k c, (k, c) ∈ [(1, Instr.bridgeTargetRead p origin wait payload), (2, .bridgeTargetWrite p origin wait payload),
        (3, .bridgeTargetWritePosted p origin wait payload)] →
      s.active p = true → s.lead = p → s.devValid = true → octs payload 2 2 % 1024 = s.devnum → octs payload 0 1 = k →
      let inUse := ((s.pl p).tgtIn.filter fun r => r.posted == (k == 3)).length
      let ends (u : State) : State := if wait then u else u.drain
      let t := s.modPl p fun x => { x with tgtIn := x.tgtIn ++ [⟨k == 3, k, origin, payload⟩] }
      let out (u : State) (st : Nat) (os : List Byte) : State := u.modPl p fun x => { x with
        brgOut := x.brgOut ++ [(4, toBE 1 (k + 0x80) ++ toBE 1 st ++ toBE 2 origin.toNat ++ slice payload 4 8 ++ os)] }
      (128 ≤ inUse → exec c s = .next (s.after (ends ((counted 7).raise 101)))) ∧
      (inUse < 128 → exec c s = .next (s.after (ends t))) ∧
      ((s.pl p).tgtIn = [] → (s.pl (other p)).tgtIn = [] → wait = false → t.todo = [] → t.drainFence = none → t.drainHold = none →
        t.drainAcc = none → ((s.pl p).brgOut.filter fun e => e.1 == 4).length < 128 →
        (∀ st, s.targetRefuses p (k != 1) payload = some st →
          exec c s = .next (s.after ((out (counted 6) st (List.replicate 8 0)).drainN 65535))) ∧
        (s.targetRefuses p (k != 1) payload = none →
          (k = 1 → let r := (counted 5).localRead .host addr len
            exec c s = .next (s.after ((out r.2 0 (slice (netWords r.1) 0 8)).drainN 65535))) ∧
          (k ≠ 1 → exec c s = .next (s.after ((out ((counted 5).localWrite .host addr len (netWords (slice payload 12 len))) 0
            (List.replicate 8 0)).drainN 65535)))))) ∧
    (∀ cls os rest, (s.pl p).brgOut = (cls, os) :: rest → p = .a ∨ s.pA.brgOut = [] → s.ringRoom p cls = true →
      s.drainOut = some ((s.modPl p fun x => { x with brgOut := rest }).bridgeSent p cls.toNat os)) ∧
    (∀ (e : Nat) (t : TrkS), octs payload 4 2 = (planeNum p) * 2 ^ 15 + t.gen * 2 ^ 8 + e → e < 256 → t.gen < 128 →
      s.active p = true → s.devValid = true → s.trkOf p e = some t → s.winType p t.win = 0 → octs payload 2 2 % 1024 = s.devnum →
      (t.ph = .reading → octs payload 1 1 = 0 → exec (.bridgeResponseReceive p payload) s =
        .next (s.after (((counted 1).unitRead p e t (netWords (slice payload 12 t.unit))).drain))) ∧
      (t.ph = .writing → octs payload 1 1 = 0 → exec (.bridgeResponseReceive p payload) s =
        .next (s.after (((counted 1).unitDone p e t).drain))) ∧
      (t.ph = .reading ∨ t.ph = .writing → octs payload 1 1 ≠ 0 → exec (.bridgeResponseReceive p payload) s =
        .next (s.after (((counted 1).unitFail p e t 2 (octs payload 1 1)).drain))))

/-- Timeouts, locks, FENCE reads and prefetch buffers: an access whose time is over ends as failed and raises EV99; a lock read takes a
free lock and shows its owner, its owner's write or its expiry frees it; a FENCE read waits for the posted writes before it; an aged
prefetch buffer is dropped; an RDM request whose ACK_TIMER ran out is made again. What follows by itself within a command (log 72) is the
model's choice. -/
def Obligations.BridgeHousekeeping : Prop :=
  ∀ (s : State) (r : Req) (p : Plane) (n : Fin 64) (entry : Fin 512) (v : Word),
    (∀ t, entry.val < 256 → s.trkOf p entry.val = some t →
      let g := (((s.count (R.BRG_COUNTERS p 3)).raise 99).recall p entry.val t).noteFail p t 1 0
      exec (.bridgeTimeout p entry) s = .next (s.after (g.1.endAcc p entry.val g.2).drain)) ∧
    (∀ w, 256 ≤ entry.val → (s.pl p).posted[entry.val - 256]? = some w →
      let k := barWin w.off
      let s1 := ((s.count (R.BRG_COUNTERS p 3)).raise 99).modPl p fun x => { x with posted := x.posted.eraseIdx (entry.val - 256) }
      exec (.bridgeTimeout p entry) s = .next (s.after (((s1.postedLog p k 0 1 0 (barOfs w.off) w.data).postedEnd p k w.ord
        (some 1)).count (R.BRG_WIN_ERR_CNT p k)).drain)) ∧
    (s.reqOn r = true → s.present p = true →
      let w := (s.pl p).winS n.val
      let k := match r with | .host => 0 | .coreA => 1 | .coreB => 2
      (w.lock = none → exec (.brgWinLockRead r p n) s = .next (s.after ((((s.modPl p fun x => x.modWin n.val fun w =>
        { w with lock := some k }).pfDrop p n.val 3).emit (.read r (R.BRG_WIN_LOCK p n.val) (BitVec.ofNat 32 (2 * k + 1)))).drain))) ∧
      (∀ j, w.lock = some j → exec (.brgWinLockRead r p n) s = .next (s.after ((s.emit (.read r (R.BRG_WIN_LOCK p n.val)
        (BitVec.ofNat 32 (2 * j + if j = k then 1 else 0)))).drain))) ∧
      (w.lock = some k → bit v 0 = true → exec (.brgWinLockRelease r p n v) s =
        .next (s.after (s.modPl p fun x => x.modWin n.val fun w => { w with lock := none }).drain)) ∧
      exec (.brgWinFenceRead r p n) s = .next (s.after (((s.pfDrop p n.val 4).modPl p fun x =>
        let y := x.modWin n.val fun w => { w with failed := 0, first := 0 }
        { y with fences := y.fences ++ [⟨r, n.val, none, s.fenceWaits p n.val, w.failed, w.first, none, []⟩] }).drain))) ∧
    (((s.pl p).winS n.val).lock ≠ none → exec (.lockExpire p n) s = .next (s.after
      ((((s.modPl p fun x => x.modWin n.val fun w => { w with lock := none }).count (R.BRG_COUNTERS p 12)).raise 100).drain))) ∧
    (∀ b, ((s.pl p).winS n.val).pf = some b → b.read.all id = true →
      exec (.prefetchAge p n) s = .next (s.after (s.modPl p fun x => x.modWin n.val fun w => { w with pf := none }))) ∧
    (∀ e t, (s.pl p).trk.find? (fun x => x.2.win == n.val && (x.2.ph == .timerRead || x.2.ph == .timerWrite)) = some (e, t) →
      exec (.rdmAckTimerExpire p n) s =
        .next (s.after (s.again p e { t with ph := if t.ph = .timerWrite then .writing else .reading }).drain))

/-! Host queues and command packets -/

/-- The host queues: doorbells move the tail and head, or stop the queue where the index lies beyond its ring; EN set starts it empty; a
fetch takes the next entry, counts the replies owed and lets the command wait for its executor, forwards it, or refuses it; a failed read of
an entry stops the queue with its cause, and so does the next write of a reply once one is known to fail, which neither moves the tail nor raises
the queue's event; a command sentence's first copy that names this device waits for its executor; a reply of another device goes to the queue of
its tag. How a failed DMA comes (log 150), the index beyond a reply ring (log 71), when forwarding fails (logs 109, 127), which lanes a forwarded
command leaves on (log 161), the replies a timed command owes (log 84) and the order of rows in a cycle (log 146) are the model's choices. -/
def Obligations.HostQueueCommands : Prop :=
  ∀ (s : State) (r : Req) (q : Fin 4) (v : Word) (p : Plane),
    (s.hostOn = true → s.rb (R.HQ_CTL q.val) 31 = true →
      (s.rb (R.HQ_STATUS q.val) 31 = false →
        (fld v 11 0 < s.sqSize q.val → exec (.sqDoorbell q v) s = .next (s.after (s.modHq q.val fun h => { h with tail := fld v 11 0 }))) ∧
        (s.sqSize q.val ≤ fld v 11 0 → exec (.sqDoorbell q v) s = .next (s.after (s.hqFault q.val 3 (fld v 11 0))))) ∧
      exec (.rqDoorbell q v) s = .next (s.after (s.modHq q.val fun h => { h with head := fld v 11 0 % s.rqSize q.val }))) ∧
    (∀ row, rowOf (R.HQ_CTL q.val) = some row → s.reqOn r = true →
      (s.rb (R.HQ_CTL q.val) 31 = false → exec (.hqEnable r q v) s = .next (s.after (((s.put row (R.HQ_CTL q.val) (setBit v 31 true)
        0).setReg (R.HQ_STATUS q.val) 0).modHq q.val fun h => { h with tail := 0, head := 0, phase := true, wfail := false }))) ∧
      (s.rb (R.HQ_CTL q.val) 31 = true →
        let old := s.reg (R.HQ_CTL q.val)
        exec (.hqDisable r q v) s = .next (s.after (s.put row (R.HQ_CTL q.val)
          (setFld (setFld (setBit v 31 false) 27 24 (fld old 27 24)) 19 16 (fld old 19 16)) 0)))) ∧
    (∀ (dma : DmaEnd) (entry params : List Byte), dma ≠ .readFail → s.hostOn = true → s.rb (R.HQ_CTL q.val) 31 = true → s.rb (R.HQ_STATUS q.val) 31 = false →
      let owed := owes (octs entry 0 2) (octs entry 6 2 / 2 ^ 14 % 2 == 1)
      let n := octs entry 8 2
      let c := parseCmd (.hostQ q) (slice entry 0 32) (if n ≤ 32 then slice entry 32 n else slice params 0 n)
      let w := if dma = .writeFail then s.modHq q.val fun h => { h with wfail := true } else s
      let s1 := (w.setRf (R.HQ_STATUS q.val) 11 0 ((s.sqHead q.val + 1) % s.sqSize q.val)).modHq q.val fun h =>
        { h with busy := true, owed := h.owed + owed }
      ((s.hqS q.val).busy = true ∨ s.sqHead q.val = (s.hqS q.val).tail ∨ s.rqRoom q.val < (s.hqS q.val).owed + owed →
        exec (.commandFetch q dma entry params) s = .next (s.after w)) ∧
      ((s.hqS q.val).busy = false → s.sqHead q.val ≠ (s.hqS q.val).tail →
        exec (.commandFetch q .readFail entry params) s = .next (s.after (s.hqFault q.val 1 (s.sqHead q.val))) ∧
        ((s.hqS q.val).owed + owed ≤ s.rqRoom q.val → s.cmdCore = some p →
          (∀ st, arrivalStatus c (slice entry 0 32) n = some st →
            exec (.commandFetch q dma entry params) s = .next (s.after (s1.refuse c p st))) ∧
          (arrivalStatus c (slice entry 0 32) n = none → c.loc = true → c.all = false →
            exec (.commandFetch q dma entry params) s = .next (s.after (s1.await c))) ∧
          (arrivalStatus c (slice entry 0 32) n = none → c.loc = false → c.all = false → s.devValid = true → c.dev.toNat ≠ s.devnum →
            s.present .a = true ∨ s.present .b = true →
            exec (.commandFetch q dma entry params) s =
              .next (s.after ((s1.forwardCmd p c (slice entry 0 32)).sendReply c p 0 8 [] true true)))))) ∧
    (∀ (rep : List Byte) (source : Nat), (s.hqS q.val).wfail = true → s.writeReply q.val rep source =
      (s.modHq q.val fun h => { h with wfail := false }).hqFault q.val 2 (s.rqTail q.val)) ∧
    (∀ c : Cmd, c.src = .hostQ q →
      let now := if s.fresh.1 = s.lt then s.fresh.2 else []
      (q ≠ 0 → s.await c = { s with accepted := s.accepted ++ [c] }) ∧
      (q = 0 → s.await c = { s with accepted := s.accepted.filter (fun d => !now.contains d) ++ c :: s.accepted.filter now.contains })) ∧
    (∀ octets : List Byte,
      let payload := octets.drop 32
      let t := parseSent octets payload
      let c := parseCmd (.ring t.cls t.origin t.seq t.ackreq) (slice payload 0 32) (payload.drop 32)
      t.stream.toNat = 0xFF0000 → t.cls = 3 → s.hears p = true → s.mode ≠ 4 →
      (∀ e, e ∈ s.seen → ¬(e.1 = t.origin ∧ e.2.1 = t.seq ∧ e.2.2 / 4 = 3)) → s.actsOn c = true → s.ringRefuses c t.origin = false →
      arrivalStatus c (slice payload 0 32) (payload.length - 32) = none → c.loc = false →
      exec (.commandSentenceReceive p false octets) s = .next (s.after { s with
        seen := s.seen ++ [(t.origin, t.seq, 12 + planeNum p)], accepted := s.accepted ++ [c] })) ∧
    (∀ octets : List Byte,
      let payload := octets.drop 32
      let t := parseSent octets payload
      t.stream.toNat = 0xFF0001 → t.unnum = false → s.active p = true → s.devValid = true → octs payload 0 2 % 1024 = s.devnum →
      20 ≤ payload.length → (∀ e, e ∈ s.seen → ¬(e.1 = t.origin ∧ e.2.1 = t.seq ∧ e.2.2 / 4 = 4)) →
      exec (.statusReplyReceive p octets) s = .next (s.after
        ({ s with seen := s.seen ++ [(t.origin, t.seq, 16 + planeNum p)] }.remoteReply t.origin.toNat (slice payload 4 16))))

/-- Packets of the System and Time groups that answer once for the device: who it is and what it holds, its number, the lead with its
boundary, the holds, the registers, the bypass pins, the time. That HOLD ends the plane's commands (log 103), when SET_LEAD_APPLY acts (log
83) and what a snapshot shows of snapshot registers (log 163) are the model's choices. -/
def Obligations.SystemPackets : Prop :=
  packetAnswers .identify 0x0101 (fun _ s p => some (s, 0, toBE 4 (s.reg R.GID_IDENT).toNat ++ s.devnumOctets ++ s.stateOctets ++
    toBE 4 (s.reg (R.AON_FW_VER (planeNum p))).toNat)) ∧
  packetAnswers .discover 0x0108 (fun _ s _ => some (s, 0, toBE 8 Config.uid.toNat ++ s.devnumOctets ++ s.stateOctets)) ∧
  packetAnswers .setDevnum 0x0102 (fun c s _ =>
    if c.all = false ∧ cNum c 2 1 % 2 = 0 ∧ cNum c 0 2 ≤ 1023 then
      some (((s.setReg R.AON_DEVNUM (BitVec.ofNat 32 (0x80000000 + cNum c 0 2))).bootDevnum).joinConfirm, 0, []) else none) ∧
  packetAnswers .setLead 0x0103 (fun c s _ =>
    let to_ : Plane := if cNum c 0 1 = 0 then .a else .b
    if cNum c 0 1 ≤ 1 ∧ s.active to_ = true ∧ s.setLead = none ∧ s.egEn s.lead 0 = false then
      some (s.leadTo to_, 0, List.replicate 8 255 ++ [0]) else none) ∧
  packetGives .setLead 0x0103 (fun c s p _ split =>
    let to_ : Plane := if cNum c 0 1 = 0 then .a else .b
    let next := ((s.pl s.lead).egS 0).next
    if cNum c 0 1 ≤ 1 ∧ s.active to_ = true ∧ s.setLead = none ∧ s.egEn s.lead 0 = true ∧ ((s.pl s.lead).egS 0).live = true then
      some { s.accept c [p] split stAccepted with setLead := some (to_, max next (cNum c 8 8), c, decide (cNum c 8 8 < next)) }
    else none) ∧
  (∀ (s : State) (p : Plane) (k : Nat) (c : Cmd) (late : Bool), s.setLead = some (p, k, c, late) → s.egEn s.lead 0 = true →
    ((s.pl s.lead).egS 0).live = true → k ≤ ((s.pl s.lead).egS 0).next → ((s.pl s.lead).egS 0).next ≤ k + 1 → exec .setLeadApply s =
      .next (s.after ((({ s with setLead := none }.leadTo p).complete c stDone (toBE 8 k ++ toBE 1 late.toNat)).drain))) ∧
  packetAnswers .planeHold 0x0104 (fun c s _ =>
    let r := s.psupWrite (setFld (s.reg R.AON_PSUP_CTL) 1 0 (cNum c 0 1))
    some (r.1, if r.2 then 0x15 else 0, [])) ∧
  packetGives .regRead 0x0105 (fun c s p _ split =>
    let n := cNum c 4 1
    let off := cNum c 0 4
    if 1 ≤ n ∧ n ≤ 3 ∧ off % 4 = 0 ∧ off + 4 * n ≤ 2 ^ 24 then some ((s.hold c [p] split).regReadFrom p c n []) else none) ∧
  packetAnswers .regWrite 0x0106 (fun c s p =>
    let n := c.ps.length / 8
    let ws := (List.range n).map fun i => (cNum c (8 * i) 4, cWord c (8 * i + 4))
    if c.ps.length % 8 = 0 ∧ 1 ≤ n ∧ n ≤ 64 ∧ (ws.all fun w => w.1 % 4 == 0 && decide (w.1 < 2 ^ 24) && fitsReg w.1 w.2) = true then
      some (ws.foldl (fun u w => u.writeAll (coreOf p) w.1 w.2) s, 0, []) else none) ∧
  packetAnswers .snapshot 0x0107 (fun c s _ =>
    if c.src = .hostQ 3 then
      some (s.snapOctets.2.emit (.hostWrite (cNum c 0 8) s.snapOctets.1), 0, toBE 4 s.snapOctets.1.length) else none) ∧
  packetAnswers .bypassForce 0x0305 (fun c s _ => some ((s.setRf R.AON_BYP_CTL 3 0 (fld (BitVec.ofNat 32 (cNum c 0 1)) 3 0)).bypass, 0, [])) ∧
  packetAnswers .timeRead 0x0205 (fun _ s p => some (s, 0, toBE 8 (toPt64 (s.release p)).toNat ++ toBE 1 (s.devDom 0) ++
    toBE 1 (s.devDom 1) ++ toBE 1 (s.sel p) ++ toBE 1 (s.rf R.LT_STATUS 31 30)))

/-- Packets that write the configuration of planes: at each plane they act on, the registers and stage copies that R430 to R433 name. -/
def Obligations.PlanePackets : Prop :=
  packetDoes .nop 0x0100 (fun _ s _ => some s) ∧
  packetDoes .tdConfig 0x0201 (fun c s p =>
    if cNum c 0 1 ≤ 1 then putRegsAll (coreOf p) [(R.TD_CFG p (cNum c 0 1), cWord c 4), (R.TD_LTC_OFS p (cNum c 0 1), cWord c 8)] s else none) ∧
  packetDoes .egSet 0x0202 (fun c s p =>
    let g := cNum c 0 1
    if g ≤ 3 then stageBlock (R.EG_STAGE_CTL p g) [(R.EG_NUM p g, cWord c 4), (R.EG_DEN p g, cWord c 8),
      (R.EG_BASE_NS_LO p g, cWord c 16), (R.EG_BASE_NS_HI p g, cWord c 12), (R.EG_ORIGIN_LO p g, cWord c 24),
      (R.EG_ORIGIN_HI p g, cWord c 20)] s else none) ∧
  packetDoes .egEnable 0x0203 (fun c s p =>
    let g := cNum c 0 1
    if g ≤ 3 ∧ cNum c 1 1 ≤ 1 then some (if cNum c 1 1 = 1 then s.egEnable p g else s.egDisable p g) else none) ∧
  packetDoes .tbConfig 0x0204 (fun c s p => putRegsAll (coreOf p) [(R.TB_CTL p, cWord c 0)] s) ∧
  packetDoes .portConfig 0x0301 (fun c s p => if cNum c 0 1 ≤ 3 ∧ s.imgLocked = false then
    stageBlock (R.PORT_STAGE_CTL p (cNum c 0 1)) [(R.PORT_CFG p (cNum c 0 1), cWord c 4)] s else none) ∧
  packetDoes .portPtp 0x0302 (fun c s p =>
    let i := cNum c 0 1
    if i ≤ 3 then putRegsAll (coreOf p) [(R.PORT_PTP_CFG p i, cWord c 4), (R.PORT_ASYM p i, cWord c 8), (R.PORT_IPV4 p i, cWord c 12)] s
    else none) ∧
  packetDoes .portRing 0x0303 (fun c s p =>
    if cNum c 0 1 ≤ 3 then putRegsAll (coreOf p) [(R.PORT_RING p (cNum c 0 1), cWord c 4)] s else none) ∧
  packetDoes .portAddr 0x0304 (fun c s p =>
    let i := cNum c 0 1
    if i ≤ 3 then putRegsAll (coreOf p) [(R.PORT_MAC_LO p i, cWord c 4), (R.PORT_MAC_HI p i, BitVec.ofNat 32 (cNum c 2 2)),
      (R.PORT_NATIVE_DA_LO p i, cWord c 10), (R.PORT_NATIVE_DA_HI p i, BitVec.ofNat 32 (cNum c 8 2)),
      (R.PORT_NATIVE_TYPE p i, BitVec.ofNat 32 (cNum c 14 2))] s else none) ∧
  packetDoes .queueConfig 0x0403 (fun c s p =>
    let q := cNum c 0 2
    let ws := (List.range 4).map fun k => (R.Q_CFG p q + 4 * k, cWord c (4 + 4 * k))
    let s1 := s.stageAll (R.Q_STAGE_CTL p q) ws
    if q ≤ 511 ∧ (ws.all fun w => fitsReg w.1 w.2) = true ∧ s.imgLocked = false ∧ s.pendingAt (R.Q_STAGE_CTL p q) = false then
      some (if cNum c 20 1 % 2 = 0 then s1.queueOff p q else if s1.qEn p q then s1 else s1.queueOn p q) else none) ∧
  packetDoes .queueFlush 0x0404 (fun c s p =>
    if cNum c 0 2 ≤ 511 then some ((s.setRb (R.Q_STATUS p (cNum c 0 2)) 31 true).flushNow p (cNum c 0 2)) else none) ∧
  packetDoes .jobCancel 0x0506 (fun c s p =>
    let n := cNum c 0 2
    let js := (List.range n).map fun i => cNum c (2 + 2 * i) 2
    if 1 ≤ n ∧ n ≤ 32 ∧ 2 + 2 * n ≤ c.ps.length ∧ (js.all fun j => decide (j ≤ 4095)) = true then
      some (js.foldl (fun u j => u.cancelJob p j) s) else none) ∧
  packetDoes .guardSet 0x0602 (fun c s p =>
    let v := BitVec.ofNat 32 (cNum c 0 2)
    if fitsReg (R.REL_GUARD p) v = true ∧ s.imgLocked = false then stageBlock (R.REL_STAGE_CTL p) [(R.REL_GUARD p, v)] s else none) ∧
  packetDoes .winConfig 0x0801 (fun c s p => if cNum c 0 1 ≤ 63 ∧ s.imgLocked = false then
    stageBlock (R.BRG_WIN_STAGE_CTL p (cNum c 0 1)) ((List.range 5).map fun k => (R.BRG_WIN_CFG p (cNum c 0 1) + 4 * k,
      cWord c (4 + 4 * k))) s else none) ∧
  packetDoes .bridgeCtl 0x0805 (fun c s p => putRegsAll (coreOf p)
    [(R.BRG_CTL p, cWord c 0), (R.BRG_RDM_UID_LO p, cWord c 6), (R.BRG_RDM_UID_HI p, BitVec.ofNat 32 (cNum c 4 2))] s)

/-- Packets that write the tables: entries that pass their rules and admission are written at each plane; the packets of this and of the
plane statement that name planes they cannot act on are refused. -/
def Obligations.TablePackets : Prop :=
  let table (typ w nmax : Nat) (c : Cmd) (s : State) (p : Plane) : Option State :=
    let n := cNum c w w
    if 1 ≤ n ∧ n ≤ nmax ∧ n * tableSize typ ≤ (c.ps.drop (2 * w)).length ∧ s.imgLocked = false then
      (s.writeTable p typ (cNum c 0 w) n (c.ps.drop (2 * w))).toOption else none
  packetDoes .ruleWrite 0x0401 (table 1 2 254) ∧ packetDoes .moveWrite 0x0501 (table 4 4 509) ∧
  packetDoes .profileWrite 0x0502 (table 5 2 254) ∧ packetDoes .mergeWrite 0x0504 (table 7 2 63) ∧
  packetDoes .jobWrite 0x0505 (table 8 2 63) ∧ packetDoes .descWrite 0x0601 (table 9 2 254) ∧
  packetDoes .mapWrite 0x0802 (table 11 2 509) ∧
  packetDoes .streamWrite 0x0402 (fun c s p =>
    let n := cNum c 0 4
    if 1 ≤ n ∧ n ≤ 407 ∧ 4 + 20 * n ≤ c.ps.length ∧ s.imgLocked = false then (s.writeStreams p n (c.ps.drop 4)).toOption else none) ∧
  packetDoes .lutWrite 0x0503 (fun c s p =>
    let n := cNum c 4 2
    if 6 + 2 * n ≤ c.ps.length ∧ s.imgLocked = false then (s.writeLut p (cNum c 0 1) (cNum c 2 2) n (c.ps.drop 6)).toOption else none) ∧
  packetRefused .nop 0x0100 ∧ packetRefused .egSet 0x0202 ∧ packetRefused .portConfig 0x0301 ∧ packetRefused .ruleWrite 0x0401 ∧
  packetRefused .jobWrite 0x0505 ∧ packetRefused .guardSet 0x0602 ∧ packetRefused .slConfig 0x0701 ∧ packetRefused .winConfig 0x0801 ∧
  packetRefused .maintStatus 0x0909

/-- Packets of the Release, Lantern and Bridge groups that act on the inputs, outputs, lines, buses and windows: they write their
registers, or are accepted and hand their programme, frame or access to the unit that completes them. What a pulse command's copy holds (log 97)
and when it completes (log 58), when WIN_WRITE replies (log 73) and what a full tracker answers (log 76) are the model's readings. -/
def Obligations.LanternPackets : Prop :=
  let done (t : Option State) : Option (State × Nat × List Byte) := t.map fun u => (u, 0, [])
  packetAnswers .captureConfig 0x0606 (fun c s p =>
    if cNum c 0 1 ≤ 7 then done (putRegsAll (coreOf p) [(R.CI_CFG (cNum c 0 1), cWord c 4)] s) else none) ∧
  packetAnswers .ltcConfig 0x0607 (fun c s p =>
    if cNum c 0 1 ≤ 1 then done (putRegsAll (coreOf p) [(R.LO_CFG (cNum c 0 1), cWord c 4)] s) else none) ∧
  packetAnswers .slConfig 0x0701 (fun c s p =>
    let n := cNum c 0 1
    if n ≤ 31 ∧ ((List.range 12).all fun k => fitsReg (R.SL_MODE n + 4 * k) (cWord c (4 + 4 * k))) = true ∧ s.imgLocked = false ∧ s.pendingAt (R.SL_STAGE_CTL n) = false then
      done (putRegsAll (coreOf p) [(R.SL_FLOW n, cWord c 44), (R.SL_STUCK n, cWord c 48)]
        (s.stageAll (R.SL_STAGE_CTL n) ((List.range 10).map fun k => (R.SL_MODE n + 4 * k, cWord c (4 + 4 * k)))))
    else none) ∧
  packetAnswers .canConfig 0x0703 (fun c s p =>
    let n := cNum c 0 1
    if n ≤ 7 ∧ ((List.range 4).all fun k => fitsReg (R.CAN_CFG n + 4 * k) (cWord c (4 + 4 * k))) = true ∧
        fitsReg (R.CAN_WARN n) (cWord c 20) = true ∧ s.imgLocked = false ∧ s.pendingAt (R.CAN_STAGE_CTL n) = false then
      done ((putRegsAll (coreOf p) [(R.CAN_WARN n, cWord c 20)] (s.stageAll (R.CAN_STAGE_CTL n)
        ((List.range 4).map fun k => (R.CAN_CFG n + 4 * k, cWord c (4 + 4 * k))))).map fun u => u.canSetEn n (cNum c 24 1 % 2 == 1))
    else none) ∧
  packetAnswers .canSchedule 0x0704 (fun c s _ =>
    let n := cNum c 0 1
    let a := cNum c 1 1
    let k := cNum c 2 1
    let b := cNum c 3 1
    let m := cNum c 4 1
    let ws := ((List.range k).flatMap fun i =>
      [(R.CAN_SLOT_START n (a + i), cWord c (8 + 8 * i)), (R.CAN_SLOT_WIN n (a + i), cWord c (12 + 8 * i))]) ++
      (List.range m).map fun i => (R.CAN_TXO_CFG n (b + i), cWord c (8 + 8 * k + 4 * i))
    if n ≤ 7 ∧ a + k ≤ 256 ∧ b + m ≤ 64 ∧ 8 + 8 * k + 4 * m ≤ c.ps.length ∧ (ws.all fun w => fitsReg w.1 w.2) = true ∧
        s.imgLocked = false ∧ s.pendingAt (R.CAN_STAGE_CTL n) = false then
      some (s.stageAll (R.CAN_STAGE_CTL n) ws, 0, [])
    else none) ∧
  packetAnswers .outputConfig 0x0706 (fun c s p =>
    let a := cNum c 4 1
    let n := cNum c 5 1
    if 1 ≤ n ∧ a + n ≤ 58 ∧ 8 + n ≤ c.ps.length then done (putRegsAll (coreOf p) ((R.LDH_CTL, cWord c 0) ::
      (List.range n).map fun i => (R.LDH_OUT_CFG (a + i), BitVec.ofNat 32 (cNum c (8 + i) 1))) s) else none) ∧
  packetGives .pulseOne 0x0603 (fun c s p ps split =>
    let n := cNum c 0 1
    let prog := toBE 4 0 ++ slice c.ps 12 4 ++ toBE 8 0
    let soon : Int := s.release p + s.rf (R.REL_CTL p) 7 0 * unitsPerUs
    let at_ := ofPt64 (s.release p) (BitVec.ofNat 64 (cNum c 4 8))
    let cmd : PulseCmd := ⟨n, max at_ soon, prog ++ toBE 8 (toPt64 (max at_ soon)).toNat, c, decide (at_ < soon)⟩
    if n ≤ 15 ∧ badProg prog = false ∧ (ps.all fun q => !s.pulseNamed q n) = true then
      let place (u : State) (q : Plane) : State := u.modPl q fun x => { x with pulses := x.pulses ++ [cmd] }
      if at_ < soon then
        some (((ps.foldl (fun (u : State) q => ((place u q).count (R.REL_COUNTERS q 6)).raiseP q 152)
          (s.accept c ps split stAccepted)).setRb (R.PO_STATUS n) 29 true).raise 88)
      else some (ps.foldl place (s.accept c ps split stAccepted))
    else none) ∧
  packetGives .pulsePeriodic 0x0604 (fun c s p ps split =>
    let n := cNum c 0 1
    let soon : Int := s.release p + s.rf (R.REL_CTL p) 7 0 * unitsPerUs
    let at_ := ofPt64 (s.release p) (BitVec.ofNat 64 (cNum c 4 8))
    if n ≤ 15 ∧ badProg (slice c.ps 12 16) = false ∧ (ps.all fun q => !s.pulseNamed q n) = true then
      some (ps.foldl (fun (u : State) q => u.modPl q fun x => { x with pulses := x.pulses ++
        [(⟨n, max at_ soon, slice c.ps 12 16 ++ toBE 8 (BitVec.ofNat 64 (cNum c 4 8)).toNat, c, false⟩ : PulseCmd)] })
        (s.accept c ps split stAccepted))
    else none) ∧
  packetGives .pulseStop 0x0605 (fun c s p ps split =>
    let n := cNum c 0 1
    let soon : Int := s.release p + s.rf (R.REL_CTL p) 7 0 * unitsPerUs
    if n ≤ 15 ∧ (ps.all fun q => !s.pulseNamed q n) = true then
      some (ps.foldl (fun (u : State) q => u.modPl q fun x => { x with pulses := x.pulses ++
        [(⟨n, max (ofPt64 (s.release p) (BitVec.ofNat 64 (cNum c 4 8))) soon, [], c, false⟩ : PulseCmd)] })
        (s.accept c ps split stAccepted))
    else none) ∧
  packetGives .slSend 0x0702 (fun c s p _ split =>
    let n := cNum c 0 1
    let len := hdrLen (cWord c 4)
    if n ≤ 31 ∧ len ≤ 4096 ∧ badHdr (cWord c 4) = false ∧ 8 + len ≤ c.ps.length ∧ (s.slS n).txRoom len = true then
      some ((s.accept c [p] split stAccepted).modSl n fun y => { y with txq := y.txq ++ [⟨cWord c 4, slice c.ps 8 len, .cmd c⟩] })
    else none) ∧
  packetGives .canSend 0x0705 (fun c s p _ split =>
    let n := cNum c 0 1
    let m := cNum c 1 1
    let fr := slice c.ps 4 (8 + cNum c 9 1)
    if n ≤ 7 ∧ m ≤ 63 ∧ 4 + fr.length ≤ c.ps.length ∧ s.txoSrc n m = 2 ∧ s.badFrame n fr = false then
      some (((s.accept c [p] split stAccepted).canHostFrame n m fr (.cmd c)).1)
    else none) ∧
  packetGives .winRead 0x0803 (fun c s _ ps split =>
    let n := cNum c 0 1
    let off := cNum c 4 4
    let len := cNum c 8 1
    if n ≤ 63 ∧ (len = 4 ∨ len = 8) ∧ off % 4 = 0 ∧ off + len ≤ 2 ^ 26 then
      some (ps.foldl (fun (u : State) q => u.coreAcc q c n off [] len) (s.hold c ps split)) else none) ∧
  packetGives .winWrite 0x0804 (fun c s _ ps split =>
    let n := cNum c 0 1
    let off := cNum c 4 4
    if n ≤ 63 ∧ off % 4 = 0 ∧ off + 4 ≤ 2 ^ 26 then
      some (ps.foldl (fun (u : State) q => u.coreAcc q c n off (toLE 4 (cNum c 8 4)) 4) (s.hold c ps split)) else none)

/-- The maintenance sequencer: a command that finds it empty is accepted, entered with its record and begun; PLANE_REJOIN by the state
of its plane; an operation's end completes its command with its record; the queue's head starts when no running operation stands against
it; a scrub's end counts the corrected words, the uncorrectable ones of the Burin memories raise EV143, and answers with both; staged firmware
is judged by the header that stands in the slot; MAINT_STATUS and IMAGE_QUERY answer at once. A FLASH_CHUNK erases its sector and programs it,
unless an operation uses a slot of the same flash. What the board's firmware and a signature are (log 51), the status of a failed write (logs 64,
85), the planes whose flashes a command reaches (log 86), the fields of a record (log 105), the order of PLANE_REJOIN's checks (log 111), what
FLASH_WRITE shows as stored (log 112) and how a scrub's counts come (log 142) are the model's choices. -/
def Obligations.MaintPackets : Prop :=
  let enter (u : State) (m : MaintOp) : State :=
    { u with maint := u.maint ++ [m] }.record 7 (srcOf u.lead) (toBE 2 (0x0901 + m.op) ++ [0, 0])
  let free (s : State) : Bool := s.maint.isEmpty && s.maintQ.isEmpty
  packetGives .scrub 0x0901 (fun c s p ps split =>
    if cNum c 0 2 ≤ 3600 ∧ free s = true ∧ s.pwrMode ≠ 1 then some (enter (s.accept c ps split stAccepted) ⟨0, c.planes, some c, [], none⟩)
    else if cNum c 0 2 ≤ 3600 ∧ ((s.maint ++ s.maintQ).any fun q => q.op == 0) = true then some (s.refuse c p stConflict)
    else none) ∧
  packetGives .linkCal 0x0905 (fun c s _ ps split =>
    if cNum c 0 1 ≤ 1 ∧ free s = true ∧ (ps.all fun q => s.calMay q (cNum c 0 1 == 1)) = true then
      let m : MaintOp := ⟨4, c.planes, some c, [], none⟩
      let u := enter (s.accept c ps split stAccepted) m
      some ((u.mntActs m).foldl (fun (t : State) q => t.calBegin q c) u)
    else none) ∧
  packetGives .timeSwitch 0x0906 (fun c s _ ps split =>
    if cNum c 0 1 ≤ 1 ∧ free s = true then
      let m : MaintOp := ⟨5, c.planes, some c, [], none⟩
      some ((enter (s.accept c ps split stAccepted) m).switchBegin m c)
    else none) ∧
  (∀ (s : State) (c : Cmd) (p q : Plane), s.nextCmd false = some c → s.cmdCore = some p → planesOf c.planes = [q] →
    s.mode ≠ 4 → free s = true → s.active (other q) = true →
    let s1 := s.taken c
    let m (op : Nat) : MaintOp := ⟨op, c.planes, some c, [], none⟩
    let u (op : Nat) : State := enter (s1.accept c [q] false stAccepted) (m op)
    (c.op.toNat = 0x0902 → s.pwrMode ≠ 1 →
      ((s.pl q).st = .held → exec (.planeRejoin c) s = .next (s.after ((s1.refuse c p stNotPermitted).drain))) ∧
      ((s.pl q).st = .off → exec (.planeRejoin c) s = .next (s.after ((s1.refuse c p stPlaneAbsent).drain))) ∧
      ((s.pl q).st = .active → exec (.planeRejoin c) s = .next (s.after ((s1.answer c [(q, stDone, [])] false).drain))) ∧
      ((s.pl q).st = .relearn ∨ (s.pl q).st = .boot ∧ (s.pl q).dead = false → exec (.planeRejoin c) s = .next (s.after
        ((if ((u 1).pl q).st = .boot ∧ ((u 1).pl q).fw.isNone = true then u 1 else (u 1).rejoinWaits q).drain)))) ∧
    (s.active q = true →
      (c.op.toNat = 0x0904 → exec (.fwSwap c) s = .next (s.after ((((u 3).frMirror.planeLost q .held (some (m 3))).setRb
        (R.AON_BOOT (planeNum q)) 31 true).drain))) ∧
      (c.op.toNat = 0x0908 → exec (.selfTest c) s = .next (s.after (((u 7).planeLost q .held (some (m 7))).drain))))) ∧
  (∀ (s : State) (c : Cmd) (ps : List Plane) (split : Bool) (bs : List Byte), s.nextCmd false = some c →
    (s.taken c).flashTargets c = .ok (ps, split) → free s = true → cNum c 0 1 = 0 →
    let u (op : Nat) : State := enter ((s.taken c).accept c ps split stAccepted) ⟨op, c.planes, some c, slice bs 0 (cNum c 4 4), none⟩
    (c.op.toNat = 0x0903 → cNum c 4 4 ≤ 7 * 2 ^ 20 → exec (.fwStage c bs) s = .next (s.after (u 2).drain)) ∧
    (c.op.toNat = 0x0907 → cNum c 1 1 ≤ 3 → cNum c 4 4 ≤ 12 * 2 ^ 20 → exec (.flashWrite c bs) s = .next (s.after (u 6).drain))) ∧
  (∀ (s : State) (c : Cmd) (q : Plane) (split : Bool), s.nextCmd false = some c → c.op.toNat = 0x0A04 →
    (s.taken c).flashTargets c = .ok ([q], split) → cNum c 0 1 = 0 → cNum c 1 1 ≤ 3 → cNum c 4 4 % 4096 = 0 → (c.ps.drop 8) ≠ [] →
    (c.ps.drop 8).length ≤ 4096 → cNum c 4 4 + (c.ps.drop 8).length ≤ 12 * 2 ^ 20 → (s.taken c).slotBusy [q] 0 (cNum c 1 1) = false →
    let a := 0x01000000 + cNum c 1 1 * 0x00C00000 + cNum c 4 4
    let w := (s.taken c).freeB
    let bad := (w.2.record 0x0E 0 (toBE 1 (planeNum q) ++ toBE 3 (a / 4096))).freeStatus
    exec (.flashChunk c) s = .next (s.after ((if w.1 then bad.2.answer c [(q, bad.1, [])] split
      else ((w.2.flashPut q (a / 4096 * 4096) (List.replicate 4096 erased)).flashPut q a (c.ps.drop 8)).answer c [(q, stDone, [])]
        split).drain))) ∧
  (∀ (s : State) (m : MaintOp) (c : Cmd) (p : Plane) (split : Bool) (a b : ScrubCnt), s.mntRun 0 = some m → m.cmd = some c →
    s.targets c = .ok ([p], split) →
    let found : ScrubCnt := match p with | .a => a | .b => b
    let s1 := (((s.addSat (R.STORE_ECC_CORR p) 31 0 found.storeFixed).modPl p fun x => x.loseBase found.applied).addSat
      (R.BU_COUNTERS p 6) 31 0 found.buFixed).addSat (R.BU_COUNTERS p 7) 31 0 found.buBad
    exec (.scrubDone a b) s = .next (s.after (((s1.raiseIf (decide (0 < found.buBad)) (evOf p 143)).part c p stDone
      (toBE 4 (min (found.storeFixed + found.buFixed) 0xFFFFFFFF) ++ toBE 4 (min (found.storeBad + found.buBad) 0xFFFFFFFF))).mntDone m
        stDone []))) ∧
  (∀ (s : State) (m : MaintOp) (c : Cmd) (split : Bool) (a b : SlotCheck), s.mntRun 2 = some m → m.cmd = some c →
    s.flashTargets c = .ok ([.a], split) → m.data ≠ [] →
    let s1 := s.flashFill .a (fwAddr (1 - s.fwActive .a)) m.data
    let h := s1.fwHeader .a (1 - s1.fwActive .a)
    let ends (st : Nat) (res : List Byte) : Prop :=
      exec (.fwStageDone a b) s = .next (s.after (((s1.part c .a st res).mntDone m st []).drain))
    h ≠ List.replicate 16 erased → a ≠ .flashErr →
      (octs h 0 4 ≠ 0x53584657 ∨ 7 * 2 ^ 20 - 512 < octs h 12 4 ∨ 3 < octs h 10 1 ∨ (∀ v k, a ≠ .good v k) → ends stBadParam []) ∧
      (octs h 0 4 = 0x53584657 → octs h 12 4 ≤ 7 * 2 ^ 20 - 512 → octs h 10 1 ≤ 3 → (∃ v k, a = .good v k) →
        ends stDone (toBE 4 (octs h 4 4)))) ∧
  (∀ (s : State) (m : MaintOp) (c : Cmd) (split okB : Bool), s.mntRun 6 = some m → m.cmd = some c →
    s.flashTargets c = .ok ([.a], split) → m.data ≠ [] →
    let at_ := slotAddr (cNum c 1 1)
    let bad := s.freeStatus.1
    let s1 := s.freeStatus.2.flashFill .a at_ m.data
    let h := s1.flashOcts .a at_ 64
    (s1.holdsActive .b = false → exec (.flashWriteDone true okB) s =
      .next (s.after (((s1.part c .a stDone (slice h 8 8 ++ slice h 24 4)).mntDone m stDone []).drain))) ∧
    exec (.flashWriteDone false okB) s = .next (s.after ((((s.freeStatus.2.record 0x0E 0 (toBE 1 0 ++ toBE 3 (at_ / 4096))).part c .a bad
      []).mntDone m (combine s.lead [(.a, bad, [])] false).1 []).drain))) ∧
  (∀ (s : State) (m : MaintOp) (v : Word), (s.maint.find? fun m => m.op == 7 && m.data.isEmpty) = some m → exec (.selfTestDone v) s =
    .next (s.after { s with maint := s.maint.map fun q => if q = m then { m with data := toBE 4 v.toNat } else q })) ∧
  (∀ (s : State) (m : MaintOp) (rest : List MaintOp), s.maintQ = m :: rest → (s.maint.all fun q => mntTable q.op m.op == 0) = true →
    let u := enter { s with maintQ := rest } m
    exec .maintQueueStart s = .next (s.after ((match u.mntWhy m with | some st => u.mntDone m st [] | none => u.mntGo m).drain))) ∧
  packetAnswers .maintStatus 0x0909 (fun _ s _ => some (s, 0, toBE 1 (s.maint.foldl (fun a m => a ||| 2 ^ m.op) 0) ++
    toBE 1 s.maintQ.length ++ (s.maint.take 4).flatMap fun m => toBE 2 (match m.cmd with | some d => d.tag.toNat | none => 0))) ∧
  packetAnswers .imageQuery 0x0A02 (fun c s p =>
    if cNum c 0 1 = 2 then some (s, 0, s.aonIdent)
    else if cNum c 0 1 = 1 ∧ cNum c 1 1 ≤ 3 then
      some (s, 0, match s.slotImage p (cNum c 1 1) with | some im => slice im 8 8 ++ slice im 24 4 | none => List.replicate 12 0)
    else none)

/-- Configuration images: a commit is taken one at a time, a check beside it; a command that is refused raises EV30. The checks' end completes a
check, refuses the image with its RESULT, or sets the apply point two boundaries off; at its apply point the image is written, recorded and
answered with its epoch; the end of writing lets held starts go on. The RESULT of a rule over the whole set (log 63), what a FULL image resets
(log 62), the apply point of blocks that follow their own boundaries (log 102), what opens at the apply point (log 118), when a disabled
generator takes its registers (log 160), and when IMAGE_APPLY acts (log 83) are the model's choices. -/
def Obligations.ImageCommands : Prop :=
  let begin_ (verify : Bool) (image : List Byte) (c : Cmd) (s : State) (p : Plane) (ps : List Plane) (split : Bool) : Option State :=
    if ¬ (cNum c 0 1 = 0 ∨ cNum c 0 1 = 1 ∧ cNum c 1 1 ≤ 3) then some ((s.answer c (ps.map fun q => (q, stBadParam, [])) split).raise 30)
    else if verify = false ∧ (s.mode = 4 ∨ s.pwrMode = 1) then some (s.refuse c p stNotPermitted)
    else if verify = false ∧ (s.img ≠ none ∨ ∃ i ∈ s.checks, i.verify = false) then some (s.refuse c p stConflict)
    else some { s.accept c ps split stAccepted with
      checks := s.checks ++ [⟨c, if cNum c 0 1 = 1 then (s.slotImage p (cNum c 1 1)).getD [] else image, verify, none, false⟩] }
  (∀ image, packetGives (fun c => .imageCommit c image) 0x0A01 (begin_ false image)) ∧
  (∀ image, packetGives (fun c => .imageVerify c image) 0x0A03 (begin_ true image)) ∧
  (∀ (s : State) (c : Cmd) (by_ : Plane) (st : Nat), c.op.toNat = 0x0A01 ∨ c.op.toNat = 0x0A03 →
    s.refuse c by_ st = (s.sendReply c by_ st 0 [] true true).raise 30) ∧
  (∀ (s0 : State) (i : ImgS) (rest : List ImgS) (p q : Plane), s0.checks = i :: rest →
    let s := { s0 with checks := rest }
    s.imgPlanes i.cmd = [q] → s.cmdCore = some p → i.image ≠ [] →
    let g := imgCanvas i.image
    let next := ((s.pl p).egS g).next
    let named := cNum i.cmd 16 8
    (∀ st res, s.judgeImage q i.image = some (st, res) → st ≠ stDone → exec .imageCheckDone s0 = .next (s0.after
      ((((s.raiseIf (st == stOverBudget) (evOf q 149)).part i.cmd q st res).raise 30).drain))) ∧
    (s.judgeImage q i.image = none → i.verify = true →
      exec .imageCheckDone s0 = .next (s0.after ((s.complete i.cmd stDone []).drain))) ∧
    (s.judgeImage q i.image = none → i.verify = false → s.egEn p g = true → ((s.pl p).egS g).live = true →
      exec .imageCheckDone s0 = .next (s0.after { s with
        img := some { i with applyAt := some (max named (next + 2)), late := decide (named ≠ 0) && decide (named < next) } }.drain)) ∧
    (s.judgeImage q i.image = none → i.verify = false → s.egEn p g = false → exec .imageCheckDone s0 = .next (s0.after { s with
        img := some { i with applyAt := none, late := false } }.drain))) ∧
  (∀ (s : State) (i : ImgS) (p q : Plane) (k : Nat), s.img = some i → s.imgPlanes i.cmd = [q] →
    s.cmdCore = some p → i.applyAt = some k → (s.pl q).relearn = none →
    let im := i.image
    let next := ((s.pl p).egS (imgCanvas im)).next
    let s1 := (((s.writeImage q im).writeImgRegs im (some q)).applyIdle q).writeRing im
    let s2 := ((s1.recordImage im (cmdSlot i.cmd)).bootImage.record 8 1 (toBE 4 (imgCrc im))).raise 29
    (k ≤ next → exec .imageApply s = .next (s.after ((State.complete { s2 with
      img := none
      imgPause := imgFull im || s2.imgPause
      imgBuf := !imgFull im || s2.imgBuf } i.cmd stDone (toBE 8 k ++ toBE 1 i.late.toNat)).drain))) ∧
    (next < k → s.egEn p (imgCanvas im) = true → ((s.pl p).egS (imgCanvas im)).live = true →
      exec .imageApply s = .next (s.after s.drain))) ∧
  (∀ s : State, exec .imageWriteDone s = .next (s.after { s with imgPause := false, imgBuf := false }))

/-- The Snuffer path: a command acts at once, shows itself in the count, SNF_LAST, the time, the recorder and the event, keeps its
state in AON, and is answered with the planes that are active; a timed one waits until its time; parameters out of range and more
streams than the limit are refused. That a timed command owes two replies (log 84), what ABRUPT and SAFE_STATE do to an output set up to repeat
(log 87), ORIGIN of a command of the host (log 88), when a command timed by epoch acts (log 114) and which copies count (log 125) are the model's
choices. -/
def Obligations.SnufferPackets : Prop :=
  let origin (u : State) (c : Cmd) : Nat := match c.src with | .hostQ _ => u.sourceNum | .ring _ o _ _ => o.toNat
  let shown (u : State) (c : Cmd) (x : SnfS) : State :=
    let ring : Bool := match c.src with | .hostQ _ => false | .ring .. => true
    (((({ u with snf := x, snfAon := x }.count R.SNF_ACTS).setReg R.SNF_LAST
      (pack [(c.op.toNat % 256, 24), (ring.toNat, 22), (origin u c, 0)])).setReg64 R.SNF_LAST_TIME_LO (u.lantern / 16)).record 6 1
      (toBE 2 c.op.toNat ++ toBE 2 (origin u c))).raise 26
  let reply (first : Bool) (u : State) (c : Cmd) (t : State) : State :=
    t.sendReply c u.lead stDone ((u.active .a).toNat * 64 + (u.active .b).toNat * 32) [] first true
  let outs (u : State) (c : Cmd) (t : State) : State :=
    ((List.range 58).filter fun n => snfOuts c / 2 ^ n % 2 == 1 && (c.op == 0x0F05 || decide (n < 40))).foldl
      (fun (t : State) n => t.snfOut c u.snf n) t
  let acts (u : State) (c : Cmd) (x : SnfS) : State :=
    let t := shown u c x
    if c.op.toNat = 0x0F02 then (bothPlanes.filter fun p => (u.pl p).runsJobs).foldl State.holdPlane t
    else if c.op.toNat = 0x0F01 ∨ c.op.toNat = 0x0F05 then outs u c t
    else t
  let act (i : Cmd → Instr) (op : Nat) (f : SnfS → Cmd → Option SnfS) : Prop :=
    ∀ (s : State) (c : Cmd) (x : SnfS), c.op.toNat = op → s.nextCmd true = some c → snfBad c = false →
      c.timed = false ∨ (s.taken c).snfDue c = true → f s.snf c = some x →
      exec (i c) s = .next (s.after ((reply true (s.taken c) c (acts (s.taken c) c x)).drain))
  act .blackout 0x0F01 (fun x c => some { x with
    black := x.black ||| (BitVec.ofNat 58 (cNum c 0 8) &&& BitVec.ofNat 58 (2 ^ 40 - 1))
    pBlack := x.pBlack ||| BitVec.ofNat 4 (cNum c 8 1) }) ∧
  act .hold 0x0F02 (fun x _ => some { x with hold := true, holdEnds := false }) ∧
  act .stopStream 0x0F03 (fun x c =>
    let l := addStreams x.stopped ((List.range (cNum c 12 1)).map fun i => BitVec.ofNat 24 (cNum c (16 + 4 * i) 4))
    if l.length ≤ 256 then some { x with stopped := l } else none) ∧
  act .resume 0x0F04 (fun x c =>
    let o := BitVec.ofNat 58 (cNum c 0 8)
    let p := BitVec.ofNat 4 (cNum c 8 1)
    let w := cNum c 9 1
    let named := (List.range (cNum c 12 1)).map fun i => BitVec.ofNat 24 (cNum c (16 + 4 * i) 4)
    some { x with
      black := if w % 2 = 1 then x.black &&& ~~~o else x.black
      pBlack := if w % 2 = 1 then x.pBlack &&& ~~~p else x.pBlack
      safe := if w / 2 % 2 = 1 then x.safe &&& ~~~o else x.safe
      pSafe := if w / 2 % 2 = 1 then x.pSafe &&& ~~~p else x.pSafe
      holdEnds := x.holdEnds || (w / 4 % 2 == 1 && x.hold)
      stopped := if w / 16 % 2 = 1 then [] else if w / 8 % 2 = 1 then x.stopped.filter fun st => !named.contains st else x.stopped }) ∧
  act .safeState 0x0F05 (fun x c => some { x with
    safe := x.safe ||| BitVec.ofNat 58 (cNum c 0 8)
    pSafe := x.pSafe ||| BitVec.ofNat 4 (cNum c 8 1) }) ∧
  (∀ (s : State) (c : Cmd), c.op.toNat = 0x0F01 → s.nextCmd true = some c →
    let s1 := s.taken c
    (snfBad c = true → exec (.blackout c) s = .next (s.after ((s1.refuse c s1.lead stBadParam).drain))) ∧
    (snfBad c = false → c.timed = true → s1.snfDue c = false → s1.snfTimed.length < 64 → exec (.blackout c) s = .next (s.after
      ({ s1.sendReply c s1.lead stAccepted 0 [] true false with snfTimed := s1.snfTimed ++ [c] }.drain)))) ∧
  (∀ (s : State) (c : Cmd), c.op.toNat = 0x0F03 → s.nextCmd true = some c → snfBad c = false → c.timed = false →
    256 < (addStreams s.snf.stopped ((List.range (cNum c 12 1)).map fun i => BitVec.ofNat 24 (cNum c (16 + 4 * i) 4))).length →
    exec (.stopStream c) s = .next (s.after (((s.taken c).refuse c (s.taken c).lead stNoResource).drain))) ∧
  (∀ (s : State) (c : Cmd), s.snfTimed.find? s.snfDue = some c → c.op.toNat = 0x0F02 →
    let s1 := { s with snfTimed := s.snfTimed.erase c }
    exec .snufferTimedAct s = .next (s.after ((reply false s1 c (acts s1 c { s1.snf with hold := true, holdEnds := false })).drain)))
end

