-- ==== Sys2Proof/Laws/Bits.lean ====
section
/-!
SUPPORT. Laws of bit fields: which bits a field write changes, and what a field reads afterwards.
-/
namespace Sys2Proof

/-- A number by a field: above it, the field, below it. -/
theorem nfld_split (n hi lo : Nat) (h : lo ≤ hi) :
    n = 2 ^ lo * (2 ^ (hi + 1 - lo) * (n / 2 ^ (hi + 1)) + nfld n hi lo) + n % 2 ^ lo := by
  have h1 : n / 2 ^ (hi + 1) = n / 2 ^ lo / 2 ^ (hi + 1 - lo) := by
    rw [Nat.div_div_eq_div_mul, ← Nat.pow_add]; congr 2; omega
  have h2 := Nat.div_add_mod n (2 ^ lo)
  have h3 := Nat.div_add_mod (n / 2 ^ lo) (2 ^ (hi + 1 - lo))
  unfold nfld
  rw [h1, h3, h2]

/-- What `setFld` computes, by the parts of the word. -/
theorem setFld_eq (w : Word) (hi lo v : Nat) (h : lo ≤ hi) :
    setFld w hi lo v =
      BitVec.ofNat 32 (2 ^ lo * (2 ^ (hi + 1 - lo) * (w.toNat / 2 ^ (hi + 1)) + v % 2 ^ (hi + 1 - lo)) + w.toNat % 2 ^ lo) := by
  have hs := nfld_split w.toNat hi lo h
  unfold setFld
  congr 1
  generalize w.toNat / 2 ^ (hi + 1) = a at *
  generalize w.toNat % 2 ^ lo = b at *
  generalize nfld w.toNat hi lo = f at *
  generalize v % 2 ^ (hi + 1 - lo) = g at *
  rw [hs, Nat.mul_comm f, Nat.mul_comm g, Nat.mul_add, Nat.mul_add]
  omega

/-- A field write changes the field's bits alone. -/
theorem bit_setFld (w : Word) (hi lo v i : Nat) (h : lo ≤ hi) (hh : hi < 32) :
    bit (setFld w hi lo v) i = if lo ≤ i ∧ i ≤ hi then v.testBit (i - lo) else bit w i := by
  have hb : w.toNat % 2 ^ lo < 2 ^ lo := Nat.mod_lt _ (Nat.two_pow_pos _)
  have hv : v % 2 ^ (hi + 1 - lo) < 2 ^ (hi + 1 - lo) := Nat.mod_lt _ (Nat.two_pow_pos _)
  simp only [bit, setFld_eq w hi lo v h, BitVec.getLsbD_ofNat, Nat.testBit_two_pow_mul_add _ hb, Nat.testBit_two_pow_mul_add _ hv]
  by_cases h1 : i < lo
  · have : ¬ (lo ≤ i ∧ i ≤ hi) := by omega
    have h32 : i < 32 := by omega
    simp [h1, this, h32, Nat.testBit_mod_two_pow, BitVec.getLsbD]
  · by_cases h2 : i ≤ hi
    · have h3 : i - lo < hi + 1 - lo := by omega
      have h32 : i < 32 := by omega
      have h4 : lo ≤ i := by omega
      simp [h1, h2, h3, h4, h32, Nat.testBit_mod_two_pow]
    · have h3 : ¬ i - lo < hi + 1 - lo := by omega
      by_cases h32 : i < 32
      · have h5 : i - lo - (hi + 1 - lo) + (hi + 1) = i := by omega
        simp only [h1, h2, h3, h32, and_false, if_false, decide_true, Bool.true_and]
        rw [Nat.testBit_div_two_pow, h5]; rfl
      · simp [h2, h32, BitVec.getLsbD_of_ge w i (by omega)]

theorem bit_setBit_same (w : Word) (i : Nat) (b : Bool) (h : i < 32) : bit (setBit w i b) i = b := by
  rw [setBit, bit_setFld _ _ _ _ _ (le_refl i) h]
  cases b <;> simp

theorem bit_setBit_ne (w : Word) {i j : Nat} (b : Bool) (h : i < 32) (hj : j ≠ i) : bit (setBit w i b) j = bit w j := by
  rw [setBit, bit_setFld _ _ _ _ _ (le_refl i) h, if_neg]
  omega

/-- A field reads what was written to it, modulo its width. -/
theorem fld_setFld_same (w : Word) (hi lo v : Nat) (h : lo ≤ hi) (hh : hi < 32) : fld (setFld w hi lo v) hi lo = v % 2 ^ (hi + 1 - lo) := by
  have hb : w.toNat % 2 ^ lo < 2 ^ lo := Nat.mod_lt _ (Nat.two_pow_pos _)
  have hv : v % 2 ^ (hi + 1 - lo) < 2 ^ (hi + 1 - lo) := Nat.mod_lt _ (Nat.two_pow_pos _)
  rw [setFld_eq w hi lo v h]
  apply Nat.eq_of_testBit_eq
  intro i
  simp only [fld, nfld, Nat.testBit_mod_two_pow, Nat.testBit_div_two_pow, BitVec.toNat_ofNat, Nat.testBit_two_pow_mul_add _ hb,
    Nat.testBit_two_pow_mul_add _ hv]
  by_cases h3 : i < hi + 1 - lo
  · have h4 : i + lo < 32 := by omega
    simp [h3, h4]
  · simp [h3]

/-- A word whose every bit is another's is that word. -/
theorem eq_of_bits {v w : Word} (h : ∀ i, i < 32 → bit v i = bit w i) : v = w := BitVec.eq_of_getLsbD_eq fun i hi => h i hi

end Sys2Proof
end

