-- ==== Sys2Proof/Laws/Octets.lean ====
section
/-!
SUPPORT. Laws of octets in network order: lengths, and that a field written at its place is read back.
-/
namespace Sys2Proof

@[simp] theorem toBE_length (n x : Nat) : (toBE n x).length = n := by induction n <;> simp [toBE, *]
@[simp] theorem toLE_length (n x : Nat) : (toLE n x).length = n := by induction n generalizing x <;> simp [toLE, *]
@[simp] theorem slice_length (bs : List Byte) (i n : Nat) : (slice bs i n).length = n := by
  simp only [slice, List.length_append, List.length_take, List.length_replicate]; omega

/-- The value of octets as a fold from any start. -/
theorem beNat_fold (bs : List Byte) (a : Nat) : bs.foldl (fun a b => a * 256 + b.toNat) a = a * 256 ^ bs.length + beNat bs := by
  induction bs generalizing a with
  | nil => simp [beNat]
  | cons b bs ih =>
    simp only [List.foldl_cons, beNat, List.length_cons]
    rw [ih, ih (0 * 256 + b.toNat)]
    ring

theorem beNat_toBE (n x : Nat) : beNat (toBE n x) = x % 256 ^ n := by
  induction n with
  | zero => simp [toBE, beNat, Nat.mod_one]
  | succ n ih =>
    simp only [toBE, beNat, List.foldl_cons]
    rw [beNat_fold, ih, toBE_length, Nat.pow_succ, Nat.mod_mul]
    simp only [BitVec.toNat_ofNat, show 2 ^ 8 = 256 from rfl, Nat.zero_mul, Nat.zero_add]
    rw [Nat.mul_comm, Nat.add_comm]

/-- What stands at its place is what is read there. -/
theorem slice_at (a b c : List Byte) : slice (a ++ (b ++ c)) a.length b.length = b := by simp [slice]

theorem octs_at {a c : List Byte} {i n x : Nat} (hi : a.length = i) (hx : x < 256 ^ n) : octs (a ++ (toBE n x ++ c)) i n = x := by
  have h := slice_at a (toBE n x) c
  rw [hi, toBE_length] at h
  rw [octs, h, beNat_toBE, Nat.mod_eq_of_lt hx]

end Sys2Proof
end

