-- ==== Sys2Proof/Laws/Tab.lean ====
section
/-!
SUPPORT. Laws of sparse tables: what is read after a write or an erasure, and that every operation keeps the canonical form.
-/
namespace Sys2Proof.Tab

variable {α : Type}

@[simp] theorem get_nil (d : α) (k : Nat) : Tab.get d k [] = d := rfl

theorem get_cons (d : α) (k k' : Nat) (v : α) (t : Tab α) :
    Tab.get d k ((k', v) :: t) = if k' = k then v else Tab.get d k t := rfl

@[simp] theorem get_erase_same (d : α) (k : Nat) (t : Tab α) : Tab.get d k (Tab.erase k t) = d := by
  induction t with
  | nil => rfl
  | cons e t ih =>
    obtain ⟨k', v⟩ := e
    by_cases h : k' = k <;> simp [Tab.erase, get_cons, h, ih]

theorem get_erase_ne (d : α) {k j : Nat} (h : j ≠ k) (t : Tab α) : Tab.get d j (Tab.erase k t) = Tab.get d j t := by
  induction t with
  | nil => rfl
  | cons e t ih =>
    obtain ⟨k', v⟩ := e
    by_cases hk : k' = k
    · subst hk
      simp [Tab.erase, get_cons, ih, h.symm]
    · simp only [Tab.erase, hk, if_false, get_cons, ih]

@[simp] theorem get_set_same [DecidableEq α] (d : α) (k : Nat) (v : α) (t : Tab α) : Tab.get d k (Tab.set d k v t) = v := by
  induction t with
  | nil => by_cases h : v = d <;> simp [Tab.set, get_cons, h]
  | cons e t ih =>
    obtain ⟨k', v'⟩ := e
    by_cases hk : k' = k
    · by_cases h : v = d <;> simp [Tab.set, get_cons, hk, h]
    · by_cases hl : k < k'
      · by_cases h : v = d <;> simp [Tab.set, get_cons, hk, hl, h]
      · simp [Tab.set, get_cons, hk, hl, ih]

theorem get_set_ne [DecidableEq α] (d d' : α) {k j : Nat} (hj : j ≠ k) (v : α) (t : Tab α) :
    Tab.get d' j (Tab.set d k v t) = Tab.get d' j t := by
  induction t with
  | nil => by_cases h : v = d <;> simp [Tab.set, get_cons, h, hj.symm]
  | cons e t ih =>
    obtain ⟨k', v'⟩ := e
    by_cases hk : k' = k
    · subst hk
      by_cases h : v = d <;> simp [Tab.set, get_cons, h, hj.symm, get_erase_ne d' hj]
    · by_cases hl : k < k'
      · by_cases h : v = d <;> simp [Tab.set, get_cons, hk, hl, h, hj.symm, get_erase_ne d' hj]
      · simp [Tab.set, get_cons, hk, hl, ih]

@[simp] theorem find_put_same (k : Nat) (v : α) (t : Tab α) : Tab.find k (Tab.put k v t) = some v := by
  induction t with
  | nil => simp [Tab.put, Tab.find]
  | cons e t ih =>
    obtain ⟨k', v'⟩ := e
    by_cases hk : k' = k
    · simp [Tab.put, Tab.find, hk]
    · by_cases hl : k < k' <;> simp [Tab.put, Tab.find, hk, hl, ih]

theorem mem_erase {k : Nat} {e : Nat × α} {t : Tab α} : e ∈ Tab.erase k t ↔ e ∈ t ∧ e.1 ≠ k := by
  induction t with
  | nil => simp [Tab.erase]
  | cons f t ih =>
    obtain ⟨k', v⟩ := f
    by_cases hk : k' = k
    · subst hk
      simp only [Tab.erase, if_true, ih, List.mem_cons]
      constructor
      · rintro ⟨h, hn⟩; exact ⟨.inr h, hn⟩
      · rintro ⟨rfl | h, hn⟩
        · exact absurd rfl hn
        · exact ⟨h, hn⟩
    · simp only [Tab.erase, hk, if_false, List.mem_cons, ih]
      constructor
      · rintro (rfl | ⟨h, hn⟩)
        · exact ⟨.inl rfl, hk⟩
        · exact ⟨.inr h, hn⟩
      · rintro ⟨rfl | h, hn⟩
        · exact .inl rfl
        · exact .inr ⟨h, hn⟩

theorem mem_keep {q : Nat → Bool} {e : Nat × α} {t : Tab α} : e ∈ Tab.keep q t ↔ e ∈ t ∧ q e.1 = true := by
  induction t with
  | nil => simp [Tab.keep]
  | cons f t ih =>
    obtain ⟨k', v⟩ := f
    by_cases hq : q k' = true
    · simp only [Tab.keep, hq, if_true, List.mem_cons, ih]
      constructor
      · rintro (rfl | ⟨h, hn⟩)
        · exact ⟨.inl rfl, hq⟩
        · exact ⟨.inr h, hn⟩
      · rintro ⟨rfl | h, hn⟩
        · exact .inl rfl
        · exact .inr ⟨h, hn⟩
    · simp only [Tab.keep, hq, Bool.false_eq_true, if_false, List.mem_cons, ih]
      constructor
      · rintro ⟨h, hn⟩; exact ⟨.inr h, hn⟩
      · rintro ⟨rfl | h, hn⟩
        · exact absurd hn hq
        · exact ⟨h, hn⟩

/-- Every entry that a write leaves is the one written or was there before. -/
theorem mem_set [DecidableEq α] {d : α} {k : Nat} {v : α} {e : Nat × α} {t : Tab α} (h : e ∈ Tab.set d k v t) :
    (e = (k, v) ∧ v ≠ d) ∨ e ∈ t := by
  induction t with
  | nil => by_cases hv : v = d <;> simp_all [Tab.set]
  | cons f t ih =>
    obtain ⟨k', v'⟩ := f
    by_cases hk : k' = k
    · by_cases hv : v = d
      · simp only [Tab.set, hk, hv, if_true] at h
        exact .inr (List.mem_cons_of_mem _ (mem_erase.1 h).1)
      · simp only [Tab.set, hk, hv, if_true, if_false, List.mem_cons] at h
        rcases h with h | h
        · exact .inl ⟨h, hv⟩
        · exact .inr (List.mem_cons_of_mem _ h)
    · by_cases hl : k < k'
      · by_cases hv : v = d
        · simp only [Tab.set, hk, hl, hv, if_true, if_false, List.mem_cons] at h
          rcases h with h | h
          · exact .inr (by simp [h])
          · exact .inr (List.mem_cons_of_mem _ (mem_erase.1 h).1)
        · simp only [Tab.set, hk, hl, hv, if_true, if_false, List.mem_cons] at h
          rcases h with h | h | h
          · exact .inl ⟨h, hv⟩
          · exact .inr (by simp [h])
          · exact .inr (List.mem_cons_of_mem _ h)
      · simp only [Tab.set, hk, hl, if_false, List.mem_cons] at h
        rcases h with h | h
        · exact .inr (by simp [h])
        · exact (ih h).imp id (List.mem_cons_of_mem _)

/-- Keys strictly rising, as a property of the entries. -/
theorem sorted_cons {k : Nat} {v : α} {t : Tab α} : Tab.sorted ((k, v) :: t) ↔ (∀ e ∈ t, k < e.1) ∧ t.sorted := by
  simp [Tab.sorted, List.pairwise_cons]

theorem erase_sorted {k : Nat} {t : Tab α} (h : t.sorted) : (Tab.erase k t).sorted := by
  induction t with
  | nil => exact h
  | cons e t ih =>
    obtain ⟨k', v⟩ := e
    obtain ⟨hm, ht⟩ := sorted_cons.1 h
    by_cases hk : k' = k
    · simp only [Tab.erase, hk, if_true]; exact ih ht
    · simp only [Tab.erase, hk, if_false]
      exact sorted_cons.2 ⟨fun e he => hm e (mem_erase.1 he).1, ih ht⟩

theorem keep_sorted {q : Nat → Bool} {t : Tab α} (h : t.sorted) : (Tab.keep q t).sorted := by
  induction t with
  | nil => exact h
  | cons e t ih =>
    obtain ⟨k', v⟩ := e
    obtain ⟨hm, ht⟩ := sorted_cons.1 h
    by_cases hq : q k' = true
    · simp only [Tab.keep, hq, if_true]
      exact sorted_cons.2 ⟨fun e he => hm e (mem_keep.1 he).1, ih ht⟩
    · simp only [Tab.keep, hq]; exact ih ht

theorem set_sorted [DecidableEq α] {d : α} {k : Nat} {v : α} {t : Tab α} (h : t.sorted) : (Tab.set d k v t).sorted := by
  induction t with
  | nil => by_cases hv : v = d <;> simp [Tab.set, hv, Tab.sorted]
  | cons e t ih =>
    obtain ⟨k', v'⟩ := e
    obtain ⟨hm, ht⟩ := sorted_cons.1 h
    by_cases hk : k' = k
    · by_cases hv : v = d
      · simp only [Tab.set, hk, hv, if_true]; exact erase_sorted ht
      · simp only [Tab.set, hk, hv, if_true, if_false]
        exact sorted_cons.2 ⟨hk ▸ hm, ht⟩
    · by_cases hl : k < k'
      · by_cases hv : v = d
        · simp only [Tab.set, hk, hl, hv, if_true, if_false]
          exact sorted_cons.2 ⟨fun e he => hm e (mem_erase.1 he).1, erase_sorted ht⟩
        · simp only [Tab.set, hk, hl, hv, if_true, if_false]
          refine sorted_cons.2 ⟨?_, h⟩
          simp only [List.mem_cons]
          rintro e (rfl | he)
          · exact hl
          · exact hl.trans (hm e he)
      · simp only [Tab.set, hk, hl, if_false]
        refine sorted_cons.2 ⟨fun e he => ?_, ih ht⟩
        rcases mem_set he with ⟨rfl, -⟩ | he
        · simp only; omega
        · exact hm e he

/-- A write with its key's own default keeps the canonical form. -/
theorem set_wf [DecidableEq α] {d : Nat → α} {k : Nat} {v : α} {t : Tab α} (h : t.wf d) : (Tab.set (d k) k v t).wf d :=
  ⟨set_sorted h.1, fun e he => by
    rcases mem_set he with ⟨rfl, hv⟩ | he
    · exact hv
    · exact h.2 e he⟩

theorem erase_wf [DecidableEq α] {d : Nat → α} {k : Nat} {t : Tab α} (h : t.wf d) : (Tab.erase k t).wf d :=
  ⟨erase_sorted h.1, fun e he => h.2 e (mem_erase.1 he).1⟩

theorem keep_wf [DecidableEq α] {d : Nat → α} {q : Nat → Bool} {t : Tab α} (h : t.wf d) : (Tab.keep q t).wf d :=
  ⟨keep_sorted h.1, fun e he => h.2 e (mem_keep.1 he).1⟩

/-- Below its first key a canonical table reads as the default, and an erasure there changes nothing. -/
theorem below {d : α} {k : Nat} {t : Tab α} (h : ∀ e ∈ t, k < e.1) : Tab.get d k t = d ∧ Tab.erase k t = t := by
  induction t with
  | nil => exact ⟨rfl, rfl⟩
  | cons e t ih =>
    have hk := h e (by simp)
    obtain ⟨h1, h2⟩ := ih fun e he => h e (List.mem_cons_of_mem _ he)
    have hn : ¬ e.1 = k := by omega
    exact ⟨by rw [show e = (e.1, e.2) from rfl, get_cons, if_neg hn, h1], by
      rw [show e = (e.1, e.2) from rfl, Tab.erase, if_neg hn, h2]⟩

/-- Writing what stands there changes nothing. -/
theorem set_get_self [DecidableEq α] {d : Nat → α} {k : Nat} {t : Tab α} (h : Tab.wf d t) :
    Tab.set (d k) k (Tab.get (d k) k t) t = t := by
  induction t with
  | nil => simp [Tab.set]
  | cons e t ih =>
    obtain ⟨k', v⟩ := e
    obtain ⟨hs, hd⟩ := h
    obtain ⟨hm, ht⟩ := sorted_cons.1 hs
    by_cases hk : k' = k
    · subst hk
      have hv := hd (k', v) (by simp)
      simp [Tab.set, get_cons, hv]
    · by_cases hl : k < k'
      · obtain ⟨h1, h2⟩ := below (d := d k) fun e he => hl.trans (hm e he)
        simp [Tab.set, get_cons, hk, hl, h1, h2]
      · simp [Tab.set, get_cons, hk, hl, ih ⟨ht, fun e he => hd e (List.mem_cons_of_mem _ he)⟩]

theorem nil_wf [DecidableEq α] (d : Nat → α) : Tab.wf d ([] : Tab α) := ⟨List.Pairwise.nil, fun _ h => by cases h⟩

end Sys2Proof.Tab
end

