-- ==== Sys2Proof/Laws/State.lean ====
section
/-!
SUPPORT. What each update of a part of the state leaves of every field, and what is read of registers and planes after a write.
-/
namespace Sys2Proof.Machine

@[simp] theorem State.setReg_pending (s : State) (off : Nat) (v : Word) : (s.setReg off v).pending = s.pending := rfl
@[simp] theorem State.setReg_freeCtr (s : State) (off : Nat) (v : Word) : (s.setReg off v).freeCtr = s.freeCtr := rfl
@[simp] theorem State.setReg_out (s : State) (off : Nat) (v : Word) : (s.setReg off v).out = s.out := rfl
@[simp] theorem State.setReg_stage (s : State) (off : Nat) (v : Word) : (s.setReg off v).stage = s.stage := rfl
@[simp] theorem State.setReg_snap (s : State) (off : Nat) (v : Word) : (s.setReg off v).snap = s.snap := rfl
@[simp] theorem State.setReg_hiLatch (s : State) (off : Nat) (v : Word) : (s.setReg off v).hiLatch = s.hiLatch := rfl
@[simp] theorem State.setReg_loHeld (s : State) (off : Nat) (v : Word) : (s.setReg off v).loHeld = s.loHeld := rfl
@[simp] theorem State.setReg_aonOn (s : State) (off : Nat) (v : Word) : (s.setReg off v).aonOn = s.aonOn := rfl
@[simp] theorem State.setReg_pinPow (s : State) (off : Nat) (v : Word) : (s.setReg off v).pinPow = s.pinPow := rfl
@[simp] theorem State.setReg_pinOn (s : State) (off : Nat) (v : Word) : (s.setReg off v).pinOn = s.pinOn := rfl
@[simp] theorem State.setReg_qsUp (s : State) (off : Nat) (v : Word) : (s.setReg off v).qsUp = s.qsUp := rfl
@[simp] theorem State.setReg_rstLow (s : State) (off : Nat) (v : Word) : (s.setReg off v).rstLow = s.rstLow := rfl
@[simp] theorem State.setReg_crystal (s : State) (off : Nat) (v : Word) : (s.setReg off v).crystal = s.crystal := rfl
@[simp] theorem State.setReg_tickFrac (s : State) (off : Nat) (v : Word) : (s.setReg off v).tickFrac = s.tickFrac := rfl
@[simp] theorem State.setReg_feedA (s : State) (off : Nat) (v : Word) : (s.setReg off v).feedA = s.feedA := rfl
@[simp] theorem State.setReg_feedB (s : State) (off : Nat) (v : Word) : (s.setReg off v).feedB = s.feedB := rfl
@[simp] theorem State.setReg_taperUp (s : State) (off : Nat) (v : Word) : (s.setReg off v).taperUp = s.taperUp := rfl
@[simp] theorem State.setReg_link (s : State) (off : Nat) (v : Word) : (s.setReg off v).link = s.link := rfl
@[simp] theorem State.setReg_digMm (s : State) (off : Nat) (v : Word) : (s.setReg off v).digMm = s.digMm := rfl
@[simp] theorem State.setReg_lead (s : State) (off : Nat) (v : Word) : (s.setReg off v).lead = s.lead := rfl
@[simp] theorem State.setReg_pA (s : State) (off : Nat) (v : Word) : (s.setReg off v).pA = s.pA := rfl
@[simp] theorem State.setReg_pB (s : State) (off : Nat) (v : Word) : (s.setReg off v).pB = s.pB := rfl
@[simp] theorem State.setReg_lt (s : State) (off : Nat) (v : Word) : (s.setReg off v).lt = s.lt := rfl
@[simp] theorem State.setReg_ltStep (s : State) (off : Nat) (v : Word) : (s.setReg off v).ltStep = s.ltStep := rfl
@[simp] theorem State.setReg_ltPhase (s : State) (off : Nat) (v : Word) : (s.setReg off v).ltPhase = s.ltPhase := rfl
@[simp] theorem State.setReg_ltRef (s : State) (off : Nat) (v : Word) : (s.setReg off v).ltRef = s.ltRef := rfl
@[simp] theorem State.setReg_mirror (s : State) (off : Nat) (v : Word) : (s.setReg off v).mirror = s.mirror := rfl
@[simp] theorem State.setReg_outs (s : State) (off : Nat) (v : Word) : (s.setReg off v).outs = s.outs := rfl
@[simp] theorem State.setReg_pulseIx (s : State) (off : Nat) (v : Word) : (s.setReg off v).pulseIx = s.pulseIx := rfl
@[simp] theorem State.setReg_po (s : State) (off : Nat) (v : Word) : (s.setReg off v).po = s.po := rfl
@[simp] theorem State.setReg_ci (s : State) (off : Nat) (v : Word) : (s.setReg off v).ci = s.ci := rfl
@[simp] theorem State.setReg_li (s : State) (off : Nat) (v : Word) : (s.setReg off v).li = s.li := rfl
@[simp] theorem State.setReg_lanIn (s : State) (off : Nat) (v : Word) : (s.setReg off v).lanIn = s.lanIn := rfl
@[simp] theorem State.setReg_lo (s : State) (off : Nat) (v : Word) : (s.setReg off v).lo = s.lo := rfl
@[simp] theorem State.setReg_sl (s : State) (off : Nat) (v : Word) : (s.setReg off v).sl = s.sl := rfl
@[simp] theorem State.setReg_can (s : State) (off : Nat) (v : Word) : (s.setReg off v).can = s.can := rfl
@[simp] theorem State.setReg_evHold (s : State) (off : Nat) (v : Word) : (s.setReg off v).evHold = s.evHold := rfl
@[simp] theorem State.setReg_vecMask (s : State) (off : Nat) (v : Word) : (s.setReg off v).vecMask = s.vecMask := rfl
@[simp] theorem State.setReg_msixTab (s : State) (off : Nat) (v : Word) : (s.setReg off v).msixTab = s.msixTab := rfl
@[simp] theorem State.setReg_msixEn (s : State) (off : Nat) (v : Word) : (s.setReg off v).msixEn = s.msixEn := rfl
@[simp] theorem State.setReg_funcMask (s : State) (off : Nat) (v : Word) : (s.setReg off v).funcMask = s.funcMask := rfl
@[simp] theorem State.setReg_pba (s : State) (off : Nat) (v : Word) : (s.setReg off v).pba = s.pba := rfl
@[simp] theorem State.setReg_fr (s : State) (off : Nat) (v : Word) : (s.setReg off v).fr = s.fr := rfl
@[simp] theorem State.setReg_frDone (s : State) (off : Nat) (v : Word) : (s.setReg off v).frDone = s.frDone := rfl
@[simp] theorem State.setReg_frNow (s : State) (off : Nat) (v : Word) : (s.setReg off v).frNow = s.frNow := rfl
@[simp] theorem State.setReg_frSent (s : State) (off : Nat) (v : Word) : (s.setReg off v).frSent = s.frSent := rfl
@[simp] theorem State.setReg_flashA (s : State) (off : Nat) (v : Word) : (s.setReg off v).flashA = s.flashA := rfl
@[simp] theorem State.setReg_flashB (s : State) (off : Nat) (v : Word) : (s.setReg off v).flashB = s.flashB := rfl
@[simp] theorem State.setReg_setLead (s : State) (off : Nat) (v : Word) : (s.setReg off v).setLead = s.setLead := rfl
@[simp] theorem State.setReg_hq (s : State) (off : Nat) (v : Word) : (s.setReg off v).hq = s.hq := rfl
@[simp] theorem State.setReg_accepted (s : State) (off : Nat) (v : Word) : (s.setReg off v).accepted = s.accepted := rfl
@[simp] theorem State.setReg_fresh (s : State) (off : Nat) (v : Word) : (s.setReg off v).fresh = s.fresh := rfl
@[simp] theorem State.setReg_opens (s : State) (off : Nat) (v : Word) : (s.setReg off v).opens = s.opens := rfl
@[simp] theorem State.setReg_fwdTags (s : State) (off : Nat) (v : Word) : (s.setReg off v).fwdTags = s.fwdTags := rfl
@[simp] theorem State.setReg_todo (s : State) (off : Nat) (v : Word) : (s.setReg off v).todo = s.todo := rfl
@[simp] theorem State.setReg_seen (s : State) (off : Nat) (v : Word) : (s.setReg off v).seen = s.seen := rfl
@[simp] theorem State.setReg_seenSnf (s : State) (off : Nat) (v : Word) : (s.setReg off v).seenSnf = s.seenSnf := rfl
@[simp] theorem State.setReg_seenRep (s : State) (off : Nat) (v : Word) : (s.setReg off v).seenRep = s.seenRep := rfl
@[simp] theorem State.setReg_snf (s : State) (off : Nat) (v : Word) : (s.setReg off v).snf = s.snf := rfl
@[simp] theorem State.setReg_snfAon (s : State) (off : Nat) (v : Word) : (s.setReg off v).snfAon = s.snfAon := rfl
@[simp] theorem State.setReg_snfTimed (s : State) (off : Nat) (v : Word) : (s.setReg off v).snfTimed = s.snfTimed := rfl
@[simp] theorem State.setReg_maint (s : State) (off : Nat) (v : Word) : (s.setReg off v).maint = s.maint := rfl
@[simp] theorem State.setReg_maintQ (s : State) (off : Nat) (v : Word) : (s.setReg off v).maintQ = s.maintQ := rfl
@[simp] theorem State.setReg_checks (s : State) (off : Nat) (v : Word) : (s.setReg off v).checks = s.checks := rfl
@[simp] theorem State.setReg_img (s : State) (off : Nat) (v : Word) : (s.setReg off v).img = s.img := rfl
@[simp] theorem State.setReg_imgPause (s : State) (off : Nat) (v : Word) : (s.setReg off v).imgPause = s.imgPause := rfl
@[simp] theorem State.setReg_imgBuf (s : State) (off : Nat) (v : Word) : (s.setReg off v).imgBuf = s.imgBuf := rfl
@[simp] theorem State.setReg_activeImg (s : State) (off : Nat) (v : Word) : (s.setReg off v).activeImg = s.activeImg := rfl
@[simp] theorem State.setReg_jtagIr (s : State) (off : Nat) (v : Word) : (s.setReg off v).jtagIr = s.jtagIr := rfl
@[simp] theorem State.setReg_jtagCells (s : State) (off : Nat) (v : Word) : (s.setReg off v).jtagCells = s.jtagCells := rfl

@[simp] theorem State.emit_pending (s : State) (o : Output) : (s.emit o).pending = s.pending := rfl
@[simp] theorem State.emit_freeCtr (s : State) (o : Output) : (s.emit o).freeCtr = s.freeCtr := rfl
@[simp] theorem State.emit_regs (s : State) (o : Output) : (s.emit o).regs = s.regs := rfl
@[simp] theorem State.emit_stage (s : State) (o : Output) : (s.emit o).stage = s.stage := rfl
@[simp] theorem State.emit_snap (s : State) (o : Output) : (s.emit o).snap = s.snap := rfl
@[simp] theorem State.emit_hiLatch (s : State) (o : Output) : (s.emit o).hiLatch = s.hiLatch := rfl
@[simp] theorem State.emit_loHeld (s : State) (o : Output) : (s.emit o).loHeld = s.loHeld := rfl
@[simp] theorem State.emit_aonOn (s : State) (o : Output) : (s.emit o).aonOn = s.aonOn := rfl
@[simp] theorem State.emit_pinPow (s : State) (o : Output) : (s.emit o).pinPow = s.pinPow := rfl
@[simp] theorem State.emit_pinOn (s : State) (o : Output) : (s.emit o).pinOn = s.pinOn := rfl
@[simp] theorem State.emit_qsUp (s : State) (o : Output) : (s.emit o).qsUp = s.qsUp := rfl
@[simp] theorem State.emit_rstLow (s : State) (o : Output) : (s.emit o).rstLow = s.rstLow := rfl
@[simp] theorem State.emit_crystal (s : State) (o : Output) : (s.emit o).crystal = s.crystal := rfl
@[simp] theorem State.emit_tickFrac (s : State) (o : Output) : (s.emit o).tickFrac = s.tickFrac := rfl
@[simp] theorem State.emit_feedA (s : State) (o : Output) : (s.emit o).feedA = s.feedA := rfl
@[simp] theorem State.emit_feedB (s : State) (o : Output) : (s.emit o).feedB = s.feedB := rfl
@[simp] theorem State.emit_taperUp (s : State) (o : Output) : (s.emit o).taperUp = s.taperUp := rfl
@[simp] theorem State.emit_link (s : State) (o : Output) : (s.emit o).link = s.link := rfl
@[simp] theorem State.emit_digMm (s : State) (o : Output) : (s.emit o).digMm = s.digMm := rfl
@[simp] theorem State.emit_lead (s : State) (o : Output) : (s.emit o).lead = s.lead := rfl
@[simp] theorem State.emit_pA (s : State) (o : Output) : (s.emit o).pA = s.pA := rfl
@[simp] theorem State.emit_pB (s : State) (o : Output) : (s.emit o).pB = s.pB := rfl
@[simp] theorem State.emit_lt (s : State) (o : Output) : (s.emit o).lt = s.lt := rfl
@[simp] theorem State.emit_ltStep (s : State) (o : Output) : (s.emit o).ltStep = s.ltStep := rfl
@[simp] theorem State.emit_ltPhase (s : State) (o : Output) : (s.emit o).ltPhase = s.ltPhase := rfl
@[simp] theorem State.emit_ltRef (s : State) (o : Output) : (s.emit o).ltRef = s.ltRef := rfl
@[simp] theorem State.emit_mirror (s : State) (o : Output) : (s.emit o).mirror = s.mirror := rfl
@[simp] theorem State.emit_outs (s : State) (o : Output) : (s.emit o).outs = s.outs := rfl
@[simp] theorem State.emit_pulseIx (s : State) (o : Output) : (s.emit o).pulseIx = s.pulseIx := rfl
@[simp] theorem State.emit_po (s : State) (o : Output) : (s.emit o).po = s.po := rfl
@[simp] theorem State.emit_ci (s : State) (o : Output) : (s.emit o).ci = s.ci := rfl
@[simp] theorem State.emit_li (s : State) (o : Output) : (s.emit o).li = s.li := rfl
@[simp] theorem State.emit_lanIn (s : State) (o : Output) : (s.emit o).lanIn = s.lanIn := rfl
@[simp] theorem State.emit_lo (s : State) (o : Output) : (s.emit o).lo = s.lo := rfl
@[simp] theorem State.emit_sl (s : State) (o : Output) : (s.emit o).sl = s.sl := rfl
@[simp] theorem State.emit_can (s : State) (o : Output) : (s.emit o).can = s.can := rfl
@[simp] theorem State.emit_evHold (s : State) (o : Output) : (s.emit o).evHold = s.evHold := rfl
@[simp] theorem State.emit_vecMask (s : State) (o : Output) : (s.emit o).vecMask = s.vecMask := rfl
@[simp] theorem State.emit_msixTab (s : State) (o : Output) : (s.emit o).msixTab = s.msixTab := rfl
@[simp] theorem State.emit_msixEn (s : State) (o : Output) : (s.emit o).msixEn = s.msixEn := rfl
@[simp] theorem State.emit_funcMask (s : State) (o : Output) : (s.emit o).funcMask = s.funcMask := rfl
@[simp] theorem State.emit_pba (s : State) (o : Output) : (s.emit o).pba = s.pba := rfl
@[simp] theorem State.emit_fr (s : State) (o : Output) : (s.emit o).fr = s.fr := rfl
@[simp] theorem State.emit_frDone (s : State) (o : Output) : (s.emit o).frDone = s.frDone := rfl
@[simp] theorem State.emit_frNow (s : State) (o : Output) : (s.emit o).frNow = s.frNow := rfl
@[simp] theorem State.emit_frSent (s : State) (o : Output) : (s.emit o).frSent = s.frSent := rfl
@[simp] theorem State.emit_flashA (s : State) (o : Output) : (s.emit o).flashA = s.flashA := rfl
@[simp] theorem State.emit_flashB (s : State) (o : Output) : (s.emit o).flashB = s.flashB := rfl
@[simp] theorem State.emit_setLead (s : State) (o : Output) : (s.emit o).setLead = s.setLead := rfl
@[simp] theorem State.emit_hq (s : State) (o : Output) : (s.emit o).hq = s.hq := rfl
@[simp] theorem State.emit_accepted (s : State) (o : Output) : (s.emit o).accepted = s.accepted := rfl
@[simp] theorem State.emit_fresh (s : State) (o : Output) : (s.emit o).fresh = s.fresh := rfl
@[simp] theorem State.emit_opens (s : State) (o : Output) : (s.emit o).opens = s.opens := rfl
@[simp] theorem State.emit_fwdTags (s : State) (o : Output) : (s.emit o).fwdTags = s.fwdTags := rfl
@[simp] theorem State.emit_todo (s : State) (o : Output) : (s.emit o).todo = s.todo := rfl
@[simp] theorem State.emit_seen (s : State) (o : Output) : (s.emit o).seen = s.seen := rfl
@[simp] theorem State.emit_seenSnf (s : State) (o : Output) : (s.emit o).seenSnf = s.seenSnf := rfl
@[simp] theorem State.emit_seenRep (s : State) (o : Output) : (s.emit o).seenRep = s.seenRep := rfl
@[simp] theorem State.emit_snf (s : State) (o : Output) : (s.emit o).snf = s.snf := rfl
@[simp] theorem State.emit_snfAon (s : State) (o : Output) : (s.emit o).snfAon = s.snfAon := rfl
@[simp] theorem State.emit_snfTimed (s : State) (o : Output) : (s.emit o).snfTimed = s.snfTimed := rfl
@[simp] theorem State.emit_maint (s : State) (o : Output) : (s.emit o).maint = s.maint := rfl
@[simp] theorem State.emit_maintQ (s : State) (o : Output) : (s.emit o).maintQ = s.maintQ := rfl
@[simp] theorem State.emit_checks (s : State) (o : Output) : (s.emit o).checks = s.checks := rfl
@[simp] theorem State.emit_img (s : State) (o : Output) : (s.emit o).img = s.img := rfl
@[simp] theorem State.emit_imgPause (s : State) (o : Output) : (s.emit o).imgPause = s.imgPause := rfl
@[simp] theorem State.emit_imgBuf (s : State) (o : Output) : (s.emit o).imgBuf = s.imgBuf := rfl
@[simp] theorem State.emit_activeImg (s : State) (o : Output) : (s.emit o).activeImg = s.activeImg := rfl
@[simp] theorem State.emit_jtagIr (s : State) (o : Output) : (s.emit o).jtagIr = s.jtagIr := rfl
@[simp] theorem State.emit_jtagCells (s : State) (o : Output) : (s.emit o).jtagCells = s.jtagCells := rfl

@[simp] theorem State.setPl_pending (s : State) (p : Plane) (x : PlaneS) : (s.setPl p x).pending = s.pending := by cases p <;> rfl
@[simp] theorem State.setPl_freeCtr (s : State) (p : Plane) (x : PlaneS) : (s.setPl p x).freeCtr = s.freeCtr := by cases p <;> rfl
@[simp] theorem State.setPl_out (s : State) (p : Plane) (x : PlaneS) : (s.setPl p x).out = s.out := by cases p <;> rfl
@[simp] theorem State.setPl_regs (s : State) (p : Plane) (x : PlaneS) : (s.setPl p x).regs = s.regs := by cases p <;> rfl
@[simp] theorem State.setPl_stage (s : State) (p : Plane) (x : PlaneS) : (s.setPl p x).stage = s.stage := by cases p <;> rfl
@[simp] theorem State.setPl_snap (s : State) (p : Plane) (x : PlaneS) : (s.setPl p x).snap = s.snap := by cases p <;> rfl
@[simp] theorem State.setPl_hiLatch (s : State) (p : Plane) (x : PlaneS) : (s.setPl p x).hiLatch = s.hiLatch := by cases p <;> rfl
@[simp] theorem State.setPl_loHeld (s : State) (p : Plane) (x : PlaneS) : (s.setPl p x).loHeld = s.loHeld := by cases p <;> rfl
@[simp] theorem State.setPl_aonOn (s : State) (p : Plane) (x : PlaneS) : (s.setPl p x).aonOn = s.aonOn := by cases p <;> rfl
@[simp] theorem State.setPl_pinPow (s : State) (p : Plane) (x : PlaneS) : (s.setPl p x).pinPow = s.pinPow := by cases p <;> rfl
@[simp] theorem State.setPl_pinOn (s : State) (p : Plane) (x : PlaneS) : (s.setPl p x).pinOn = s.pinOn := by cases p <;> rfl
@[simp] theorem State.setPl_qsUp (s : State) (p : Plane) (x : PlaneS) : (s.setPl p x).qsUp = s.qsUp := by cases p <;> rfl
@[simp] theorem State.setPl_rstLow (s : State) (p : Plane) (x : PlaneS) : (s.setPl p x).rstLow = s.rstLow := by cases p <;> rfl
@[simp] theorem State.setPl_crystal (s : State) (p : Plane) (x : PlaneS) : (s.setPl p x).crystal = s.crystal := by cases p <;> rfl
@[simp] theorem State.setPl_tickFrac (s : State) (p : Plane) (x : PlaneS) : (s.setPl p x).tickFrac = s.tickFrac := by cases p <;> rfl
@[simp] theorem State.setPl_feedA (s : State) (p : Plane) (x : PlaneS) : (s.setPl p x).feedA = s.feedA := by cases p <;> rfl
@[simp] theorem State.setPl_feedB (s : State) (p : Plane) (x : PlaneS) : (s.setPl p x).feedB = s.feedB := by cases p <;> rfl
@[simp] theorem State.setPl_taperUp (s : State) (p : Plane) (x : PlaneS) : (s.setPl p x).taperUp = s.taperUp := by cases p <;> rfl
@[simp] theorem State.setPl_link (s : State) (p : Plane) (x : PlaneS) : (s.setPl p x).link = s.link := by cases p <;> rfl
@[simp] theorem State.setPl_digMm (s : State) (p : Plane) (x : PlaneS) : (s.setPl p x).digMm = s.digMm := by cases p <;> rfl
@[simp] theorem State.setPl_lead (s : State) (p : Plane) (x : PlaneS) : (s.setPl p x).lead = s.lead := by cases p <;> rfl
@[simp] theorem State.setPl_lt (s : State) (p : Plane) (x : PlaneS) : (s.setPl p x).lt = s.lt := by cases p <;> rfl
@[simp] theorem State.setPl_ltStep (s : State) (p : Plane) (x : PlaneS) : (s.setPl p x).ltStep = s.ltStep := by cases p <;> rfl
@[simp] theorem State.setPl_ltPhase (s : State) (p : Plane) (x : PlaneS) : (s.setPl p x).ltPhase = s.ltPhase := by cases p <;> rfl
@[simp] theorem State.setPl_ltRef (s : State) (p : Plane) (x : PlaneS) : (s.setPl p x).ltRef = s.ltRef := by cases p <;> rfl
@[simp] theorem State.setPl_mirror (s : State) (p : Plane) (x : PlaneS) : (s.setPl p x).mirror = s.mirror := by cases p <;> rfl
@[simp] theorem State.setPl_outs (s : State) (p : Plane) (x : PlaneS) : (s.setPl p x).outs = s.outs := by cases p <;> rfl
@[simp] theorem State.setPl_pulseIx (s : State) (p : Plane) (x : PlaneS) : (s.setPl p x).pulseIx = s.pulseIx := by cases p <;> rfl
@[simp] theorem State.setPl_po (s : State) (p : Plane) (x : PlaneS) : (s.setPl p x).po = s.po := by cases p <;> rfl
@[simp] theorem State.setPl_ci (s : State) (p : Plane) (x : PlaneS) : (s.setPl p x).ci = s.ci := by cases p <;> rfl
@[simp] theorem State.setPl_li (s : State) (p : Plane) (x : PlaneS) : (s.setPl p x).li = s.li := by cases p <;> rfl
@[simp] theorem State.setPl_lanIn (s : State) (p : Plane) (x : PlaneS) : (s.setPl p x).lanIn = s.lanIn := by cases p <;> rfl
@[simp] theorem State.setPl_lo (s : State) (p : Plane) (x : PlaneS) : (s.setPl p x).lo = s.lo := by cases p <;> rfl
@[simp] theorem State.setPl_sl (s : State) (p : Plane) (x : PlaneS) : (s.setPl p x).sl = s.sl := by cases p <;> rfl
@[simp] theorem State.setPl_can (s : State) (p : Plane) (x : PlaneS) : (s.setPl p x).can = s.can := by cases p <;> rfl
@[simp] theorem State.setPl_evHold (s : State) (p : Plane) (x : PlaneS) : (s.setPl p x).evHold = s.evHold := by cases p <;> rfl
@[simp] theorem State.setPl_vecMask (s : State) (p : Plane) (x : PlaneS) : (s.setPl p x).vecMask = s.vecMask := by cases p <;> rfl
@[simp] theorem State.setPl_msixTab (s : State) (p : Plane) (x : PlaneS) : (s.setPl p x).msixTab = s.msixTab := by cases p <;> rfl
@[simp] theorem State.setPl_msixEn (s : State) (p : Plane) (x : PlaneS) : (s.setPl p x).msixEn = s.msixEn := by cases p <;> rfl
@[simp] theorem State.setPl_funcMask (s : State) (p : Plane) (x : PlaneS) : (s.setPl p x).funcMask = s.funcMask := by cases p <;> rfl
@[simp] theorem State.setPl_pba (s : State) (p : Plane) (x : PlaneS) : (s.setPl p x).pba = s.pba := by cases p <;> rfl
@[simp] theorem State.setPl_fr (s : State) (p : Plane) (x : PlaneS) : (s.setPl p x).fr = s.fr := by cases p <;> rfl
@[simp] theorem State.setPl_frDone (s : State) (p : Plane) (x : PlaneS) : (s.setPl p x).frDone = s.frDone := by cases p <;> rfl
@[simp] theorem State.setPl_frNow (s : State) (p : Plane) (x : PlaneS) : (s.setPl p x).frNow = s.frNow := by cases p <;> rfl
@[simp] theorem State.setPl_frSent (s : State) (p : Plane) (x : PlaneS) : (s.setPl p x).frSent = s.frSent := by cases p <;> rfl
@[simp] theorem State.setPl_flashA (s : State) (p : Plane) (x : PlaneS) : (s.setPl p x).flashA = s.flashA := by cases p <;> rfl
@[simp] theorem State.setPl_flashB (s : State) (p : Plane) (x : PlaneS) : (s.setPl p x).flashB = s.flashB := by cases p <;> rfl
@[simp] theorem State.setPl_setLead (s : State) (p : Plane) (x : PlaneS) : (s.setPl p x).setLead = s.setLead := by cases p <;> rfl
@[simp] theorem State.setPl_hq (s : State) (p : Plane) (x : PlaneS) : (s.setPl p x).hq = s.hq := by cases p <;> rfl
@[simp] theorem State.setPl_accepted (s : State) (p : Plane) (x : PlaneS) : (s.setPl p x).accepted = s.accepted := by cases p <;> rfl
@[simp] theorem State.setPl_fresh (s : State) (p : Plane) (x : PlaneS) : (s.setPl p x).fresh = s.fresh := by cases p <;> rfl
@[simp] theorem State.setPl_opens (s : State) (p : Plane) (x : PlaneS) : (s.setPl p x).opens = s.opens := by cases p <;> rfl
@[simp] theorem State.setPl_fwdTags (s : State) (p : Plane) (x : PlaneS) : (s.setPl p x).fwdTags = s.fwdTags := by cases p <;> rfl
@[simp] theorem State.setPl_todo (s : State) (p : Plane) (x : PlaneS) : (s.setPl p x).todo = s.todo := by cases p <;> rfl
@[simp] theorem State.setPl_seen (s : State) (p : Plane) (x : PlaneS) : (s.setPl p x).seen = s.seen := by cases p <;> rfl
@[simp] theorem State.setPl_seenSnf (s : State) (p : Plane) (x : PlaneS) : (s.setPl p x).seenSnf = s.seenSnf := by cases p <;> rfl
@[simp] theorem State.setPl_seenRep (s : State) (p : Plane) (x : PlaneS) : (s.setPl p x).seenRep = s.seenRep := by cases p <;> rfl
@[simp] theorem State.setPl_snf (s : State) (p : Plane) (x : PlaneS) : (s.setPl p x).snf = s.snf := by cases p <;> rfl
@[simp] theorem State.setPl_snfAon (s : State) (p : Plane) (x : PlaneS) : (s.setPl p x).snfAon = s.snfAon := by cases p <;> rfl
@[simp] theorem State.setPl_snfTimed (s : State) (p : Plane) (x : PlaneS) : (s.setPl p x).snfTimed = s.snfTimed := by cases p <;> rfl
@[simp] theorem State.setPl_maint (s : State) (p : Plane) (x : PlaneS) : (s.setPl p x).maint = s.maint := by cases p <;> rfl
@[simp] theorem State.setPl_maintQ (s : State) (p : Plane) (x : PlaneS) : (s.setPl p x).maintQ = s.maintQ := by cases p <;> rfl
@[simp] theorem State.setPl_checks (s : State) (p : Plane) (x : PlaneS) : (s.setPl p x).checks = s.checks := by cases p <;> rfl
@[simp] theorem State.setPl_img (s : State) (p : Plane) (x : PlaneS) : (s.setPl p x).img = s.img := by cases p <;> rfl
@[simp] theorem State.setPl_imgPause (s : State) (p : Plane) (x : PlaneS) : (s.setPl p x).imgPause = s.imgPause := by cases p <;> rfl
@[simp] theorem State.setPl_imgBuf (s : State) (p : Plane) (x : PlaneS) : (s.setPl p x).imgBuf = s.imgBuf := by cases p <;> rfl
@[simp] theorem State.setPl_activeImg (s : State) (p : Plane) (x : PlaneS) : (s.setPl p x).activeImg = s.activeImg := by cases p <;> rfl
@[simp] theorem State.setPl_jtagIr (s : State) (p : Plane) (x : PlaneS) : (s.setPl p x).jtagIr = s.jtagIr := by cases p <;> rfl
@[simp] theorem State.setPl_jtagCells (s : State) (p : Plane) (x : PlaneS) : (s.setPl p x).jtagCells = s.jtagCells := by cases p <;> rfl

@[simp] theorem State.modPl_pending (s : State) (p : Plane) (f : PlaneS → PlaneS) : (s.modPl p f).pending = s.pending := by cases p <;> rfl
@[simp] theorem State.modPl_freeCtr (s : State) (p : Plane) (f : PlaneS → PlaneS) : (s.modPl p f).freeCtr = s.freeCtr := by cases p <;> rfl
@[simp] theorem State.modPl_out (s : State) (p : Plane) (f : PlaneS → PlaneS) : (s.modPl p f).out = s.out := by cases p <;> rfl
@[simp] theorem State.modPl_regs (s : State) (p : Plane) (f : PlaneS → PlaneS) : (s.modPl p f).regs = s.regs := by cases p <;> rfl
@[simp] theorem State.modPl_stage (s : State) (p : Plane) (f : PlaneS → PlaneS) : (s.modPl p f).stage = s.stage := by cases p <;> rfl
@[simp] theorem State.modPl_snap (s : State) (p : Plane) (f : PlaneS → PlaneS) : (s.modPl p f).snap = s.snap := by cases p <;> rfl
@[simp] theorem State.modPl_hiLatch (s : State) (p : Plane) (f : PlaneS → PlaneS) : (s.modPl p f).hiLatch = s.hiLatch := by cases p <;> rfl
@[simp] theorem State.modPl_loHeld (s : State) (p : Plane) (f : PlaneS → PlaneS) : (s.modPl p f).loHeld = s.loHeld := by cases p <;> rfl
@[simp] theorem State.modPl_aonOn (s : State) (p : Plane) (f : PlaneS → PlaneS) : (s.modPl p f).aonOn = s.aonOn := by cases p <;> rfl
@[simp] theorem State.modPl_pinPow (s : State) (p : Plane) (f : PlaneS → PlaneS) : (s.modPl p f).pinPow = s.pinPow := by cases p <;> rfl
@[simp] theorem State.modPl_pinOn (s : State) (p : Plane) (f : PlaneS → PlaneS) : (s.modPl p f).pinOn = s.pinOn := by cases p <;> rfl
@[simp] theorem State.modPl_qsUp (s : State) (p : Plane) (f : PlaneS → PlaneS) : (s.modPl p f).qsUp = s.qsUp := by cases p <;> rfl
@[simp] theorem State.modPl_rstLow (s : State) (p : Plane) (f : PlaneS → PlaneS) : (s.modPl p f).rstLow = s.rstLow := by cases p <;> rfl
@[simp] theorem State.modPl_crystal (s : State) (p : Plane) (f : PlaneS → PlaneS) : (s.modPl p f).crystal = s.crystal := by cases p <;> rfl
@[simp] theorem State.modPl_tickFrac (s : State) (p : Plane) (f : PlaneS → PlaneS) : (s.modPl p f).tickFrac = s.tickFrac := by cases p <;> rfl
@[simp] theorem State.modPl_feedA (s : State) (p : Plane) (f : PlaneS → PlaneS) : (s.modPl p f).feedA = s.feedA := by cases p <;> rfl
@[simp] theorem State.modPl_feedB (s : State) (p : Plane) (f : PlaneS → PlaneS) : (s.modPl p f).feedB = s.feedB := by cases p <;> rfl
@[simp] theorem State.modPl_taperUp (s : State) (p : Plane) (f : PlaneS → PlaneS) : (s.modPl p f).taperUp = s.taperUp := by cases p <;> rfl
@[simp] theorem State.modPl_link (s : State) (p : Plane) (f : PlaneS → PlaneS) : (s.modPl p f).link = s.link := by cases p <;> rfl
@[simp] theorem State.modPl_digMm (s : State) (p : Plane) (f : PlaneS → PlaneS) : (s.modPl p f).digMm = s.digMm := by cases p <;> rfl
@[simp] theorem State.modPl_lead (s : State) (p : Plane) (f : PlaneS → PlaneS) : (s.modPl p f).lead = s.lead := by cases p <;> rfl
@[simp] theorem State.modPl_lt (s : State) (p : Plane) (f : PlaneS → PlaneS) : (s.modPl p f).lt = s.lt := by cases p <;> rfl
@[simp] theorem State.modPl_ltStep (s : State) (p : Plane) (f : PlaneS → PlaneS) : (s.modPl p f).ltStep = s.ltStep := by cases p <;> rfl
@[simp] theorem State.modPl_ltPhase (s : State) (p : Plane) (f : PlaneS → PlaneS) : (s.modPl p f).ltPhase = s.ltPhase := by cases p <;> rfl
@[simp] theorem State.modPl_ltRef (s : State) (p : Plane) (f : PlaneS → PlaneS) : (s.modPl p f).ltRef = s.ltRef := by cases p <;> rfl
@[simp] theorem State.modPl_mirror (s : State) (p : Plane) (f : PlaneS → PlaneS) : (s.modPl p f).mirror = s.mirror := by cases p <;> rfl
@[simp] theorem State.modPl_outs (s : State) (p : Plane) (f : PlaneS → PlaneS) : (s.modPl p f).outs = s.outs := by cases p <;> rfl
@[simp] theorem State.modPl_pulseIx (s : State) (p : Plane) (f : PlaneS → PlaneS) : (s.modPl p f).pulseIx = s.pulseIx := by cases p <;> rfl
@[simp] theorem State.modPl_po (s : State) (p : Plane) (f : PlaneS → PlaneS) : (s.modPl p f).po = s.po := by cases p <;> rfl
@[simp] theorem State.modPl_ci (s : State) (p : Plane) (f : PlaneS → PlaneS) : (s.modPl p f).ci = s.ci := by cases p <;> rfl
@[simp] theorem State.modPl_li (s : State) (p : Plane) (f : PlaneS → PlaneS) : (s.modPl p f).li = s.li := by cases p <;> rfl
@[simp] theorem State.modPl_lanIn (s : State) (p : Plane) (f : PlaneS → PlaneS) : (s.modPl p f).lanIn = s.lanIn := by cases p <;> rfl
@[simp] theorem State.modPl_lo (s : State) (p : Plane) (f : PlaneS → PlaneS) : (s.modPl p f).lo = s.lo := by cases p <;> rfl
@[simp] theorem State.modPl_sl (s : State) (p : Plane) (f : PlaneS → PlaneS) : (s.modPl p f).sl = s.sl := by cases p <;> rfl
@[simp] theorem State.modPl_can (s : State) (p : Plane) (f : PlaneS → PlaneS) : (s.modPl p f).can = s.can := by cases p <;> rfl
@[simp] theorem State.modPl_evHold (s : State) (p : Plane) (f : PlaneS → PlaneS) : (s.modPl p f).evHold = s.evHold := by cases p <;> rfl
@[simp] theorem State.modPl_vecMask (s : State) (p : Plane) (f : PlaneS → PlaneS) : (s.modPl p f).vecMask = s.vecMask := by cases p <;> rfl
@[simp] theorem State.modPl_msixTab (s : State) (p : Plane) (f : PlaneS → PlaneS) : (s.modPl p f).msixTab = s.msixTab := by cases p <;> rfl
@[simp] theorem State.modPl_msixEn (s : State) (p : Plane) (f : PlaneS → PlaneS) : (s.modPl p f).msixEn = s.msixEn := by cases p <;> rfl
@[simp] theorem State.modPl_funcMask (s : State) (p : Plane) (f : PlaneS → PlaneS) : (s.modPl p f).funcMask = s.funcMask := by cases p <;> rfl
@[simp] theorem State.modPl_pba (s : State) (p : Plane) (f : PlaneS → PlaneS) : (s.modPl p f).pba = s.pba := by cases p <;> rfl
@[simp] theorem State.modPl_fr (s : State) (p : Plane) (f : PlaneS → PlaneS) : (s.modPl p f).fr = s.fr := by cases p <;> rfl
@[simp] theorem State.modPl_frDone (s : State) (p : Plane) (f : PlaneS → PlaneS) : (s.modPl p f).frDone = s.frDone := by cases p <;> rfl
@[simp] theorem State.modPl_frNow (s : State) (p : Plane) (f : PlaneS → PlaneS) : (s.modPl p f).frNow = s.frNow := by cases p <;> rfl
@[simp] theorem State.modPl_frSent (s : State) (p : Plane) (f : PlaneS → PlaneS) : (s.modPl p f).frSent = s.frSent := by cases p <;> rfl
@[simp] theorem State.modPl_flashA (s : State) (p : Plane) (f : PlaneS → PlaneS) : (s.modPl p f).flashA = s.flashA := by cases p <;> rfl
@[simp] theorem State.modPl_flashB (s : State) (p : Plane) (f : PlaneS → PlaneS) : (s.modPl p f).flashB = s.flashB := by cases p <;> rfl
@[simp] theorem State.modPl_setLead (s : State) (p : Plane) (f : PlaneS → PlaneS) : (s.modPl p f).setLead = s.setLead := by cases p <;> rfl
@[simp] theorem State.modPl_hq (s : State) (p : Plane) (f : PlaneS → PlaneS) : (s.modPl p f).hq = s.hq := by cases p <;> rfl
@[simp] theorem State.modPl_accepted (s : State) (p : Plane) (f : PlaneS → PlaneS) : (s.modPl p f).accepted = s.accepted := by cases p <;> rfl
@[simp] theorem State.modPl_fresh (s : State) (p : Plane) (f : PlaneS → PlaneS) : (s.modPl p f).fresh = s.fresh := by cases p <;> rfl
@[simp] theorem State.modPl_opens (s : State) (p : Plane) (f : PlaneS → PlaneS) : (s.modPl p f).opens = s.opens := by cases p <;> rfl
@[simp] theorem State.modPl_fwdTags (s : State) (p : Plane) (f : PlaneS → PlaneS) : (s.modPl p f).fwdTags = s.fwdTags := by cases p <;> rfl
@[simp] theorem State.modPl_todo (s : State) (p : Plane) (f : PlaneS → PlaneS) : (s.modPl p f).todo = s.todo := by cases p <;> rfl
@[simp] theorem State.modPl_seen (s : State) (p : Plane) (f : PlaneS → PlaneS) : (s.modPl p f).seen = s.seen := by cases p <;> rfl
@[simp] theorem State.modPl_seenSnf (s : State) (p : Plane) (f : PlaneS → PlaneS) : (s.modPl p f).seenSnf = s.seenSnf := by cases p <;> rfl
@[simp] theorem State.modPl_seenRep (s : State) (p : Plane) (f : PlaneS → PlaneS) : (s.modPl p f).seenRep = s.seenRep := by cases p <;> rfl
@[simp] theorem State.modPl_snf (s : State) (p : Plane) (f : PlaneS → PlaneS) : (s.modPl p f).snf = s.snf := by cases p <;> rfl
@[simp] theorem State.modPl_snfAon (s : State) (p : Plane) (f : PlaneS → PlaneS) : (s.modPl p f).snfAon = s.snfAon := by cases p <;> rfl
@[simp] theorem State.modPl_snfTimed (s : State) (p : Plane) (f : PlaneS → PlaneS) : (s.modPl p f).snfTimed = s.snfTimed := by cases p <;> rfl
@[simp] theorem State.modPl_maint (s : State) (p : Plane) (f : PlaneS → PlaneS) : (s.modPl p f).maint = s.maint := by cases p <;> rfl
@[simp] theorem State.modPl_maintQ (s : State) (p : Plane) (f : PlaneS → PlaneS) : (s.modPl p f).maintQ = s.maintQ := by cases p <;> rfl
@[simp] theorem State.modPl_checks (s : State) (p : Plane) (f : PlaneS → PlaneS) : (s.modPl p f).checks = s.checks := by cases p <;> rfl
@[simp] theorem State.modPl_img (s : State) (p : Plane) (f : PlaneS → PlaneS) : (s.modPl p f).img = s.img := by cases p <;> rfl
@[simp] theorem State.modPl_imgPause (s : State) (p : Plane) (f : PlaneS → PlaneS) : (s.modPl p f).imgPause = s.imgPause := by cases p <;> rfl
@[simp] theorem State.modPl_imgBuf (s : State) (p : Plane) (f : PlaneS → PlaneS) : (s.modPl p f).imgBuf = s.imgBuf := by cases p <;> rfl
@[simp] theorem State.modPl_activeImg (s : State) (p : Plane) (f : PlaneS → PlaneS) : (s.modPl p f).activeImg = s.activeImg := by cases p <;> rfl
@[simp] theorem State.modPl_jtagIr (s : State) (p : Plane) (f : PlaneS → PlaneS) : (s.modPl p f).jtagIr = s.jtagIr := by cases p <;> rfl
@[simp] theorem State.modPl_jtagCells (s : State) (p : Plane) (f : PlaneS → PlaneS) : (s.modPl p f).jtagCells = s.jtagCells := by cases p <;> rfl

@[simp] theorem State.emit_out (s : State) (o : Output) : (s.emit o).out = s.out ++ [o] := rfl

@[simp] theorem State.pl_setPl_same (s : State) (p : Plane) (x : PlaneS) : (s.setPl p x).pl p = x := by cases p <;> rfl
theorem State.pl_setPl_ne (s : State) {p q : Plane} (h : q ≠ p) (x : PlaneS) : (s.setPl p x).pl q = s.pl q := by
  cases p <;> cases q <;> first | rfl | exact absurd rfl h
@[simp] theorem State.pl_modPl_same (s : State) (p : Plane) (f : PlaneS → PlaneS) : (s.modPl p f).pl p = f (s.pl p) := by
  cases p <;> rfl
theorem State.pl_modPl_ne (s : State) {p q : Plane} (h : q ≠ p) (f : PlaneS → PlaneS) : (s.modPl p f).pl q = s.pl q := by
  cases p <;> cases q <;> first | rfl | exact absurd rfl h
@[simp] theorem State.pl_setReg (s : State) (off : Nat) (v : Word) (p : Plane) : (s.setReg off v).pl p = s.pl p := by cases p <;> rfl
@[simp] theorem State.pl_emit (s : State) (o : Output) (p : Plane) : (s.emit o).pl p = s.pl p := by cases p <;> rfl

@[simp] theorem State.reg_setReg_same (s : State) (off : Nat) (v : Word) : (s.setReg off v).reg off = v := Tab.get_set_same ..
theorem State.reg_setReg_ne (s : State) {off o : Nat} (h : o ≠ off) (v : Word) : (s.setReg off v).reg o = s.reg o :=
  Tab.get_set_ne _ _ h v _
@[simp] theorem State.reg_setPl (s : State) (p : Plane) (x : PlaneS) (o : Nat) : (s.setPl p x).reg o = s.reg o := by cases p <;> rfl
@[simp] theorem State.reg_modPl (s : State) (p : Plane) (f : PlaneS → PlaneS) (o : Nat) : (s.modPl p f).reg o = s.reg o := by
  cases p <;> rfl
@[simp] theorem State.reg_emit (s : State) (x : Output) (o : Nat) : (s.emit x).reg o = s.reg o := rfl

@[simp] theorem State.pl_setRf (s : State) (off hi lo v : Nat) (p : Plane) : (s.setRf off hi lo v).pl p = s.pl p := by cases p <;> rfl
@[simp] theorem State.pl_setRb (s : State) (off i : Nat) (b : Bool) (p : Plane) : (s.setRb off i b).pl p = s.pl p := by cases p <;> rfl
theorem State.reg_setRf_ne (s : State) {off o : Nat} (h : o ≠ off) (hi lo v : Nat) : (s.setRf off hi lo v).reg o = s.reg o :=
  s.reg_setReg_ne h _
theorem State.reg_setRb_ne (s : State) {off o : Nat} (h : o ≠ off) (i : Nat) (b : Bool) : (s.setRb off i b).reg o = s.reg o :=
  s.reg_setReg_ne h _
theorem State.rb_setRf (s : State) (off hi lo v i : Nat) (h : lo ≤ hi) (hh : hi < 32) :
    (s.setRf off hi lo v).rb off i = if lo ≤ i ∧ i ≤ hi then v.testBit (i - lo) else s.rb off i := by
  simp only [State.rb, State.setRf, State.reg_setReg_same, bit_setFld _ _ _ _ _ h hh]
theorem State.rb_setRb_same (s : State) (off : Nat) {i : Nat} (b : Bool) (h : i < 32) : (s.setRb off i b).rb off i = b := by
  simp only [State.setRb, State.rb_setRf _ _ _ _ _ _ (le_refl i) h]
  cases b <;> simp
theorem State.rb_setRb_ne (s : State) (off : Nat) {i j : Nat} (b : Bool) (h : i < 32) (hj : j ≠ i) :
    (s.setRb off i b).rb off j = s.rb off j := by
  rw [State.setRb, State.rb_setRf _ _ _ _ _ _ (le_refl i) h, if_neg]
  omega
theorem State.rb_setReg_ne (s : State) {off o : Nat} (h : o ≠ off) (v : Word) (i : Nat) : (s.setReg off v).rb o i = s.rb o i := by
  simp only [State.rb, s.reg_setReg_ne h]
theorem State.rf_setReg_ne (s : State) {off o : Nat} (h : o ≠ off) (v : Word) (hi lo : Nat) : (s.setReg off v).rf o hi lo = s.rf o hi lo := by
  simp only [State.rf, s.reg_setReg_ne h]

theorem State.setReg_regsWf {s : State} (h : s.regsWf) (off : Nat) (v : Word) : (s.setReg off v).regsWf := Tab.set_wf h
theorem State.reset_regsWf : State.reset.regsWf := Tab.nil_wf _

end Sys2Proof.Machine
end

