-- ==== Sys2Proof/Tests/Slice0.lean ====
section
/-!
SUPPORT. Small checks: ill-formed commands, what the spec's own words give on small states, and for each statement a state
and operands that meet the hypotheses of its clauses.
-/
open Sys2Proof Sys2Proof.Machine

namespace Sys2Proof.Tests

set_option Elab.async false

/-! Small states -/

/-- Power on, PIN up, plane A alone ACTIVE. -/
def alone : State :=
  { State.reset with
    aonOn := true, pinPow := true, pinOn := true, crystal := true, feedA := ⟨true, true⟩
    pA := { PlaneS.unpowered with st := .active } }

/-- Both planes ACTIVE and the Taper link up: DUPLEX. -/
def both : State :=
  { alone with taperUp := true, feedB := ⟨true, true⟩, pB := { PlaneS.unpowered with st := .active } }

/-- A packet of this device's queue QC for itself, both planes. -/
def pkt (op : Nat) (ps : List Byte) : Cmd :=
  { src := .hostQ 1, op := BitVec.ofNat 16 op, tag := 7, planes := 0, all := false, loc := true, dev := 0, reply := false
    timed := false, epoch := false, abrupt := false, at64 := 0, ps := ps }

/-- That packet waits for its executor. -/
def waits (s : State) (c : Cmd) : State := { s with accepted := [c] }

/-! Ill-formed terms -/

theorem test_wf_opcode : wellFormed (.nop (pkt 0x0101 [])) = false := by decide
theorem test_wf_target : wellFormed (.nop { pkt 0x0100 [] with planes := 3 }) = false := by decide
theorem test_wf_timed : wellFormed (.nop { pkt 0x0100 [] with timed := true }) = false := by decide
theorem test_wf_snuffer_length : wellFormed (.blackout (pkt 0x0F01 (List.replicate 97 0))) = false := by decide +kernel
theorem test_wf_size : wellFormed (.hostRegisterWrite .host false 0 3 0) = false := by decide
theorem test_wf_read_length : wellFormed (.bridgeRead 0 0) = false := by decide
theorem test_wf_byte_enables : wellFormed (.bridgeWrite 0 [1, 2] [true]) = false := by decide
theorem test_wf_cas_size : wellFormed (.bridgeCas 0 2 0 0) = false := by decide
theorem test_wf_entry : wellFormed (.commandFetch 0 .ok [] []) = false := by decide
theorem test_wf_sentence : wellFormed (.statusReplyReceive .a []) = false := by decide
theorem test_wf_can : wellFormed (.canFrameReceive 0 0 0 [] []) = false := by decide
theorem test_wf_ltc : wellFormed (.ltcFrameReceive 0 0 [] 0 0) = false := by decide
theorem test_wf_wave : wellFormed (.slCharReceive 0 0 [(false, 0)]) = false := by decide
theorem test_wf_wake : wellFormed (.canWake 0 (.frame [] [])) = false := by decide
theorem test_wf_rs_size : wellFormed (.rsRead .host 0 3 0) = false := by decide
theorem test_wf_cells : wellFormed (.jtagSamplePreload []) = false := by decide
theorem test_wf_good : wellFormed (.nop (pkt 0x0100 [])) = true := by decide

/-! Witnesses: queue, reset, numbers, registers -/

theorem wit_CommandsRunInOrder :
    ({ alone with pending := [.perstAssert, .crystalStart] } : State).pending = [.perstAssert] ++ [.crystalStart] := rfl

theorem wit_TimePassesOnAnEmptyQueue : alone.pending = [] ∧ both.pending = [] := ⟨rfl, rfl⟩

theorem wit_EveryStepSettles : State.reset.Settled ∧ ∃ t, step State.reset = .next t := ⟨⟨rfl, by decide +kernel⟩, _, rfl⟩

theorem wit_LevelsAlreadyRight : State.reset.Settled ∧ State.reset.regsWf := ⟨wit_EveryStepSettles.1, by decide⟩

/-- A sentence with plain fields. -/
def plain : Sent :=
  { ver := 1, plen := 0, cls := 4, key := false, prio := 0, timed := false, last := true, ackreq := false, rsv1 := 0, unnum := false
    rsv2 := 0, origin := 6, talker := 0, stream := 0, sub := 0, seq := 9, pt64 := 0, tag := 0x3FFFFFFF, hops := 0, ttl := 255, hcrc := 0
    payload := [] }

/-- A sentence of the Snuffer class with the longest payload and the last time of a second. -/
def longest : Sent :=
  { plain with cls := 7, timed := true, pt64 := 999999999, payload := List.replicate 128 0 }

theorem wit_HeaderFieldsAndCheck : longest.payload.length ≤ 8192 ∧ longest.timed = true ∧ longest.pt64.toNat % 2 ^ 32 ≤ 999999999 ∧
    longest.cls = 7 ∧ longest.payload.length ≤ 128 := by decide +kernel

theorem wit_PresentationTimeRoundTrip :
    ((0 : Int) ≤ 2 ^ 31 * unitsPerSec - 16 ∧ (2 ^ 31 * unitsPerSec - 16 : Int) % 16 = 0 ∧
      (2 ^ 31 * unitsPerSec - 16 : Int) < 0 + 2 ^ 31 * unitsPerSec) ∧
    (2 ^ 31 * unitsPerSec - 2 ^ 31 * unitsPerSec ≤ (0 : Int)) := by decide

/-- A register's row has, at some bit, none, or the first or last of its kinds. -/
theorem wit_RegisterMasks : ∃ a b, rowOf R.GID_SENT_CTL = some a ∧ rowOf (R.EV_STATUS 0) = some b ∧ a.w1c.testBit 0 = false ∧
    a.rw.testBit 0 = true ∧ b.w1c.testBit 31 = true ∧ b.rw.testBit 31 = false ∧ a.w1c.testBit 31 = false ∧ a.rw.testBit 31 = false :=
  ⟨_, _, by rfl, by rfl, by decide +kernel⟩

/-- GID_SENT_CTL is a register that only holds configuration. -/
theorem wit_RegisterMasks_plain : ∃ row, rowOf R.GID_SENT_CTL = some row ∧ row.pair = .single ∧ isStageCtl R.GID_SENT_CTL = false ∧
    logOf R.GID_SENT_CTL = none ∧ isHqBase R.GID_SENT_CTL = false ∧ both.there R.GID_SENT_CTL = true ∧
    R.GID_SENT_CTL ∉ [R.AON_PSUP_CTL, R.AON_BYP_CTL, R.AON_PWR_CTL, R.AON_FR_CTL, R.AON_FR_MARK, R.GPIO_SET, R.GPIO_CLR] ∧
    (∀ i, i < 256 → R.GID_SENT_CTL ≠ R.EV_ROUTE i) ∧
    (∀ i, i < 32 → R.GID_SENT_CTL ∉ [R.SL_TXQ_DATA i, R.SL_RXQ_POP i, R.SL_FLOW i, R.PO_CFG i]) ∧
    ∀ i, i < 8 → R.GID_SENT_CTL ∉ [R.EV_STATUS i, R.EV_MASK i, R.CAN_CTL i, R.CAN_RXB_POP i, R.CAN_TXW_CMD i, R.CI_CFG i, R.HQ_CTL i, R.LO_CFG i] :=
  ⟨_, by rfl, by rfl, by decide +kernel⟩

theorem wit_RegisterMasks_planes : ∀ p i, i < 512 → R.GID_SENT_CTL ∉ [R.Q_CTL p i, R.EG_CTL p i, R.PORT_RING p i, R.BRG_WIN_ERR p i,
    R.BRG_WIN_LOCK p i, R.ING_RULE_SEL p, R.ING_STREAM_SEL p, R.BU_APPLY_SEL p, R.DSP_CANCEL p, R.DSP_JOB_SEL p, R.REL_DESC_SEL p,
    R.BRG_MAP_SEL p] := by
  intro p i _
  cases p <;> simp only [R.GID_SENT_CTL, R.Q_CTL, R.EG_CTL, R.PORT_RING, R.BRG_WIN_ERR, R.BRG_WIN_LOCK, R.ING_RULE_SEL, R.ING_STREAM_SEL,
    R.BU_APPLY_SEL, R.DSP_CANCEL, R.DSP_JOB_SEL, R.REL_DESC_SEL, R.BRG_MAP_SEL, List.mem_cons, List.not_mem_nil, or_false, planeOfs] <;> omega

theorem wit_RegisterAccesses : both.reqOn .host = true ∧ both.reqOn .coreB = true ∧ (0 : BitVec 24).toNat % 4 = 0 ∧
    both.present .b = true ∧ both.hostOn = true ∧ ((2 : Nat) ≠ 4 ∨ (0 : BitVec 24).toNat % 4 ≠ 0) ∧
    ((4 : Nat) ≠ 4 ∨ (0xFFFFFF : BitVec 24).toNat % 4 ≠ 0) := by decide +kernel

/-- A register whose read clears it, outside those that a read does more for. -/
theorem wit_RegisterAccesses_rs : ∃ row, both.there R.LDH_LATE_CNT = true ∧ rowOf R.LDH_LATE_CNT = some row ∧ row.pair = .single ∧
    row.rs ≠ 0 ∧ isTbSnap R.LDH_LATE_CNT = false ∧ R.LDH_LATE_CNT ≠ R.GID_TEMP_MAX :=
  ⟨_, by decide +kernel, by rfl, by decide +kernel⟩

theorem wit_RegisterAccesses_rs_other : (∀ i, i < 8 → R.LDH_LATE_CNT ≠ R.CI_COUNT i) ∧
    ∀ p i, R.LDH_LATE_CNT ≠ R.TB_RAW_LO p ∧ R.LDH_LATE_CNT ≠ R.BRG_WIN_LOCK p i ∧ R.LDH_LATE_CNT ≠ R.BRG_WIN_FENCE p i ∧
      R.LDH_LATE_CNT ≠ R.STORE_LOW_MARK p ∧ R.LDH_LATE_CNT ≠ R.Q_PEAK p i ∧ R.LDH_LATE_CNT ≠ R.ING_RULE_HITS p ∧
      R.LDH_LATE_CNT ≠ R.ING_STREAM_ACC p ∧ R.LDH_LATE_CNT ≠ R.ING_STREAM_DROP p := by
  refine ⟨by decide, fun p i => ?_⟩
  cases p <;> simp only [R.LDH_LATE_CNT, R.TB_RAW_LO, R.BRG_WIN_LOCK, R.BRG_WIN_FENCE, R.STORE_LOW_MARK, R.Q_PEAK, R.ING_RULE_HITS,
    R.ING_STREAM_ACC, R.ING_STREAM_DROP] <;> omega

theorem wit_RegisterAccesses_w1c : (BitVec.ofNat 24 (R.SL_EVENT 31)).toNat = R.SL_EVENT 31 ∧
    (BitVec.ofNat 24 (R.CAN_EVENT 7)).toNat = R.CAN_EVENT 7 := by decide +kernel

theorem wit_AbsentAndReadOnlyRanges : alone.reqOn .host = true ∧ (0x800000 : BitVec 24).toNat % 4 = 0 ∧
    planeOf (0x800000 : BitVec 24).toNat = some .b ∧ planeOf (0xBFFFFC : BitVec 24).toNat = some .b ∧ alone.present .b = false ∧
    0xC00000 ≤ (0xC00000 : BitVec 24).toNat := by decide +kernel

theorem wit_RegisterPairs : ∃ a b c, both.reqOn .host = true ∧ both.there (R.EG_BASE_NS_LO .a 0) = true ∧
    rowOf (R.EG_BASE_NS_LO .a 0) = some a ∧ a.pair = .lo ∧ a.holds = true ∧ rowOf (R.EG_BASE_NS_HI .a 0) = some b ∧ b.pair = .hi ∧
    b.holds = true ∧ rowOf R.LT_TIME_NS_LO = some c ∧ c.pair = .lo ∧ planeOf R.LT_TIME_NS_LO = none ∧
    isStageCtl (R.EG_BASE_NS_LO .a 0) = false ∧ logOf (R.EG_BASE_NS_LO .a 0) = none ∧ loOf (R.EG_BASE_NS_HI .a 0) = R.EG_BASE_NS_LO .a 0 ∧
    Tab.find (R.EG_BASE_NS_LO .a 0) (Tab.put (R.EG_BASE_NS_LO .a 0) (5 : Word) []) = some 5 :=
  ⟨_, _, _, by decide +kernel, by decide +kernel, by rfl, by rfl, by rfl, by rfl, by rfl, by rfl, by rfl, by decide +kernel⟩

theorem wit_RegisterPairs_noCapture : ∀ i, i < 8 → R.LT_TIME_NS_LO ≠ R.CI_LAST_LO i := by decide

theorem wit_StageControl : both.reqOn .host = true ∧ isStageCtl (R.SL_STAGE_CTL 0) = true ∧ isStageCtl (R.BRG_WIN_STAGE_CTL .b 63) = true ∧
    both.there (R.BRG_WIN_STAGE_CTL .b 63) = true ∧ 0x200000 ≤ R.SL_STAGE_CTL 0 ∧ R.BRG_WIN_STAGE_CTL .b 63 < 0xC00000 ∧
    R.SL_STAGE_CTL 0 % 4 = 0 ∧ both.stage.sorted ∧ bit (5 : Word) 2 = true ∧ bit (1 : Word) 2 = false ∧ bit (1 : Word) 0 = true ∧
    both.rb (R.SL_STAGE_CTL 0) 31 = false ∧ (both.setRb (R.SL_STAGE_CTL 0) 31 true).rb (R.SL_STAGE_CTL 0) 31 = true := by decide +kernel

/-- Both planes, with a commit pending at a block. -/
def pend (off : Nat) : State := both.setRb off 31 true

theorem wit_StageCommandsAndApply_commit : isStageCtl (R.SL_STAGE_CTL 31) = true ∧ both.there (R.SL_STAGE_CTL 31) = true ∧
    both.rb (R.SL_STAGE_CTL 31) 31 = false ∧ both.stage.sorted ∧ both.snap = [] ∧ both.snap.sorted ∧
    (pend (R.SL_STAGE_CTL 31)).rb (R.SL_STAGE_CTL 31) 31 = true := by decide +kernel

theorem wit_StageCommandsAndApply : (pend (R.SL_STAGE_CTL 31)).rb (R.SL_STAGE_CTL 31) 31 = true ∧
    badSlCfg 31 (pend (R.SL_STAGE_CTL 31)).snapReg = false ∧
    ((pend (R.CAN_STAGE_CTL 7)).canS 7).onBus = none ∧ ((pend (R.CAN_STAGE_CTL 7)).canS 7).rx = false ∧ (pend (R.CAN_STAGE_CTL 7)).badCanCfg 7 (pend (R.CAN_STAGE_CTL 7)).snapReg = false ∧
    fld ((pend (R.PORT_STAGE_CTL .b 3)).reg (R.PORT_CFG .b 3)) 31 27 = fld ((pend (R.PORT_STAGE_CTL .b 3)).snapReg (R.PORT_CFG .b 3)) 31 27 ∧
    (((pend (R.Q_STAGE_CTL .a 511)).pl .a).q 511).writing = none ∧
    ((pend (R.BRG_WIN_STAGE_CTL .a 63)).pl .a).winQuiet 63 = true ∧
    (pend (R.BRG_WIN_STAGE_CTL .a 63)).badWin .a 63 (pend (R.BRG_WIN_STAGE_CTL .a 63)).snapReg = false := by decide +kernel

theorem wit_StageCommandsAndApply_queue : let s := { pend (R.Q_STAGE_CTL .a 511) with snap := [(R.Q_LIMIT .a 511, 358400), (R.Q_WM_HI .a 511, 2), (R.Q_WM_LO .a 511, 1)] }
    s.badQueueCfg .a 511 (s.snapReg (R.Q_CFG .a 511)) (s.snapReg (R.Q_LIMIT .a 511)) (s.snapReg (R.Q_WM_HI .a 511))
      (s.snapReg (R.Q_WM_LO .a 511)) = false := by decide +kernel

theorem wit_EventRegistersAndMessages : both.hostOn = true ∧ both.msixEn = false ∧ ({ both with msixEn := true } : State).msixEn = true ∧
    both.funcMask = false ∧ (∀ j, j < 32 → both.rb (R.EV_ROUTE (32 * 7 + j)) 29 = false) := by decide +kernel

/-- Device 5, with raises of event 255 uncovered. -/
def raised : State := ({ both.setReg R.AON_DEVNUM 0x80000005 with evHold := [(255, (true, 1, 0))] }).setRb R.EV_SENT_CTL 31 true

/-- An event sentence of origin 6. -/
def evSent : List Byte := ({ plain with stream := 0xFF0002, origin := 6, payload := List.replicate 12 0 } : Sent).octets

theorem wit_EventSentenceCommands : 0 < (raised.held 255).2.1 ∧ raised.anyActive = true ∧ raised.devValid = true ∧ (raised.held 0).2.1 = 0 ∧
    (parseSent evSent (evSent.drop 32)).stream.toNat = 0xFF0002 ∧ raised.rb R.EV_SENT_CTL 31 = true ∧ raised.leadHears .a = true ∧
    (parseSent evSent (evSent.drop 32)).origin.toNat ≠ raised.devnum ∧ raised.seen = [] ∧
    unread (raised.reg R.EV_COLLECT_HEAD).toNat (raised.reg R.EV_COLLECT_TAIL).toNat 7 < 64 := by decide +kernel

/-! Witnesses: time -/

theorem wit_DomainCommit : (pend (R.TD_STAGE_CTL .b 1)).rb (R.TD_STAGE_CTL .b 1) 31 = true ∧
    (((pend (R.TD_STAGE_CTL .b 1)).pl .b).dom.getD 1 DomS.rest).seed = false ∧
    fld ((pend (R.TD_STAGE_CTL .b 1)).snapReg (R.TD_KIND .b 1)) 1 0 = 0 := by decide +kernel

/-- Plane A alone, with generator `g` enabled and live, and its commit pending with a period of 1/60 s or none. -/
def eg (g : Nat) (live : Bool) (num : Word) : State :=
  { ((alone.setRb (R.EG_CTL .a g) 31 live).setRb (R.EG_STAGE_CTL .a g) 31 true).modEg .a g fun e => { e with live := live } with snap := [(R.EG_NUM .a g, num)] }

theorem wit_EpochGeneratorCommands : alone.reqOn .host = true ∧ alone.present .a = true ∧ alone.egEn .a 3 = false ∧
    alone.rb (R.EG_STAGE_CTL .a 3) 31 = false ∧ 3 < (alone.pl .a).eg.length := by decide +kernel

theorem wit_EpochGeneratorCommands_commit : (eg 3 true 1).egEn .a 3 = true ∧ (eg 3 true 1).rb (R.EG_STAGE_CTL .a 3) 31 = true ∧
    validPeriod ((eg 3 true 0).snapReg (R.EG_NUM .a 3)).toNat ((eg 3 true 0).snapReg (R.EG_DEN .a 3)).toNat = false ∧
    (((eg 3 true 0).pl .a).egS 3).live = true ∧
    validPeriod ((eg 3 true 1).snapReg (R.EG_NUM .a 3)).toNat ((eg 3 true 1).snapReg (R.EG_DEN .a 3)).toNat = true ∧
    (((eg 3 false 1).pl .a).egS 3).live = false ∧ (eg 3 false 1).egEn .a 3 = false ∧ (eg 3 false 1).canvasEg .a ≠ 3 := by decide +kernel

/-- Plane A alone with generator 3 running and nothing pending. -/
def runs (g : Nat) : State := (alone.setRb (R.EG_CTL .a g) 31 true).modEg .a g fun e => { e with live := true }

/-- In DUPLEX plane A with generator 3 running, which in plane B is stopped. -/
def runsAlone : State := (both.setRb (R.EG_CTL .a 3) 31 true).modEg .a 3 fun e => { e with live := true }

theorem wit_EpochGeneratorCommands_boundary : (runs 3).egEn .a 3 = true ∧ (((runs 3).pl .a).egS 3).live = true ∧ (runs 3).img = none ∧
    (runs 3).canvasEg .a ≠ 3 ∧ (runs 3).rb (R.EG_STAGE_CTL .a 3) 31 = false ∧ (runs 3).mode ≠ 3 := by decide +kernel

theorem wit_EpochGeneratorCommands_duplex : runsAlone.mode = 3 ∧ runsAlone.egEn .a 3 ≠ runsAlone.egEn .b 3 ∧ runsAlone.egEn .b 3 = false ∧
    runsAlone.canvasEg .a ≠ 3 := by decide +kernel

/-- The canvas generator moved to generator `g`, which runs. -/
def canvasOn (g : Nat) : State := (runs g).setRf (R.BU_CTL .a) 31 30 g

theorem wit_EpochGeneratorCommands_eg0 : (canvasOn 1).canvasEg .a ≠ 0 ∧ ((((canvasOn 1).setRb (R.EG_CTL .a 0) 31 true).modEg .a 0 fun e =>
    { e with live := true }).pl .a).relearn = none ∧ ((canvasOn 1).pl .a).sw = none ∧ ((canvasOn 1).pl .a).jump = false ∧
    (canvasOn 1).setLead = none ∧ ((canvasOn 1).setRb (R.TB_CTL .a) 25 false).rb (R.TB_CTL .a) 25 = false := by decide +kernel

theorem wit_EpochGeneratorCommands_canvas : (canvasOn 3).canvasEg .a = 3 ∧ (canvasOn 3).snf.holdEnds = false ∧
    (canvasOn 3).rb (R.REL_STAGE_CTL .a) 31 = false ∧ (canvasOn 3).egEn .a 3 = true := by decide +kernel

/-- A stream of generator 0 whose keyframes are overdue after one epoch. -/
def keyed : State := { alone with pA := { alone.pA with
  sdyn := [(5, StreamDyn.none_)]
  tabs := { alone.pA.tabs with streams := [(5, BitVec.ofNat 128 (2 ^ 127 + 2 ^ 98))] } } }

theorem wit_CanvasAndKeyframes_close :
    let s := (alone.setRb (R.EG_CTL .a 0) 31 true).setRb (R.EG_CTL .a 0) 30 true
    s.egEn .a (s.canvasEg .a) = true ∧ s.rb (R.EG_CTL .a (s.canvasEg .a)) 30 = true ∧ (s.pl .a).closed = false ∧
      alone.egEn .a (alone.canvasEg .a) = false := by decide +kernel

theorem wit_CanvasAndKeyframes : (keyed.pl .a).sdyn.sorted ∧
    nfld (Tab.get (0 : BitVec 128) 5 (keyed.pl .a).tabs.streams).toNat 127 127 = 1 ∧
    eEg (Tab.get (0 : BitVec 128) 5 (keyed.pl .a).tabs.streams).toNat = 0 := by decide +kernel

/-- Plane A with the valid draw job 4095. -/
def draws : State := alone.modPl .a fun x => { x with jobs := [(4095, BitVec.ofNat 1024 (2 ^ 1023))] }

theorem wit_CanvasAndKeyframes_opens : (draws.pl .a).inst = [] ∧ (draws.pl .a).cancel = [] ∧ draws.snf.hold = false ∧
    (draws.pl .a).runsJobs = true ∧ draws.rf R.AON_PWR_STATUS 31 30 ≠ 1 ∧ draws.imgPause = false ∧ (draws.pl .a).noOpen = 0 ∧
    (draws.pl .a).before = none ∧ (draws.pl .a).jobsOf false = [4095] := by decide +kernel

/-- Domain `d` of plane A in a state, in DUPLEX. -/
def dom (d st : Nat) : State := (both.setRf (R.TD_STATUS .a d) 31 28 st)

theorem wit_DomainStates_measured : ((dom 0 2).modDom .a 0 fun y => { y with cfg := 0x07F00A58, meas := some 900 }).measured .a 0 = some 900 ∧
    (dom 0 2).rf (R.TD_CFG .a 0) 31 28 = 0 ∧ (dom 0 2).measured .a 0 = none ∧ (dom 0 4).present .a = true ∧
    fld (((dom 0 4).modDom .a 0 fun y => { y with cfg := 5 }).pl .a |>.domS 0).cfg 10 0 ≠ 0 ∧
    fld (((dom 0 4).pl .a).domS 0).cfg 10 0 = 0 ∧ (((dom 0 3).pl .a).domS 0).ref = false := by decide +kernel

theorem wit_DomainStates : (both.setRf (R.TD_CFG .a 1) 31 28 1).rf (R.TD_CFG .a 1) 31 28 = 1 ∧
    (both.setRf (R.TD_CFG .a 1) 31 28 4).rf (R.TD_CFG .a 1) 31 28 = 4 ∧ 1 < (both.pl .a).dom.length ∧
    (dom 0 0).domState .a 0 = 0 ∧ (dom 1 1).domState .a 1 = 1 ∧ (dom 0 2).domState .a 0 = 2 ∧ (dom 0 3).domState .a 0 = 3 ∧
    (dom 1 4).domState .a 1 = 4 ∧ (dom 0 2).peerLocked .a 0 = false ∧ ((dom 0 1).setRf (R.TD_STATUS .b 0) 31 28 2).peerLocked .a 0 = true := by
  decide +kernel

/-- An armed switch to a locked domain. -/
def armed : State :=
  let s := (dom 1 2).modPl .a fun x => { x with sw := some ⟨1, some 0, none, none, none⟩ }
  s.setRf (R.TD_STATUS .b 1) 31 28 2

/-- A TIME_SWITCH given up at boundary `b`. -/
def givenUp (b : Nat) : State := (dom 1 2).modPl .a fun x => { x with sw := some ⟨1, none, none, some b, none⟩ }

theorem wit_ReleaseTimeCommands_given : (⟨1, none, none, some 0, none⟩ : Switch).due ((givenUp 0).grid .a) 0 = false ∧
    (((givenUp 0).pl .a).egS 0).index = 0 ∧ ((givenUp 7).pl .a).sw = some ⟨1, none, none, some 7, none⟩ := by decide +kernel

/-- A jump forwards over an open instance of plane A. -/
def jumps : State := (both.setReg64 (R.TD_OFFSET_NS_LO .a 0) 1000000000).modPl .a fun x => { x with jump := true, bridge := -1600 }

theorem wit_ReleaseTimeCommands_forward : (jumps.pl .a).jump = true ∧
    jumps.release .a < (jumps.modPl .a fun x => { x with bridge := 0, jump := false }).release .a := by decide +kernel

theorem wit_ReleaseTimeCommands : (armed.pl .a).sw = some ⟨1, some 0, none, none, none⟩ ∧
    (⟨1, some 0, none, none, none⟩ : Switch).due (armed.grid .a) ((armed.pl .a).egS 0).index = true ∧
    domGood (armed.devDom 1) = true ∧ armed.bridgeOk .a = true ∧ armed.sel .a ≠ 1 ∧
    ((both.modPl .a fun x => { x with jump := true, bridge := 1 }).pl .a).jump = true ∧
    (((both.modPl .a fun x => { x with jump := true, bridge := 1 }).modPl .a fun x => { x with bridge := 0, jump := false }).release .a) ≤
      (both.modPl .a fun x => { x with jump := true, bridge := 1 }).release .a := by decide +kernel

theorem wit_ReleaseTimeCommands_far : let s := armed.setReg (R.TD_OFFSET_NS_HI .a 1) 1
    (s.pl .a).sw = some ⟨1, some 0, none, none, none⟩ ∧ s.mode = 3 ∧ s.lead = .a ∧ domGood (s.devDom 1) = true ∧ s.bridgeOk .a = false ∧
      domGood (both.devDom 1) = false := by decide +kernel

theorem wit_LanternCommands_slew : (alone.setRf R.LT_STATUS 31 30 1).ltStep = false ∧ (alone.setRf R.LT_STATUS 31 30 1).rf R.LT_STATUS 31 30 ≠ 0 ∧
    (alone.setRf R.LT_STATUS 31 30 1).pinOn = true := by decide +kernel

theorem wit_LanternCommands : alone.pinOn = true ∧ alone.active alone.lead = true ∧ alone.rf R.LT_STATUS 31 30 = 0 ∧
    (alone.setRf R.LT_STATUS 31 30 1).rf R.LT_STATUS 31 30 = 1 ∧
    (({ alone with mirror := List.replicate 4 ⟨true, 1, 60, 0, 0, 0, 0⟩ } : State).mirror.getD 3 ⟨false, 1, 60, 0, 0, 0, 0⟩).en = true ∧
    both.mode = 3 ∧ (both.pl .a).skewRun < 3 := by decide +kernel

/-! Witnesses: feeds, planes, power and service -/

theorem wit_FeedCommands : (alone.setRb R.AON_FEED_STATUS 2 true).feedGood .a = true ∧ alone.aonOn = true ∧ alone.feedGood .b = false ∧
    alone.feedGood .a = false ∧ alone.feedAbove .a = false ∧ (alone.feedS .a).below = true ∧ (alone.feedS .a).counting = true := by decide +kernel

theorem wit_TaperCommands : both.taperUp = true ∧ both.active .b = true ∧ both.mode = 3 ∧ alone.taperUp = false ∧ alone.aonOn = true ∧
    (alone.active .a && alone.active .b) = false ∧ both.digMm = none ∧ both.link = [] ∧
    ({ both with taperUp := false } : State).active .a = true ∧ ({ both with taperUp := false } : State).taperUp = false := by decide +kernel

theorem wit_TaperCommands_down : let s1 := (({ both with taperUp := false }.addSat R.AON_TAPER_CNT 31 24 1).raise 112).record 0x0D 0 [0, 0, 0, 0]
    ∀ q, ((State.modeFrom both s1).pl q).rejoin = none := by
  intro s1 q; cases q <;> decide +kernel

theorem wit_FeedCommands_lost : ((alone.setRb R.AON_FEED_STATUS 2 true).setFeed .a ⟨true, false⟩).feedGood .a = true ∧
    (((alone.setRb R.AON_FEED_STATUS 2 true).setFeed .a ⟨true, false⟩).feedS .a).below = true := by decide +kernel

/-- Some digest of the other plane differs from the own one, and one is the same. -/
theorem wit_TaperCommands_digest (own : BitVec 64) : (∃ peer, own ≠ peer) ∧ ∃ peer, own = peer :=
  ⟨⟨~~~own, by bv_omega⟩, own, rfl⟩

theorem wit_TaperCommands_link : ({ both with link := [(.b, 5, plain), (.a, 6, plain)] } : State).link = [(.b, 5, plain)] ++ (.a, 6, plain) :: [] ∧
    both.active .a = true := ⟨rfl, by decide⟩

/-- Plane A in a state. -/
def inState (st : PState) : State := alone.modPl .a fun x => { x with st := st }

/-- The shortest image, FULL, of identity 1 with its CRC. -/
def image0 : List Byte :=
  let h (crc : Nat) := toBE 4 imgMagic ++ toBE 2 1 ++ [0, 0] ++ toBE 8 1 ++ toBE 4 64 ++ toBE 4 0 ++ toBE 4 crc ++ List.replicate 36 (0 : Byte)
  h (crc32 (h 0))

/-- RELEARN with that image in slot 0 of both records. -/
def relearns (x : RelearnS) : State :=
  ((inState .relearn).modPl .a fun y => { y with relearn := some x }).recordImage image0 (some 0) |>.flashPut .a 0x01000000 image0

theorem wit_BootAndRelearnCommands : ((inState .boot).pl .a).st = .boot ∧ ((inState .boot).pl .a).fw = none ∧
    ((inState .boot).pl .a).dead = false ∧ (inState .boot).mntOf .a = none ∧ (inState .boot).rb (R.AON_BOOT 0) 31 = false ∧
    (inState .boot).slotCheck .a ((inState .boot).fwActive .a) (.good 1 0) = .good 1 0 ∧
    (∀ w l, (inState .boot).slotCheck .a ((inState .boot).fwActive .a) .noHeader ≠ .good w l) ∧
    (inState .boot).slotCheck .a (1 - (inState .boot).fwActive .a) (.good 2 0) = .good 2 0 :=
  ⟨by decide +kernel, by decide +kernel, by decide +kernel, by decide +kernel, by decide +kernel, by decide +kernel,
    by rw [show (inState .boot).slotCheck .a ((inState .boot).fwActive .a) .noHeader = .noHeader by decide +kernel]; simp, by decide +kernel⟩

/-- A slot whose header is written. -/
def fwSlot (len : Nat) : State := alone.flashPut .a (fwAddr 0) (toBE 4 0x53584657 ++ toBE 4 7 ++ toBE 2 0 ++ [1, 0] ++ toBE 4 len)

theorem wit_BootAndRelearnCommands_slot : (fwSlot 5).flashOcts .a (fwAddr 0) 16 ≠ List.replicate 16 0xFF ∧
    octs ((fwSlot 5).flashOcts .a (fwAddr 0) 16) 0 4 = 0x53584657 ∧ octs ((fwSlot 5).flashOcts .a (fwAddr 0) 16) 12 4 ≤ 7 * 2 ^ 20 - 512 ∧
    octs ((fwSlot 5).flashOcts .a (fwAddr 0) 16) 10 1 ≤ 3 ∧
    7 * 2 ^ 20 - 512 < octs ((fwSlot 0xFFFFFFFF).flashOcts .a (fwAddr 0) 16) 12 4 ∧
    alone.flashOcts .a (fwAddr 0) 16 = List.replicate 16 0xFF ∧
    octs ((alone.flashPut .a (fwAddr 0) [1]).flashOcts .a (fwAddr 0) 16) 0 4 ≠ 0x53584657 := by decide +kernel

theorem wit_BootAndRelearnCommands_load : ((relearns ⟨true, false, false, 0, true, false, 0⟩).pl .a).relearn = some ⟨true, false, false, 0, true, false, 0⟩ ∧
    (relearns ⟨true, false, false, 0, true, false, 0⟩).findImage .a = some image0 ∧
    ((relearns ⟨true, false, false, 0, true, false, 0⟩).pl .a).st = .relearn := by decide +kernel

theorem wit_BootAndRelearnCommands_end : (relearns ⟨true, true, true, 0x30, false, false, 0⟩).relearnMay .a = true ∧
    ((relearns ⟨true, true, true, 0x30, false, false, 0⟩).pl .a).outputsReady = true ∧
    (relearns ⟨true, true, true, 0x30, false, false, 0⟩).rf R.AON_PSUP_CTL 15 8 = 0x30 := by decide +kernel

/-- Plane A rejoins beside plane B. -/
def rejoins (x : RejoinS) (st : PState) : State := both.modPl .a fun y => { y with st := st, rejoin := some x }

/-- A running PLANE_REJOIN of plane A. -/
def rejoinOp : MaintOp := ⟨1, 1, some (pkt 0x0902 []), [], none⟩

theorem wit_RejoinCommands : ((rejoins ⟨.sync, 0, 0, 0, false⟩ .sync).pl .a).rejoin = some ⟨.sync, 0, 0, 0, false⟩ ∧
    ((rejoins ⟨.awaitGuard, 1, 0, 16, false⟩ .copy).pl .a).rejoin = some ⟨.awaitGuard, 1, 0, 16, false⟩ ∧
    (rejoins ⟨.awaitGuard, 1, 0, 16, false⟩ .copy).imgPause = false ∧
    (rejoins ⟨.awaitGuard, 1, 0, 16, false⟩ .copy).imgBuf = false ∧
    0 ≤ (rejoins ⟨.awaitGuard, 1, 0, 16, false⟩ .copy).finalMax .a ∧
    (rejoins ⟨.awaitGuard, 1, 0, 16, false⟩ .copy).finalMax .a < 2 ^ 24 ∧ (rejoins ⟨.final, 1, 0, 0, false⟩ .copy).active (other .a) = true ∧
    ({ rejoins ⟨.waitTaper, 0, 0, 0, false⟩ .relearnWait with maint := [rejoinOp], taperUp := false } : State).mntOf .a = some rejoinOp := by
  decide +kernel

theorem wit_PowerUpAndReset : alone.present .a = true ∧ alone.reqOn .host = true ∧ State.reset.aonOn = false ∧
    ({ alone with pinOn := false } : State).pinPow = true ∧ alone.rstLow = false ∧ ((inState .off).pl .a).st = .off ∧
    ((inState .held).pl .a).st = .held ∧ ((inState .held).setRb R.AON_FEED_STATUS 2 true).mayPower .a = true ∧
    (inState .held).rb R.AON_PSUP_CTL 0 = false ∧ (inState .held).maint = [] ∧ ({ alone with rstLow := true } : State).rstLow = true := by
  decide +kernel

/-- Plane A alone with both its ring ports up, and a join check of its ring at a state. -/
def joining (st sent notices : Nat) : State :=
  ((((alone.setRf (R.PORT_CFG .a 0) 31 29 1).setRf (R.PORT_CFG .a 1) 31 29 1).setRb (R.PORT_STATUS .a 0) 31 true).setRb (R.PORT_STATUS .a 1)
    31 true |>.setJoinSt 0 st).modJoin .a false fun _ => ⟨sent, notices⟩

theorem wit_PowerUpAndReset_holds : both.active .a = true ∧ both.active .b = true ∧ bit (3 : Word) 0 = true ∧ bit (3 : Word) 1 = true ∧
    both.rb R.AON_PSUP_CTL 0 = false ∧ both.rb R.AON_PSUP_CTL 1 = false := by decide +kernel

theorem wit_JoinCheckCommands : (joining 0 0 0).joinMay .a false = true ∧ (joining 0 0 0).joinSt (pinOf .a false) = 0 ∧
    (joining 1 4 0).joinSt 0 = 1 ∧ (((joining 1 4 0).pl .a).joinS false).sent = 4 ∧ (joining 1 4 0).devValid = false ∧
    ((joining 1 4 0).setReg R.AON_DEVNUM 0x80000001).devValid = true ∧ (joining 2 4 2).joinSt 0 = 2 ∧
    (((joining 2 4 2).pl .a).joinS false).notices = 2 ∧ (((joining 2 4 3).pl .a).joinS false).notices = 3 ∧ (joining 4 0 0).joinSt 0 = 4 := by
  decide +kernel

theorem wit_PowerModeCommands : (alone.setRf R.AON_PWR_STATUS 31 30 1).pwrMode = 1 ∧ alone.pwrMode = 0 ∧ alone.reqOn .host = true ∧
    alone.canvasLive .a = false ∧ alone.present .b = false ∧ (runs 0).present .a = true ∧ (runs 0).canvasLive .a = true ∧
    (alone.setRf R.AON_PWR_CTL 31 30 1).rf R.AON_PWR_CTL 31 30 = 1 ∧ alone.wakeEnabled = false ∧
    (alone.setRb (R.AON_SLWAKE_CFG 3) 31 true).wakeEnabled = true := by decide +kernel

/-- A character 0x100 of nine data bits at 2.048 Mbit/s over 8, in clocks of 2.048 MHz. -/
def ch100 : List (Bool × Nat) := [(false, 72), (true, 160)]
def awake : State := (alone.setRf R.AON_PWR_STATUS 31 30 2).setReg (R.AON_SLWAKE_CFG 3) 0x80000800

theorem wit_PowerModeCommands_wake : (alone.setRb R.AON_WAKE_CFG 31 true).rb R.AON_WAKE_CFG 31 = true ∧
    (alone.setRb R.AON_WAKE_CFG 30 true).rb R.AON_WAKE_CFG 30 = true ∧ alone.reg64 R.AON_TICKS_LO = alone.reg64 R.AON_ALARM_LO ∧
    ((alone.setRf R.AON_PWR_STATUS 31 30 2).setRb (R.AON_SLWAKE_CFG 3) 31 true).pwrMode = 2 ∧
    (alone.setRb (R.AON_SLWAKE_CFG 3) 31 true).rb (R.AON_SLWAKE_CFG 3) 31 = true ∧
    (alone.setRb (R.AON_CANWAKE_CFG 1) 31 true).rb (R.AON_CANWAKE_CFG 1) 31 = true := by decide +kernel

theorem wit_PowerModeCommands_heard : let s := awake
    s.slMatch 3 (.char ch100) = true ∧ s.slMatch 3 (.char [(false, 80)]) = false ∧ s.rb (R.AON_SLWAKE_CFG 3) 30 = false ∧
    s.rb (R.AON_CANWAKE_CFG 1) 30 = false ∧ s.rf (R.AON_CANWAKE_CFG 1) 28 24 ≤ 31 ∧
    (s.setRb (R.AON_CANWAKE_CFG 1) 30 true).rb (R.AON_CANWAKE_CFG 1) 30 = true ∧ frBrs (List.replicate 8 0) = false ∧
    wakeFrame (s.rb (R.AON_CANWAKE_CFG 1) 29) (s.reg (R.AON_CANWAKE_ID 1)) (s.reg (R.AON_CANWAKE_IDMASK 1)) (s.reg (R.AON_CANWAKE_DATA 1))
      (s.reg (R.AON_CANWAKE_DMASK 1)) (List.replicate 8 0) [] = true := by decide +kernel

theorem wit_ServiceCommands : alone.anyActive = true ∧ alone.frGroups = [] ∧ ({ alone with frDone := 300 } : State).frGroups = [0] ∧ alone.mirrorLast alone.lead = none ∧ alone.reqOn .coreA = true ∧ alone.pinOn = true ∧
    (List.replicate 702 true).length = 702 ∧ (0x02 : Byte) < 0x03 ∧ (0x02 : Byte) < 0xFF ∧ alone.aonOn = true := by decide +kernel

/-! Witnesses: links, rings, PTP -/

/-- Plane A alone with port `i` in a mode, up or not. -/
def link (i mode : Nat) (up : Bool) : State := (alone.setRf (R.PORT_CFG .a i) 31 29 mode).setRb (R.PORT_STATUS .a i) 31 up

/-- That port, wrapped. -/
def wrap (i : Nat) : State := (link i 1 true).setRb (R.PORT_STATUS .a i) 30 true

theorem wit_LinksAndWraps : (link 0 1 true).portMode .a 0 = 1 ∧ (link 3 2 true).portMode .a 3 = 2 ∧ (link 3 2 true).linkUp .a 3 = true ∧
    (link 3 2 false).linkUp .a 3 = false ∧ (link 0 1 true).present .a = true ∧ (wrap 1).wrapped .a 1 = true ∧ (wrap 1).linkUp .a 1 = true ∧
    isWest 3 = true ∧ isWest 2 = false ∧ ((wrap 2).setRb (R.PORT_STATUS .a 2) 26 true).rb (R.PORT_STATUS .a 2) 26 = true ∧
    alone.active .a = true ∧ alone.reqOn .host = true ∧ (BitVec.ofNat 24 (R.PORT_RING .a 3)).toNat = R.PORT_RING .a 3 ∧
    (link 3 1 false).wrapped .a 3 = false ∧ (link 3 1 false).linkUp .a 3 = false := by decide +kernel

/-- A frame of 60 octets with a sentence of 14 octets. -/
def ringFrame : List Byte :=
  List.replicate 12 0 ++ toBE 2 ((link 0 1 true).rf (R.PORT_NATIVE_TYPE .a 0) 15 0) ++
    ({ plain with plen := 14, payload := List.replicate 14 0 } : Sent).octets

theorem wit_NativeFrames : let s := link 0 1 true
    let body := ringFrame.drop 14
    let h := parseSent body ((body.drop 32).take (octs body 2 2))
    ringFrame.length = 60 ∧ octs ringFrame 12 2 ≠ 0x8100 ∧ octs ringFrame 12 2 = s.rf (R.PORT_NATIVE_TYPE .a 0) 15 0 ∧
    octs body 2 2 = body.length - 32 ∧ s.prpOn .a 0 = false ∧ s.forwards .a = true ∧ isProbe h = false ∧ s.ownSent h = false ∧
    (isWest 0 && s.removes (ringOf 0) h) = false := by decide +kernel

theorem wit_NativeFrames_transmit : let s (mode : Nat) := (link 0 mode true).modPl .a fun x => { x with txq := [⟨0, 4, plain, false, false⟩] }
    (s 1).txChoice .a 0 = some ⟨0, 4, plain, false, false⟩ ∧ (link 2 2 true).txChoice .a 2 = none ∧ (s 1).portMode .a 0 ≠ 2 ∧
    ((s 1).pl .a).hold = [] ∧ (s 1).linkUp .a 0 = true ∧ (link 2 2 true).portMode .a 2 = 2 ∧
    ((link 2 2 true).modPl .a fun x => { x with txq := [⟨2, 4, plain, false, false⟩] }).txChoice .a 2 = some ⟨2, 4, plain, false, false⟩ := by
  decide +kernel

/-- Plane A alone with a P2P port open to PTP, following PTP in domain 1. -/
def ptp : State :=
  ((((link 0 1 true).setRb (R.PORT_PTP_CFG .a 0) 31 true).setRb (R.PORT_PTP_CFG .a 0) 28 true).modDom .a 1 fun y =>
    { y with cfg := 0x10000000 }).modPl .a fun x => { x with masters := [none, some ⟨[], [], 0, [7]⟩] }

/-- A PTP message of a type over Ethernet, with its requestingPortIdentity. -/
def ptpFrame (typ : Byte) (id : List Byte) : List Byte :=
  (if typ = 2 ∨ typ = 3 then [0x01, 0x80, 0xC2, 0, 0, 0x0E] else [0x01, 0x1B, 0x19, 0, 0, 0]) ++ List.replicate 6 0 ++ [0x88, 0xF7] ++ [typ] ++ List.replicate 43 0 ++ id

theorem wit_PtpCommands : ptpAt (ptpFrame 2 (List.replicate 10 0)) = some (14, false) ∧ ptp.present .a = true ∧ ptp.portMode .a 0 ≠ 0 ∧
    ptp.linkUp .a 0 = true ∧ ptp.ptpOpen .a 0 = true ∧ ptp.forwards .a = true ∧ ptp.p2p .a 0 = true ∧
    octs ((ptpFrame 2 (List.replicate 10 0)).drop 14) 0 1 % 16 = 2 ∧
    octs ((ptpFrame 9 (List.replicate 10 0)).drop 14) 0 1 % 16 = 9 ∧ ptpAt (ptpFrame 9 (List.replicate 10 0)) = some (14, false) ∧
    ptpAt (ptpFrame 3 (List.replicate 10 0)) = some (14, false) ∧ (ptp.pl .a).masters.getD 1 none = some ⟨[], [], 0, [7]⟩ ∧
    fld ((ptp.pl .a).domS 1).cfg 31 28 = 1 ∧ ptp.prpOn .a 0 = false ∧ octs (ptpFrame 2 (List.replicate 10 0)) 12 2 ≠ 0x8100 ∧ (ptp.setRb (R.PORT_PTP_CFG .a 0) 28 false).p2p .a 0 = false ∧
    (ptp.setRb (R.PORT_PTP_CFG .a 0) 28 false).ptpOpen .a 0 = true := by decide +kernel

theorem wit_PtpCommands_response : let m := (ptpFrame 3 (ptp.portId .a 0)).drop 14
    octs m 0 1 % 16 = 3 ∧ slice m 44 10 = ptp.portId .a 0 ∧ octs m 30 2 = (((ptp.pl .a).port.getD 0 PortS.rest).pdSeq).toNat ∧
    octs m 6 1 / 2 % 2 = 0 := ⟨rfl, rfl, rfl, rfl⟩

/-- A Sync of timeTransmitter 0 that the filter knows already. -/
def synced : State := ptp.modPl .a fun x => { x with
  dom := modAt 1 (fun y => { y with cfg := 0x10000000 }) x.dom, masters := [none, some ⟨[], List.replicate 10 0, 0, [7]⟩]
  ptpSeen := [(ptpKey ((ptpFrame 0 (List.replicate 10 0)).drop 14), 0)] }

theorem wit_PtpCommands_sync : let m := (ptpFrame 0 (List.replicate 10 0)).drop 14
    octs m 6 1 / 2 % 2 = 0 ∧ (synced.pl .a).ptpDone (ptpKey m) = true ∧ 1 < (synced.pl .a).dom.length ∧ 1 < (synced.pl .a).masters.length ∧
    (synced.followers .a (octs m 4 1) = [1]) ∧ slice m 20 10 = List.replicate 10 0 ∧ BitVec.ofNat 16 (octs m 30 2) ∉ [(7 : BitVec 16)] ∧
    ((synced.setReg (R.PORT_LINK_DELAY .a 0) 5).reg (R.PORT_LINK_DELAY .a 0)) ≠ 0xFFFFFFFF ∧
    60 ≤ (ptpFrame 0 (List.replicate 10 0)).length ∧ (ptpFrame 0 (List.replicate 10 0)).length + 4 ≤ synced.maxFrame .a 0 := by decide +kernel

theorem wit_PtpCommands_stamp : let f : WireFrame := ⟨0, 0, 0x88F7, List.replicate 44 0, true, false, some (1, 0, true)⟩
    f.orig = some (1, 0, true) ∧ 0 + 44 ≤ f.body.length := ⟨rfl, by decide⟩

/-- A LINK_CAL run of the ring of P0 and P1. -/
def cal (east : Bool) (sent : Nat) : CalS := ⟨false, 64, east, sent, 0, 0, 0, 0, 0, false⟩

def calRuns (east : Bool) (sent : Nat) : State :=
  ((link 0 1 true).modPl .a fun x => { x with cal := some (cal east sent) }).setReg R.AON_DEVNUM 0x80000006

/-- A probe, of an origin. -/
def probe (origin : BitVec 10) : List Byte :=
  ({ plain with cls := 2, stream := 0xFF0004, origin := origin, plen := 16, payload := 2 :: List.replicate 15 0 } : Sent).octets

theorem wit_CalibrationAndPrp : ((calRuns true 63).pl .a).cal = some (cal true 63) ∧ (cal true 63).sent < (cal true 63).probes ∧
    (calRuns true 63).portMode .a 0 = 1 ∧ isProbe (parseSent (probe 5) ((probe 5).drop 32)) = true ∧ (calRuns true 63).linkUp .a 0 = true ∧
    (calRuns true 63).ownSent (parseSent (probe 5) ((probe 5).drop 32)) = false ∧
    (calRuns true 63).ownSent (parseSent (probe 6) ((probe 6).drop 32)) = true ∧ (cal true 63).side.toNat = ringOf 0 ∧
    ({ calRuns false 64 with maint := [⟨4, 1, some (pkt 0x0905 []), [], none⟩] } : State).mntRun 4 =
      some ⟨4, 1, some (pkt 0x0905 []), [], none⟩ ∧ (cal false 64).east = false ∧ (cal false 64).probes ≤ (cal false 64).sent := by
  decide +kernel

theorem wit_CalibrationAndPrp_turn : (cal true 64).sent = (cal true 64).probes ∧ 0 < (cal true 64).probes ∧ (cal true 64).east = true ∧
    ((calRuns true 64).pl .a).cal = some (cal true 64) := by decide +kernel

theorem wit_CalibrationAndPrp_prp : let s := ((link 2 2 true).setRb (R.PORT_CFG .a 2) 26 true).setRb (R.PORT_PRP .a 2) 31 true
    s.active .a = true ∧ s.prpOn .a 2 = true ∧ s.linkUp .a 2 = true ∧ s.rb (R.PORT_PRP .a 2) 31 = true := by decide +kernel

/-! Witnesses: ingress, queues, jobs -/

/-- A line whose packet waits for plane A, and a controller whose frame does. -/
def slHas : State := alone.modSl 31 fun x =>
  { x with items := [⟨false, true, true, false, 0, 1, 0, true, false, false, 0, 1⟩], rxq := [0x41] }
def canHas : State := alone.modCan 7 fun x => { x with rxq := [⟨false, List.replicate 8 0, [], 0, true, false, false, 3⟩] }

/-- A rising edge of C7 and a frame of L1 that wait for plane A. -/
def lanHas : State :=
  { alone with lanIn := [⟨5, .capture 7 true 1, true, false⟩, ⟨6, .ltc 1 0 [0, 0, 0, 0] 0 1, true, false⟩] }

theorem wit_IngressCommands : alone.ingressOn .a = true ∧
    (∃ x, alone.parse .a (5 + lanHas.ltPhase) (.capture 7 true 1) = .ok x ∧ lanHas.inputHeld .a x = false) ∧
    (lanHas.lanIn.find? fun e => decide (e.input = .capture 7 true 1) && e.toA) = some ⟨5, .capture 7 true 1, true, false⟩ ∧
    (lanHas.lanIn.find? fun e => decide (e.input = .ltc 1 0 [0, 0, 0, 0] 0 1) && e.toA) =
      some ⟨6, .ltc 1 0 [0, 0, 0, 0] 0 1, true, false⟩ ∧
    lanHas.foreignHeld .a (.capture 7 true 1) = false ∧ lanHas.foreignHeld .a (.ltc 1 0 [0, 0, 0, 0] 0 1) = false :=
  ⟨by decide, ⟨_, by rfl, by decide +kernel⟩, by decide +kernel, by decide +kernel, by decide +kernel, by decide +kernel⟩

theorem wit_IngressCommands_line :
    ∃ f, (slHas.slInputs .a 31).find? (fun e => decide (e.2 = f)) = some (0, f) ∧ slHas.foreignHeld .a f = false ∧
      slHas.slStamp 31 0 = 0 ∧ ∃ bad os q, f = .serPkt 31 bad os q :=
  ⟨((slHas.slInputs .a 31).map Prod.snd).getD 0 (.capture 0 true 0), by decide +kernel, by decide +kernel, by decide +kernel, _, _, _, by rfl⟩

theorem wit_IngressCommands_can : ((canHas.canInputs .a 7).find? fun e => decide (e.2 = .can 7 false (List.replicate 8 0) [] 3)).isSome = true ∧
    canHas.foreignHeld .a (.can 7 false (List.replicate 8 0) [] 3) = false ∧ canHas.canStamp 7 3 = 0 := by decide +kernel

/-- A candidate that is a native sentence. -/
def cand : Cand := ⟨5, 0, [], 0, 0, none, none, some plain, 0, 0⟩

theorem wit_IngressCommands_more : ((alone.modPl .a fun x => { x with cands := [cand] }).pl .a).cands = [cand] ∧ cand.pairKey = none ∧
    cand.sacn = none ∧ cand.native ≠ none ∧ (((alone.modPl .a fun x => { x with sync := [(255, ⟨1, none, 0, none⟩)] }).pl .a).grp 255).st = 1 ∧
    (alone.pl .a).sdyn = [] := by decide +kernel

/-- A frame of another EtherType at a spur port. -/
def spurFrame : List Byte := List.replicate 12 0 ++ [0x88, 0xB6] ++ List.replicate 46 0

theorem wit_IngressCommands_spur : let s := link 2 2 true
    s.portMode .a 2 = 2 ∧ s.linkUp .a 2 = true ∧ octs spurFrame 12 2 ≠ 0x8100 ∧ octs spurFrame 12 2 ≠ 0x88F7 ∧ spurFrame.length = 60 ∧
    s.prpOn .a 2 = false ∧ (match (s.count (R.PORT_COUNTERS .a 2 0)).parse .a 0 (.eth 2 spurFrame) with | .ok x => x.lantern.isNone | .error _ => false) = true := by
  decide +kernel

/-- Back-pressure holds queue 0, to which a rule for every input sends a stream. -/
def pressed : State := (lanHas.setRb (R.DSP_BP .a 0) 0 true).modPl .a fun x => { x with
  rules := [(0, BitVec.ofNat 256 (2 ^ 63 + 2 ^ 60))], tabs := { x.tabs with streams := [(0, BitVec.ofNat 128 (2 ^ 127 + 2 ^ 10))] } }

/-- A candidate of an sACN packet, held in group 3. -/
def sacn (seq : Byte) (ends : Bool) : Cand :=
  { cand with native := none, sacn := some ⟨seq, ends, false, 64000⟩, entry := BitVec.ofNat 128 (2 ^ 127 + 3 * 2 ^ 35) }

theorem wit_IngressCommands_held : pressed.foreignHeld .a (.capture 7 true 1) = true ∧
    (link 2 2 true).present .a = true ∧ ptpAt spurFrame = none ∧ 60 ≤ spurFrame.length ∧ spurFrame.length ≤ 9212 ∧
    octs spurFrame 12 2 ∉ [0x8100, 0x8808, 0x88FB, (link 2 2 true).rf (R.PORT_NATIVE_TYPE .a 2) 15 0] ∧
    (alone.spurFrame .a 2 spurFrame).1 = false ∧ ((link 2 2 true).spurFrame .a 2 spurFrame).1 = true := by decide +kernel

/-- Sequence numbers before and after the last, a packet held and one that ends, and a group that waits. -/
theorem wit_IngressCommands_sacn : (sacn 9 false).sacn = some ⟨9, false, false, 64000⟩ ∧ nfld (sacn 9 false).entry.toNat 42 35 = 3 ∧
    (let d := sext 8 (((9 : Byte).toNat + 256 - (28 : Byte).toNat) % 256); -19 ≤ d ∧ d ≤ 0) ∧
    ¬ (let d := sext 8 (((9 : Byte).toNat + 256 - (29 : Byte).toNat) % 256); -19 ≤ d ∧ d ≤ 0) ∧
    ((alone.pl .a).grp 3).st ≠ 2 ∧ ((alone.pl .a).grp 3).stamp ≠ some (sacn 9 false).arrival ∧ ((alone.pl .a).grp 3).st ≠ 1 ∧
    (alone.pl .a).pairs = [] ∧ ({ cand with pairKey := some [1] } : Cand).pairKey = some [1] ∧ alone.allocPlane .a = .a ∧
    ((alone.modPl .a fun x => x.modSd 5 fun d => { d with held := some (sacn 9 false) }).pl .a).heldIn 3 (fun _ => true) = [sacn 9 false] := by
  decide +kernel

/-- A record of one word and one of two. -/
def rec (n : Nat) : Rec := ⟨{ plain with payload := List.replicate n 0 }, 0, 0, false, false, false, none, 0, false, none⟩

/-- Queue 511 of plane A. -/
def queue (x : QueueS) : State := (alone.modQ .a 511 fun _ => x).setRb (R.Q_CTL .a 511) 31 true

theorem wit_QueueCommands : ((queue { QueueS.empty with ready := [(0, rec 1)] }).pl .a).q 511 = { QueueS.empty with ready := [(0, rec 1)] } ∧
    (queue QueueS.empty).flushPend .a 511 = false ∧ (queue QueueS.empty).qEn .a 511 = true ∧ alone.qEn .a 511 = false ∧
    ((queue { QueueS.empty with writing := some (rec 1) }).pl .a).q 511 = { QueueS.empty with writing := some (rec 1) } ∧
    (queue QueueS.empty).qDispatcher .a 511 = true ∧ QueueS.empty.doomed = false ∧ 0 + 1 < (rec 1).words ∧ (rec 0).words ≤ 0 + 1 ∧
    ((queue { QueueS.empty with items := [.record (rec 1)] }).pl .a).q 511 = { QueueS.empty with items := [.record (rec 1)] } ∧
    (let s := (queue { QueueS.empty with items := [.record (rec 1), .record (rec 70)] }).setReg (R.Q_PEAK .a 511) 100
     (((s.pl .a).q 511).occ ≤ (s.reg (R.Q_PEAK .a 511)).toNat) ∧ s.hiLive .a 511 = true ∧ s.loLive .a 511 = false) ∧
    (queue QueueS.empty).rb (R.Q_STAGE_CTL .a 511) 31 = false ∧ ((queue QueueS.empty).setRb (R.Q_STATUS .a 511) 31 true).flushPend .a 511 = true := by decide +kernel

theorem wit_SelectorsLogTailsAperture : alone.reqOn .host = true ∧ alone.present .a = true ∧ logOf R.EV_COLLECT_TAIL = some (R.EV_COLLECT_HEAD, 7) ∧
    logOf (R.BRG_DLOG_TAIL .b) = some (R.BRG_DLOG_HEAD .b, 5) ∧ both.there (R.BRG_DLOG_TAIL .b) = true ∧
    0xC00000 ≤ (0xDFFFFC : BitVec 24).toNat ∧ (0xDFFFFC : BitVec 24).toNat < 0xE00000 ∧ (0xDFFFFC : BitVec 24).toNat % 4 = 0 := by
  decide +kernel

/-- An instance of a draw job in a state, and an engine that runs it at a move of operation `op`. -/
def inst (st : JState) : Inst :=
  ⟨1, st, BitVec.ofNat 1024 (2 ^ 1023), 0, 10, false, 0, false, false, false, false, false, 0, 0, false, [], 0, none⟩
def job (st : JState) : State := alone.modPl .a fun x => { x with inst := [(4095, inst st)] }
def engine (op left : Nat) : EngS := ⟨4095, 0, left, { Tables.empty with moves := [(0, BitVec.ofNat 128 (op * 2 ^ 124))] }, [], []⟩
def running (op left : Nat) : State := (job .run).modPl .a fun x => { x with engs := List.replicate 15 none ++ [some (engine op left)] }

/-- No error, and one of a move's entry. -/
def clean : MoveEcc := ⟨0, false, [], false, [], [], []⟩
def spoilt : MoveEcc := { clean with entry := true }

/-- That state with plane A's canvas generator enabled. -/
def onEg (s : State) : State := s.setRb (R.EG_CTL .a 0) 31 true

theorem wit_MoveCommands : ∀ op, op < 6 → ((onEg (running op 1)).pl .a).engs.getD 15 none = some (engine op 1) ∧
    ((onEg (running op 1)).pl .a).instOf (engine op 1).job = some (inst .run) ∧ (engine op 1).left ≠ 0 ∧
    (onEg (running op 1)).windowOver .a (inst .run) = false ∧ (inst .run).ending = none ∧
    (onEg (running op 1)).egEn .a ((onEg (running op 1)).canvasEg .a) = true ∧ shortSource (inst .run) ((engine op 1).mark clean).move = false ∧
    emptyInput (inst .run) ((engine op 1).mark clean).move = false ∧ (engine op 1).ruined clean = false ∧
    (engine op 1).ruined spoilt = true ∧ mvOp ((engine op 1).mark clean).move = op ∧ mvOp ((engine op 1).mark spoilt).move = op := by
  decide +kernel

theorem wit_MoveCommands_errors : 0 < eccBad { clean with canvas := [(true, 65535)] } := by decide +kernel

theorem wit_JobCommands : ((job .wait).pl .a).instOf 4095 = some (inst .wait) ∧ (inst .wait).st = .wait ∧ (inst .run).st = .run ∧
    jBuild (inst .run).desc = false ∧ fld (0xFFF : Word) 11 0 = 4095 ∧ (alone.pl .a).instOf 4095 = none ∧
    (alone.pl .a).cancel.contains 4095 = false ∧ alone.reqOn .host = true ∧ alone.present .a = true ∧
    alone.egEn .a (alone.canvasEg .a) = false := by decide +kernel

/-- A build job runs, all its moves worked. -/
def builds : State := (onEg (running 0 0)).modPl .a fun x =>
  x.modInst 4095 fun i => { i with desc := BitVec.ofNat 1024 (2 ^ 1023 + 2 ^ 1022) }

theorem wit_JobCommands_run : let r := (onEg (job .ready)).modPl .a fun x => { x with engs := List.replicate 16 none }
    r.egEn .a (r.canvasEg .a) = true ∧ (r.pl .a).engs.getD 15 none = none ∧ (r.pl .a).nextReady = some 4095 ∧
    (r.pl .a).instOf 4095 = some (inst .ready) ∧ (15 : Nat) < (r.pl .a).engs.length ∧
    ((onEg (running 0 0)).pl .a).engs.getD 15 none = some (engine 0 0) ∧ (engine 0 0).left = 0 ∧
    ((onEg (running 0 0)).pl .a).instOf (engine 0 0).job = some (inst .run) := by decide +kernel

theorem wit_JobCommands_build : ∃ i, (builds.pl .a).instOf 4095 = some i ∧ i.st = .run ∧ jBuild i.desc = true ∧
    (builds.pl .a).engOf 4095 = some (15, engine 0 0) ∧ builds.egEn .a (builds.canvasEg .a) = true ∧ (alone.pl .a).cv true = [] :=
  ⟨_, by rfl, by decide +kernel, by decide +kernel, by decide +kernel, by decide +kernel, by rfl⟩
/-! Witnesses: releases, serial lines, CAN, the bridge -/

/-- Copies of output 57 from the planes. -/
def copyOf (p : Plane) : Copy := ⟨p, 0x1000, 0, some [1]⟩
def copies (l : List Copy) : State := both.modOut 57 fun o => { o with copies := l }

theorem wit_CopiesAndDecisions : both.pinOn = true ∧ both.present .a = true ∧
    ((both.modPl .a fun x => { x with path := [⟨3, 4095, 57, copyOf .a⟩] }).pl .a).path = [⟨3, 4095, 57, copyOf .a⟩] ∧
    (copyOf .a).data = some [1] ∧ (copyOf .a).oseq = 0x1000 ∧ (copyOf .a).obj = 0 ∧ (copyOf .a).obj = (copyOf .b).obj ∧
    (copyOf .a).data = (copyOf .b).data ∧ ((copies [copyOf .a, { copyOf .b with obj := 1 }]).outS 57).copies.find? (fun c =>
      c.plane != both.lead) = some { copyOf .b with obj := 1 } ∧ (copyOf .a).obj ≠ (1 : Byte) ∧
    (both.outS 57).past 0x1000 = false ∧
    ((copies [copyOf .a, copyOf .b]).outS 57).copies.find? (fun c => c.plane == both.lead) = some (copyOf .a) ∧
    ((copies [copyOf .a, copyOf .b]).outS 57).copies.find? (fun c => c.plane != both.lead) = some (copyOf .b) ∧
    both.active both.lead = true ∧ both.active (other both.lead) = true ∧ (copies []).snuffed 57 = false ∧ ((copies []).outS 57).safe = false ∧
    both.rb (R.LDH_OUT_CFG 57) 2 = true ∧ (both.setRb (R.LDH_OUT_CFG 57) 2 false).rb (R.LDH_OUT_CFG 57) 2 = false ∧
    (((copies []).outS 57).tally 1).1 < (both.setRf R.LDH_CTL 15 8 2).rf R.LDH_CTL 15 8 := by decide +kernel

/-- Output 39 with a chosen copy, and pulse output 15 with a single pulse, its trailing edge, a command. -/
def decided : State := alone.modOut 39 fun o => { o with chosen := [(0x1000, .send 0 [1], 1)] }
def pulseCmd : PulseCmd := ⟨15, 0, [], pkt 0x0605 [], false⟩

theorem wit_PinReleases : (((decided.outS 39).chosen.find? fun e => e.1 == 0x1000) = some (0x1000, .send 0 [1], 1)) ∧ (39 : Nat) < 40 ∧
    alone.pulseOver 15 0 = false ∧
    ((alone.modPo 15 fun _ => ⟨some ⟨0, 0, 5, 0, 0⟩, none⟩).po.getD 15 ⟨none, none⟩) = ⟨some ⟨0, 0, 5, 0, 0⟩, none⟩ ∧
    ((alone.modPo 15 fun _ => ⟨none, some 160⟩).po.getD 15 ⟨none, none⟩) = ⟨none, some 160⟩ ∧
    (alone.modPl .a fun x => { x with pulses := [pulseCmd] }).nextPulse 15 = some pulseCmd := by decide +kernel

/-- Output 39 with nothing to send, and with the content it last had. -/
def skips : State := alone.modOut 39 fun o => { o with chosen := [(0x1000, .skip, 1)] }
def holds : State := alone.modOut 39 fun o => { o with chosen := [(0x1000, .hold, 0)], content := [(0, (0, [1]))] }

theorem wit_PinReleases_more : ((skips.outS 39).chosen.find? fun e => e.1 == 0x1000) = some (0x1000, .skip, 1) ∧
    ((holds.outS 39).chosen.find? fun e => e.1 == 0x1000) = some (0x1000, .hold, 0) ∧
    Tab.find ((0x1000 : Word).toNat % 4096) (holds.outS 39).content = some (0, [1]) ∧
    ((⟨0, 0, 5, 0, 0⟩ : Prog).period = 0 ∧ (⟨0, 0, 5, 0, 0⟩ : Prog).m = 0) := by decide +kernel

/-- A RAW descriptor of spur port 2, declared and built for the epoch that its launch falls in. -/
def rawDesc : BitVec 256 := BitVec.ofNat 256 (2 ^ 255 + 2 * 2 ^ 246 + 2 ^ 104)
def launches (ok : Bool) : State :=
  ((link 2 2 true).setRb (R.EG_CTL .a 0) 31 true).modPl .a fun x => { x with
    descSt := [(4095, { DescS.none_ with built := [(0, ok, rawDesc)] })] }

theorem wit_EthernetLaunch : (launches true).egEn .a ((launches true).canvasEg .a) = true ∧ (launches true).active .a = true ∧ rdFormat rawDesc = 0 ∧
    (launches false).launchOf .a 4095 = some (0, rawDesc, false) ∧ (launches true).launchOf .a 4095 = some (0, rawDesc, true) ∧
    (launches true).imgPause = false ∧ (launches true).linkUp .a (rdTarget rawDesc) = true ∧
    (launches true).portMode .a (rdTarget rawDesc) = 2 ∧ (launches true).snf.pSafe.getLsbD (rdTarget rawDesc) = false ∧
    (launches true).snf.pBlack.getLsbD (rdTarget rawDesc) = false ∧
    ((((launches true).modPl .a fun x => x.modDst 4095 fun y => { y with prep := some (0, [], rawDesc) }).pl .a).dst 4095).prep =
      some (0, [], rawDesc) ∧ (link 2 2 false).linkUp .a 2 = false ∧
    (((launches true).snf.pBlack ||| 4).getLsbD (rdTarget rawDesc) = true) ∧
    { (launches true).snf with pSafe := 4 }.pSafe.getLsbD (rdTarget rawDesc) = true ∧ ((launches true).pl .a).raw.toNat = 0 := by decide +kernel

/-- It has come up before; a NATIVE one goes out on a ring port; the block is in IDLE. -/
theorem wit_EthernetLaunch_more : ((((launches true).modPl .a fun x => x.modDst 4095 fun y => { y with done := some 0 }).pl .a).dst 4095).done =
      some 0 ∧ (((launches true).pl .a).dst 4095).done = none ∧ (launches true).rf R.AON_PWR_STATUS 31 30 ≠ 1 ∧
    ((launches true).setRf R.AON_PWR_STATUS 31 30 1).rf R.AON_PWR_STATUS 31 30 = 1 ∧ (link 2 1 true).portMode .a 2 = 1 ∧
    rdFormat (rawDesc ||| BitVec.ofNat 256 (2 ^ 244)) = 1 ∧ rdTarget (rawDesc ||| BitVec.ofNat 256 (2 ^ 244)) = 2 := by decide +kernel

theorem wit_CaptureAndLtc : bit ((alone.setReg (R.CI_CFG 7) 0xE0000000).reg (R.CI_CFG 7)) 31 = true ∧ alone.pinOn = true ∧
    bit ((alone.setReg (R.CI_CFG 7) 0xE0000000).reg (R.CI_CFG 7)) 28 = false ∧
    bit ((alone.setReg (R.CI_CFG 7) 0xF0000000).reg (R.CI_CFG 7)) 28 = true ∧ bit ((alone.setReg (R.CI_CFG 7) 0xF0000000).reg (R.CI_CFG 7)) 31 = true ∧
    fld ((alone.setReg (R.CI_CFG 7) 0xF0000000).reg (R.CI_CFG 7)) 30 29 = 3 ∧
    fld ((alone.setReg (R.CI_CFG 7) 0xE0000000).reg (R.CI_CFG 7)) 30 29 = 3 ∧ (alone.ci.getD 7 ⟨none, 0⟩).last = none ∧
    (alone.setRb (R.LI_STATUS 1) 31 true).rb (R.LI_STATUS 1) 31 = true := by decide +kernel

/-- Line 31, enabled, in asynchronous or telegram mode. -/
def sl (tel : Bool) (f : SlS → SlS) : State := ((alone.setRb (R.SL_MODE 31) 31 true).setRb (R.SL_MODE 31) 30 tel).modSl 31 f

/-- Eight data bits, no parity, one stop cell of 500 clocks, in MODE beside EN and the telegram bit. -/
def sl8 (tel : Bool) (f : SlS → SlS) : State :=
  ((sl tel f).setRf (R.SL_MODE 31) 29 26 8).setReg (R.SL_DIVIDER 31) 0x01F40000

/-- A line that a start cell holds low, mark after it. -/
def startCell : List (Bool × Nat) := [(false, 600), (true, 60000)]

theorem wit_SerialReceive_character : let m := (sl8 true id).slMode 31
    let d := (sl8 true id).reg (R.SL_DIVIDER 31)
    (sl8 true id).slListens 31 = true ∧ ((sl8 true id).slS 31).blind = false ∧ ((sl8 true id).slS 31).armAt ≤ 0 ∧
    ((sl8 true id).slS 31).phase ≠ .deaf ∧ sampleChar m d [(false, 1), (true, 60000)] = none ∧
    (∃ c, sampleChar m d startCell = some c ∧ c.fe = false ∧ c.pe = false) ∧ rxWave (bit m 14) startCell = startCell ∧
    600 < ((sl8 true id).setRf (R.SL_TEL_RX 31) 31 24 88).rf (R.SL_TEL_RX 31) 31 24 * 500 := by
  refine ⟨by decide +kernel, by decide +kernel, by decide +kernel, by decide +kernel, by decide +kernel, ⟨_, by rfl, ?_, ?_⟩, by decide +kernel,
    by decide +kernel⟩ <;> decide +kernel

theorem wit_SerialReceive_async : (sl8 false id).slListens 31 = true ∧ (sl8 false id).slTel 31 = false ∧
    ((sl8 false id).slS 31).await = none ∧ ((sl8 false fun x => { x with curCount := 4094 }).slS 31).curCount < 4095 ∧
    (let x := (sl8 false fun x => { x with low := true }).slS 31
     x.low = true ∧ x.phase ≠ .packet ∧ x.hold = none ∧ x.rxq.length < 2048 ∧ x.items.length < 64 ∧ x.curLen = 0) ∧
    ((sl8 false fun x => { x with phase := .packet }).slS 31).phase = .packet ∧ ((sl8 false id).slS 31).curLost = false ∧
    ((sl8 false fun x => { x with phase := .packet, curLost := true }).slS 31).curLost = true ∧ (sl8 false id).pinOn = true ∧
    (sl8 false id).slEn 31 = true ∧ (sl8 false id).rb (R.SL_STATUS 31) 28 = false ∧
    ((sl8 false id).setRb (R.SL_STATUS 31) 28 true).rb (R.SL_STATUS 31) 28 = true := by decide +kernel

theorem wit_SerialReceive_telegram : let x := (sl8 true fun x => { x with phase := .telegram, curCount := 1, curOcts := [0x00] }).slS 31
    (sl8 true id).slTel 31 = true ∧ ((sl8 true id).slS 31).phase ≠ .telegram ∧ ((sl8 true id).slS 31).phase ≠ .dub ∧
    ((sl8 true id).slS 31).await = none ∧ ((sl8 true fun x => { x with phase := .telegram }).slS 31).curCount = 0 ∧
    (sl8 true id).rf (R.SL_TEL_RX 31) 31 24 * 500 ≤ 255 * 500 ∧ (sl8 true id).rf (R.SL_TEL_RX 31) 23 16 * 500 ≤ 255 * 500 ∧
    0 < ((sl8 true id).setRf (R.SL_TEL_RX 31) 23 16 1).rf (R.SL_TEL_RX 31) 23 16 * 500 ∧
    x.phase = .telegram ∧ x.await = none ∧ x.curCount ≠ 0 ∧ telComplete 1 x.curOcts = true ∧ x.curLost = false ∧
    lenCoded 0x99851A01 [0xCC] = true ∧ telComplete 0x99851A01 [0xCC] = false ∧
    ((sl8 true fun x => { x with phase := .dub, curCount := 1 }).slS 31).phase = .dub ∧
    ((sl8 true fun x => { x with phase := .dub, curCount := 1 }).slS 31).curCount ≠ 0 := by decide +kernel

/-- A response awaited, its time run out or not; RTS under FLOW with queues at, between and below its thresholds. -/
theorem wit_SerialReceive_more :
    (let f (due : Bool) : State := sl8 true fun x => { x with await := some ⟨⟨0, [], .host⟩, 0, false, due, false, []⟩ };
      ((f true).slS 31).await = some ⟨⟨0, [], .host⟩, 0, false, true, false, []⟩ ∧ ((f true).slS 31).phase ≠ .telegram ∧
      ((f false).slS 31).await = some ⟨⟨0, [], .host⟩, 0, false, false, false, []⟩) ∧
    (let s (k : Nat) : State := ((sl8 false fun x => { x with rxq := List.replicate k 0 }).setRf (R.SL_MODE 31) 20 19 1).setReg (R.SL_FLOW 31) 0x00030001;
      (s 3).slEn 31 = true ∧ (s 3).slRtsMode 31 = 1 ∧ fld ((s 3).reg (R.SL_FLOW 31)) 27 16 ≤ ((s 3).slS 31).rxq.length ∧ (s 2).slHeld 31 = false ∧
      ((s 2).slS 31).rxq.length < fld ((s 2).reg (R.SL_FLOW 31)) 27 16 ∧ fld ((s 2).reg (R.SL_FLOW 31)) 11 0 < ((s 2).slS 31).rxq.length ∧
      ((s 1).slS 31).rxq.length ≤ fld ((s 1).reg (R.SL_FLOW 31)) 11 0) ∧
    ((sl8 false fun x => { x with low := true }).slS 31).phase ≠ .dub := by decide +kernel

/-- A frame of five octets without and with EXPECT. -/
def frame5 (expect : Nat) (d : List Byte) : SlFrame := ⟨BitVec.ofNat 32 (expect * 2 ^ 30 + 2 ^ 29 + 5), d, .host⟩

theorem wit_SerialTransmit : (alone.slS 31).partDrop = 0 ∧ (alone.slS 31).part = none ∧ (alone.slS 31).txRoom (fld (4096 : Word) 12 0) = true ∧
    (alone.slS 31).txRoom (fld (4097 : Word) 12 0) = false ∧ fld (1 : Word) 12 0 ≠ 0 ∧
    (frame5 0 []).data.length + 4 < hdrLen (frame5 0 []).hdr ∧ (frame5 0 [1, 2, 3, 4]).data.length < hdrLen (frame5 0 []).hdr ∧
    hdrLen (frame5 0 []).hdr ≤ (frame5 0 [1, 2, 3, 4]).data.length + 4 ∧ badHdr (frame5 0 []).hdr = false ∧
    ((sl true fun x => { x with txq := [frame5 0 []] }).slS 31).txq = [frame5 0 []] ∧ ((sl true id).slS 31).tx = none ∧
    ((sl true id).outs.getD 31 OutS.rest).chosen = [] ∧ (sl true id).slWindow 31 (frame5 0 []) = true ∧ ((sl true id).slS 31).lastEnd = none ∧ ((sl true id).slS 31).await = none ∧
    ((sl true fun x => { x with tx := some ⟨some (frame5 1 []), true, false, false⟩ }).slS 31).tx = some ⟨some (frame5 1 []), true, false, false⟩ ∧
    hdrExpect (frame5 0 []).hdr = 0 ∧ hdrExpect (frame5 1 []).hdr = 1 ∧ hdrExpect (frame5 2 []).hdr = 2 ∧
    hdrExpect (frame5 2 []).hdr = 2 ∧
    (let y := ((alone.setRb (R.SL_MODE 31) 31 true).setRb (R.SL_MODE 31) 18 true).modSl 31 fun x =>
        { x with tx := some ⟨some (frame5 0 []), false, false, true⟩ }
     (y.slS 31).tx = some ⟨some (frame5 0 []), false, false, true⟩ ∧ y.slTel 31 = false ∧ bit (y.slMode 31) 18 = true) ∧
    ((sl true fun x => { x with deLag := true }).slS 31).deLag = true ∧
    ((sl true fun x => { x with await := some ⟨frame5 2 [], 0, false, false, false, []⟩ }).slS 31).await = some ⟨frame5 2 [], 0, false, false, false, []⟩ := by
  decide +kernel

/-- Controller 7, enabled, in a state, with its mirror running and slot 255 for objects. -/
def can (st : Nat) (f : CanS → CanS) : State :=
  let s := ((alone.setRb (R.CAN_CTL 7) 31 true).setRf (R.CAN_ERR 7) 31 30 st).modCan 7 f
  { (s.setRf (R.CAN_SLOT_START 7 255) 31 30 1).setReg (R.CAN_TXO_CFG 7 63) 0x800000FF with mirror := List.replicate 4 ⟨true, 1, 60, 0, 0, 0, 0⟩ }

/-- A frame of no data with identifier 1. -/
def frame0 : List Byte := [0, 0, 0, 1, 0, 0, 0, 0]

theorem wit_CanFrames : (can 0 id).canLive 7 = true ∧ (can 0 id).rec_ 7 ≤ 127 ∧ (alone.pl .a).trk = [] ∧ (alone.pl .a).win = [] ∧
    (List.replicate 128 (⟨false, frame0, [], 0, true, false, false, 0⟩ : CanRx)).length = 128 ∧ ((can 0 id).canS 7).rxq.length < 128 ∧
    fld (((can 0 id).setRf (R.CAN_CFG 7) 27 26 1).canCfg 7) 27 26 = 1 ∧ (can 0 id).txoSrc 7 63 = 2 ∧ (can 0 id).badFrame 7 frame0 = false ∧
    ((can 0 id).cycMirror 7).en = true ∧ (can 0 id).rf (R.CAN_SLOT_START 7 255) 31 30 ≠ 0 := by decide +kernel

theorem wit_CanFrames_send : let s := can 0 fun x => { x with slot := some 255, objs := [(63, ⟨some ⟨frame0, .host⟩, none⟩)] }
    s.canLive 7 = true ∧ s.canMonitor 7 = false ∧ (s.canS 7).asleep = false ∧ s.rb (R.CAN_CTL 7) 30 = false ∧ (s.canS 7).onBus = none ∧
    (s.canS 7).rx = false ∧ 63 ∈ s.scheduled 7 255 ∧ s.scheduled 7 254 = [] ∧
    (s.canS 7).stopAtEnd = false ∧ s.pickObj 7 255 = some (63, ⟨frame0, .host⟩) ∧
    (can 0 fun x => { x with slot := some 255 }).eligible 7 255 = [] ∧
    ((can 0 fun x => { x with onBus := some ⟨63, ⟨frame0, .host⟩, 0, false⟩ }).canS 7).onBus = some ⟨63, ⟨frame0, .host⟩, 0, false⟩ := by
  decide +kernel

theorem wit_CanConfinement_more : (can 1 id).canState 7 = 1 ∧ (can 0 id).canState 7 ≠ 2 ∧ (can 2 id).canState 7 = 2 ∧
    ((can 0 fun x => { x with rx := true }).canS 7).rx = true ∧ ((can 0 id).canS 7).rx = false ∧ (can 0 id).pinOn = true := by decide +kernel

theorem wit_CanConfinement : ((can 0 fun x => { x with onBus := some ⟨63, ⟨frame0, .host⟩, 0, false⟩ }).canS 7).onBus ≠ none ∧
    (can 0 id).canState 7 = 0 ∧ 64 ≤ ((can 0 fun x => { x with acks := 64 }).canS 7).acks ∧ (can 0 id).rb (R.CAN_STATUS 7) 26 = false ∧
    (can 2 id).canState 7 = 2 ∧ ((can 2 fun x => { x with recovering := true }).canS 7).recovering = true ∧ (can 3 id).canState 7 = 3 ∧
    (can 3 id).canEn 7 = true ∧ ((can 0 fun x => { x with asleep := true }).canS 7).asleep = true ∧
    ((can 0 id).setRb (R.CAN_CTL 7) 30 true).rb (R.CAN_CTL 7) 30 = true ∧ (can 0 id).rb (R.CAN_CTL 7) 30 = false ∧ alone.canEn 7 = false ∧
    ((can 0 id).canS 7).stopAtEnd = false ∧ ((can 0 id).canS 7).onBus = none := by decide +kernel

/-- Controller 7 asleep, its wake receiver on a dominant level, or on a frame of the same identifier. -/
def sleeper (frames : Bool) : State :=
  ((can 0 fun x => { x with asleep := true }).setRb (R.CAN_CTL 7) 30 true).setRb (R.CAN_WAKE_CFG 7) 31 frames

theorem wit_CanConfinement_wake : (∀ b, (sleeper b).pinOn = true ∧ (sleeper b).canEn 7 = true ∧ ((sleeper b).canS 7).asleep = true ∧
      (sleeper b).rb (R.CAN_CTL 7) 30 = true ∧ bit ((sleeper b).reg (R.CAN_WAKE_CFG 7)) 31 = b) ∧
    fld ((sleeper false).reg (R.CAN_WAKE_CFG 7)) 7 0 * 50 ≤ 12750 ∧ frIde [0, 0, 0, 0] = bit ((sleeper true).reg (R.CAN_WAKE_CFG 7)) 30 ∧
    (BitVec.ofNat 32 (frId [0, 0, 0, 0]) ^^^ (sleeper true).reg (R.CAN_WAKE_ID 7)) &&& (sleeper true).reg (R.CAN_WAKE_IDMASK 7) = 0 ∧
    (BitVec.ofNat 32 (octs ([] : List Byte) 0 4) ^^^ (sleeper true).reg (R.CAN_WAKE_DATA 7)) &&& (sleeper true).reg (R.CAN_WAKE_DMASK 7) = 0 := by
  decide +kernel

/-- Window 63 of both planes' lead enabled, for DEVICE accesses of number 5. -/
def win (f : PlaneS → PlaneS) : State :=
  ((both.setReg (R.BRG_WIN_CFG .a 63) 0x80000006).setReg R.AON_DEVNUM 0x80000005).modPl .a f

theorem wit_BridgeAccesses : (win id).hostOn = true ∧ (win id).active (win id).lead = true ∧ (win id).winOff .a (barWin 0xFFFFFFF8) = false ∧
    ((win id).pl .a).freeEntry = some 0 ∧ barOfs 0xFFFFFFF8 + 8 ≤ 2 ^ 26 ∧ barOfs 0xFFFFFFF8 % 8 = 0 ∧ (0xFFFFFFF8 : Word).toNat % 4 = 0 ∧
    ([1, 2, 3, 4] : List Byte) ≠ [] ∧ ([1, 2, 3, 4] : List Byte).length % 4 = 0 ∧ ((win id).pl .a).posted = [] ∧ (((win id).pl .a).winS 63).pf = none ∧
    ((win fun x => { x with posted := [⟨0, 0xFC000000, [1, 2, 3, 4], [true, true, true, true], false⟩] }).pl .a).posted =
      [⟨0, 0xFC000000, [1, 2, 3, 4], [true, true, true, true], false⟩] := by decide +kernel

/-- An access in a tracker entry. -/
def acc (ph : AccPhase) : TrkS :=
  { ord := 0, win := 63, core := none, posted := false, kind := .read, off := 0, stop := 4, asked := (0, 4), data := [], be := [], got := []
    fail := none, late := false, ph := ph, unit := 4, old := [], gen := 127, tn := 0, tries := 0, param := [] }

/-- Every tracker entry taken. -/
def full : State := win fun x => { x with trk := (List.range 256).map fun e => (e, acc .wait) }

theorem wit_BridgeAccesses_full : (full.pl .a).freeEntry = none ∧ full.active full.lead = true ∧
    (full.pl full.lead).posted.length < 256 ∧ ((win fun x => { x with posted := [⟨0, 0, [], [], false⟩] }).pl .a).posted ≠ [] := by decide +kernel

/-- A request to this device, and a response to the access of entry 255. -/
def request (op : Byte) : List Byte := [op, 4, 0, 5, 0, 0, 0, 0, 0, 0, 0, 0, 0, 0, 0, 0, 0, 0, 0, 0]
def response (st : Byte) : List Byte := [0x81, st, 0, 5, 0x7F, 0xFF, 0, 0, 0, 0, 0, 0, 0, 0, 0, 0, 0, 0, 0, 0]
def asked (ph : AccPhase) : State := win fun x => { x with trk := [(255, acc ph)] }

/-- Requests wait, or all 128 entries of each class do; an answer waits for the ring. -/
def intake (n : Nat) : State :=
  win fun x => { x with tgtIn := List.replicate n ⟨true, 3, 9, request 3⟩ ++ List.replicate n ⟨false, 1, 9, request 1⟩ }

theorem wit_BridgeTargetAndResponse_intake : (∀ b, 128 ≤ (((intake 128).pl .a).tgtIn.filter fun r => r.posted == b).length) ∧
    (∀ b, (((intake 127).pl .a).tgtIn.filter fun r => r.posted == b).length < 128) ∧ ((win id).pl .a).tgtIn = [] ∧ ((win id).pl .b).tgtIn = [] ∧
    ((win id).pl .a).brgOut = [] := by decide +kernel

theorem wit_BridgeTargetAndResponse_turn : let t := (win id).modPl .a fun x => { x with tgtIn := [⟨false, 1, 9, request 1⟩] }
    t.todo = [] ∧ t.drainFence.isNone = true ∧ t.drainHold.isNone = true ∧ t.drainAcc.isNone = true ∧
    ((win fun x => { x with brgOut := [(4, [1])] }).pl .a).brgOut = [(4, [1])] ∧ (win id).ringRoom .a 4 = true := by decide +kernel

theorem wit_BridgeTargetAndResponse : (win id).active .a = true ∧ (win id).lead = .a ∧ (win id).devValid = true ∧
    octs (request 1) 2 2 % 1024 = (win id).devnum ∧ octs (request 1) 0 1 = 1 ∧ octs (request 2) 0 1 = 2 ∧ octs (request 3) 0 1 = 3 ∧
    (((win id).setRb (R.BRG_CTL .a) 0 true).targetRefuses .a false (request 1)) = none ∧
    (((win id).setRb (R.BRG_CTL .a) 0 false).targetRefuses .a false (request 1)) = some stNotPermitted ∧
    (((win id).setRb (R.BRG_CTL .a) 1 true).targetRefuses .a true (request 3)) = none ∧
    octs (response 0) 4 2 = planeNum .a * 2 ^ 15 + (acc .reading).gen * 2 ^ 8 + 255 ∧
    (asked .reading).trkOf .a 255 = some (acc .reading) ∧ (asked .writing).trkOf .a 255 = some (acc .writing) ∧
    (asked .reading).winType .a 63 = 0 ∧ octs (response 0) 1 1 = 0 ∧ octs (response 9) 1 1 ≠ 0 := by decide +kernel

/-- Window 63 with a lock. -/
def locked (k : Nat) : State := win fun x => x.modWin 63 fun w => { w with lock := some k }

theorem wit_BridgeHousekeeping : (asked .reading).trkOf .a 255 = some (acc .reading) ∧ (win id).reqOn .coreB = true ∧
    (((win id).pl .a).winS 63).lock = none ∧
    ((win fun x => { x with posted := [⟨0, 0xFC000000, [1, 2, 3, 4], [true, true, true, true], false⟩] }).pl .a).posted[256 - 256]? =
      some ⟨0, 0xFC000000, [1, 2, 3, 4], [true, true, true, true], false⟩ ∧ (((locked 2).pl .a).winS 63).lock = some 2 ∧ bit (1 : Word) 0 = true ∧
    (((locked 0).pl .a).winS 63).lock ≠ none ∧
    (((win fun x => x.modWin 63 fun w => { w with pf := some ⟨0, [1], [true]⟩ }).pl .a).winS 63).pf = some ⟨0, [1], [true]⟩ ∧
    ((asked .timerRead).pl .a).trk.find? (fun x => x.2.win == 63 && (x.2.ph == .timerRead || x.2.ph == .timerWrite)) =
      some (255, acc .timerRead) := by decide +kernel


/-! Witnesses: command packets -/

/-- The packet of `op` waits in `s` and begins, on plane A. -/
def goes (s : State) (op : Nat) (ps : List Byte) : Bool :=
  decide ((pkt op ps).op.toNat = op) && (waits s (pkt op ps)).nextCmd (op / 256 == 0xF) == some (pkt op ps) &&
    (waits s (pkt op ps)).cmdCore == some .a && match (waits s (pkt op ps)).targets (pkt op ps) with
      | .ok (l, sp) => decide (l = [.a]) && !sp
      | .error _ => false

theorem begins_of_goes (s : State) (op : Nat) (ps : List Byte) (h : goes s op ps = true) :
    (waits s (pkt op ps)).begins op (pkt op ps) .a [.a] false := by
  unfold goes at h
  cases ht : (waits s (pkt op ps)).targets (pkt op ps) with
  | error e => simp [ht] at h
  | ok x =>
    obtain ⟨l, sp⟩ := x
    simp [ht] at h
    obtain ⟨⟨⟨h1, h2⟩, h3⟩, h4, h5⟩ := h
    subst h4 h5
    exact ⟨h1, h2, h3, ht⟩

/-- Every opcode of the packet statements begins from plane A alone. -/
theorem wit_packets_begin : ∀ op ∈ [0x0100, 0x0101, 0x0102, 0x0103, 0x0104, 0x0105, 0x0106, 0x0107, 0x0108, 0x0201, 0x0202, 0x0203, 0x0204,
    0x0205, 0x0301, 0x0302, 0x0303, 0x0304, 0x0305, 0x0401, 0x0402, 0x0403, 0x0404, 0x0501, 0x0502, 0x0503, 0x0504, 0x0505, 0x0506, 0x0601,
    0x0602, 0x0603, 0x0604, 0x0605, 0x0606, 0x0607, 0x0701, 0x0702, 0x0703, 0x0704, 0x0705, 0x0706, 0x0801, 0x0802, 0x0803, 0x0804, 0x0805,
    0x0901, 0x0905, 0x0906, 0x0909, 0x0A01, 0x0A02, 0x0A03], goes alone op [0, 0] = true := by decide +kernel

/-- A queue of 4,096 entries enabled, a command waiting in it. -/
def fetches (q : Fin 4) : State :=
  ((alone.setReg (R.HQ_CTL q.val) 0x8C0C0000).modHq q.val fun h => { h with tail := 1 })

/-- An entry of NOP for this device. -/
def nopEntry : List Byte := [1, 0, 0, 7, 0x10, 0] ++ List.replicate 26 0

theorem wit_HostQueueCommands : (fetches 3).hostOn = true ∧ (fetches 3).rb (R.HQ_CTL 3) 31 = true ∧ (fetches 3).rb (R.HQ_STATUS 3) 31 = false ∧
    (fetches 3).sqSize 3 = 4096 ∧ alone.sqSize 3 ≤ 4095 ∧ (fetches 3).reqOn .host = true ∧ (rowOf (R.HQ_CTL 3)).isSome = true ∧
    alone.rb (R.HQ_CTL 3) 31 = false ∧ (((fetches 3).modHq 3 fun h => { h with wfail := true }).hqS 3).wfail = true ∧ alone.devnum = 0 ∧ (alone.setReg R.AON_DEVNUM 0x80000005).devValid = true ∧
    (pkt 0x0100 []).dev.toNat ≠ (alone.setReg R.AON_DEVNUM 0x80000005).devnum ∧ alone.fresh.2 = [] ∧ (((fetches 3).modHq 3 fun h => { h with busy := true }).hqS 3).busy = true ∧ ((fetches 3).hqS 3).busy = false ∧ (fetches 3).sqHead 3 ≠ ((fetches 3).hqS 3).tail ∧
    ((fetches 3).hqS 3).owed + owes 0x0100 false ≤ (fetches 3).rqRoom 3 ∧ (fetches 3).cmdCore = some .a := by decide +kernel

theorem wit_HostQueueCommands_entry : let c := parseCmd (.hostQ 3) (slice nopEntry 0 32) []
    c.loc = true ∧ c.all = false ∧ arrivalStatus c (slice nopEntry 0 32) 0 = none ∧
    arrivalStatus (parseCmd (.hostQ 3) [1, 9] []) [1, 9] 0 ≠ none := by decide +kernel

/-- This device has number 5. -/
def five : State := (alone.setReg R.AON_DEVNUM 0x80000005).setReg R.GID_CMD_CTL 0xC0000000

/-- A command sentence that carries NOP to device 5, and a reply to device 5. -/
def sentence (cls stream : Nat) (payload : List Byte) : List Byte :=
  Sent.octets { plain with stream := BitVec.ofNat 24 stream, cls := BitVec.ofNat 3 cls, payload := payload }
def cmdOctets : List Byte := sentence 3 0xFF0000 ([1, 0, 0, 7, 0, 5, 0, 0] ++ List.replicate 24 0)
def replyOctets : List Byte := sentence 4 0xFF0001 ([0, 5, 0, 7] ++ List.replicate 16 0)

theorem wit_HostQueueCommands_ring : let payload := cmdOctets.drop 32
    let t := parseSent cmdOctets payload
    let c := parseCmd (.ring t.cls t.origin t.seq t.ackreq) (slice payload 0 32) (payload.drop 32)
    t.stream.toNat = 0xFF0000 ∧ t.cls = 3 ∧ five.hears .a = true ∧ five.mode ≠ 4 ∧ five.seen = [] ∧ five.actsOn c = true ∧
    five.ringRefuses c t.origin = false ∧ arrivalStatus c (slice payload 0 32) (payload.length - 32) = none ∧ c.loc = false := by
  decide +kernel

theorem wit_HostQueueCommands_reply : let payload := replyOctets.drop 32
    let t := parseSent replyOctets payload
    t.stream.toNat = 0xFF0001 ∧ t.unnum = false ∧ five.active .a = true ∧ five.devValid = true ∧
    octs payload 0 2 % 1024 = five.devnum ∧ 20 ≤ payload.length := by decide +kernel

/-- EG0 of plane A runs, its next boundary 10. -/
def eg0 (s : State) : State := (s.setRb (R.EG_CTL .a 0) 31 true).modEg .a 0 fun e => { e with live := true, next := 10 }

theorem wit_SystemPackets : cNum (pkt 0x0102 [3, 0xFF, 0, 0]) 0 2 ≤ 1023 ∧ cNum (pkt 0x0102 [3, 0xFF, 0, 0]) 2 1 % 2 = 0 ∧
    alone.active .a = true ∧ alone.setLead = none ∧ alone.egEn alone.lead 0 = false ∧ (eg0 both).egEn (eg0 both).lead 0 = true ∧
    (((eg0 both).pl (eg0 both).lead).egS 0).live = true ∧ (eg0 both).active .b = true ∧
    cNum (pkt 0x0105 [0, 0xFF, 0xFF, 0xF4, 3]) 0 4 + 4 * 3 = 2 ^ 24 ∧ cNum (pkt 0x0106 [0, 0xFF, 0xFF, 0xFC, 0, 0, 0, 0]) 0 4 < 2 ^ 24 ∧
    (10 : Nat) ≤ (((eg0 both).pl (eg0 both).lead).egS 0).next := by decide +kernel

/-- A change of registers is within range, and a block has no commit waiting. -/
theorem wit_PlanePackets : (putRegsAll (coreOf .a) [(R.TD_CFG .a 1, 0), (R.TD_LTC_OFS .a 1, 0xFFFFFFFF)] alone).isSome = true ∧
    (putRegsAll (coreOf .a) [(R.TB_CTL .a, resetOf (R.TB_CTL .a))] alone).isSome = true ∧ alone.pendingAt (R.EG_STAGE_CTL .a 3) = false ∧
    alone.pendingAt (R.PORT_STAGE_CTL .a 3) = false ∧ alone.imgLocked = false ∧ alone.pendingAt (R.Q_STAGE_CTL .a 511) = false ∧
    alone.pendingAt (R.REL_STAGE_CTL .a) = false ∧ alone.pendingAt (R.BRG_WIN_STAGE_CTL .a 63) = false ∧
    (putRegsAll (coreOf .a) [(R.PORT_PTP_CFG .a 3, 0), (R.PORT_ASYM .a 3, 0), (R.PORT_IPV4 .a 3, 0xFFFFFFFF)] alone).isSome = true ∧
    (putRegsAll (coreOf .a) [(R.PORT_RING .a 3, resetOf (R.PORT_RING .a 3))] alone).isSome = true ∧
    (putRegsAll (coreOf .a) [(R.PORT_MAC_LO .a 3, 0xFFFFFFFF), (R.PORT_MAC_HI .a 3, 0xFFFF), (R.PORT_NATIVE_TYPE .a 3, 0xFFFF)]
      alone).isSome = true ∧ fitsReg (R.REL_GUARD .a) 5000 = true ∧ (putRegsAll (coreOf .a) [(R.BRG_CTL .a, resetOf (R.BRG_CTL .a))] alone).isSome = true := by
  decide +kernel

/-- Whole blocks that their rules take: a generator, a port, a queue, the guard time, a window. -/
theorem wit_PlanePackets_blocks : let same (l : List Nat) : List (Nat × Word) := l.map fun o => (o, resetOf o)
    (stageBlock (R.EG_STAGE_CTL .a 3) (same [R.EG_NUM .a 3, R.EG_DEN .a 3, R.EG_BASE_NS_LO .a 3, R.EG_BASE_NS_HI .a 3, R.EG_ORIGIN_LO .a 3,
      R.EG_ORIGIN_HI .a 3]) alone).isSome = true ∧
    (stageBlock (R.PORT_STAGE_CTL .a 3) [(R.PORT_CFG .a 3, 0x40000000)] alone).isSome = true ∧
    (∀ k, k < 4 → fitsReg (R.Q_CFG .a 511 + 4 * k) (resetOf (R.Q_CFG .a 511 + 4 * k)) = true) ∧
    (stageBlock (R.REL_STAGE_CTL .a) [(R.REL_GUARD .a, 5000)] alone).isSome = true ∧
    (stageBlock (R.BRG_WIN_STAGE_CTL .a 63) (same ((List.range 5).map fun k => R.BRG_WIN_CFG .a 63 + 4 * k)) alone).isSome = true := by
  decide +kernel

/-- A table, or a list of streams, that its rules and admission take. -/
def takes (x : Except (Nat × List Byte) State) : Bool := match x with | .ok _ => true | .error _ => false

theorem wit_TablePackets : (∀ e ∈ [1, 4, 5, 7, 8, 9, 11], tableSize e ≤ 128 ∧
      takes (alone.writeTable .a e 2 1 (List.replicate 128 0)) = true) ∧
    takes (alone.writeStreams .a 1 (List.replicate 7 0 ++ 4 :: List.replicate 12 0)) = true ∧ takes (alone.writeLut .a 0 0 1 [0, 0]) = true := by
  decide +kernel

/-- A packet that names plane B, which is off. -/
def absent (op : Nat) : Cmd := { pkt op [] with planes := 2 }

theorem wit_packetRefused : ∀ op ∈ [0x0100, 0x0202, 0x0301, 0x0401, 0x0505, 0x0602, 0x0701, 0x0801, 0x0909],
    (absent op).op.toNat = op ∧ (waits alone (absent op)).nextCmd (op / 256 == 0xF) = some (absent op) ∧
    (match (waits alone (absent op)).targets (absent op) with | .error st => st | .ok _ => 0) = stPlaneAbsent := by decide +kernel

/-! Witnesses: inputs, outputs, maintenance, images, Snuffer -/

/-- PULSE_ONE of output 15, one nanosecond, now; PULSE_PERIODIC at its shortest period. -/
def pulseOne : Cmd := pkt 0x0603 ([15, 0, 0, 0] ++ List.replicate 8 0 ++ [0, 0, 0, 1])
def pulseTrain : Cmd := pkt 0x0604 ([15, 0, 0, 0] ++ List.replicate 8 0 ++ [0, 0, 0, 10, 0, 0, 0, 9] ++ List.replicate 8 0)

theorem wit_LanternPackets : (putRegsAll (coreOf .a) [(R.CI_CFG 7, 0xE0000000)] alone).isSome = true ∧
    (putRegsAll (coreOf .a) [(R.LO_CFG 1, 0)] alone).isSome = true ∧ fitsReg (R.SL_STUCK 31) (resetOf (R.SL_STUCK 31)) = true ∧
    alone.pendingAt (R.SL_STAGE_CTL 31) = false ∧ (putRegsAll (coreOf .a) [(R.SL_FLOW 31, resetOf (R.SL_FLOW 31)), (R.SL_STUCK 31, resetOf (R.SL_STUCK 31))]
      alone).isSome = true ∧ alone.pendingAt (R.CAN_STAGE_CTL 7) = false ∧ fitsReg (R.CAN_WARN 7) (resetOf (R.CAN_WARN 7)) = true ∧
    (putRegsAll (coreOf .a) [(R.LDH_CTL, resetOf R.LDH_CTL), (R.LDH_OUT_CFG 57, 0)] alone).isSome = true ∧
    (waits alone pulseOne).nextCmd false = some pulseOne ∧ (waits alone pulseTrain).nextCmd false = some pulseTrain ∧
    badProg (toBE 4 0 ++ slice pulseOne.ps 12 4 ++ toBE 8 0) = false ∧ badProg (slice pulseTrain.ps 12 16) = false ∧
    cNum pulseOne 0 1 = 15 ∧ alone.pulseNamed .a 15 = false := by decide +kernel

/-- Whole blocks that their rules take: line, controller, slots and an object. -/
theorem wit_LanternPackets_blocks : (∀ k, k < 12 → fitsReg (R.SL_MODE 31 + 4 * k) (resetOf (R.SL_MODE 31 + 4 * k)) = true) ∧
    (∀ k, k < 4 → fitsReg (R.CAN_CFG 7 + 4 * k) (resetOf (R.CAN_CFG 7 + 4 * k)) = true) ∧
    fitsReg (R.CAN_SLOT_START 7 255) 0x40000000 = true ∧ fitsReg (R.CAN_SLOT_WIN 7 255) 0 = true ∧
    fitsReg (R.CAN_TXO_CFG 7 63) 0x800000FF = true := by decide +kernel

/-- SL_SEND of one octet on line 31. -/
def slSend : Cmd := pkt 0x0702 [31, 0, 0, 0, 0x20, 0, 0, 1, 0x55]

theorem wit_LanternPackets_send : hdrLen (cWord slSend 4) = 1 ∧ badHdr (cWord slSend 4) = false ∧ 8 + 1 ≤ slSend.ps.length ∧
    (alone.slS 31).txRoom 1 = true ∧ (can 0 id).txoSrc 7 63 = 2 ∧ (can 0 id).badFrame 7 frame0 = false ∧
    (alone.release .a : Int) < alone.release .a + alone.rf (R.REL_CTL .a) 7 0 * unitsPerUs := by decide +kernel

/-- An operation of the sequencer. -/
def op_ (o : Nat) (c : Option Cmd) (bs : List Byte) : MaintOp := ⟨o, 1, c, bs, none⟩
def cmdA (op : Nat) (ps : List Byte) : Cmd := { pkt op ps with planes := 1 }
def running_ (m : MaintOp) : State := { alone with maint := [m] }
def planeB (f : PlaneS → PlaneS) : State := alone.modPl .b f
def rejoin : Cmd := { pkt 0x0902 [] with planes := 2 }

theorem wit_MaintPackets_start : alone.maint.isEmpty = true ∧ alone.maintQ.isEmpty = true ∧ alone.pwrMode ≠ 1 ∧ cNum (cmdA 0x0901 [14, 16]) 0 2 = 3600 ∧
    ((running_ (op_ 0 none [])).maint.any fun q => q.op == 0) = true ∧
    (let s := (link 0 1 true).setRf (R.PORT_CFG .a 1) 31 29 1; s.calMay .a false = true) ∧
    (waits both (cmdA 0x0904 [])).nextCmd false = some (cmdA 0x0904 []) ∧ (waits both (cmdA 0x0908 [])).cmdCore = some .a ∧
    planesOf (cmdA 0x0904 []).planes = [.a] ∧ both.mode ≠ 4 ∧ both.active (other .a) = true ∧ both.active .a = true := by decide +kernel

theorem wit_MaintPackets_rejoin : (waits alone rejoin).nextCmd false = some rejoin ∧ planesOf rejoin.planes = [.b] ∧
    alone.active (other .b) = true ∧ alone.mode ≠ 4 ∧ (alone.pl .b).st = .off ∧ ((planeB fun x => { x with st := .held }).pl .b).st = .held ∧
    (both.pl .b).st = .active ∧ ((planeB fun x => { x with st := .relearn }).pl .b).st = .relearn ∧
    ((planeB fun x => { x with st := .boot }).pl .b).st = .boot ∧ ((planeB fun x => { x with st := .boot }).pl .b).dead = false := by
  decide +kernel

theorem wit_MaintPackets_flash : (match alone.flashTargets (cmdA 0x0903 []) with | .ok (l, sp) => decide (l = [.a]) && !sp | .error _ => false) = true ∧
    cNum (cmdA 0x0903 [0, 0, 0, 0, 0, 0x70, 0, 0]) 4 4 = 7 * 2 ^ 20 ∧ cNum (cmdA 0x0907 [0, 3, 0, 0, 0, 0xC0, 0, 0]) 4 4 = 12 * 2 ^ 20 ∧
    (let c := cmdA 0x0A04 [0, 3, 0, 0, 0, 0xBF, 0xF0, 0, 1]; cNum c 4 4 % 4096 = 0 ∧ c.ps.drop 8 ≠ [] ∧
      cNum c 4 4 + (c.ps.drop 8).length ≤ 12 * 2 ^ 20 ∧ alone.slotBusy [.a] 0 3 = false) ∧
    (∀ o ∈ [0, 2, 6], (running_ (op_ o (some (cmdA 0x0907 [])) [1])).mntRun o = some (op_ o (some (cmdA 0x0907 [])) [1])) ∧
    alone.holdsActive .b = false ∧ ((running_ (op_ 7 none [])).maint.find? fun m => m.op == 7 && m.data.isEmpty) = some (op_ 7 none []) ∧
    ({ alone with maintQ := [op_ 0 none []] }.maint.all fun q => mntTable q.op 0 == 0) = true := by decide +kernel

/-- Plane A's slot B with a header: MAGIC, VERSION 7, key 0; and one of no firmware. -/
def staged (bs : List Byte) : State := (running_ (op_ 2 (some (cmdA 0x0903 [])) bs)).flashFill .a (fwAddr (1 - alone.fwActive .a)) bs

set_option maxRecDepth 100000 in
theorem wit_MaintPackets_stage : let h := (staged ([0x53, 0x58, 0x46, 0x57, 0, 0, 0, 7, 0, 1, 0, 0, 0, 0, 2, 0])).fwHeader .a (1 - alone.fwActive .a)
    octs h 0 4 = 0x53584657 ∧ octs h 12 4 ≤ 7 * 2 ^ 20 - 512 ∧ octs h 10 1 ≤ 3 ∧ octs h 4 4 = 7 ∧ h ≠ List.replicate 16 erased ∧
    octs ((staged [1]).fwHeader .a (1 - alone.fwActive .a)) 0 4 ≠ 0x53584657 ∧ (∀ v k, SlotCheck.badSig ≠ .good v k) := by
  refine ⟨by decide +kernel, by decide +kernel, by decide +kernel, by decide +kernel, by decide +kernel, by decide +kernel, by simp⟩

/-- An open image command. -/
def image (im : List Byte) (k : Option Nat) : State := { eg0 alone with img := some ⟨cmdA 0x0A01 [], im, false, k, false⟩ }
def checking (im : List Byte) (ver : Bool) : State := { eg0 alone with checks := [⟨cmdA 0x0A01 [], im, ver, none, false⟩] }

theorem wit_ImageCommands : alone.mode ≠ 4 ∧ alone.pwrMode ≠ 1 ∧ alone.img = none ∧ alone.checks = [] ∧ (image [0] none).img ≠ none ∧
    (∃ i ∈ (checking [0] false).checks, i.verify = false) ∧ (checking [0] true).checks = [⟨cmdA 0x0A01 [], [0], true, none, false⟩] ∧
    (image [0] none).imgPlanes (cmdA 0x0A01 []) = [.a] ∧ (image [0] none).cmdCore = some .a ∧
    (match alone.judgeImage .a [0] with | some (st, _) => decide (st ≠ stDone) | none => false) = true ∧
    (alone.pl .a).relearn = none ∧ (image [0] (some 10)).egEn .a (imgCanvas [0]) = true ∧ alone.egEn .a (imgCanvas [0]) = false ∧
    (((image [0] (some 11)).pl .a).egS (imgCanvas [0])).live = true ∧
    (((image [0] (some 11)).pl .a).egS (imgCanvas [0])).next = 10 := by decide +kernel

/-- A DELTA image of no section: its header, with its CRC. -/
def emptyImage : List Byte := [0x53, 0x58, 0x49, 0x4D, 0, 1, 1] ++ List.replicate 12 0 ++ [64] ++ List.replicate 4 0 ++ [0x9D, 0xE3, 0xFA, 0x23] ++ List.replicate 36 0

theorem wit_ImageCommands_good : emptyImage.length = 64 ∧ alone.judgeImage .a emptyImage = none ∧
    (image emptyImage (some 10)).imgPlanes (cmdA 0x0A01 []) = [.a] := by decide +kernel

/-- A Snuffer command of the Snuffer queue. -/
def snf (op : Nat) (ps : List Byte) : Cmd := { pkt op ps with src := .hostQ 0 }
def timed (c : Cmd) (at_ : BitVec 64) : Cmd := { c with timed := true, at64 := at_ }

theorem wit_SnufferPackets : (∀ op ∈ [0x0F01, 0x0F02, 0x0F03, 0x0F04, 0x0F05],
      let c := snf op (List.replicate 16 0)
      c.op.toNat = op ∧ (waits alone c).nextCmd true = some c ∧ snfBad c = false ∧ c.timed = false) ∧
    snfBad (snf 0x0F01 [255]) = true ∧ (alone.snfDue (timed (snf 0x0F02 []) 0)) = true ∧
    (alone.snfDue (timed (snf 0x0F01 []) 0x0000000100000000)) = false ∧ (snf 0x0F01 []).op.toNat = 0x0F01 ∧
    alone.snfTimed.length < 64 ∧ (waits alone (timed (snf 0x0F01 []) 0x0000000100000000)).nextCmd true =
      some (timed (snf 0x0F01 []) 0x0000000100000000) ∧
    (let s := { alone with snfTimed := [timed (snf 0x0F02 []) 0] }; s.snfTimed.find? s.snfDue = some (timed (snf 0x0F02 []) 0)) := by
  decide +kernel

/-- 256 streams are stopped, and one more is named. -/
theorem wit_SnufferPackets_limit : 256 < (addStreams ((List.range 256).map fun i => BitVec.ofNat 24 i)
    [BitVec.ofNat 24 256]).length := by decide +kernel

/-! The spec's worked examples, and check values of the algorithms it names -/

/-- 01, the header of a Show sentence: its first twelve octets, and the origin's hop count and TTL. -/
theorem test_show_header : let h : Sent := { plain with
      cls := 0, key := true, prio := 5, timed := true, origin := 69, talker := 0x0102, stream := 0x001007, payload := List.replicate 512 0
      plen := 512 }
    slice h.header 0 12 = [0x11, 0xB8, 0x02, 0x00, 0x00, 0x45, 0x01, 0x02, 0x00, 0x10, 0x07, 0x00] ∧ slice h.header 28 2 = [0x00, 0xFF] := by
  decide +kernel

/-- 00 R2: GID_IDENT at stepping B0. -/
theorem test_gid_ident : State.reset.reg R.GID_IDENT = 0x10242000 := by decide +kernel

/-- The check values of CRC-16/CCITT-FALSE and CRC-32 on the digits 1 to 9 (their published catalogue). -/
theorem test_crc_checks : let digits : List Byte := [0x31, 0x32, 0x33, 0x34, 0x35, 0x36, 0x37, 0x38, 0x39]
    crc16 digits = 0x29B1 ∧ crc32 digits = 0xCBF43926 := by decide +kernel

/-- A domain of plane A with an increment adjustment, its anchor and offset 0. -/
def servo (adj : Word) : State := alone.setReg (R.TD_INC_ADJ .a 0) adj

/-- 03 R98's formula, one second after ANCHOR at INC_ADJ -27,488 and +27,488: the products are -400.003 and +400.003. Log 91. -/
theorem test_dial : (servo (0 - 27488)).dialAt .a 0 16000000000 = 16000000000 - 401 ∧
    (servo 27488).dialAt .a 0 16000000000 = 16000000000 + 400 := by decide +kernel

/-- 03 R121: boundaries at 59.94 Hz. -/
theorem test_epochs : [1, 2, 3, 3000].map (epochTime 0 0 1001 60000) = [266933333, 533866666, 800800000, 800800000000] := by decide +kernel

/-- 10 R321: 115,200 bit/s, 8N1: cells 3 and 7 take one extra clock, the character 43,402. -/
theorem test_divider : charClocks 0x10F44700 8 0 = 43402 ∧
    [0, 1, 2, 3, 4, 5, 6, 7, 8, 9].filter (fun m => cellSum 0x10F44700 (m + 1) - cellSum 0x10F44700 m == 4341) = [3, 7] := by decide +kernel

/-- Line 4 of the RDM example: 250 kbit/s, two stop bits, break 176 µs, mark 12 µs, gap 176 µs, response gap 2,800 µs. -/
def rdmLine : State :=
  (((((alone.setReg (R.SL_DIVIDER 4) 0x07D00000).setRf (R.SL_MODE 4) 22 21 2).setRf (R.SL_GAP 4) 15 0 176).setRf (R.SL_RDM 4) 31 16
    2800).setReg (R.SL_TEL_TX 4) 0x00B0000C).setReg (R.SL_TEL_FMT 4) 0x99840000

/-- 10 R338: the span of an RDM GET of 24 octets, 6,808 µs. -/
theorem test_rdm_span : rdmLine.slSpan 4 ⟨BitVec.ofNat 32 (1 * 2 ^ 30 + 2 ^ 29 + 2500 * 2 ^ 13 + 24), [0xCC, 0x01, 24] ++ List.replicate 21 0,
    .host⟩ = 6808 * 16000 := by decide +kernel

/-- Profiles 12, 13, 14 and 15 of the console fader. -/
def frac : Nat := 2 ^ 127
def prof12 : Nat := 52429 * 2 ^ 224 + frac + 2 ^ 126 + 16 * 2 ^ 112
def prof13 : Nat := 52429 * 2 ^ 224 + frac + 16 * 2 ^ 112 + 8 * 2 ^ 88 + 8 * 2 ^ 80
def prof14 : Nat := 52429 * 2 ^ 224 + frac + 16 * 2 ^ 112 + 8 * 2 ^ 80
def prof15 : Nat := 1 * 2 ^ 224 + frac + 2 ^ 126 + 2 * 2 ^ 120 + 2 ^ 96

/-- The output of a profile for an 8-bit field of 181. -/
def fader (pr w j e : Nat) : Nat := (profOut pr (profMid Tables.empty pr (profIn pr 181 8 false)).1 w false j e).1

/-- 07 R246 to R248: extraction, scale, split, the square law and its dither. -/
theorem test_fader : profIn prof12 181 8 false = 46517 ∧ fader prof12 16 0 0 = 0x915E ∧ fader prof13 8 0 0 = 0x91 ∧ fader prof14 8 0 0 = 0x5E := by
  decide +kernel
theorem test_square_law : gammaPoint 2 726 = 32942 ∧ gammaPoint 2 727 = 33033 ∧ (profMid Tables.empty prof15 46517).1 = 33018 := by
  decide +kernel
theorem test_dither : [0, 1, 2, 3].map (fader prof15 8 0) = [128, 129, 128, 129] ∧ [0, 1, 2, 3].map (fader prof15 8 1) = [129, 128, 129, 128] := by
  decide +kernel

/-- 12 R391: the host writes 48,000 mV and the far field becomes 4,800 counts of 10 mV. -/
def voltage : Nat := 31 * 2 ^ 84 + 31 * 2 ^ 72 + 20 * 2 ^ 59 + 21 * 2 ^ 47
def maps : Tables := { Tables.empty with profs := [(20, BitVec.ofNat 256 (10 * 2 ^ 224)), (21, BitVec.ofNat 256 (6554 * 2 ^ 224 + 16 * 2 ^ 112))] }
theorem test_field_map : mapWrite maps voltage [0, 0, 0, 0] [0x80, 0xBB, 0, 0] = some [0x00, 0x00, 0x12, 0xC0] ∧
    mapRead maps voltage [0x00, 0x00, 0x12, 0xC0] = [0x80, 0xBB, 0, 0] := by decide +kernel

/-- The sACN data packet of universe 301, priority 100, synchronisation address 64,000, of the media server (05). -/
def sacn301 : List Byte :=
  [0x00, 0x10, 0x00, 0x00, 0x41, 0x53, 0x43, 0x2D, 0x45, 0x31, 0x2E, 0x31, 0x37, 0, 0, 0, 0x72, 0x6E, 0, 0, 0, 4] ++ List.replicate 12 0 ++
    [0x5E, 0x1A, 0x0C, 0x33, 0x72, 0x58, 0, 0, 0, 2] ++ List.replicate 64 0 ++ [100, 0xFA, 0x00, 1, 0, 0x01, 0x2D, 0x72, 0x0B, 2, 0xA1, 0, 0,
    0, 1, 0x02, 0x01] ++ List.replicate 513 0

/-- Rule 40 of that example. -/
def rule40 : BitVec 256 :=
  BitVec.ofNat 256 (0x20804000001786830CC00000 * 2 ^ 160 + 0xFFFFC0003FFFFFFFFFC00000 * 2 ^ 64 + 0xA8C8000000002000)

/-- 05: universe 301 becomes stream 0x00202D. -/
theorem test_sacn_rule : (match parseSacn 2 sacn301 with
    | .ok x => ruleMatch rule40 x.key && decide (ruleStream (rlAct rule40) x.key = 0x00202D)
    | .error _ => false) = true := by decide +kernel

/-- 13: present SCRUB gives FW_SWAP Q and LINK_CAL R; a queued FW_SWAP gives PLANE_REJOIN C. -/
theorem test_maintenance : mntTable 0 3 = 1 ∧ mntTable 0 4 = 0 ∧ mntTable 3 1 = 2 := by decide

end Sys2Proof.Tests
end

section
/-!
Laws of sparse tables by their listed entries: what is found after a write, in the part of a table that is kept, and after the
entries of one table have been written into another.
-/
namespace Sys2Proof.Tab

variable {α : Type}

/-- A read is the listed value, or the default. -/
theorem get_eq_find (d : α) (k : Nat) (t : Tab α) : Tab.get d k t = (Tab.find k t).getD d := by
  induction t with
  | nil => rfl
  | cons e t ih =>
    obtain ⟨k', v⟩ := e
    by_cases h : k' = k <;> simp [Tab.find, get_cons, h, ih]

theorem find_put_ne {k j : Nat} (hj : j ≠ k) (v : α) (t : Tab α) : Tab.find j (Tab.put k v t) = Tab.find j t := by
  induction t with
  | nil => simp [Tab.put, Tab.find, hj.symm]
  | cons e t ih =>
    obtain ⟨k', v'⟩ := e
    by_cases hk : k' = k
    · subst hk
      simp [Tab.put, Tab.find, hj.symm]
    · by_cases hl : k < k'
      · simp [Tab.put, Tab.find, hk, hl, hj.symm]
      · simp [Tab.put, Tab.find, hk, hl, ih]

theorem find_keep (q : Nat → Bool) (k : Nat) (t : Tab α) : Tab.find k (Tab.keep q t) = if q k then Tab.find k t else none := by
  induction t with
  | nil => simp [Tab.keep, Tab.find]
  | cons e t ih =>
    obtain ⟨k', v⟩ := e
    by_cases hk : k' = k
    · subst hk
      by_cases hq : q k' = true <;> simp [Tab.keep, Tab.find, hq, ih]
    · by_cases hq : q k' = true <;> simp [Tab.keep, Tab.find, hq, hk, ih]

/-- The entries whose key satisfies a test, as a list filters them. -/
theorem filter_eq_keep (q : Nat → Bool) (t : Tab α) : t.filter (fun e => q e.1) = Tab.keep q t := by
  induction t with
  | nil => rfl
  | cons e t ih =>
    obtain ⟨k, v⟩ := e
    by_cases hq : q k = true <;> simp [Tab.keep, hq, ih]

/-- Below its first key a table lists nothing. -/
theorem find_of_below {k : Nat} {t : Tab α} (h : ∀ e ∈ t, k < e.1) : Tab.find k t = none := by
  induction t with
  | nil => rfl
  | cons e t ih =>
    have hk : e.1 ≠ k := (h e List.mem_cons_self).ne'
    simp [Tab.find, hk, ih fun e he => h e (List.mem_cons_of_mem _ he)]

/-- The entries of a table with rising keys, written one after another into another table. -/
theorem find_foldl_put (k : Nat) {b : Tab α} (hb : b.sorted) (t : Tab α) :
    Tab.find k (b.foldl (fun t e => Tab.put e.1 e.2 t) t) = (Tab.find k b).or (Tab.find k t) := by
  induction b generalizing t with
  | nil => rfl
  | cons e b ih =>
    obtain ⟨k', v⟩ := e
    obtain ⟨hm, hs⟩ := sorted_cons.1 hb
    rw [List.foldl_cons, ih hs]
    by_cases hk : k' = k
    · subst hk
      simp [Tab.find, find_of_below hm]
    · simp [Tab.find, hk, find_put_ne (Ne.symm hk)]

end Sys2Proof.Tab

namespace Sys2Proof.Machine

/-- The entries of a table with rising keys, stored one after another in registers. -/
theorem State.reg_foldl_setReg (o : Nat) {b : Tab Word} (hb : b.sorted) (s : State) :
    (b.foldl (fun s e => s.setReg e.1 e.2) s).reg o = (Tab.find o b).getD (s.reg o) := by
  induction b generalizing s with
  | nil => rfl
  | cons e b ih =>
    obtain ⟨k, v⟩ := e
    obtain ⟨hm, hs⟩ := Tab.sorted_cons.1 hb
    rw [List.foldl_cons, ih hs]
    by_cases hk : k = o
    · subst hk
      simp [Tab.find, Tab.find_of_below hm]
    · simp [Tab.find, hk, s.reg_setReg_ne (Ne.symm hk)]

/-- What a step of a loop leaves, the loop leaves. -/
theorem State.each_keeps {α β : Type} (g : State → β) {f : State → α → State} (h : ∀ s x, g (f s x) = g s) (s : State) (xs : List α) :
    g (s.each xs f) = g s := by
  induction xs generalizing s with
  | nil => rfl
  | cons x xs ih => exact (ih (f s x)).trans (h s x)

/-! Staged blocks -/

theorem State.snapReg_eq_find (s : State) (o : Nat) : s.snapReg o = (Tab.find o s.snap).getD (s.reg o) := Tab.get_eq_find ..

@[simp] theorem State.reg_unstage (s : State) (lo hi o : Nat) : (s.unstage lo hi).reg o = s.reg o := rfl

theorem State.find_stage_unstage (s : State) (lo hi o : Nat) :
    Tab.find o (s.unstage lo hi).stage = if o < lo ∨ hi ≤ o then Tab.find o s.stage else none := by
  simp [State.unstage, Tab.find_keep]

theorem State.reg_endCommit_ne (s : State) {sc o : Nat} (h : o ≠ sc) : (s.endCommit sc).reg o = s.reg o := State.reg_setRb_ne _ h _ _

theorem State.rb_endCommit_pending (s : State) (sc : Nat) : (s.endCommit sc).rb sc 31 = false := State.rb_setRb_same _ _ _ (by decide)

theorem State.rb_endCommit_of_lt (s : State) (sc : Nat) {k : Nat} (hk : k < 31) : (s.endCommit sc).rb sc k = s.rb sc k :=
  State.rb_setRb_ne _ _ _ (by decide) hk.ne

theorem State.find_snap_endCommit (s : State) (sc o : Nat) :
    Tab.find o (s.endCommit sc).snap = if o < sc ∨ stageEnd sc ≤ o then Tab.find o s.snap else none := by
  show Tab.find o (Tab.keep _ s.snap) = _
  simp [Tab.find_keep]

/-- A COMMIT while one is pending sets OVERRUN and nothing else (R15). -/
theorem State.commit_of_pending {s : State} {sc : Nat} (h : s.rb sc 31 = true) : s.commit sc = s.setRb sc 30 true := if_pos h

section Commit

variable {s : State} {sc : Nat} (h : s.rb sc 31 = false)
include h

/-- A COMMIT while none is pending snapshots the stage copies of the block and sets PENDING (R13, R14). -/
theorem State.commit_of_idle :
    s.commit sc =
      State.setRb { s with snap := (s.stage.keep fun o => decide (sc ≤ o) && decide (o < stageEnd sc)).foldl (fun t e => Tab.put e.1 e.2 t) s.snap }
        sc 31 true := by
  have hp : s.pendingAt sc = false := h
  rw [State.commit, hp, ← Tab.filter_eq_keep]
  rfl

theorem State.rb_commit_pending : (s.commit sc).rb sc 31 = true := by
  rw [State.commit_of_idle h]; exact State.rb_setRb_same _ _ _ (by decide)

theorem State.rb_commit_of_lt {k : Nat} (hk : k < 31) : (s.commit sc).rb sc k = s.rb sc k := by
  rw [State.commit_of_idle h]; exact State.rb_setRb_ne _ _ _ (by decide) hk.ne

theorem State.reg_commit_ne {o : Nat} (ho : o ≠ sc) : (s.commit sc).reg o = s.reg o := by
  rw [State.commit_of_idle h]; exact State.reg_setRb_ne _ ho _ _

theorem State.stage_commit : (s.commit sc).stage = s.stage := by rw [State.commit_of_idle h]; rfl

theorem State.out_commit : (s.commit sc).out = s.out := by rw [State.commit_of_idle h]; rfl

/-- The snapshot after a COMMIT: within the block the stage copies, where there are any, over what it held. -/
theorem State.find_snap_commit (hs : s.stage.sorted) (o : Nat) :
    Tab.find o (s.commit sc).snap =
      (if sc ≤ o ∧ o < stageEnd sc then Tab.find o s.stage else none).or (Tab.find o s.snap) := by
  rw [State.commit_of_idle h]
  show Tab.find o (List.foldl _ s.snap _) = _
  rw [Tab.find_foldl_put o (Tab.keep_sorted hs), Tab.find_keep]
  simp

end Commit

section ApplyBlock

variable {s : State} (hs : s.snap.sorted) (sc : Nat)
include hs

/-- The active registers once a block's snapshot has been applied (R14). -/
theorem State.reg_applyBlock_ne {o : Nat} (ho : o ≠ sc) :
    (s.applyBlock sc).reg o = if sc ≤ o ∧ o < stageEnd sc then s.snapReg o else s.reg o := by
  have hb := Tab.filter_eq_keep (fun o => decide (sc ≤ o) && decide (o < stageEnd sc)) s.snap
  rw [State.applyBlock, hb, State.reg_endCommit_ne _ ho, State.reg_foldl_setReg o (Tab.keep_sorted hs), Tab.find_keep, State.snapReg_eq_find]
  by_cases hr : sc ≤ o ∧ o < stageEnd sc <;> simp [hr]

end ApplyBlock

/-! What DISCARD leaves: the window's accesses aside (R413), it is the discard of the block. -/

theorem State.discardAt_cases (s : State) (sc : Nat) : s.discardAt sc = s.discard sc ∨
    ∃ p n, s.discardAt sc = (s.discard sc).modPl p fun x => x.winFresh n := by
  unfold State.discardAt
  split
  · exact .inr ⟨_, _, rfl⟩
  · exact .inl rfl

/-- What neither depends on a plane's state nor on its accesses is, after DISCARD, as after the discard of the block. -/
theorem State.discardAt_keeps {β : Type} (g : State → β) (hg : ∀ (s : State) p f, g (s.modPl p f) = g s) (s : State) (sc : Nat) :
    g (s.discardAt sc) = g (s.discard sc) := by
  obtain h | ⟨p, n, h⟩ := s.discardAt_cases sc <;> rw [h]
  exact hg ..

end Sys2Proof.Machine
end


section
/-!
The register map: which row a repeated register has, by its place in the map alone, for every index.
-/
namespace Sys2Proof.Machine

/-- No register of row `r` can be one of row `row`: they end below it, or lie in its repetition at another place. -/
def RegRow.apart (row r : RegRow) : Bool :=
  decide (0 < r.s1) && (decide (r.base + r.n1 * r.s1 ≤ row.base) ||
    (decide (r.n2 = 1) && decide (r.s1 = row.s1) && decide (r.base % r.s1 ≠ row.base % r.s1)))

theorem RegRow.covers_indexed {row : RegRow} {n : Nat} (h2 : row.n2 = 1) (hn : n < row.n1) : row.covers (row.base + n * row.s1) = true := by
  obtain h | h := Nat.eq_zero_or_pos row.s1
  · simp [RegRow.covers, h2, h]; omega
  · simp [RegRow.covers, h2, Nat.mul_div_cancel n h, hn]

theorem RegRow.not_covers_of_apart {row r : RegRow} (h : row.apart r = true) (n : Nat) : r.covers (row.base + n * row.s1) = false := by
  simp only [RegRow.apart, Bool.and_eq_true, Bool.or_eq_true, decide_eq_true_eq] at h
  obtain ⟨hs, hlow | ⟨⟨h2, hs1⟩, hres⟩⟩ := h
  · have : r.n1 ≤ (row.base + n * row.s1 - r.base) / r.s1 := (Nat.le_div_iff_mul_le hs).2 (by omega)
    simp [RegRow.covers, Nat.not_lt.2 this]
  · by_contra hc
    simp only [RegRow.covers, h2, if_true, Bool.not_eq_false, Bool.and_eq_true, decide_eq_true_eq] at hc
    obtain ⟨⟨hb, -⟩, hm⟩ := hc
    have hmod := (Nat.modEq_iff_dvd' hb).2 (Nat.dvd_of_mod_eq_zero hm)
    rw [hs1] at hmod hres
    exact hres (hmod.trans (Nat.add_mul_mod_self_right ..))

/-- The first row of a list that covers a register is its own where those before it lie apart. -/
theorem findRow_indexed {l : List RegRow} {row : RegRow} {k n : Nat} (hl : l[k]? = some row) (hpre : (l.take k).all row.apart = true)
    (h2 : row.n2 = 1) (hn : n < row.n1) : findRow (row.base + n * row.s1) l = some row := by
  induction l generalizing k with
  | nil => simp at hl
  | cons r l ih =>
    cases k with
    | zero =>
      obtain rfl : r = row := by simpa using hl
      rw [findRow, if_pos (r.covers_indexed h2 hn)]
    | succ k =>
      rw [List.take_succ_cons, List.all_cons, Bool.and_eq_true] at hpre
      rw [findRow, RegRow.not_covers_of_apart hpre.1]
      exact ih (by simpa using hl) hpre.2

theorem rowsAt_sl {o : Nat} (h : 0x200000 ≤ o) (h' : o < 0x240000) : rowsAt o = rows_sl := by
  rw [rowsAt, if_neg (by omega), if_neg (by omega), if_pos h']

theorem rowsAt_can {o : Nat} (h : 0x240000 ≤ o) (h' : o < 0x280000) : rowsAt o = rows_can := by
  rw [rowsAt, if_neg (by omega), if_neg (by omega), if_neg (by omega), if_pos h']

theorem rowsAt_port {o : Nat} (h : 0x410000 ≤ o) (h' : o < 0x480000) : rowsAt o = rows_port := by
  rw [rowsAt, if_neg (by omega), if_neg (by omega), if_neg (by omega), if_neg (by omega), if_neg (by omega), if_neg (by omega), if_pos h']

theorem rowsAt_queue {o : Nat} (h : 0x4C0000 ≤ o) (h' : o < 0x500000) : rowsAt o = rows_queue := by
  rw [rowsAt, if_neg (by omega), if_neg (by omega), if_neg (by omega), if_neg (by omega), if_neg (by omega), if_neg (by omega),
    if_neg (by omega), if_neg (by omega), if_pos h']

theorem rowsAt_bridge {o : Nat} (h : 0x5C0000 ≤ o) (h' : o < 0x800000) : rowsAt o = rows_bridge := by
  rw [rowsAt, if_neg (by omega), if_neg (by omega), if_neg (by omega), if_neg (by omega), if_neg (by omega), if_neg (by omega),
    if_neg (by omega), if_neg (by omega), if_neg (by omega), if_neg (by omega), if_neg (by omega), if_neg (by omega), if_pos h']

theorem normOff_pin {o : Nat} (h : o < 0x400000) : normOff o = o := if_neg (by omega)

theorem normOff_plane (p : Plane) {o : Nat} (h : 0x400000 ≤ o) (h' : o < 0x800000) : normOff (o + planeOfs p) = o := by
  cases p
  · exact if_neg (by simp only [planeOfs]; omega)
  · exact (if_pos (by simp only [planeOfs]; omega)).trans (Nat.add_sub_cancel ..)

theorem planeOf_pin {o : Nat} (h : o < 0x400000) : planeOf o = none := by
  rw [planeOf, if_neg (by omega), if_neg (by omega)]

theorem planeOf_plane (p : Plane) {o : Nat} (h : 0x400000 ≤ o) (h' : o < 0x800000) : planeOf (o + planeOfs p) = some p := by
  cases p
  · exact if_pos ⟨h, h'⟩
  · exact (if_neg (by simp only [planeOfs]; omega)).trans (if_pos (by simp only [planeOfs]; omega))

theorem planeOf_eq_some {off : Nat} {p : Plane} (h : planeOf off = some p) : 0x400000 ≤ off ∧ off < 0xC00000 := by
  unfold planeOf at h
  split_ifs at h <;> omega

theorem all_ite {α : Type} {f : α → Bool} {c : Prop} [Decidable c] {a b : List α} (ha : a.all f = true) (hb : b.all f = true) :
    (if c then a else b).all f = true := by
  split <;> assumption

theorem rowsAt_s1 (o : Nat) : (rowsAt o).all (fun r => decide (0 < r.s1)) = true := by
  unfold rowsAt
  repeat refine all_ite (by decide +kernel) ?_
  rfl

theorem mem_of_findRow {o : Nat} {l : List RegRow} {row : RegRow} (h : findRow o l = some row) : row ∈ l := by
  induction l with
  | nil => cases h
  | cons r l ih =>
    rw [findRow] at h
    split at h
    · cases h; exact List.mem_cons_self
    · exact List.mem_cons_of_mem _ (ih h)

/-- Every row of the map repeats its registers at a distance. -/
theorem RegRow.s1_pos_of_rowOf {off : Nat} {row : RegRow} (h : rowOf off = some row) : 0 < row.s1 :=
  of_decide_eq_true (List.all_eq_true.1 (rowsAt_s1 _) row (mem_of_findRow h))

/-- A block is not empty: its stage control register belongs to it. -/
theorem lt_stageEnd {sc : Nat} {row : RegRow} (h : rowOf sc = some row) : sc < stageEnd sc := by
  have := RegRow.s1_pos_of_rowOf h
  simp only [stageEnd, h]
  split_ifs <;> omega

/-- The register at `off` is the stage control register of the block numbered `n` among its kind. -/
def StageAt (off n : Nat) : Prop := ∃ row, rowOf off = some row ∧ row.ix1 off = n ∧ isStageCtl off = true

/-- A repeated row of stage control registers, at the multiples of its distance. -/
theorem stageAt_indexed {off n k : Nat} {row : RegRow} {l : List RegRow} (hat : rowsAt (normOff off) = l)
    (hnorm : normOff off = row.base + n * row.s1) (hl : l[k]? = some row) (hpre : (l.take k).all row.apart = true) (h2 : row.n2 = 1)
    (hn : n < row.n1) (hrow : row.n1 ≠ 1 ∧ row.wo = 5 ∧ row.base % row.s1 = 0) : StageAt off n := by
  have hr : rowOf off = some row := by rw [rowOf, hat, hnorm, findRow_indexed hl hpre h2 hn]
  have hs := RegRow.s1_pos_of_rowOf hr
  obtain ⟨h1, hwo, hbase⟩ := hrow
  have hsub : normOff off - row.base = n * row.s1 := by omega
  refine ⟨row, hr, ?_, ?_⟩
  · rw [RegRow.ix1, hsub, Nat.mul_div_cancel _ hs]
  · simp [isStageCtl, stageCtlOf, hr, h1, hwo, hbase, hsub]

theorem stageAt_sl {n : Nat} (hn : n < 32) : StageAt (R.SL_STAGE_CTL n) n :=
  have h : normOff (R.SL_STAGE_CTL n) = 0x200000 + n * 0x1000 := normOff_pin (by unfold R.SL_STAGE_CTL; omega)
  stageAt_indexed (k := 0) (rowsAt_sl (by omega) (by omega)) h rfl rfl rfl hn (by decide)

theorem stageAt_can {n : Nat} (hn : n < 8) : StageAt (R.CAN_STAGE_CTL n) n :=
  have h : normOff (R.CAN_STAGE_CTL n) = 0x240000 + n * 0x2000 := normOff_pin (by unfold R.CAN_STAGE_CTL; omega)
  stageAt_indexed (k := 0) (rowsAt_can (by omega) (by omega)) h rfl rfl rfl hn (by decide)

theorem stageAt_port (p : Plane) {n : Nat} (hn : n < 4) : StageAt (R.PORT_STAGE_CTL p n) n :=
  have h : normOff (R.PORT_STAGE_CTL p n) = 0x410000 + n * 0x4000 := by
    rw [R.PORT_STAGE_CTL, Nat.add_right_comm, normOff_plane p (by omega) (by omega)]
  stageAt_indexed (k := 0) (rowsAt_port (by omega) (by omega)) h rfl rfl rfl hn (by decide)

theorem stageAt_queue (p : Plane) {n : Nat} (hn : n < 512) : StageAt (R.Q_STAGE_CTL p n) n :=
  have h : normOff (R.Q_STAGE_CTL p n) = 0x4C0000 + n * 0x40 := by
    rw [R.Q_STAGE_CTL, Nat.add_right_comm, normOff_plane p (by omega) (by omega)]
  stageAt_indexed (k := 0) (rowsAt_queue (by omega) (by omega)) h rfl rfl rfl hn (by decide)

theorem stageAt_window (p : Plane) {n : Nat} (hn : n < 64) : StageAt (R.BRG_WIN_STAGE_CTL p n) n :=
  have h : normOff (R.BRG_WIN_STAGE_CTL p n) = 0x5C1000 + n * 0x40 := by
    rw [R.BRG_WIN_STAGE_CTL, Nat.add_right_comm, normOff_plane p (by omega) (by omega)]
  stageAt_indexed (k := 13) (rowsAt_bridge (by omega) (by omega)) h rfl (by decide) rfl hn (by decide)

theorem stageAt_release (p : Plane) : StageAt (R.REL_STAGE_CTL p) 0 := by
  cases p <;> exact ⟨_, rfl, rfl, rfl⟩

end Sys2Proof.Machine
end


section
/-!
Accesses of BAR0 by a requester that can make them: what an aligned 32-bit read or write comes to, and one that is refused.
-/
namespace Sys2Proof.Machine

/-- A word of three fields. -/
theorem pack_three (a b c i j k : Nat) : pack [(a, i), (b, j), (c, k)] = BitVec.ofNat 32 (a * 2 ^ i + (b * 2 ^ j + c * 2 ^ k)) := rfl

/-- What a host access error records (R6, R18, R456). -/
theorem State.accErr_bar0 (s : State) (off cause : Nat) (write : Bool) :
    s.accErr 0 off cause write = ((s.setReg R.EV_ACC_INFO (BitVec.ofNat 32 (cause * 2 ^ 24 + write.toNat))).setReg R.EV_ACC_ADDR
      (BitVec.ofNat 32 off)).raise 14 := by
  rw [State.accErr, pack_three, Nat.zero_mul, Nat.zero_add, pow_zero, Nat.mul_one]

@[simp] theorem State.rsSet_zero (s : State) (off : Nat) : s.rsSet off 0 = s := by
  unfold State.rsSet
  split <;> simp

section Aligned

variable {s : State} {r : Req} {off : Nat} (hr : s.reqOn r = true) (ha : off % 4 = 0)
include hr ha

theorem State.access_aligned (write : Bool) (f : State → State) : s.access r off 4 write f = f s := by
  simp [State.access, hr, ha]

theorem State.regWrite_aligned (v : Word) : s.regWrite r off 4 v = s.writeAll r off v := State.access_aligned hr ha _ _

theorem State.regRead_aligned (hw : Word) :
    s.regRead r off 4 hw = ((s.readReg r off).2.rsSet off hw).emit (.read r off (s.readReg r off).1) := State.access_aligned hr ha _ _

end Aligned

section Commands

variable {s : State} {r : Req} {off : BitVec 24} (hr : s.reqOn r = true) (ha : off.toNat % 4 = 0)
include hr ha

theorem exec_hostRegisterWrite (v : Word) : exec (.hostRegisterWrite r false off 4 v) s = .next (s.after (s.writeAll r off.toNat v).drain) := by
  rw [← State.regWrite_aligned hr ha]; rfl

theorem exec_loRegisterWrite (v : Word) : exec (.loRegisterWrite r off v) s = .next (s.after (s.writeAll r off.toNat v).drain) := by
  rw [← State.regWrite_aligned hr ha]; rfl

theorem exec_hiRegisterWrite (v : Word) : exec (.hiRegisterWrite r off v) s = .next (s.after (s.writeAll r off.toNat v).drain) := by
  rw [← State.regWrite_aligned hr ha]; rfl

theorem exec_rsRead (hw : Word) : exec (.rsRead r off 4 hw) s =
    .next (s.after (((s.readReg r off.toNat).2.rsSet off.toNat hw).emit (.read r off.toNat (s.readReg r off.toNat).1))) := by
  rw [← State.regRead_aligned hr ha]; rfl

theorem exec_loRegisterRead : exec (.loRegisterRead r false off 4) s =
    .next (s.after ((s.readReg r off.toNat).2.emit (.read r off.toNat (s.readReg r off.toNat).1))) := by
  have h := State.regRead_aligned hr ha 0
  rw [State.rsSet_zero] at h
  rw [← h]; rfl

theorem exec_w1cWrite (v hw : Word) : exec (.w1cWrite r off v hw) s = .next (s.after (s.w1cWrite r off.toNat v hw).drain) := by
  rw [← State.access_aligned hr ha true fun s => s.w1cWrite r off.toNat v hw]; rfl

end Commands

/-- A host access that is no naturally aligned 32-bit one (R6). -/
theorem State.access_refused {s : State} {off size : Nat} (hon : s.hostOn = true) (h : size ≠ 4 ∨ off % 4 ≠ 0) (write : Bool)
    (f : State → State) : s.access .host off size write f =
      (((s.emit (.abort 0 off)).setReg R.EV_ACC_INFO (BitVec.ofNat 32 (1 * 2 ^ 24 + write.toNat))).setReg R.EV_ACC_ADDR
        (BitVec.ofNat 32 off)).raise 14 := by
  have hr : s.reqOn .host = true := hon
  rw [State.access, hr, ← State.accErr_bar0]
  simp [h]

/-! Writes -/

/-- Above the global and AON ranges nothing stands before the row of a register. -/
theorem State.writeAll_of_le {s : State} {r : Req} {off : Nat} (h : 0x200000 ≤ off) (v : Word) :
    s.writeAll r off v = s.writeReg r off v := by
  unfold State.writeAll
  split
  · rfl
  · exact if_pos h

section WriteReg

variable {s : State} {r : Req} {off : Nat} {row : RegRow} (hlt : off < 0xC00000) (hthere : s.there off = true)
  (hrow : rowOf off = some row)
include hlt hthere hrow

/-- A write of a block's stage control register (R13). -/
theorem State.writeReg_of_stageCtl (hsc : isStageCtl off = true) (v : Word) : s.writeReg r off v = s.stageWrite off v := by
  simp [State.writeReg, Nat.not_le.2 hlt, hthere, hrow, hsc]

variable (hsc : isStageCtl off = false) (hlog : logOf off = none)
include hsc hlog

/-- A write of half of a pair that a write can change (R10). -/
theorem State.writeReg_of_pair (hp : row.holds = true) (v : Word) :
    s.writeReg r off v = if row.pair = .lo then s.holdLo off v else s.putHi row off v := by
  simp [State.writeReg, Nat.not_le.2 hlt, hthere, hrow, hsc, hlog, hp]

/-- A write of a register that is no half of a pair. -/
theorem State.writeReg_of_single (hp : row.pair = .single) (v : Word) :
    s.writeReg r off v = match planeOf off with
      | some p => s.writePlane r row p off (row.ix1 off) v
      | none => s.writePin row off (row.ix1 off) v := by
  have hh : row.holds = false := by simp [RegRow.holds, hp]
  simp only [State.writeReg, Nat.not_le.2 hlt, hthere, hrow, hsc, hlog, hh]
  rfl

end WriteReg

end Sys2Proof.Machine
end


section
/-!
64-bit pairs (R10), and the writes of a block's stage control register (R13).
-/
namespace Sys2Proof.Machine

/-! 64-bit pairs (R10) -/

/-- No capture count is a low half. -/
theorem single_ciCount {i : Nat} {row : RegRow} (hi : i < 8) (h : rowOf (R.CI_COUNT i) = some row) : row.pair = .single := by
  have hall : ∀ i, i < 8 → (rowOf (R.CI_COUNT i)).map RegRow.pair = some .single := by decide +kernel
  simpa [h] using hall i hi

/-- A read of the low half of a pair of the global range, AON or the Lantern ring latches the high one (R10). -/
theorem State.readReg_lo {s : State} {r : Req} {off : Nat} {row : RegRow} (hpl : planeOf off = none) (hlt : off < 0xC00000)
    (hrow : rowOf off = some row) (hlo : row.pair = .lo) (hci : ∀ i, i < 8 → off ≠ R.CI_LAST_LO i) :
    s.readReg r off = (s.shown off, s.latch r (hiOf off) (s.shown (hiOf off))) := by
  have hthere : s.there off = true := by simp [State.there, hpl]
  have hcount : ¬ (off = R.CI_COUNT (row.ix1 off) ∧ row.ix1 off < 8) := by
    rintro ⟨h, hi⟩
    rw [h] at hrow
    simp [single_ciCount hi hrow] at hlo
  have hlast : ¬ (off = R.CI_LAST_LO ((off - 0x280100) / 16) ∧ (off - 0x280100) / 16 < 8) := fun h => hci _ h.2 h.1
  simp only [State.readReg, Nat.not_le.2 hlt, hthere, hrow, hpl, hlo, if_neg hcount, State.readLo, if_neg hlast]
  rfl

/-- Settles O13, from what a write of either half and a read of the low half of a pair come to. -/
theorem registerPairs : Obligations.RegisterPairs := by
  intro s r off v l row lrow hr ha hle hlt hthere hrow hsc hlog
  have hw (hp : row.holds = true) : s.writeAll r off.toNat v = if row.pair = .lo then s.holdLo off.toNat v else s.putHi row off.toNat v := by
    rw [State.writeAll_of_le hle, State.writeReg_of_pair hlt hthere hrow hsc hlog hp]
  refine ⟨fun hlo hp => ?_, fun hhi hp hfind hl => ?_, fun hlo hpl hci => ?_⟩
  · rw [exec_loRegisterWrite hr ha, hw hp, if_pos hlo]
    rfl
  · rw [exec_hiRegisterWrite hr ha, hw hp, if_neg (by simp [hhi]), State.putHi]
    simp only [hfind, hl]
  · rw [exec_loRegisterRead hr ha, State.readReg_lo hpl hlt hrow hlo hci]

/-! Stage control -/

/-- The state with STAGE_VIEW of a block written as it stands. -/
def State.viewKept (s : State) (sc : Nat) : State := s.setRb sc 1 (s.rb sc 1)

/-- Writing STAGE_VIEW as it stands changes no register. -/
@[simp] theorem State.reg_viewKept (s : State) (sc o : Nat) : (s.viewKept sc).reg o = s.reg o := by
  by_cases ho : o = sc
  · subst ho
    refine eq_of_bits fun j _ => ?_
    by_cases hj : j = 1
    · subst hj; exact s.rb_setRb_same o _ (by decide)
    · exact s.rb_setRb_ne o _ (by decide) hj
  · exact s.reg_setRb_ne ho _ _

@[simp] theorem State.rb_viewKept (s : State) (sc o k : Nat) : (s.viewKept sc).rb o k = s.rb o k := congrArg (bit · k) (s.reg_viewKept sc o)

@[simp] theorem State.staged_viewKept (s : State) (sc o : Nat) : (s.viewKept sc).staged o = s.staged o :=
  congrArg (Option.getD _) (s.reg_viewKept sc o)

@[simp] theorem State.snapReg_viewKept (s : State) (sc o : Nat) : (s.viewKept sc).snapReg o = s.snapReg o :=
  congrArg (Tab.get · o _) (s.reg_viewKept sc o)

/-- A stage control register is assigned. -/
theorem rowOf_of_isStageCtl {off : Nat} (h : isStageCtl off = true) : ∃ row, rowOf off = some row := by
  cases hr : rowOf off with
  | none => simp [isStageCtl, hr] at h
  | some row => exact ⟨row, rfl⟩

section StageBit

variable {s : State} {r : Req} {off : Nat} (hr : s.reqOn r = true) (ha : off % 4 = 0) (hle : 0x200000 ≤ off) (hlt : off < 0xC00000)
  (hthere : s.there off = true) (hsc : isStageCtl off = true)
include hle hlt hthere hsc

/-- A write of a block's stage control register (R13). -/
theorem State.writeAll_stageCtl (v : Word) : s.writeAll r off v = s.stageWrite off v := by
  obtain ⟨row, hrow⟩ := rowOf_of_isStageCtl hsc
  rw [State.writeAll_of_le hle, State.writeReg_of_stageCtl hlt hthere hrow hsc]

include hr ha

/-- STAGE_COMMIT and STAGE_DISCARD write STAGE_VIEW as it stands (R13). -/
theorem State.stageBit_eq (b : Nat) : s.stageBit r off b = s.stageWrite off ((s.reg off &&& 2) ||| BitVec.ofNat 32 b) := by
  rw [State.stageBit, if_pos hsc, State.regWrite_aligned hr ha, State.writeAll_stageCtl hle hlt hthere hsc]

theorem State.stageBit_commit : s.stageBit r off 1 = (s.viewKept off).commit off := by
  rw [State.stageBit_eq hr ha hle hlt hthere hsc]
  simp [State.stageWrite, State.when, State.viewKept, bit, State.rb]

theorem State.stageBit_discard : s.stageBit r off 4 = (s.viewKept off).discardAt off := by
  rw [State.stageBit_eq hr ha hle hlt hthere hsc]
  simp [State.stageWrite, State.when, State.viewKept, bit, State.rb]

end StageBit
end Sys2Proof.Machine
end


section
/-!
The boundary of a block: the operation that STAGE_COMMIT_APPLY is at each kind of block, and what it does (R14).
-/
namespace Sys2Proof.Machine

/-! The boundary of a block: which operation STAGE_COMMIT_APPLY is (R14) -/

/-- At a stage control register of the Lantern ring the boundary is a line's or a controller's. -/
theorem State.stageApply_pin {s : State} {off n : Nat} (h : StageAt off n) (hlt : off < 0x400000) :
    s.stageApply off = if off < 0x240000 then s.slApply n else s.canApply n := by
  obtain ⟨row, hrow, rfl, hsc⟩ := h
  simp [State.stageApply, State.blockApply, hrow, hsc, planeOf_pin hlt]

/-- At a plane's stage control register the boundary is followed by the recheck of the pair's join. -/
theorem State.stageApply_plane {s : State} {off n : Nat} {p : Plane} (h : StageAt off n) (hp : planeOf off = some p) :
    s.stageApply off =
      (if off = R.TD_STAGE_CTL p n then s.tdApply p n
        else if off = R.EG_STAGE_CTL p n then s.egApply p n
        else if h : off = R.PORT_STAGE_CTL p n ∧ n < 4 then s.portApply p ⟨n, h.2⟩
        else if off = R.Q_STAGE_CTL p n then s.qApply p n
        else if off = R.REL_STAGE_CTL p then s.guardAt p false
        else if off = R.BRG_WIN_STAGE_CTL p n then s.winApply p n
        else s).joinRecheck p := by
  obtain ⟨row, hrow, rfl, hsc⟩ := h
  simp [State.stageApply, State.blockApply, hrow, hsc, hp]

section Boundary

variable (s : State) (p : Plane) {n : Nat}

theorem State.stageApply_sl (hn : n < 32) : s.stageApply (R.SL_STAGE_CTL n) = s.slApply n := by
  rw [State.stageApply_pin (stageAt_sl hn) (by unfold R.SL_STAGE_CTL; omega), if_pos (by unfold R.SL_STAGE_CTL; omega)]

theorem State.stageApply_can (hn : n < 8) : s.stageApply (R.CAN_STAGE_CTL n) = s.canApply n := by
  rw [State.stageApply_pin (stageAt_can hn) (by unfold R.CAN_STAGE_CTL; omega), if_neg (by unfold R.CAN_STAGE_CTL; omega)]

theorem State.stageApply_port (hn : n < 4) : s.stageApply (R.PORT_STAGE_CTL p n) = (s.portApply p ⟨n, hn⟩).joinRecheck p := by
  have hp : planeOf (R.PORT_STAGE_CTL p n) = some p := by
    rw [R.PORT_STAGE_CTL, Nat.add_right_comm, planeOf_plane p (by omega) (by omega)]
  rw [State.stageApply_plane (stageAt_port p hn) hp, if_neg, if_neg, dif_pos ⟨rfl, hn⟩] <;>
    simp only [R.PORT_STAGE_CTL, R.TD_STAGE_CTL, R.EG_STAGE_CTL] <;> omega

theorem State.stageApply_queue (hn : n < 512) : s.stageApply (R.Q_STAGE_CTL p n) = (s.qApply p n).joinRecheck p := by
  have hp : planeOf (R.Q_STAGE_CTL p n) = some p := by
    rw [R.Q_STAGE_CTL, Nat.add_right_comm, planeOf_plane p (by omega) (by omega)]
  rw [State.stageApply_plane (stageAt_queue p hn) hp, if_neg, if_neg, dif_neg, if_pos rfl] <;>
    simp only [R.Q_STAGE_CTL, R.PORT_STAGE_CTL, R.TD_STAGE_CTL, R.EG_STAGE_CTL] <;> omega

theorem State.stageApply_release : s.stageApply (R.REL_STAGE_CTL p) = (s.guardAt p false).joinRecheck p := by
  have hp : planeOf (R.REL_STAGE_CTL p) = some p := planeOf_plane p (by omega) (by omega)
  rw [State.stageApply_plane (stageAt_release p) hp, if_neg, if_neg, dif_neg, if_neg, if_pos rfl] <;>
    simp only [R.REL_STAGE_CTL, R.Q_STAGE_CTL, R.PORT_STAGE_CTL, R.TD_STAGE_CTL, R.EG_STAGE_CTL] <;> omega

theorem State.stageApply_window (hn : n < 64) : s.stageApply (R.BRG_WIN_STAGE_CTL p n) = (s.winApply p n).joinRecheck p := by
  have hp : planeOf (R.BRG_WIN_STAGE_CTL p n) = some p := by
    rw [R.BRG_WIN_STAGE_CTL, Nat.add_right_comm, planeOf_plane p (by omega) (by omega)]
  rw [State.stageApply_plane (stageAt_window p hn) hp, if_neg, if_neg, dif_neg, if_neg, if_neg, if_pos rfl] <;>
    simp only [R.BRG_WIN_STAGE_CTL, R.REL_STAGE_CTL, R.Q_STAGE_CTL, R.PORT_STAGE_CTL, R.TD_STAGE_CTL, R.EG_STAGE_CTL] <;> omega

end Boundary

/-! What each boundary does where its condition holds (R14, R166, R220, R285, R345, R364, R413) -/

section Applies

variable {s : State} {p : Plane} {n : Nat}

theorem State.slApply_good (hp : s.rb (R.SL_STAGE_CTL n) 31 = true) (hn : n < 32) (hgood : badSlCfg n s.snapReg = false) :
    s.slApply n = State.slReconf s (s.applyBlock (R.SL_STAGE_CTL n)) ⟨n, hn⟩ := by
  simp [State.slApply, State.pendingAt, hp, hgood, hn]

theorem State.canApply_good (hp : s.rb (R.CAN_STAGE_CTL n) 31 = true) (hidle : s.canEn n = true → (s.canS n).onBus = none ∧ (s.canS n).rx = false)
    (hgood : s.badCanCfg n s.snapReg = false) : s.canApply n = s.applyBlock (R.CAN_STAGE_CTL n) := by
  have hbus : (s.canEn n && ((s.canS n).onBus.isSome || (s.canS n).rx)) = false := by
    cases h : s.canEn n
    · rfl
    · simp [hidle h]
  simp [State.canApply, State.pendingAt, hp, hbus, hgood]

theorem State.portApply_same {port : Fin 4} (hp : s.rb (R.PORT_STAGE_CTL p port.val) 31 = true)
    (hsame : fld (s.reg (R.PORT_CFG p port.val)) 31 27 = fld (s.snapReg (R.PORT_CFG p port.val)) 31 27) :
    s.portApply p port = s.applyBlock (R.PORT_STAGE_CTL p port.val) := by
  simp [State.portApply, State.pendingAt, hp, hsame]

theorem State.qApply_good (hp : s.rb (R.Q_STAGE_CTL p n) 31 = true) (hw : ((s.pl p).q n).writing = none)
    (hgood : s.badQueueCfg p n (s.snapReg (R.Q_CFG p n)) (s.snapReg (R.Q_LIMIT p n)) (s.snapReg (R.Q_WM_HI p n))
      (s.snapReg (R.Q_WM_LO p n)) = false) :
    s.qApply p n = State.levelQ (s.judgeNow p n) ((s.judgeNow p n).applyBlock (R.Q_STAGE_CTL p n)) p n := by
  simp [State.qApply, State.pendingAt, hp, hw, hgood]

theorem State.guardAt_pending (hp : s.rb (R.REL_STAGE_CTL p) 31 = true) :
    s.guardAt p false = (s.applyBlock (R.REL_STAGE_CTL p)).readmit p := by
  simp [State.guardAt, State.pendingAt, State.when, hp]

theorem State.winApply_good (hp : s.rb (R.BRG_WIN_STAGE_CTL p n) 31 = true) (hq : (s.pl p).winQuiet n = true)
    (hgood : s.badWin p n s.snapReg = false) :
    s.winApply p n = ((s.applyBlock (R.BRG_WIN_STAGE_CTL p n)).pfDrop p n 5).modPl p fun x => x.winFresh n := by
  simp [State.winApply, State.pendingAt, hp, hq, hgood]

end Applies

theorem exec_stageCommitApply (s : State) (off : BitVec 24) :
    exec (.stageCommitApply off) s = .next (s.after (s.stageApply off.toNat).drain) := rfl

end Sys2Proof.Machine
end


section
/-!
STAGE_COMMIT, STAGE_DISCARD and the boundary of a block (R13-R16).
-/
namespace Sys2Proof.Machine

/-! What the commands of a block's stage control register leave (R13-R15) -/

/-- What a COMMIT snapshots reads as the stage copy in the block, and as before elsewhere (R14). -/
theorem State.snapReg_commit {s : State} {sc o : Nat} (h : s.rb sc 31 = false) (hs : s.stage.sorted) (ho : o ≠ sc)
    (hnone : sc ≤ o → o < stageEnd sc → Tab.find o s.snap = none) :
    (s.commit sc).snapReg o = if sc ≤ o ∧ o < stageEnd sc then s.staged o else s.snapReg o := by
  rw [State.snapReg_eq_find, State.find_snap_commit h hs, State.reg_commit_ne h ho]
  by_cases hin : sc ≤ o ∧ o < stageEnd sc
  · simp [hin, hnone hin.1 hin.2, State.staged]
  · simp [hin, State.snapReg_eq_find]

section Discard

variable (s : State) (sc : Nat)

theorem State.reg_discardAt_ne {o : Nat} (ho : o ≠ sc) : (s.discardAt sc).reg o = s.reg o := by
  rw [State.discardAt_keeps (fun s => s.reg o) (fun s p f => s.reg_modPl p f o)]
  exact State.reg_endCommit_ne _ ho

theorem State.rb_discardAt (k : Nat) : (s.discardAt sc).rb sc k = (s.discard sc).rb sc k :=
  State.discardAt_keeps (fun s => s.rb sc k) (fun s p f => congrArg (bit · k) (s.reg_modPl p f sc)) s sc

theorem State.out_discardAt : (s.discardAt sc).out = s.out :=
  State.discardAt_keeps State.out State.modPl_out s sc

theorem State.find_stage_discardAt (o : Nat) :
    Tab.find o (s.discardAt sc).stage = if o < sc ∨ stageEnd sc ≤ o then Tab.find o s.stage else none := by
  rw [State.discardAt_keeps State.stage State.modPl_stage]
  exact State.find_stage_unstage ..

theorem State.find_snap_discardAt (o : Nat) :
    Tab.find o (s.discardAt sc).snap = if o < sc ∨ stageEnd sc ≤ o then Tab.find o s.snap else none := by
  rw [State.discardAt_keeps State.snap State.modPl_snap]
  exact State.find_snap_endCommit ..

/-- After DISCARD the stage copies and the snapshot of the block read as its active values, and those of other blocks as before (R13). -/
theorem State.staged_snapReg_discardAt {o : Nat} (ho : o ≠ sc) :
    (s.discardAt sc).staged o = (if o < sc ∨ stageEnd sc ≤ o then s.staged o else s.reg o) ∧
    (s.discardAt sc).snapReg o = (if o < sc ∨ stageEnd sc ≤ o then s.snapReg o else s.reg o) := by
  simp only [State.staged, State.snapReg_eq_find, s.find_stage_discardAt, s.find_snap_discardAt, s.reg_discardAt_ne sc ho]
  by_cases hin : o < sc ∨ stageEnd sc ≤ o <;> simp [hin]

end Discard

section StageCommands

variable {s : State} {r : Req} {off : BitVec 24} (hr : s.reqOn r = true) (ha : off.toNat % 4 = 0) (hle : 0x200000 ≤ off.toNat)
  (hlt : off.toNat < 0xC00000) (hthere : s.there off.toNat = true) (hsc : isStageCtl off.toNat = true)
include hr ha hle hlt hthere hsc

theorem exec_stageCommit : exec (.stageCommit r off) s = .next (s.after ((s.viewKept off.toNat).commit off.toNat)) := by
  rw [← State.stageBit_commit hr ha hle hlt hthere hsc]; rfl

theorem exec_stageDiscard : exec (.stageDiscard r off) s = .next (s.after ((s.viewKept off.toNat).discardAt off.toNat)) := by
  rw [← State.stageBit_discard hr ha hle hlt hthere hsc]; rfl

theorem stageCommit_idle (hp : s.rb off.toNat 31 = false) (hs : s.stage.sorted)
    (hnone : ∀ o, off.toNat ≤ o → o < stageEnd off.toNat → Tab.find o s.snap = none) :
    ∃ u : State, exec (.stageCommit r off) s = .next (s.after u) ∧ u.rb off.toNat 31 = true ∧
      (∀ k, k < 31 → u.rb off.toNat k = s.rb off.toNat k) ∧
      (∀ o, off.toNat < o → o < stageEnd off.toNat → u.snapReg o = s.staged o) ∧
      (∀ o, o < off.toNat ∨ stageEnd off.toNat ≤ o → u.snapReg o = s.snapReg o) ∧
      (∀ o, o ≠ off.toNat → u.reg o = s.reg o) ∧ u.stage = s.stage ∧ u.out = s.out := by
  have hidle : (s.viewKept off.toNat).rb off.toNat 31 = false := (s.rb_viewKept ..).trans hp
  have hsnap (o : Nat) (ho : o ≠ off.toNat) := State.snapReg_commit hidle hs ho (hnone o)
  obtain ⟨row, hrow⟩ := rowOf_of_isStageCtl hsc
  have hend := lt_stageEnd hrow
  refine ⟨_, exec_stageCommit hr ha hle hlt hthere hsc, State.rb_commit_pending hidle, fun k hk => ?_, fun o h1 h2 => ?_, fun o h => ?_,
    fun o ho => ?_, State.stage_commit hidle, State.out_commit hidle⟩
  · rw [State.rb_commit_of_lt hidle hk, State.rb_viewKept]
  · rw [hsnap o h1.ne', if_pos ⟨h1.le, h2⟩, State.staged_viewKept]
  · rw [hsnap o (by omega), if_neg (by omega), State.snapReg_viewKept]
  · rw [State.reg_commit_ne hidle ho, State.reg_viewKept]

theorem stageCommit_pending (hp : s.rb off.toNat 31 = true) :
    ∃ u : State, exec (.stageCommit r off) s = .next (s.after u) ∧ u.rb off.toNat 30 = true ∧
      (∀ k, k < 32 → k ≠ 30 → u.rb off.toNat k = s.rb off.toNat k) ∧
      (∀ o, o ≠ off.toNat → u.reg o = s.reg o) ∧ u.snap = s.snap ∧ u.stage = s.stage ∧ u.out = s.out := by
  have hcommit := State.commit_of_pending ((s.rb_viewKept off.toNat off.toNat 31).trans hp)
  refine ⟨_, exec_stageCommit hr ha hle hlt hthere hsc, ?_⟩
  rw [hcommit]
  refine ⟨State.rb_setRb_same _ _ _ (by decide), fun k _ hk => ?_, fun o ho => ?_, rfl, rfl, rfl⟩
  · rw [State.rb_setRb_ne _ _ _ (by decide) hk, State.rb_viewKept]
  · rw [State.reg_setRb_ne _ ho, State.reg_viewKept]

theorem stageDiscard_any :
    ∃ u : State, exec (.stageDiscard r off) s = .next (s.after u) ∧ u.rb off.toNat 31 = false ∧
      (∀ k, k < 31 → u.rb off.toNat k = s.rb off.toNat k) ∧
      (∀ o, off.toNat < o → o < stageEnd off.toNat → u.staged o = s.reg o ∧ u.snapReg o = s.reg o) ∧
      (∀ o, o < off.toNat ∨ stageEnd off.toNat ≤ o → u.staged o = s.staged o ∧ u.snapReg o = s.snapReg o) ∧
      (∀ o, o ≠ off.toNat → u.reg o = s.reg o) ∧ u.out = s.out := by
  have hcopy (o : Nat) (ho : o ≠ off.toNat) := (s.viewKept off.toNat).staged_snapReg_discardAt off.toNat ho
  obtain ⟨row, hrow⟩ := rowOf_of_isStageCtl hsc
  have hend := lt_stageEnd hrow
  refine ⟨_, exec_stageDiscard hr ha hle hlt hthere hsc, ?_, fun k hk => ?_, fun o h1 h2 => ?_, fun o h => ?_, fun o ho => ?_,
    State.out_discardAt ..⟩
  · rw [State.rb_discardAt]; exact State.rb_endCommit_pending ..
  · rw [State.rb_discardAt]; exact (State.rb_endCommit_of_lt _ _ hk).trans (s.rb_viewKept ..)
  · obtain ⟨h3, h4⟩ := hcopy o h1.ne'
    rw [h3, h4, if_neg (by omega), if_neg (by omega), State.reg_viewKept]
    exact ⟨rfl, rfl⟩
  · obtain ⟨h3, h4⟩ := hcopy o (by omega)
    rw [h3, h4, if_pos h, if_pos h, State.staged_viewKept, State.snapReg_viewKept]
    exact ⟨rfl, rfl⟩
  · rw [State.reg_discardAt_ne _ _ ho, State.reg_viewKept]

end StageCommands

/-- The boundary of a block without conditions: its whole snapshot becomes active and PENDING clears (R14). -/
theorem applyBlock_whole {s : State} (hs : s.snap.sorted) (sc : Nat) : (s.applyBlock sc).rb sc 31 = false ∧
    (∀ o, sc < o → o < stageEnd sc → (s.applyBlock sc).reg o = s.snapReg o) ∧
    ∀ o, o < sc ∨ stageEnd sc ≤ o → o ≠ sc → (s.applyBlock sc).reg o = s.reg o := by
  refine ⟨State.rb_endCommit_pending .., fun o h1 h2 => ?_, fun o h ho => ?_⟩
  · rw [State.reg_applyBlock_ne hs sc h1.ne', if_pos ⟨h1.le, h2⟩]
  · rw [State.reg_applyBlock_ne hs sc ho, if_neg (by omega)]

/-- Settles O16, from what COMMIT, DISCARD and a block's boundary come to, and from the boundary of each kind of block. -/
theorem stageCommandsAndApply : Obligations.StageCommandsAndApply := by
  refine ⟨fun s r off hr ha hle hlt hthere hsc =>
      ⟨stageCommit_idle hr ha hle hlt hthere hsc, stageCommit_pending hr ha hle hlt hthere hsc, stageDiscard_any hr ha hle hlt hthere hsc⟩,
    fun s sc hs => applyBlock_whole hs sc, fun s p off n hp => ⟨?_, ?_, ?_, ?_, ?_, ?_⟩⟩ <;> rw [exec_stageCommitApply]
  · intro hn ho hgood
    rw [ho] at hp ⊢
    rw [s.stageApply_sl hn, State.slApply_good hp hn hgood]
  · intro hn ho hidle hgood
    rw [ho] at hp ⊢
    rw [s.stageApply_can hn, State.canApply_good hp hidle hgood]
  · intro hn ho hsame
    rw [ho] at hp ⊢
    rw [s.stageApply_port p hn, State.portApply_same (port := ⟨n, hn⟩) hp hsame]
  · intro hn ho hw hgood
    rw [ho] at hp ⊢
    rw [s.stageApply_queue p hn, State.qApply_good hp hw hgood]
  · intro ho
    rw [ho] at hp ⊢
    rw [s.stageApply_release p, State.guardAt_pending hp]
  · intro hn ho hq hgood
    rw [ho] at hp ⊢
    rw [s.stageApply_window p hn, State.winApply_good hp hq hgood]

end Sys2Proof.Machine
end


section
/-!
DISCARD with COMMIT of a bridge window's block (R15, R413).
-/
namespace Sys2Proof.Machine

/-- The far read of an access of window 63, received after a COMMIT of the window (R413). -/
def lateAcc : TrkS :=
  { ord := 0, win := 63, core := none, posted := false, kind := .read, off := 0, stop := 4, asked := (0, 4), data := [], be := [], got := [],
    fail := none, late := true, ph := .reading, unit := 4, old := [], gen := 0, tn := 0, tries := 0, param := [] }

/-- Plane A alone ACTIVE, the commit of its window 63 pending, and an access open that was received after the COMMIT. -/
def lateState : State :=
  State.setRb { State.reset with
    aonOn := true, pinPow := true, pinOn := true, crystal := true, feedA := ⟨true, true⟩
    pA := { PlaneS.unpowered with st := .active, trk := [(0, lateAcc)] } } (R.BRG_WIN_STAGE_CTL .a 63) 31 true

/-- Which accesses of plane A a command leaves marked as received after a pending COMMIT. -/
def lateAfter (o : Host.Outcome State Fault Refusal) : List Bool :=
  match o with
  | .next t => t.pA.trk.map fun e => e.2.late
  | _ => []

/-- The stage control register of window 63 of plane A. -/
def windowCtl : BitVec 24 := BitVec.ofNat 24 (R.BRG_WIN_STAGE_CTL .a 63)

/-- DISCARD of a window's commit makes the access received after the COMMIT like any other (R413). -/
theorem lateAfter_discard : lateAfter (exec (.hostRegisterWrite .host false windowCtl 4 4) lateState) = [false] := by decide +kernel

/-- Refutes O14: DISCARD of a bridge window's block also marks the window's accesses as no longer waiting behind a pending COMMIT
(R413), which reloading the stage copy and ending the commit does not. -/
theorem not_stageControl : ¬ Obligations.StageControl := by
  intro h
  obtain ⟨hdiscard, -⟩ := h lateState .host windowCtl 4 (by decide +kernel) (by decide +kernel) (by decide +kernel) (by decide +kernel)
    (by decide +kernel) (by decide +kernel) (by decide +kernel)
  have hlate := congrArg lateAfter (hdiscard (by decide))
  rw [lateAfter_discard] at hlate
  exact absurd hlate (by decide +kernel)

end Sys2Proof.Machine
end


section
/-!
Raising an event leaves every plane in its state (R75), and with that what is there to be accessed (R18).
-/
namespace Sys2Proof.Machine

/-- Every plane is in the same state of R75. -/
structure State.SameSt (s t : State) : Prop where
  st_eq : ∀ q, (t.pl q).st = (s.pl q).st

namespace State.SameSt

theorem refl (s : State) : s.SameSt s := ⟨fun _ => rfl⟩

theorem trans {s t u : State} (h : s.SameSt t) (h' : t.SameSt u) : s.SameSt u :=
  ⟨fun q => (h'.st_eq q).trans (h.st_eq q)⟩

theorem of_pl {s t : State} (h : ∀ q, t.pl q = s.pl q) : s.SameSt t := ⟨fun q => congrArg PlaneS.st (h q)⟩

theorem modPl (s : State) (p : Plane) {f : PlaneS → PlaneS} (hf : ∀ x, (f x).st = x.st) : s.SameSt (s.modPl p f) := by
  refine ⟨fun q => ?_⟩
  by_cases h : q = p
  · subst h; rw [State.pl_modPl_same, hf]
  · rw [State.pl_modPl_ne _ h]

theorem count (s : State) (off : Nat) : s.SameSt (s.count off) := of_pl fun _ => State.pl_setRf ..

theorem foldl {α : Type} {f : State → α → State} (hf : ∀ (s : State) (x : α), s.SameSt (f s x)) (s : State) (xs : List α) :
    s.SameSt (xs.foldl f s) := by
  induction xs generalizing s with
  | nil => exact refl s
  | cons x xs ih => exact (hf s x).trans (ih (f s x))

theorem enqueue (s : State) (p : Plane) (port : Fin 4) (h : Sent) (fwd stomp : Bool) : s.SameSt (s.enqueue p port h fwd stomp).1 := by
  have hput := modPl s p (f := fun x => { x with txq := x.txq ++ [⟨port, h.cls, h, fwd, stomp⟩] }) fun _ => rfl
  unfold State.enqueue State.enqueueAs
  dsimp only
  split
  · split
    · exact count s _
    · exact hput
  · split
    · exact count s _
    · exact hput

theorem sendEast (s : State) (p : Plane) (ring : Nat) (h : Sent) (fwd stomp : Bool) : s.SameSt (s.sendEast p ring h fwd stomp).1 := by
  unfold State.sendEast
  dsimp only
  split
  · exact refl s
  split
  · split
    · exact enqueue ..
    · exact refl s
  split
  · split
    · exact count s _
    · dsimp only
      exact modPl s p fun _ => rfl
  split
  · exact enqueue ..
  · exact refl s

theorem originateOn (s : State) (p : Plane) (h : Sent) : s.SameSt (s.originateOn p h).1 := by
  unfold State.originateOn State.originateBy
  split
  · have h1 := sendEast s p 1 h false false
    dsimp only
    split
    · exact h1.trans (sendEast ..)
    · exact h1
  · exact sendEast ..

theorem takeSeq (s : State) (p : Plane) (c : Nat) : s.SameSt (s.takeSeq p c).2 := by
  unfold State.takeSeq
  dsimp only
  split <;> dsimp only
  · refine (modPl s .a ?_).trans (modPl _ .b ?_) <;> exact fun _ => rfl
  · exact modPl s p fun _ => rfl

theorem originate (s : State) (p : Plane) (h : Sent) : s.SameSt (s.originate p h).1 := by
  unfold State.originate
  dsimp only
  have key (g : Sent) (ys : List Plane) (a : State × List Plane) : a.1.SameSt
      (ys.foldl (fun (a : State × List Plane) y => ((a.1.originateOn y g).1, if (a.1.originateOn y g).2 then a.2 ++ [y] else a.2)) a).1 := by
    induction ys generalizing a with
    | nil => exact refl _
    | cons y ys ih => exact (originateOn a.1 y g).trans (ih (_, _))
  exact (takeSeq s p h.cls.toNat).trans (key _ _ (_, _))

theorem setHeld (s : State) (n : Nat) (x : Bool × Nat × BitVec 64) : s.SameSt (s.setHeld n x) := of_pl fun q => by cases q <;> rfl

theorem sendEvent (s : State) (n cnt : Nat) (first : BitVec 64) : s.SameSt (s.sendEvent n cnt first) := by
  unfold State.sendEvent
  exact (foldl (fun s p => originate s p _) s _).trans ((count _ _).trans (setHeld _ _ _))

theorem eventSentence (s : State) (n : Nat) : s.SameSt (s.eventSentence n) := by
  unfold State.eventSentence
  split
  · dsimp only
    split
    · exact sendEvent ..
    · exact setHeld ..
  · exact refl s

theorem request (s : State) (v : Nat) : s.SameSt (s.request v) := by
  unfold State.request
  split
  · exact refl s
  split
  · exact of_pl fun q => by cases q <;> rfl
  · exact of_pl fun _ => State.pl_emit ..

theorem requestAll (s : State) (vs : BitVec 64) : s.SameSt (s.requestAll vs) := by
  unfold State.requestAll
  split
  · exact refl s
  · exact foldl request s _

theorem settle (s : State) (old : BitVec 64) (all : Bool) : s.SameSt (s.settle old all) :=
  (of_pl fun q => by cases q <;> rfl : s.SameSt { s with pba := s.pba &&& s.activeVecs }).trans (requestAll ..)

/-- Raising an event leaves every plane in its state. -/
theorem raise (s : State) (n : Nat) : s.SameSt (s.raise n) :=
  (of_pl fun _ => State.pl_setRb ..).trans ((settle ..).trans (eventSentence ..))

theorem accErr (s : State) (bar off cause : Nat) (write : Bool) : s.SameSt (s.accErr bar off cause write) :=
  (of_pl fun _ => by rw [State.pl_setReg, State.pl_setReg]).trans (raise ..)

/-- The same registers are there to be accessed. -/
theorem there {s t : State} (h : s.SameSt t) (off : Nat) : t.there off = s.there off := by
  unfold State.there
  split
  · simp only [State.present, PlaneS.present, h.st_eq _]
  · rfl

end State.SameSt

/-! Absent planes and read-only apertures -/

/-- A read among the registers of an absent plane, whatever hardware sets in that cycle (R12, R18). -/
theorem State.readReg_absent {s : State} {r : Req} {off : Nat} {p : Plane} (hp : planeOf off = some p) (habs : s.present p = false) :
    s.readReg r off = (0xFFFFFFFF, s.accErr 0 off 2 false) := by
  have hlt := (planeOf_eq_some hp).2
  simp [State.readReg, State.there, hp, habs, Nat.not_le.2 hlt]

theorem State.rsSet_absent {s : State} {off : Nat} (h : s.there off = false) (hw : Word) : s.rsSet off hw = s := by
  unfold State.rsSet
  split <;> simp [h]

theorem State.writeReg_absent {s : State} {r : Req} {off : Nat} {p : Plane} (hp : planeOf off = some p) (habs : s.present p = false) (v : Word) :
    s.writeReg r off v = s.accErr 0 off 2 true := by
  have hlt := (planeOf_eq_some hp).2
  simp [State.writeReg, State.there, hp, habs, Nat.not_le.2 hlt]

/-- Settles O12, since the error of such an access leaves the plane absent. -/
theorem absentAndReadOnlyRanges : Obligations.AbsentAndReadOnlyRanges := by
  intro s r off v hr ha
  dsimp only
  simp only [← State.accErr_bar0]
  refine ⟨fun p hp habs => ⟨?_, ?_, ?_⟩, fun hle => ?_⟩
  · rw [exec_loRegisterRead hr ha, State.readReg_absent hp habs]
  · have hthere : (s.accErr 0 off.toNat 2 false).there off.toNat = false := by
      rw [(State.SameSt.accErr s 0 off.toNat 2 false).there, State.there, hp]
      exact habs
    rw [exec_rsRead hr ha, State.readReg_absent hp habs, State.rsSet_absent hthere]
  · have hle := (planeOf_eq_some hp).1
    rw [exec_hostRegisterWrite hr ha, State.writeAll_of_le (by omega), State.writeReg_absent hp habs]
  · rw [exec_hostRegisterWrite hr ha, State.writeAll_of_le (by omega), State.writeReg, if_pos hle]

end Sys2Proof.Machine
end


section
/-!
Writes by access types (R8): the bits and fields of a write by a row, and the registers that a write changes by their row alone.
-/
namespace Sys2Proof.Machine

/-! The bits of a write (R8, R12) -/

section Put

variable (s : State) (row : RegRow) (off : Nat) (v hw : Word)

theorem State.reg_put_same : (s.put row off v hw).reg off =
    (((s.reg off &&& ~~~(BitVec.ofNat 32 row.rw)) ||| (row.fit (s.reg off) v &&& BitVec.ofNat 32 row.rw)) &&&
      ~~~(v &&& BitVec.ofNat 32 row.w1c &&& ~~~hw)) ||| (hw &&& BitVec.ofNat 32 row.w1c) := by
  unfold State.put
  dsimp only
  split <;> exact State.reg_setReg_same ..

theorem State.reg_put_ne {o : Nat} (h : o ≠ off) : (s.put row off v hw).reg o = s.reg o := by
  unfold State.put
  dsimp only
  split <;> exact State.reg_setReg_ne _ h _

theorem State.pl_put (p : Plane) : (s.put row off v hw).pl p = s.pl p := by
  unfold State.put
  dsimp only
  split
  · exact State.pl_setReg ..
  · cases p <;> rfl

theorem State.out_put : (s.put row off v hw).out = s.out := by
  unfold State.put
  dsimp only
  split <;> rfl

/-- Each bit by the masks of the row. -/
theorem State.bit_put {i : Nat} (hi : i < 32) : bit ((s.put row off v hw).reg off) i =
    (((if row.rw.testBit i then bit (row.fit (s.reg off) v) i else bit (s.reg off) i) && !(bit v i && row.w1c.testBit i && !bit hw i)) ||
      (bit hw i && row.w1c.testBit i)) := by
  rw [State.reg_put_same]
  simp only [bit, BitVec.getLsbD_or, BitVec.getLsbD_and, BitVec.getLsbD_not, BitVec.getLsbD_ofNat, hi, decide_true, Bool.true_and]
  cases row.rw.testBit i <;> simp

end Put

/-! Fields of a write (R8) -/

theorem testBit_fld (w : Word) (hi lo i : Nat) : (fld w hi lo).testBit i = (decide (i < hi + 1 - lo) && bit w (lo + i)) := by
  simp [fld, nfld, Nat.testBit_mod_two_pow, Nat.testBit_div_two_pow, bit, BitVec.getLsbD, Nat.add_comm]

/-- A field by its bits. -/
theorem fld_congr {v w : Word} {hi lo : Nat} (h : ∀ i, lo ≤ i → i ≤ hi → bit v i = bit w i) : fld v hi lo = fld w hi lo := by
  refine Nat.eq_of_testBit_eq fun i => ?_
  rw [testBit_fld, testBit_fld]
  by_cases hi' : i < hi + 1 - lo
  · rw [h (lo + i) (by omega) (by omega)]
  · simp [hi']

/-- A field reads as before a write of another field. -/
theorem fld_setFld_apart (w : Word) {hi lo hi' lo' : Nat} (v : Nat) (h : lo ≤ hi) (hh : hi < 32) (hd : hi' < lo ∨ hi < lo') :
    fld (setFld w hi lo v) hi' lo' = fld w hi' lo' := by
  refine fld_congr fun i h1 h2 => ?_
  rw [bit_setFld w hi lo v i h hh, if_neg (by omega)]

theorem fld_lt (w : Word) (hi lo : Nat) : fld w hi lo < 2 ^ (hi + 1 - lo) := Nat.mod_lt _ (Nat.two_pow_pos _)

/-- A field of a written value kept within its range: what `RegRow.fit` does for each of its ranges. -/
def fitField (old v : Word) (r : Nat × Nat × Nat × Nat) : Word :=
  if fld v r.1 r.2.1 < r.2.2.1 ∨ r.2.2.2 < fld v r.1 r.2.1 then setFld v r.1 r.2.1 (fld old r.1 r.2.1) else v

theorem RegRow.fit_eq_foldl (row : RegRow) (old v : Word) : row.fit old v = row.ranges.foldl (fitField old) v := rfl

theorem fld_fitField_same (old v : Word) {hi lo min max : Nat} (h : lo ≤ hi) (hh : hi < 32) :
    fld (fitField old v (hi, lo, min, max)) hi lo =
      if min ≤ fld v hi lo ∧ fld v hi lo ≤ max then fld v hi lo else fld old hi lo := by
  unfold fitField
  dsimp only
  by_cases hr : min ≤ fld v hi lo ∧ fld v hi lo ≤ max
  · rw [if_neg (by omega), if_pos hr]
  · rw [if_pos (by omega), if_neg hr, fld_setFld_same _ _ _ _ h hh, Nat.mod_eq_of_lt (fld_lt ..)]

theorem fld_fitField_apart (old v : Word) {hi lo min max hi' lo' : Nat} (h : lo ≤ hi) (hh : hi < 32) (hd : hi' < lo ∨ hi < lo') :
    fld (fitField old v (hi, lo, min, max)) hi' lo' = fld v hi' lo' := by
  unfold fitField
  dsimp only
  split
  · exact fld_setFld_apart _ _ h hh hd
  · rfl

/-! Registers that a write changes by their row alone -/

/-- A plane's register that no write does more to. -/
theorem State.writePlane_eq_put {s : State} {r : Req} {row : RegRow} {p : Plane} {off i : Nat}
    (hsel : off ∉ [R.ING_RULE_SEL p, R.ING_STREAM_SEL p, R.BU_APPLY_SEL p, R.DSP_CANCEL p, R.DSP_JOB_SEL p, R.REL_DESC_SEL p, R.BRG_MAP_SEL p])
    (h4 : i < 4 → off ≠ R.EG_CTL p i ∧ off ≠ R.PORT_RING p i) (h64 : i < 64 → off ≠ R.BRG_WIN_ERR p i ∧ off ≠ R.BRG_WIN_LOCK p i)
    (h512 : i < 512 → off ≠ R.Q_CTL p i) (v : Word) : s.writePlane r row p off i v = s.put row off v 0 := by
  simp only [List.mem_cons, List.not_mem_nil, or_false, not_or] at hsel
  obtain ⟨h1, h2, h3, h5, h6, h7, h8⟩ := hsel
  rw [State.writePlane, if_neg fun h => (h4 h.2).1 h.1, if_neg h1, if_neg h2, if_neg fun h => h512 h.2 h.1, if_neg h3, if_neg h5, if_neg h6,
    if_neg h7, if_neg h8, if_neg fun h => (h64 h.2).1 h.1, dif_neg fun h => (h4 h.2).2 h.1, if_neg fun h => (h64 h.2).2 h.1]

/-- A register of the Lantern ring that no write does more to. -/
theorem State.writePin_eq_put {s : State} {row : RegRow} {off i : Nat} (h32 : i < 32 → off ∉ [R.SL_TXQ_DATA i, R.SL_RXQ_POP i, R.SL_FLOW i])
    (h8 : i < 8 → off ∉ [R.CAN_CTL i, R.CAN_RXB_POP i, R.CAN_TXW_CMD i, R.CI_CFG i]) (h16 : i < 16 → off ≠ R.PO_CFG i)
    (h2 : i < 2 → off ≠ R.LO_CFG i) (hgpio : off ≠ R.GPIO_SET ∧ off ≠ R.GPIO_CLR) (v : Word) :
    s.writePin row off i v = s.put row off v 0 := by
  simp only [List.mem_cons, List.not_mem_nil, or_false, not_or] at h32 h8
  rw [State.writePin]
  by_cases hl : off < 0x240000 ∧ i < 32
  · obtain ⟨ha, hb, hc⟩ := h32 hl.2
    rw [dif_pos hl]
    dsimp only
    rw [if_neg ha, if_neg hb, if_neg hc]
  · rw [dif_neg hl, if_neg fun h => (h8 h.2).1 h.1, if_neg fun h => (h8 h.2).2.1 h.1, if_neg fun h => (h8 h.2).2.2.1 h.1,
      if_neg fun h => h16 h.2 h.1, if_neg fun h => h2 h.2 h.1, if_neg fun h => (h8 h.2).2.2.2 h.1, if_neg hgpio.1, if_neg hgpio.2]

/-- A register before whose row no global, AON or host queue register stands. -/
theorem State.writeAll_eq_writeReg {s : State} {r : Req} {off : Nat} (hbase : isHqBase off = false)
    (haon : off ∉ [R.AON_PSUP_CTL, R.AON_BYP_CTL, R.AON_PWR_CTL, R.AON_FR_CTL, R.AON_FR_MARK]) (h4 : ∀ i, i < 4 → off ≠ R.HQ_CTL i)
    (h8 : ∀ i, i < 8 → off ≠ R.EV_STATUS i ∧ off ≠ R.EV_MASK i) (h256 : ∀ i, i < 256 → off ≠ R.EV_ROUTE i) (v : Word) :
    s.writeAll r off v = s.writeReg r off v := by
  simp only [List.mem_cons, List.not_mem_nil, or_false, not_or] at haon
  obtain ⟨h1, h2, h3, h5, h6⟩ := haon
  by_cases hle : 0x200000 ≤ off
  · exact State.writeAll_of_le hle v
  unfold State.writeAll
  split
  · rfl
  · rw [if_neg hle, if_neg fun h => h4 _ h.2 h.1, if_neg (by simp [hbase]), if_neg fun h => h.1.elim (h8 _ h.2).1 (h8 _ h.2).2, if_neg fun h => h256 _ h.2 h.1,
      if_neg h1, if_neg h2, if_neg h3, if_neg h5, if_neg h6]

/-! Reads -/

/-- A plane's configuration read back. -/
theorem State.readReg_plane_config (s : State) (r : Req) {p : Plane} {off : Nat} (hp : s.present p = true)
    (h : off ∈ [R.TB_CTL p, R.REL_CTL p, R.BRG_CTL p, R.ING_CTL p, R.BU_CTL p, R.PORT_RING p 0]) : s.readReg r off = (s.reg off, s) := by
  have hread : s.readReg r off = if !s.present p then (0xFFFFFFFF, s.accErr 0 off 2 false) else (s.reg off, s) := by
    simp only [List.mem_cons, List.not_mem_nil, or_false] at h
    obtain rfl | rfl | rfl | rfl | rfl | rfl := h <;> cases p <;> rfl
  rw [hread, hp]
  rfl

/-- Configuration of the global range, of AON and of the Lantern ring read back. -/
theorem State.readReg_config (s : State) (r : Req) {off : Nat} (h : off ∈ [R.GID_SENT_CTL, R.AON_JOIN_CFG, R.LT_CTL, R.LDH_CTL]) :
    s.readReg r off = (s.reg off, s) := by
  simp only [List.mem_cons, List.not_mem_nil, or_false] at h
  obtain rfl | rfl | rfl | rfl := h <;> rfl

end Sys2Proof.Machine
end


section
/-!
Writes of registers that only hold configuration, and of TB_CTL (R8, R9, R12, R117).
-/
namespace Sys2Proof.Machine

/-! TB_CTL -/

/-- The row of TB_CTL: its RW bits and the ranges of its fields (R117). -/
theorem rowOf_tbCtl (p : Plane) : ∃ row, rowOf (R.TB_CTL p) = some row ∧ row.pair = .single ∧ row.rw = 0x3FFFFFF ∧ row.w1c = 0 ∧
    row.ranges = [(23, 14, 1, 1000), (13, 7, 1, 127), (6, 0, 1, 100)] := by
  cases p <;> exact ⟨_, rfl, rfl, rfl, rfl, rfl⟩

theorem testBit_tbCtl {i : Nat} (hi : i < 32) : Nat.testBit 0x3FFFFFF i = decide (i < 26) := by
  have hall : ∀ i, i < 32 → Nat.testBit 0x3FFFFFF i = decide (i < 26) := by decide
  exact hall i hi

/-- A write of TB_CTL is a write by its row. -/
theorem State.writeAll_tbCtl {s : State} {r : Req} {p : Plane} {row : RegRow} (hp : s.present p = true)
    (hrow : rowOf (R.TB_CTL p) = some row) (hsingle : row.pair = .single) (v : Word) :
    s.writeAll r (R.TB_CTL p) v = s.put row (R.TB_CTL p) v 0 := by
  have hpl : planeOf (R.TB_CTL p) = some p := planeOf_plane p (by omega) (by omega)
  have hthere : s.there (R.TB_CTL p) = true := by rw [State.there, hpl]; exact hp
  have hsc : isStageCtl (R.TB_CTL p) = false := by cases p <;> rfl
  have hlog : logOf (R.TB_CTL p) = none := by cases p <;> rfl
  have hrange := planeOf_eq_some hpl
  rw [State.writeAll_of_le (by omega), State.writeReg_of_single hrange.2 hthere hrow hsc hlog hsingle, hpl]
  refine State.writePlane_eq_put ?_ (fun _ => ⟨?_, ?_⟩) (fun _ => ⟨?_, ?_⟩) (fun _ => ?_) v
  · cases p <;> decide
  all_goals
    simp only [R.TB_CTL, R.EG_CTL, R.PORT_RING, R.BRG_WIN_ERR, R.BRG_WIN_LOCK, R.Q_CTL]
    omega

/-- What each field of TB_CTL holds after a write by its row. -/
theorem State.rf_put_tbCtl {s : State} {row : RegRow} {off : Nat} (hrw : row.rw = 0x3FFFFFF) (hw1c : row.w1c = 0) (v : Word) {hi lo : Nat}
    (hhi : hi < 32) : (hi < 26 → (s.put row off v 0).rf off hi lo = fld (row.fit (s.reg off) v) hi lo) ∧
      (26 ≤ lo → (s.put row off v 0).rf off hi lo = s.rf off hi lo) := by
  have hbit (i : Nat) (hi : i < 32) : bit ((s.put row off v 0).reg off) i =
      if i < 26 then bit (row.fit (s.reg off) v) i else bit (s.reg off) i := by
    rw [State.bit_put _ _ _ _ _ hi, hrw, hw1c, testBit_tbCtl hi]
    simp
  refine ⟨fun h => fld_congr fun i _ h2 => ?_, fun h => fld_congr fun i h1 h2 => ?_⟩
  · rw [hbit i (by omega), if_pos (by omega)]
  · rw [hbit i (by omega), if_neg (by omega)]

/-- What the ranges of TB_CTL leave of a written value. -/
theorem fld_fit_tbCtl {row : RegRow} (hr : row.ranges = [(23, 14, 1, 1000), (13, 7, 1, 127), (6, 0, 1, 100)]) (old v : Word) :
    fld (row.fit old v) 23 14 = (if 1 ≤ fld v 23 14 ∧ fld v 23 14 ≤ 1000 then fld v 23 14 else fld old 23 14) ∧
    fld (row.fit old v) 13 7 = (if 1 ≤ fld v 13 7 ∧ fld v 13 7 ≤ 127 then fld v 13 7 else fld old 13 7) ∧
    fld (row.fit old v) 6 0 = (if 1 ≤ fld v 6 0 ∧ fld v 6 0 ≤ 100 then fld v 6 0 else fld old 6 0) ∧
    fld (row.fit old v) 25 24 = fld v 25 24 := by
  simp only [RegRow.fit_eq_foldl, hr, List.foldl_cons, List.foldl_nil]
  refine ⟨?_, ?_, ?_, ?_⟩
  · rw [fld_fitField_apart _ _ (by decide) (by decide) (by decide), fld_fitField_apart _ _ (by decide) (by decide) (by decide),
      fld_fitField_same _ _ (by decide) (by decide)]
  · rw [fld_fitField_apart _ _ (by decide) (by decide) (by decide), fld_fitField_same _ _ (by decide) (by decide),
      fld_fitField_apart _ _ (by decide) (by decide) (by decide)]
  · rw [fld_fitField_same _ _ (by decide) (by decide), fld_fitField_apart _ _ (by decide) (by decide) (by decide),
      fld_fitField_apart _ _ (by decide) (by decide) (by decide)]
  · rw [fld_fitField_apart _ _ (by decide) (by decide) (by decide), fld_fitField_apart _ _ (by decide) (by decide) (by decide),
      fld_fitField_apart _ _ (by decide) (by decide) (by decide)]

/-- Settles O10: no operation of its own stands before the row of such a register, and a write by the row is judged bit by bit. -/
theorem registerMasks : Obligations.RegisterMasks := by
  refine ⟨?_, ?_, ?_, ?_⟩
  · intro s r off v row hr ha hlt hthere hrow hsingle hsc hlog hbase haon hlo hhq h8 h16 h32 h256 hsel h4 h64 h512
    simp only [List.mem_cons, List.not_mem_nil, or_false, not_or] at haon h8 h32 hsel
    obtain ⟨hpsup, hbyp, hpwr, hfr, hmark, hset, hclr⟩ := haon
    have hall : s.writeAll r off.toNat v = s.writeReg r off.toNat v :=
      State.writeAll_eq_writeReg hbase (by simp [hpsup, hbyp, hpwr, hfr, hmark]) hhq (fun i hi => ⟨(h8 i hi).1, (h8 i hi).2.1⟩) h256 v
    rw [exec_hostRegisterWrite hr ha, hall, State.writeReg_of_single hlt hthere hrow hsc hlog hsingle]
    split
    · rw [State.writePlane_eq_put (by simp [hsel _]) (fun hi => h4 _ _ hi) (fun hi => h64 _ _ hi) (fun hi => h512 _ _ hi)]
    · rw [State.writePin_eq_put (fun hi => by simp [h32 _ hi]) (fun hi => by simp [h8 _ hi]) (h16 _) (hlo _) ⟨hset, hclr⟩]
  · intro s r off hr hoff
    have hread : off.toNat % 4 = 0 ∧ s.readReg r off.toNat = (s.reg off.toNat, s) := by
      obtain h | h | h | h | ⟨p, hp, h⟩ := hoff
      · rw [h]; exact ⟨by decide, s.readReg_config r (by simp)⟩
      · rw [h]; exact ⟨by decide, s.readReg_config r (by simp)⟩
      · rw [h]; exact ⟨by decide, s.readReg_config r (by simp)⟩
      · rw [h]; exact ⟨by decide, s.readReg_config r (by simp)⟩
      · refine ⟨?_, s.readReg_plane_config r hp h⟩
        have hall : ∀ o ∈ [R.TB_CTL p, R.REL_CTL p, R.BRG_CTL p, R.ING_CTL p, R.BU_CTL p, R.PORT_RING p 0], o % 4 = 0 := by
          cases p <;> decide
        exact hall _ h
    rw [exec_loRegisterRead hr hread.1, hread.2]
  · intro s r p off v hr hp hoff
    obtain ⟨row, hrow, hsingle, hrw, hw1c, hranges⟩ := rowOf_tbCtl p
    have ha : off.toNat % 4 = 0 := by rw [hoff]; cases p <;> rfl
    obtain ⟨hf1, hf2, hf3, hf4⟩ := fld_fit_tbCtl hranges (s.reg (R.TB_CTL p)) v
    have hput {hi lo : Nat} (hhi : hi < 32) := State.rf_put_tbCtl (s := s) (off := R.TB_CTL p) hrw hw1c v (lo := lo) hhi
    refine ⟨s.put row (R.TB_CTL p) v 0, ?_, ?_, ?_, ?_, ?_, ?_, fun o ho => State.reg_put_ne _ _ _ _ _ ho, State.pl_put _ _ _ _ _, State.out_put ..⟩
    · rw [exec_hostRegisterWrite hr ha, hoff, State.writeAll_tbCtl hp hrow hsingle]
    · exact ((hput (by decide)).1 (by decide)).trans hf1
    · exact ((hput (by decide)).1 (by decide)).trans hf2
    · exact ((hput (by decide)).1 (by decide)).trans hf3
    · exact ((hput (by decide)).1 (by decide)).trans hf4
    · exact (hput (by decide)).2 (by decide)
  · intro s row off i v hw hi
    have hbit := State.bit_put s row off v hw hi
    unfold bit at hbit
    refine ⟨fun hw1c hrw => ?_, fun hw1c hrw => ?_, fun hw1c hrw => ?_, fun o ho => State.reg_put_ne _ _ _ _ _ ho⟩
    · simpa [hrw, hw1c] using hbit
    · rw [hbit, hrw, hw1c]
      cases hw.getLsbD i <;> cases v.getLsbD i <;> simp
    · simpa [hrw, hw1c] using hbit

end Sys2Proof.Machine
end


section
/-! Reads of RS registers, writes of W1C registers, and the timebase snapshot (R8, R12, R96). -/
namespace Sys2Proof.Machine

/-! RS registers -/

/-- A read of a register with RS bits, outside those whose reading does more: its value goes out and its RS bits clear (R8). -/
theorem State.readReg_rs {s : State} {r : Req} {off : Nat} {row : RegRow} (hlt : off < 0xC00000) (hthere : s.there off = true)
    (hrow : rowOf off = some row) (hsingle : row.pair = .single) (hrs : row.rs ≠ 0) (hci : ∀ i, i < 8 → off ≠ R.CI_COUNT i)
    (htemp : off ≠ R.GID_TEMP_MAX) (hpl : ∀ p i, off ∉ [R.TB_RAW_LO p, R.BRG_WIN_LOCK p i, R.BRG_WIN_FENCE p i, R.STORE_LOW_MARK p,
      R.Q_PEAK p i, R.ING_RULE_HITS p, R.ING_STREAM_ACC p, R.ING_STREAM_DROP p]) (hsnap : isTbSnap off = false) :
    s.readReg r off = (s.shown off, s.setReg off (s.reg off &&& ~~~(BitVec.ofNat 32 row.rs))) := by
  simp only [List.mem_cons, List.not_mem_nil, or_false, not_or] at hpl
  have hclear : s.rsClear off row.rs = s.setReg off (s.reg off &&& ~~~(BitVec.ofNat 32 row.rs)) := by
    unfold State.rsClear
    dsimp only
    rw [if_neg htemp]
    split
    · rfl
    · next p _ =>
      obtain ⟨-, -, -, h4, h5, h6, h7, h8⟩ := hpl p ((off - R.Q_STAGE_CTL p 0) / 64)
      rw [if_neg h4, if_neg fun h => h5 h.1, if_neg h6, if_neg h7, if_neg h8]
  have hlo : row.pair ≠ .lo := by simp [hsingle]
  have hhi : row.pair ≠ .hi := by simp [hsingle]
  rw [← hclear]
  simp only [State.readReg, if_neg (Nat.not_le.2 hlt), hthere, Bool.not_true, Bool.false_eq_true, if_false, hrow]
  split
  · next p _ =>
    obtain ⟨h1, h2, h3, -⟩ := hpl p (row.ix1 off)
    rw [if_neg h1, hsnap, if_neg Bool.false_ne_true, if_neg fun h => h2 h.1, if_neg fun h => h3 h.1, if_neg hlo, if_neg hhi, if_pos hrs]
  · rw [if_neg fun h => hci _ h.2 h.1, if_neg hlo, if_neg hhi, if_pos hrs]

/-- Hardware that sets RS bits in the cycle of a read (R12). -/
theorem State.rsSet_cases (s : State) (off : Nat) (hw : Word) : s.rsSet off hw = s ∨ ∃ w, s.rsSet off hw = s.setReg off w := by
  unfold State.rsSet
  split
  · split
    · exact .inl rfl
    · exact .inr ⟨_, rfl⟩
  · exact .inl rfl

theorem State.reg_rsSet {s : State} {off : Nat} {row : RegRow} (hthere : s.there off = true) (hrow : rowOf off = some row) (hw : Word) :
    (s.rsSet off hw).reg off = s.reg off ||| (hw &&& BitVec.ofNat 32 row.rs) := by
  by_cases h : hw = 0
  · subst h
    rw [State.rsSet_zero]
    simp
  · rw [State.rsSet, hrow]
    dsimp only
    rw [if_neg (by simp only [h, hthere, Bool.true_eq_false, or_self, not_false_eq_true]), State.reg_setReg_same]

/-! W1C registers -/

/-- A W1C bit's register under a row of W1C bits alone. -/
theorem State.reg_put_w1c (s : State) {row : RegRow} {off : Nat} (hrw : row.rw = 0) (v : Word) :
    (s.put row off v 0).reg off = s.reg off &&& ~~~(v &&& BitVec.ofNat 32 row.w1c) := by
  refine eq_of_bits fun i hi => ?_
  rw [State.bit_put _ _ _ _ _ hi, hrw]
  simp only [bit, BitVec.getLsbD_and, BitVec.getLsbD_not, BitVec.getLsbD_ofNat, hi, decide_true, Bool.true_and]
  simp

/-- Hardware that sets W1C bits of a register outside EV_STATUS (R12). -/
theorem State.hwSet_eq {s : State} {row : RegRow} {off : Nat} (h : ∀ i, i < 8 → off ≠ R.EV_STATUS i) (hw : Word) :
    s.hwSet row off hw = s.setReg off (s.reg off ||| (hw &&& BitVec.ofNat 32 row.w1c)) := by
  unfold State.hwSet
  dsimp only
  rw [if_neg fun hc => h _ hc.2.2 hc.2.1]

/-- Bits that hardware sets in the cycle stay, those written 1 clear otherwise (R12). -/
theorem w1c_value (w v hw c : Word) : ((w ||| (hw &&& c)) &&& ~~~((v &&& ~~~(hw &&& c)) &&& c)) = (w &&& ~~~(v &&& c)) ||| (hw &&& c) := by
  refine eq_of_bits fun i hi => ?_
  simp only [bit, BitVec.getLsbD_or, BitVec.getLsbD_and, BitVec.getLsbD_not, hi, decide_true, Bool.true_and]
  cases w.getLsbD i <;> cases v.getLsbD i <;> cases hw.getLsbD i <;> cases c.getLsbD i <;> rfl

/-- The event register of a line or a controller, and the bits it has: W1C bits alone (R323, R345). -/
def EventReg (off m n : Nat) : Prop := (n < 32 ∧ off = R.SL_EVENT n ∧ m = 0xFF) ∨ (n < 8 ∧ off = R.CAN_EVENT n ∧ m = 0x1FF)

namespace EventReg

variable {off m n : Nat} (h : EventReg off m n)
include h

theorem range : 0x200000 ≤ off ∧ off < 0x280000 ∧ off % 4 = 0 := by
  obtain ⟨hn, rfl, -⟩ | ⟨hn, rfl, -⟩ := h
  · unfold R.SL_EVENT; omega
  · unfold R.CAN_EVENT; omega

theorem row : ∃ row, rowOf off = some row ∧ row.pair = .single ∧ row.rw = 0 ∧ row.w1c = m ∧ row.wo = 0 := by
  obtain ⟨hn, rfl, rfl⟩ | ⟨hn, rfl, rfl⟩ := h
  · have hnorm : normOff (R.SL_EVENT n) = 0x200038 + n * 0x1000 := normOff_pin (by unfold R.SL_EVENT; omega)
    refine ⟨rows_sl[14], ?_, rfl, rfl, rfl, rfl⟩
    rw [rowOf, rowsAt_sl (by omega) (by omega), hnorm]
    exact findRow_indexed (l := rows_sl) (row := rows_sl[14]) (k := 14) rfl (by decide) rfl hn
  · have hnorm : normOff (R.CAN_EVENT n) = 0x240024 + n * 0x2000 := normOff_pin (by unfold R.CAN_EVENT; omega)
    refine ⟨rows_can[9], ?_, rfl, rfl, rfl, rfl⟩
    rw [rowOf, rowsAt_can (by omega) (by omega), hnorm]
    exact findRow_indexed (l := rows_can) (row := rows_can[9]) (k := 9) rfl (by decide) rfl hn

/-- No register of the serial lines whose write does more is an event register. -/
theorem not_mem_sl {i : Nat} : off ∉ [R.SL_TXQ_DATA i, R.SL_RXQ_POP i, R.SL_FLOW i] := by
  simp only [List.mem_cons, List.not_mem_nil, or_false, R.SL_TXQ_DATA, R.SL_RXQ_POP, R.SL_FLOW]
  obtain ⟨hn, rfl, -⟩ | ⟨hn, rfl, -⟩ := h
  · unfold R.SL_EVENT; omega
  · unfold R.CAN_EVENT; omega

/-- No register of the CAN controllers or the capture inputs whose write does more is an event register. -/
theorem not_mem_can {i : Nat} (hi : i < 8) : off ∉ [R.CAN_CTL i, R.CAN_RXB_POP i, R.CAN_TXW_CMD i, R.CI_CFG i] := by
  simp only [List.mem_cons, List.not_mem_nil, or_false, R.CAN_CTL, R.CAN_RXB_POP, R.CAN_TXW_CMD, R.CI_CFG]
  obtain ⟨hn, rfl, -⟩ | ⟨hn, rfl, -⟩ := h
  · unfold R.SL_EVENT; omega
  · unfold R.CAN_EVENT; omega

end EventReg

/-- A W1C write of an event register: what hardware sets comes first, and no bit of it clears (R12). -/
theorem State.w1cWrite_event {off m n : Nat} (h : EventReg off m n) (s : State) (r : Req) (v hw : Word) :
    ∃ row : RegRow, row.rw = 0 ∧ row.w1c = m ∧ s.w1cWrite r off v hw =
      (s.setReg off (s.reg off ||| (hw &&& BitVec.ofNat 32 m))).put row off (v &&& ~~~(hw &&& BitVec.ofNat 32 m)) 0 := by
  obtain ⟨h1, h2, -⟩ := h.range
  obtain ⟨row, hrow, hsingle, hrw, hw1c, hwo⟩ := h.row
  have hpl : planeOf off = none := planeOf_pin (by omega)
  have hthere (t : State) : t.there off = true := by rw [State.there, hpl]
  have hsc : isStageCtl off = false := by simp [isStageCtl, hrow, hwo]
  have hlog : logOf off = none := by
    rw [logOf, if_neg (by unfold R.EV_COLLECT_TAIL; omega), hpl]
  have hev (i : Nat) (_ : i < 8) : off ≠ R.EV_STATUS i := by unfold R.EV_STATUS; omega
  refine ⟨row, hrw, hw1c, ?_⟩
  rw [State.w1cWrite, hrow]
  dsimp only
  rw [if_pos (hthere s), State.hwSet_eq hev, State.writeAll_of_le h1, State.writeReg_of_single (by omega) (hthere _) hrow hsc hlog hsingle, hpl, hw1c]
  refine State.writePin_eq_put (fun _ => h.not_mem_sl) h.not_mem_can (fun hi => ?_) (fun hi => ?_) ⟨?_, ?_⟩ _
  · unfold R.PO_CFG; omega
  · unfold R.LO_CFG; omega
  · unfold R.GPIO_SET; omega
  · unfold R.GPIO_CLR; omega

/-! The timebase snapshot -/

theorem reqNum_lt (r : Req) : reqNum r < 4 := by cases r <;> decide

theorem reqNum_inj {q r : Req} (h : reqNum q = reqNum r) : q = r := by
  cases q <;> cases r <;> simp_all [reqNum]

/-- Each requester has a latch of its own for each register. -/
theorem latchKey_inj {q r : Req} {o off : Nat} : latchKey q o = latchKey r off ↔ q = r ∧ o = off := by
  constructor
  · intro h
    unfold latchKey at h
    have hq := reqNum_lt q
    have hr := reqNum_lt r
    exact ⟨reqNum_inj (by omega), by omega⟩
  · rintro ⟨rfl, rfl⟩; rfl

/-- What a requester's latch holds after a latch is taken (R10). -/
theorem State.latched_latch (s : State) (r q : Req) (off o : Nat) (v : Word) :
    (s.latch r off v).latched q o = if q = r ∧ o = off then v else s.latched q o := by
  by_cases h : q = r ∧ o = off
  · obtain ⟨rfl, rfl⟩ := h
    rw [if_pos ⟨rfl, rfl⟩]
    exact Tab.get_set_same ..
  · rw [if_neg h]
    exact Tab.get_set_ne _ _ (fun hk => h (latchKey_inj.1 hk)) _ _

/-- What no latch changes, a read of TB_RAW_LO leaves (R96). -/
theorem State.tbRawRead_keeps {β : Type} (g : State → β) (s : State) (r : Req) (p : Plane) (hg : ∀ (s : State) off v, g (s.latch r off v) = g s) :
    g (s.tbRawRead r p).2 = g s := by
  unfold State.tbRawRead
  dsimp only
  have h := State.each_keeps g (f := fun s (e : Nat × Nat) => s.latch r e.1 (BitVec.ofNat 32 e.2)) (fun s e => hg s e.1 (BitVec.ofNat 32 e.2))
  exact h s (s.tbSnap p)

/-- Latches of several registers, each taken once. -/
theorem State.latched_each (r : Req) {xs : List (Nat × Nat)} {o v : Nat} (hnd : (xs.map Prod.fst).Nodup) (h : (o, v) ∈ xs) (s : State) :
    (s.each xs fun s e => s.latch r e.1 (BitVec.ofNat 32 e.2)).latched r o = BitVec.ofNat 32 v := by
  induction xs generalizing s with
  | nil => cases h
  | cons x xs ih =>
    rw [List.map_cons, List.nodup_cons] at hnd
    obtain rfl | h := List.mem_cons.1 h
    · have hkeep : ∀ (ys : List (Nat × Nat)) (t : State), o ∉ ys.map Prod.fst →
          (t.each ys fun s e => s.latch r e.1 (BitVec.ofNat 32 e.2)).latched r o = t.latched r o := by
        intro ys
        induction ys with
        | nil => exact fun _ _ => rfl
        | cons y ys ihy =>
          intro t hy
          rw [List.map_cons, List.mem_cons, not_or] at hy
          exact (ihy _ hy.2).trans ((t.latched_latch ..).trans (if_neg fun h => hy.1 h.2))
      exact (hkeep xs _ hnd.1).trans ((s.latched_latch ..).trans (if_pos ⟨rfl, rfl⟩))
    · exact ih hnd.2 h _

/-- The snapshot's values that a read of TB_RAW_LO latches (R96). -/
theorem State.tbRawRead_latched {s : State} {r : Req} {p : Plane} {o v : Nat} (h : (o, v) ∈ s.tbSnap p) :
    (s.tbRawRead r p).2.latched r o = BitVec.ofNat 32 v := by
  have hoffs : (s.tbSnap p).map Prod.fst = [R.TB_RAW_HI p, R.TB_SNAP_TD0_NS_LO p, R.TB_SNAP_TD0_NS_HI p, R.TB_SNAP_TD1_NS_LO p,
    R.TB_SNAP_TD1_NS_HI p, R.TB_DIAL_NS_LO p, R.TB_DIAL_NS_HI p, R.TB_SNAP_FRAC p, R.TB_BRIDGE_LO p, R.TB_BRIDGE_HI p] := rfl
  have hnd : ((s.tbSnap p).map Prod.fst).Nodup := by
    rw [hoffs]
    cases p <;> decide
  exact State.latched_each r hnd h s

/-- A present plane's TB_RAW_LO is read so. -/
theorem State.readReg_tbRawLo {s : State} {r : Req} {p : Plane} (hp : s.present p = true) : s.readReg r (R.TB_RAW_LO p) = s.tbRawRead r p := by
  have hread : s.readReg r (R.TB_RAW_LO p) = if !s.present p then (0xFFFFFFFF, s.accErr 0 (R.TB_RAW_LO p) 2 false) else s.tbRawRead r p := by
    cases p <;> rfl
  rw [hread, hp]
  rfl

/-- What a W1C write of an event register leaves (R12). -/
theorem exec_w1cWrite_event {s : State} {r : Req} {off : BitVec 24} {m n : Nat} (hr : s.reqOn r = true) (h : EventReg off.toNat m n)
    (v hw : Word) : ∃ u : State, exec (.w1cWrite r off v hw) s = .next (s.after u.drain) ∧
      u.reg off.toNat = (s.reg off.toNat &&& ~~~(v &&& BitVec.ofNat 32 m)) ||| (hw &&& BitVec.ofNat 32 m) ∧
      (∀ o, o ≠ off.toNat → u.reg o = s.reg o) ∧ (∀ p, u.pl p = s.pl p) ∧ u.out = s.out := by
  obtain ⟨-, -, ha⟩ := h.range
  obtain ⟨row, hrw, rfl, hput⟩ := State.w1cWrite_event h s r v hw
  refine ⟨_, exec_w1cWrite hr ha v hw, ?_⟩
  rw [hput]
  refine ⟨?_, fun o ho => ?_, fun p => ?_, State.out_put ..⟩
  · rw [State.reg_put_w1c _ hrw, State.reg_setReg_same, w1c_value]
  · rw [State.reg_put_ne _ _ _ _ _ ho, State.reg_setReg_ne _ ho]
  · rw [State.pl_put, State.pl_setReg]

/-! The commands of BAR0 accesses of any size -/

section AnySize

variable (r : Req) (off : BitVec 24) (size : Nat) (v : Word) (s : State)

theorem exec_hostRegisterWrite_eq :
    exec (.hostRegisterWrite r false off size v) s = .next (s.after (s.regWrite r off.toNat size v).drain) := rfl

theorem exec_loRegisterRead_eq : exec (.loRegisterRead r false off size) s = .next (s.after (s.regRead r off.toNat size 0)) := rfl

theorem exec_rsRead_eq : exec (.rsRead r off size v) s = .next (s.after (s.regRead r off.toNat size v)) := rfl

theorem exec_hostAtomicop_eq (bar4 : Bool) : exec (.hostAtomicopBar0Bar4 bar4 off) s =
    .next (s.after (if s.hostOn then s.emit (.unsupported (if bar4 then 4 else 0) off.toNat) else s)) := rfl

theorem exec_tbRawRead_eq (p : Plane) : exec (.tbRawRead r p) s = .next (s.after (s.regRead r (R.TB_RAW_LO p) 4 0)) := rfl

end AnySize

/-- Settles O11, from what each kind of access comes to: refused, a read of an RS register, a W1C write, a read of TB_RAW_LO. -/
theorem registerAccesses : Obligations.RegisterAccesses := by
  refine ⟨fun s off size v bar4 hon => ⟨fun hbad => ?_, ?_⟩, ?_, ?_, ?_⟩
  · dsimp only
    rw [exec_hostRegisterWrite_eq, exec_loRegisterRead_eq, exec_rsRead_eq, State.regWrite, State.regRead, State.regRead,
      State.access_refused hon hbad, State.access_refused hon hbad, State.access_refused hon hbad]
    exact ⟨rfl, rfl, rfl⟩
  · rw [exec_hostAtomicop_eq, if_pos hon]
  · intro s r off hw row hr ha hlt hthere hrow hsingle hrs hci htemp hpl hsnap
    have hread := State.readReg_rs (r := r) hlt hthere hrow hsingle hrs hci htemp (fun p i => by simp [hpl p i]) hsnap
    have hthere' (w : Word) : (s.setReg off.toNat w).there off.toNat = true :=
      ((State.SameSt.of_pl fun _ => State.pl_setReg ..).there _).trans hthere
    refine ⟨(s.setReg off.toNat (s.reg off.toNat &&& ~~~(BitVec.ofNat 32 row.rs))).rsSet off.toNat hw, ?_, ?_, ?_⟩
    · rw [exec_rsRead hr ha, hread]
    · rw [State.reg_rsSet (hthere' _) hrow, State.reg_setReg_same]
    · obtain h | ⟨w, h⟩ := State.rsSet_cases (s.setReg off.toNat (s.reg off.toNat &&& ~~~(BitVec.ofNat 32 row.rs))) off.toNat hw <;> rw [h]
      · exact ⟨fun o ho => s.reg_setReg_ne ho _, fun p => s.pl_setReg .., rfl⟩
      · exact ⟨fun o ho => (State.reg_setReg_ne _ ho _).trans (s.reg_setReg_ne ho _), fun p => by rw [State.pl_setReg, State.pl_setReg], rfl⟩
  · exact fun s r off v hw m n hr h => exec_w1cWrite_event hr h v hw
  · intro s r p hr hp
    have ha : R.TB_RAW_LO p % 4 = 0 := by cases p <;> rfl
    have hread : s.regRead r (R.TB_RAW_LO p) 4 0 =
        (s.tbRawRead r p).2.emit (.read r (R.TB_RAW_LO p) ((s.pl p).raw.truncate 32)) := by
      rw [State.regRead_aligned hr ha, State.rsSet_zero, State.readReg_tbRawLo hp]
      rfl
    refine ⟨(s.tbRawRead r p).2, by rw [exec_tbRawRead_eq, hread], State.tbRawRead_latched ?_, State.tbRawRead_latched ?_,
      State.tbRawRead_latched ?_, State.tbRawRead_latched ?_, fun q o hq => ?_, fun o => ?_, fun q => ?_, ?_⟩
    iterate 4 simp [State.tbSnap]
    · exact State.tbRawRead_keeps (fun s => s.latched q o) s r p fun s off v => (s.latched_latch ..).trans (if_neg fun h => hq h.1)
    · exact State.tbRawRead_keeps (fun s => s.reg o) s r p fun _ _ _ => rfl
    · exact State.tbRawRead_keeps (fun s => s.pl q) s r p fun _ _ _ => by cases q <;> rfl
    · exact State.tbRawRead_keeps State.out s r p fun _ _ _ => rfl

end Sys2Proof.Machine
end


section
/-! The state before power (R9, R75). -/
namespace Sys2Proof.Machine

/-- The reset values that depend on a register's index (R103, R454). -/
theorem resetOf_indexed : (∀ n, n < 256 → resetOf (R.EV_ROUTE n) = BitVec.ofNat 32 (0x80000000 + n % 64 * 0x10000)) ∧
    ∀ p, resetOf (R.TD_CFG p 0) = 0x07F00A58 ∧ resetOf (R.TD_CFG p 1) = 0x07E00A58 :=
  ⟨by decide +kernel, fun p => by cases p <;> decide +kernel⟩

/-- Settles O4: nothing has been written, so every register reads as its reset value. -/
theorem resetState : Obligations.ResetState :=
  have hreg : ∀ off, State.reset.reg off = resetOf off := fun _ => rfl
  ⟨rfl, rfl, Tests.wit_EveryStepSettles.1, by decide +kernel, fun p => by cases p <;> rfl, hreg, by decide +kernel, by decide +kernel,
    by decide +kernel, resetOf_indexed.1, resetOf_indexed.2⟩

end Sys2Proof.Machine
end


section
/-!
The octets of a sentence: what its header reads as (R23), the check value over it (R24), and the checks of a header that its origin wrote
(R25).
-/
namespace Sys2Proof

/-- A number in network order with which the rest of the octets begins is what is read there. -/
theorem octs_of_drop {bs c : List Byte} {i n x : Nat} (h : bs.drop i = toBE n x ++ c) (hx : x < 256 ^ n) : octs bs i n = x := by
  simp [octs, slice, h, beNat_toBE, Nat.mod_eq_of_lt hx]

/-- A field that begins at bit 0 is a remainder. -/
theorem nfld_zero (n hi : Nat) : nfld n hi 0 = n % 2 ^ (hi + 1) := by simp [nfld]

namespace Machine
namespace Sent

variable (h : Sent)

theorem header_length : h.header.length = 32 := rfl

theorem drop_octets : h.octets.drop 32 = h.payload := rfl

/-- The octets before HOPS. -/
theorem take_octets : h.octets.take 28 = h.body := rfl

/-! Fields that fill whole octets (R23) -/

theorem octs_plen : octs h.octets 2 2 = h.plen.toNat :=
  octs_of_drop (c := h.octets.drop 4) (by simp [octets, header, body, toBE]) h.plen.isLt

theorem octs_talker : octs h.octets 6 2 = h.talker.toNat :=
  octs_of_drop (c := h.octets.drop 8) (by simp [octets, header, body, toBE]) h.talker.isLt

theorem octs_stream : octs h.octets 8 3 = h.stream.toNat :=
  octs_of_drop (c := h.octets.drop 11) (by simp [octets, header, body, toBE]) h.stream.isLt

theorem octs_sub : octs h.octets 11 1 = h.sub.toNat :=
  octs_of_drop (c := h.octets.drop 12) (by simp [octets, header, body, toBE]) h.sub.isLt

theorem octs_seq : octs h.octets 12 4 = h.seq.toNat :=
  octs_of_drop (c := h.octets.drop 16) (by simp [octets, header, body, toBE]) h.seq.isLt

theorem octs_pt64 : octs h.octets 16 8 = h.pt64.toNat :=
  octs_of_drop (c := h.octets.drop 24) (by simp [octets, header, body, toBE]) h.pt64.isLt

theorem octs_tag : octs h.octets 24 4 = h.tag.toNat :=
  octs_of_drop (c := h.octets.drop 28) (by simp [octets, header, body, toBE]) h.tag.isLt

theorem octs_hops : octs h.octets 28 1 = h.hops.toNat :=
  octs_of_drop (c := h.octets.drop 29) (by simp [octets, header, body, toBE]) h.hops.isLt

theorem octs_ttl : octs h.octets 29 1 = h.ttl.toNat :=
  octs_of_drop (c := h.octets.drop 30) (by simp [octets, header, body, toBE]) h.ttl.isLt

theorem octs_hcrc : octs h.octets 30 2 = h.hcrc.toNat :=
  octs_of_drop (c := h.octets.drop 32) (by simp [octets, header, body, toBE]) h.hcrc.isLt

/-! Octets that several fields share (R23) -/

/-- Octet 0 holds VER, CLASS and KEY. -/
theorem octs_ver_cls_key : octs h.octets 0 1 = h.ver.toNat * 16 + h.cls.toNat * 2 + h.key.toNat := by
  have hver := h.ver.isLt
  have hcls := h.cls.isLt
  have hkey := h.key.toNat_lt
  exact octs_of_drop (c := h.octets.drop 1) (by simp [octets, header, body, toBE]) (by omega)

/-- Octet 1 holds PRIO, the flags and reserved bits. -/
theorem octs_prio_flags : octs h.octets 1 1 =
    h.prio.toNat * 32 + h.timed.toNat * 16 + h.last.toNat * 8 + h.ackreq.toNat * 4 + h.rsv1.toNat := by
  have hprio := h.prio.isLt
  have htimed := h.timed.toNat_lt
  have hlast := h.last.toNat_lt
  have hack := h.ackreq.toNat_lt
  have hrsv := h.rsv1.isLt
  exact octs_of_drop (c := h.octets.drop 2) (by simp [octets, header, body, toBE]) (by omega)

/-- Octets 4 and 5 hold UNNUM, reserved bits and ORIGIN. -/
theorem octs_unnum_origin : octs h.octets 4 2 = h.unnum.toNat * 2 ^ 15 + h.rsv2.toNat * 2 ^ 10 + h.origin.toNat := by
  have hun := h.unnum.toNat_lt
  have hrsv := h.rsv2.isLt
  have hor := h.origin.isLt
  exact octs_of_drop (c := h.octets.drop 6) (by simp [octets, header, body, toBE]) (by omega)

/-- The three fields of octet 0. -/
theorem nfld_ver_cls_key : nfld (octs h.octets 0 1) 7 4 = h.ver.toNat ∧ nfld (octs h.octets 0 1) 3 1 = h.cls.toNat ∧
    nfld (octs h.octets 0 1) 0 0 = h.key.toNat := by
  have hver := h.ver.isLt
  have hcls := h.cls.isLt
  have hkey := h.key.toNat_lt
  rw [octs_ver_cls_key]
  simp only [nfld]
  omega

/-- The five fields of octet 1. -/
theorem nfld_prio_flags : nfld (octs h.octets 1 1) 7 5 = h.prio.toNat ∧ nfld (octs h.octets 1 1) 4 4 = h.timed.toNat ∧
    nfld (octs h.octets 1 1) 3 3 = h.last.toNat ∧ nfld (octs h.octets 1 1) 2 2 = h.ackreq.toNat ∧
    nfld (octs h.octets 1 1) 1 0 = h.rsv1.toNat := by
  have hprio := h.prio.isLt
  have htimed := h.timed.toNat_lt
  have hlast := h.last.toNat_lt
  have hack := h.ackreq.toNat_lt
  have hrsv := h.rsv1.isLt
  rw [octs_prio_flags]
  simp only [nfld]
  omega

/-- The three fields of octets 4 and 5. -/
theorem nfld_unnum_origin : nfld (octs h.octets 4 2) 15 15 = h.unnum.toNat ∧ nfld (octs h.octets 4 2) 14 10 = h.rsv2.toNat ∧
    nfld (octs h.octets 4 2) 9 0 = h.origin.toNat := by
  have hun := h.unnum.toNat_lt
  have hrsv := h.rsv2.isLt
  have hor := h.origin.isLt
  rw [octs_unnum_origin]
  simp only [nfld]
  omega

end Sent

/-! Reading a sentence back -/

/-- A flag read as a number is 1 where it is set. -/
theorem toNat_beq_one (b : Bool) : (b.toNat == 1) = b := by cases b <;> rfl

/-- Reading the octets of a sentence gives it back. -/
theorem parseSent_octets (h : Sent) : parseSent h.octets h.payload = h := by
  obtain ⟨hver, hcls, hkey⟩ := h.nfld_ver_cls_key
  obtain ⟨hprio, htimed, hlast, hack, hrsv1⟩ := h.nfld_prio_flags
  obtain ⟨hunnum, hrsv2, horigin⟩ := h.nfld_unnum_origin
  have hver' : BitVec.ofNat 4 (octs h.octets 0 1 / 16) = h.ver := BitVec.eq_of_toNat_eq (by rw [BitVec.toNat_ofNat]; exact hver)
  have hkey' : (octs h.octets 0 1 % 2 == 1) = h.key := by
    rw [← toNat_beq_one h.key, ← hkey, nfld_zero, Nat.zero_add, pow_one]
  have hrsv1' : BitVec.ofNat 2 (octs h.octets 1 1) = h.rsv1 :=
    BitVec.eq_of_toNat_eq (by rw [BitVec.toNat_ofNat, ← hrsv1, nfld_zero])
  have horigin' : BitVec.ofNat 10 (octs h.octets 4 2) = h.origin :=
    BitVec.eq_of_toNat_eq (by rw [BitVec.toNat_ofNat, ← horigin, nfld_zero])
  simp only [parseSent, hver', hcls, hkey', hprio, htimed, hlast, hack, hrsv1', hunnum, hrsv2, horigin', h.octs_plen, h.octs_talker,
    h.octs_stream, h.octs_sub, h.octs_seq, h.octs_pt64, h.octs_tag, h.octs_hops, h.octs_ttl, h.octs_hcrc, toNat_beq_one,
    BitVec.ofNat_toNat, BitVec.setWidth_eq]

/-- Settles O7, since every field is read from where the header holds it. -/
theorem headerSpellsSentence : Obligations.HeaderSpellsSentence :=
  fun h => ⟨h.header_length, h.drop_octets, parseSent_octets h⟩

/-! HCRC and the header checks (R24, R25) -/

/-- The origin's HCRC is the check value of the octets before HOPS (R24). -/
theorem Sent.hcrc_seal (h : Sent) : h.seal.hcrc = BitVec.ofNat 16 (crc16 (h.seal.octets.take 28)) := by
  rw [h.seal.take_octets]
  rfl

/-- A sealed sentence passes the header checks when its payload is not too long and its time is a time of day. -/
theorem headerErr_seal {h : Sent} (hlen : h.payload.length ≤ 8192) (htime : h.timed = true → h.pt64.toNat % 2 ^ 32 ≤ 999999999)
    (hsnf : h.cls = 7 → h.payload.length ≤ 128) : headerErr h.seal true = false := by
  have hver : h.seal.ver = 1 := rfl
  have hcrc : BitVec.ofNat 16 (crc16 h.seal.body) = h.seal.hcrc := h.hcrc_seal.symm
  have htimed : h.seal.timed = h.timed := rfl
  have hpt : h.seal.pt64 = h.pt64 := rfl
  have hcls : h.seal.cls = h.cls := rfl
  have hplen : h.seal.plen.toNat = h.payload.length := Nat.mod_eq_of_lt (by omega)
  rw [headerErr, hver, hcrc, htimed, hpt, hcls, hplen]
  simpa [Nat.not_lt.2 hlen, Nat.not_lt] using ⟨htime, hsnf⟩

/-- Settles O8, from where the header holds each field, and from the fields that its origin seals. -/
theorem headerFieldsAndCheck : Obligations.HeaderFieldsAndCheck := by
  refine ⟨fun h => ?_, by decide +kernel, Sent.hcrc_seal, fun _ _ _ => rfl, fun _ => headerErr_seal⟩
  obtain ⟨hver, hcls, hkey⟩ := h.nfld_ver_cls_key
  obtain ⟨hprio, htimed, hlast, hack, hrsv1⟩ := h.nfld_prio_flags
  obtain ⟨hunnum, hrsv2, horigin⟩ := h.nfld_unnum_origin
  exact ⟨hver, hcls, hkey, hprio, htimed, hlast, hack, h.octs_plen, hunnum, horigin, h.octs_talker, h.octs_stream, h.octs_sub, h.octs_seq,
    h.octs_pt64, h.octs_tag, h.octs_hops, h.octs_ttl, h.octs_hcrc, hrsv1, hrsv2, h.drop_octets⟩

end Machine
end Sys2Proof
end


section
/-!
Instances that wait and open (R264, R274): what opening the jobs of one kind leaves, where no cancellation waits and no HOLD stands.
-/
namespace Sys2Proof

/-- Entries put one after another, each with the value of its key. -/
theorem Tab.find_foldl_put_fun {α : Type} (v : Nat → α) {j : Nat} {js : List Nat} (hj : j ∈ js) (t : Tab α) :
    Tab.find j (js.foldl (fun t j => Tab.put j (v j) t) t) = some (v j) := by
  induction js using List.reverseRecOn with
  | nil => cases hj
  | append_singleton js k ih =>
    rw [List.foldl_append, List.foldl_cons, List.foldl_nil]
    by_cases hk : j = k
    · subst hk; exact Tab.find_put_same ..
    · rw [Tab.find_put_ne hk]
      exact ih (by simpa [hk] using hj)

/-- Of a table with rising keys each entry is the one that its key finds. -/
theorem Tab.get_of_mem {α : Type} {d : α} {t : Tab α} (ht : t.sorted) {e : Nat × α} (he : e ∈ t) : Tab.get d e.1 t = e.2 := by
  induction t with
  | nil => cases he
  | cons f t ih =>
    obtain ⟨k, v⟩ := f
    obtain ⟨hm, hs⟩ := Tab.sorted_cons.1 ht
    obtain rfl | he := List.mem_cons.1 he
    · exact if_pos rfl
    · rw [Tab.get_cons, if_neg (hm e he).ne, ih hs he]

namespace Machine

/-! Waking instances (R274) -/

/-- Two instances of one job of one epoch, which differ in how far they have come. -/
structure Inst.SameRun (i j : Inst) : Prop where
  epoch : j.epoch = i.epoch
  deadline : j.deadline = i.deadline
  desc : j.desc = i.desc
  half : j.half = i.half

theorem Inst.SameRun.refl (i : Inst) : i.SameRun i := ⟨rfl, rfl, rfl, rfl⟩

theorem Inst.SameRun.trans {i j k : Inst} (h : i.SameRun j) (h' : j.SameRun k) : i.SameRun k :=
  ⟨h'.epoch.trans h.epoch, h'.deadline.trans h.deadline, h'.desc.trans h.desc, h'.half.trans h.half⟩

/-- A plane in which instances have at most come further. -/
def PlaneS.Woken (x y : PlaneS) : Prop :=
  (∃ t, y = { x with inst := t }) ∧ ∀ j i, x.instOf j = some i → ∃ i', y.instOf j = some i' ∧ i.SameRun i'

theorem PlaneS.Woken.refl (x : PlaneS) : x.Woken x := ⟨⟨x.inst, rfl⟩, fun _ i h => ⟨i, h, .refl i⟩⟩

theorem PlaneS.Woken.trans {x y z : PlaneS} (h : x.Woken y) (h' : y.Woken z) : x.Woken z := by
  obtain ⟨⟨t, rfl⟩, hxy⟩ := h
  obtain ⟨⟨u, rfl⟩, hyz⟩ := h'
  refine ⟨⟨u, rfl⟩, fun j i hi => ?_⟩
  obtain ⟨i', hi', hs⟩ := hxy j i hi
  obtain ⟨i'', hi'', hs'⟩ := hyz j i' hi'
  exact ⟨i'', hi'', hs.trans hs'⟩

theorem PlaneS.woken_wakeInst (x : PlaneS) (j : Nat) : x.Woken (x.wakeInst j) := by
  unfold PlaneS.wakeInst
  split
  · exact .refl x
  next i hi =>
    split
    · refine ⟨⟨_, rfl⟩, fun k ik hk => ?_⟩
      by_cases h : k = j
      · subst h
        obtain rfl : i = ik := Option.some.inj (hi.symm.trans hk)
        exact ⟨_, Tab.find_put_same .., ⟨rfl, rfl, rfl, rfl⟩⟩
      · exact ⟨ik, (Tab.find_put_ne h ..).trans hk, .refl ik⟩
    · exact .refl x

/-- Looking at all that wait changes nothing but how far instances have come. -/
theorem PlaneS.woken_wakeAll (x : PlaneS) : x.Woken x.wakeAll := by
  unfold PlaneS.wakeAll
  generalize x.inst.map Prod.fst = js
  induction js generalizing x with
  | nil => exact .refl x
  | cons j js ih => exact (x.woken_wakeInst j).trans (ih _)

/-! Opening instances (R264) -/

/-- What opens for job `j` and epoch `k`. -/
def State.opened (s : State) (p : Plane) (j k : Nat) : Inst :=
  let x := s.pl p
  let d := x.openJob j
  { epoch := k, st := .wait, desc := d, rdesc := x.openDesc (jBuf d),
    deadline := if jBuild d then s.eK p k + jDeadline d * unitsPerUs else s.gK p k,
    half := x.half
    sat := BitVec.ofNat 16 (((jSlots d).filter fun q => x.obs.contains (BitVec.ofNat 24 (slStream (jSlot d q)), k)).map fun q => 2 ^ q).sum
    timedOut := false, late := false, ovf := false, gap := false, ecc := false, slotMiss := 0, slotGap := 0, fallback := false,
    slots := List.replicate 16 [], cycles := 0, ending := none }

theorem State.openInst_eq (s : State) (p : Plane) (j k : Nat) :
    s.openInst p j k = s.modPl p fun x => { x with inst := Tab.put j (s.opened p j k) x.inst } := rfl

theorem State.modPl_modPl (s : State) (p : Plane) (f g : PlaneS → PlaneS) : (s.modPl p f).modPl p g = s.modPl p fun x => g (f x) := by
  cases p <;> rfl

theorem State.modPl_inst_self (s : State) (p : Plane) : (s.modPl p fun x => { x with inst := x.inst }) = s := by cases p <;> rfl

/-- What opens does not depend on what is open. -/
theorem State.opened_modPl_inst (s : State) (p : Plane) (t : Tab Inst) (j k : Nat) :
    (s.modPl p fun x => { x with inst := t }).opened p j k = s.opened p j k := by cases p <;> rfl

/-- Instances opened one after another. -/
theorem State.foldl_openInst (s : State) (p : Plane) (k : Nat) (js : List Nat) :
    js.foldl (fun s j => s.openInst p j k) s =
      s.modPl p fun x => { x with inst := js.foldl (fun t j => Tab.put j (s.opened p j k) t) x.inst } := by
  induction js using List.reverseRecOn with
  | nil => exact (s.modPl_inst_self p).symm
  | append_singleton js j ih =>
    have hopened := s.opened_modPl_inst p (js.foldl (fun t j => Tab.put j (s.opened p j k) t) (s.pl p).inst) j k
    rw [List.foldl_append, List.foldl_cons, List.foldl_nil, ih, State.openInst_eq, State.modPl_modPl]
    simp only [List.foldl_append, List.foldl_cons, List.foldl_nil]
    refine congrArg (s.setPl p) ?_
    exact congrArg (fun i => ({ s.pl p with inst := Tab.put j i _ } : PlaneS)) hopened

/-- Where no cancellation waits and no HOLD stands, instances open and none of them ends (R264, R277, R438). -/
theorem State.openJobs_eq {s : State} {p : Plane} (hc : (s.pl p).cancel = []) (hh : s.snf.hold = false) (build : Bool) (k : Nat) :
    ∃ t, s.openJobs p build k = s.modPl p (fun x => { x with inst := t }) ∧
      ((s.pl p).runsJobs = true → s.rf R.AON_PWR_STATUS 31 30 ≠ 1 → s.imgPause = false → (s.pl p).noOpen = 0 →
        ∀ j, j ∈ (s.pl p).openOf build → ∃ i, Tab.find j t = some i ∧ (s.opened p j k).SameRun i) := by
  unfold State.openJobs
  split
  next hshut =>
    refine ⟨_, (s.modPl_inst_self p).symm, fun hr ha hi hn => ?_⟩
    simp [hr, ha, hi, hn] at hshut
  next =>
    dsimp only
    rw [State.foldl_openInst, List.foldl_fixed' fun j => by simp [hc, hh], State.modPl_modPl]
    obtain ⟨⟨t, ht⟩, hfind⟩ := PlaneS.woken_wakeAll
      { s.pl p with inst := ((s.pl p).openOf build).foldl (fun t j => Tab.put j (s.opened p j k) t) (s.pl p).inst }
    refine ⟨t, congrArg (s.setPl p) ht, fun _ _ _ _ j hj => ?_⟩
    have h := hfind j _ (Tab.find_foldl_put_fun (fun j => s.opened p j k) hj _)
    rw [ht] at h
    exact h

end Machine
end Sys2Proof
end


section
/-!
The Canvas at the boundary E(n) and at G(k) (R228, R229, R236, R264).
-/
namespace Sys2Proof.Machine

/-- The halves at E(n), and the cycles that the engines have used shown in their registers (R228, R287). -/
def State.swapped (s : State) (p : Plane) : State :=
  let s1 := s.modPl p fun x =>
    { x.carryAll with half := if x.started then !x.half else false, started := true, closed := false, stale := true, clean := [] }
  let used := (s1.pl p).used / 16
  let s2 := s1.setReg (R.DSP_USED_LAST p) (BitVec.ofNat 32 (min used 0xFFFFFFFF))
  let s3 := if (s2.reg (R.DSP_USED_PEAK p)).toNat < used then s2.setReg (R.DSP_USED_PEAK p) (BitVec.ofNat 32 (min used 0xFFFFFFFF)) else s2
  s3.modPl p fun x => { x with used := 0 }

/-- Where no draws are open, a boundary swaps the halves, judges LIVE and opens instances. -/
theorem State.canvasBoundary_eq {s : State} {p : Plane} (hbuild : ∀ e, e ∈ (s.pl p).inst → jBuild e.2.desc = true) (n : Nat) :
    s.canvasBoundary p n =
      (((s.swapped p).judgeLive p (n + 1)).openJobs p false (n + 1)).modPl p fun x => { x with before := none } := by
  have hdraws : ((s.pl p).inst.filter fun e => !jBuild e.2.desc) = [] := List.filter_eq_nil_iff.2 fun e he => by simp [hbuild e he]
  rw [State.canvasBoundary, hdraws]
  rfl

theorem PlaneS.carryAll_eq (x : PlaneS) : ∃ a b c d, x.carryAll = { x with cv0 := a, cv1 := b, stale := c, clean := d } := by
  unfold PlaneS.carryAll PlaneS.setCv
  dsimp only
  split
  · split <;> exact ⟨_, _, _, _, rfl⟩
  · exact ⟨_, _, _, _, rfl⟩

theorem State.pl_swapped (s : State) (p : Plane) : ∃ a b, (s.swapped p).pl p = { s.pl p with
    cv0 := a, cv1 := b, half := if (s.pl p).started then !(s.pl p).half else false, started := true, closed := false, stale := true
    clean := [], used := 0 } := by
  obtain ⟨a, b, c, d, h⟩ := (s.pl p).carryAll_eq
  refine ⟨a, b, ?_⟩
  unfold State.swapped
  dsimp only
  split <;> simp [h]

theorem State.reg_swapped (s : State) (p : Plane) {o : Nat} (h1 : o ≠ R.DSP_USED_LAST p) (h2 : o ≠ R.DSP_USED_PEAK p) :
    (s.swapped p).reg o = s.reg o := by
  unfold State.swapped
  dsimp only
  split <;> simp [State.reg_setReg_ne, h1, h2]

theorem State.snf_swapped (s : State) (p : Plane) : (s.swapped p).snf = s.snf := by
  unfold State.swapped
  dsimp only
  split <;> simp

theorem State.imgPause_swapped (s : State) (p : Plane) : (s.swapped p).imgPause = s.imgPause := by
  unfold State.swapped
  dsimp only
  split <;> simp

/-- G(k) follows the canvas generator, the Canvas's registers and REL_GUARD alone: no register that a boundary writes. -/
theorem State.gK_swapped (s : State) (p : Plane) (k : Nat) : (s.swapped p).gK p k = s.gK p k := by
  have hreg (o : Nat) (h : o < R.DSP_USED_LAST p ∨ R.DSP_USED_PEAK p < o) : (s.swapped p).reg o = s.reg o :=
    s.reg_swapped p (by unfold R.DSP_USED_LAST R.DSP_USED_PEAK at *; omega) (by unfold R.DSP_USED_LAST R.DSP_USED_PEAK at *; omega)
  have hc : (s.swapped p).canvasEg p = s.canvasEg p :=
    congrArg (fld · 31 30) (hreg _ (.inl (by unfold R.BU_CTL R.DSP_USED_LAST; omega)))
  have hguard : (s.swapped p).rf (R.REL_GUARD p) 15 0 = s.rf (R.REL_GUARD p) 15 0 :=
    congrArg (fld · 15 0) (hreg _ (.inr (by unfold R.REL_GUARD R.DSP_USED_PEAK; omega)))
  have hlt : s.canvasEg p < 4 := Nat.mod_lt _ (by decide)
  have heg {o : Nat} (h : o < 0x400504 + planeOfs p) : (s.swapped p).reg o = s.reg o :=
    hreg _ (.inl (by unfold R.DSP_USED_LAST; omega))
  have hnum : (s.swapped p).egNum p (s.canvasEg p) = s.egNum p (s.canvasEg p) :=
    congrArg BitVec.toNat (heg (by unfold R.EG_NUM; omega))
  have hden : (s.swapped p).egDen p (s.canvasEg p) = s.egDen p (s.canvasEg p) :=
    congrArg BitVec.toNat (heg (by unfold R.EG_DEN; omega))
  have hbase : (s.swapped p).egBase p (s.canvasEg p) = s.egBase p (s.canvasEg p) := by
    simp only [State.egBase, State.reg64]
    rw [heg (by unfold R.EG_BASE_NS_LO; omega), heg (by unfold R.EG_BASE_NS_LO; omega)]
  have horigin : (s.swapped p).egOrigin p (s.canvasEg p) = s.egOrigin p (s.canvasEg p) := by
    simp only [State.egOrigin, State.reg64]
    rw [heg (by unfold R.EG_ORIGIN_LO; omega), heg (by unfold R.EG_ORIGIN_LO; omega)]
  simp only [State.gK, State.eK, State.guard, State.guardUs, State.egTime, hc, hguard, hnum, hden, hbase, horigin]

/-- The Canvas at E(n) before instances open: halves swapped, LIVE judged (R228, R229, R236). -/
def State.turned (s : State) (p : Plane) (n : Nat) : State := (s.swapped p).judgeLive p (n + 1)

/-- LIVE is judged on each stream's applied state, for the epoch that opens and the window of BU_CTL (R236). -/
theorem State.pl_turned (s : State) (p : Plane) (n : Nat) : ∃ a b, (s.turned p n).pl p = { s.pl p with
    cv0 := a, cv1 := b, half := if (s.pl p).started then !(s.pl p).half else false, started := true, closed := false, stale := true
    clean := [], used := 0
    applied := (s.pl p).applied.map fun e =>
      let en := (Tab.get (0 : BitVec 128) e.1 (s.pl p).tabs.streams).toNat
      (e.1, { e.2 with prev := e.2.live, live := baseAll en e.2 &&
        (match e.2.lastEpoch with | none => false | some l => decide (n + 1 ≤ l + s.rf (R.BU_CTL p) 15 0)) &&
        !(s.snf.stopped.any fun st => st.toNat % 2 ^ 18 == e.1 && entryValid en st.toNat) }) } := by
  obtain ⟨a, b, h⟩ := s.pl_swapped p
  have hbu : (s.swapped p).rf (R.BU_CTL p) 15 0 = s.rf (R.BU_CTL p) 15 0 := congrArg (fld · 15 0)
    (s.reg_swapped p (by unfold R.BU_CTL R.DSP_USED_LAST; omega) (by unfold R.BU_CTL R.DSP_USED_PEAK; omega))
  refine ⟨a, b, ?_⟩
  rw [State.turned, State.judgeLive]
  dsimp only
  rw [State.pl_modPl_same, h, hbu, s.snf_swapped] <;> rfl

theorem State.gK_turned (s : State) (p : Plane) (n k : Nat) : (s.turned p n).gK p k = s.gK p k := by
  have hmod (t : State) (f : PlaneS → PlaneS) : (t.modPl p f).gK p k = t.gK p k := by cases p <;> rfl
  exact (hmod _ _).trans (s.gK_swapped p k)

section Boundary

variable {s : State} {p : Plane} (hbuild : ∀ e, e ∈ (s.pl p).inst → jBuild e.2.desc = true) (hcancel : (s.pl p).cancel = [])
  (hhold : s.snf.hold = false)
include hbuild hcancel hhold

/-- E(n) with no draws open, no cancellation and no HOLD: the Canvas turns, and draw instances of the next epoch open. -/
theorem State.canvasBoundary_turned (n : Nat) :
    ∃ t, s.canvasBoundary p n = (s.turned p n).modPl p (fun x => { x with inst := t, before := none }) ∧
      ((s.pl p).runsJobs = true → s.rf R.AON_PWR_STATUS 31 30 ≠ 1 → s.imgPause = false → (s.pl p).noOpen = 0 →
        ∀ j, j ∈ (s.pl p).openOf false → ∃ i, Tab.find j t = some i ∧ ((s.turned p n).opened p j (n + 1)).SameRun i) := by
  obtain ⟨a, b, hpl⟩ := s.pl_turned p n
  have hpwr : (s.turned p n).rf R.AON_PWR_STATUS 31 30 = s.rf R.AON_PWR_STATUS 31 30 :=
    congrArg (fld · 31 30) ((State.reg_modPl ..).trans (s.reg_swapped p (by unfold R.AON_PWR_STATUS R.DSP_USED_LAST; omega)
      (by unfold R.AON_PWR_STATUS R.DSP_USED_PEAK; omega)))
  have himg : (s.turned p n).imgPause = s.imgPause := (State.modPl_imgPause ..).trans (s.imgPause_swapped p)
  have hsnf : (s.turned p n).snf = s.snf := (State.modPl_snf ..).trans (s.snf_swapped p)
  obtain ⟨t, ht, hopens⟩ := State.openJobs_eq (s := s.turned p n) (p := p) (by rw [hpl]; exact hcancel) (by rw [hsnf]; exact hhold)
    false (n + 1)
  refine ⟨t, ?_, fun hruns hrun hpause hno j hj => hopens ?_ (by rwa [hpwr]) (by rwa [himg]) ?_ j ?_⟩
  · rw [State.canvasBoundary_eq hbuild, ← State.turned, ht, State.modPl_modPl]
  all_goals rw [hpl]; assumption

/-- Of a table of jobs with rising numbers, each valid draw job opens for the next epoch, with deadline G(k) (R228, R264). -/
theorem State.canvasBoundary_opens (hsorted : (s.pl p).jobs.sorted) (hruns : (s.pl p).runsJobs = true)
    (hpwr : s.rf R.AON_PWR_STATUS 31 30 ≠ 1) (himg : s.imgPause = false) (hno : (s.pl p).noOpen = 0) (hbefore : (s.pl p).before = none)
    (n : Nat) {j : Nat} (hj : j ∈ (s.pl p).jobsOf false) :
    ∃ i, ((s.canvasBoundary p n).pl p).instOf j = some i ∧ i.epoch = n + 1 ∧ i.deadline = s.gK p (n + 1) ∧ i.desc = (s.pl p).job j ∧
      i.half = ((s.canvasBoundary p n).pl p).half := by
  obtain ⟨t, hu, hopens⟩ := State.canvasBoundary_turned hbuild hcancel hhold n
  obtain ⟨a, b, hpl⟩ := s.pl_turned p n
  obtain ⟨i, hi, hepoch, hdeadline, hdesc, hhalf⟩ := hopens hruns hpwr himg hno j (by rwa [PlaneS.openOf, hbefore])
  have hjob : ((s.turned p n).pl p).openJob j = (s.pl p).job j := by simp only [PlaneS.openJob, hpl, hbefore]; rfl
  have hdraw : jBuild ((s.pl p).job j) = false := by
    simp only [PlaneS.jobsOf, List.mem_map, List.mem_filter, Bool.and_eq_true, beq_iff_eq] at hj
    obtain ⟨e, ⟨he, -, hkind⟩, rfl⟩ := hj
    rwa [PlaneS.job, Tab.get_of_mem hsorted he]
  rw [hu, State.pl_modPl_same]
  refine ⟨i, hi, hepoch, ?_, hdesc.trans hjob, hhalf⟩
  rw [hdeadline, State.opened]
  dsimp only
  rw [hjob, hdraw, if_neg Bool.false_ne_true, State.gK_turned]

end Boundary

/-! G(k) (R228, log 123) -/

theorem exec_canvasClose_shut {s : State} {p : Plane}
    (h : s.egEn p (s.canvasEg p) = false ∨ s.rb (R.EG_CTL p (s.canvasEg p)) 30 = false ∨ (s.pl p).closed = true) :
    exec (.canvasClose p) s = .next (s.after s) := by
  have hclose : s.canvasClose p = s := by
    rw [State.canvasClose, if_pos]
    rcases h with h | h | h <;> simp [h]
  show Host.Outcome.next (s.after (s.canvasClose p)) = _
  rw [hclose]

theorem exec_canvasClose_open {s : State} {p : Plane} (hen : s.egEn p (s.canvasEg p) = true)
    (hlive : s.rb (R.EG_CTL p (s.canvasEg p)) 30 = true) (hopen : (s.pl p).closed = false) :
    let k := ((s.pl p).egS (s.canvasEg p)).next
    exec (.canvasClose p) s = .next (s.after ((((((s.closeJobs p false).closeJobs p true).modPl p fun x => { x with closed := true }).setRb
      (R.REL_STATUS p) 31 (k % 2 == 1)).openJobs p true k).modPl p fun x => { x with obs := x.obs.filter fun o => decide (k < o.2) })) := by
  show Host.Outcome.next (s.after (s.canvasClose p)) = _
  rw [State.canvasClose, if_neg (by simp [hen, hlive, hopen])]

end Sys2Proof.Machine
end


section
/-!
The check of keyframes at a boundary (R42).
-/
namespace Sys2Proof.Machine

/-- The fragments of a stream that a boundary finds overdue, by the stream's entry (R42). -/
def StreamDyn.late (en : Nat) (d : StreamDyn) : List Nat :=
  ((d.keys.filter fun k => decide (k.1 ≤ nfld en 83 76)).filter fun k => decide (nfld en 105 98 ≤ k.2) && !d.overdue.contains k.1).map
    Prod.fst

/-- A stream after a boundary of its generator (R42). -/
def StreamDyn.aged (en : Nat) (d : StreamDyn) : StreamDyn :=
  { d with keys := d.keys.map fun k => (k.1, min (k.2 + 1) 256), overdue := d.overdue ++ d.late en }

/-- The stream-table entry numbered `st`. -/
def PlaneS.entry (x : PlaneS) (st : Nat) : Nat := (Tab.get (0 : BitVec 128) st x.tabs.streams).toNat

/-- A stream is in the table and follows generator `g`. -/
abbrev PlaneS.follows (x : PlaneS) (g st : Nat) : Prop := nfld (x.entry st) 127 127 = 1 ∧ eEg (x.entry st) = g

/-- What a boundary does to one stream (R42). -/
def State.keyStep (s : State) (p : Plane) (g : Nat) (e : Nat × StreamDyn) : State :=
  if (s.pl p).follows g e.1 then
    (s.modPl p fun x => { x with sdyn := Tab.set StreamDyn.none_ e.1 (e.2.aged ((s.pl p).entry e.1)) x.sdyn }).each
      (e.2.late ((s.pl p).entry e.1)) fun t _ => t.raiseP p 134
  else s

theorem State.keyCheck_eq (s : State) (p : Plane) (g : Nat) : s.keyCheck p g = (s.pl p).sdyn.foldl (fun s e => s.keyStep p g e) s := by
  refine congrArg (fun f => List.foldl f s _) (funext₂ fun t e => ?_)
  have hbit (n : Nat) : nfld n 127 127 = 0 ∨ nfld n 127 127 = 1 := by simp only [nfld]; omega
  have hiff : ¬ (nfld ((t.pl p).entry e.1) 127 127 = 0 ∨ eEg ((t.pl p).entry e.1) ≠ g) ↔ (t.pl p).follows g e.1 := by
    rw [PlaneS.follows]
    obtain h | h := hbit ((t.pl p).entry e.1) <;> simp [h]
  by_cases hf : (t.pl p).follows g e.1
  · exact (if_neg (hiff.2 hf)).trans (if_pos hf).symm
  · exact (if_pos (not_not.1 (mt hiff.1 hf))).trans (if_neg hf).symm

/-- A stream's place in the table of streams after a boundary of generator `g`. -/
def PlaneS.ageInto (x : PlaneS) (g : Nat) (t : Tab StreamDyn) (e : Nat × StreamDyn) : Tab StreamDyn :=
  if x.follows g e.1 then Tab.set StreamDyn.none_ e.1 (e.2.aged (x.entry e.1)) t else t

theorem PlaneS.get_ageInto_same {x : PlaneS} {g : Nat} {e : Nat × StreamDyn} (h : x.follows g e.1) (t : Tab StreamDyn) :
    Tab.get StreamDyn.none_ e.1 (x.ageInto g t e) = e.2.aged (x.entry e.1) := by
  rw [PlaneS.ageInto, if_pos h, Tab.get_set_same]

theorem PlaneS.get_ageInto_ne (x : PlaneS) (g : Nat) {e : Nat × StreamDyn} {st : Nat} (h : x.follows g st → st ≠ e.1) (t : Tab StreamDyn) :
    Tab.get StreamDyn.none_ st (x.ageInto g t e) = Tab.get StreamDyn.none_ st t := by
  rw [PlaneS.ageInto]
  split
  next hf => exact Tab.get_set_ne _ _ (fun he => h (by rw [he]; exact hf) he) _ _
  next => rfl

/-- The streams of a table aged into another: each that follows the generator is aged, the others stay. -/
theorem PlaneS.get_foldl_ageInto (x : PlaneS) (g : Nat) {es : Tab StreamDyn} (hs : es.sorted) (st : Nat) (t : Tab StreamDyn) :
    Tab.get StreamDyn.none_ st (es.foldl (x.ageInto g) t) = if x.follows g st ∧ (Tab.find st es).isSome
      then (Tab.get StreamDyn.none_ st es).aged (x.entry st) else Tab.get StreamDyn.none_ st t := by
  induction es generalizing t with
  | nil => simp [Tab.find]
  | cons e es ih =>
    obtain ⟨hm, hs'⟩ := Tab.sorted_cons.1 hs
    rw [List.foldl_cons, ih hs']
    by_cases hk : e.1 = st
    · subst hk
      rw [Tab.find_of_below hm, if_neg (by simp)]
      by_cases hf : x.follows g e.1
      · rw [PlaneS.get_ageInto_same hf, if_pos ⟨hf, by simp [Tab.find]⟩]
        exact congrArg _ (if_pos rfl).symm
      · rw [PlaneS.get_ageInto_ne x g fun h => absurd h hf, if_neg fun h => hf h.1]
    · rw [PlaneS.get_ageInto_ne x g fun _ => Ne.symm hk]
      simp [Tab.find, Tab.get, hk]

theorem State.keyStep_quiet {s : State} {p : Plane} {g : Nat} {e : Nat × StreamDyn}
    (h : (s.pl p).follows g e.1 → e.2.late ((s.pl p).entry e.1) = []) :
    s.keyStep p g e = s.modPl p fun x => { x with sdyn := x.ageInto g x.sdyn e } := by
  by_cases hf : (s.pl p).follows g e.1
  · rw [State.keyStep, if_pos hf, h hf]
    exact congrArg (fun t => s.setPl p { s.pl p with sdyn := t }) (if_pos hf).symm
  · have hself : s = s.setPl p (s.pl p) := by cases p <;> rfl
    rw [State.keyStep, if_neg hf]
    exact hself.trans (congrArg (fun t => s.setPl p { s.pl p with sdyn := t }) (if_neg hf).symm)

/-- Where nothing is overdue, a boundary ages the streams and raises nothing (R42). -/
theorem State.foldl_keyStep_quiet {s : State} {p : Plane} {g : Nat} {es : Tab StreamDyn}
    (h : ∀ e ∈ es, (s.pl p).follows g e.1 → e.2.late ((s.pl p).entry e.1) = []) :
    es.foldl (fun s e => s.keyStep p g e) s = s.modPl p fun x => { x with sdyn := es.foldl (x.ageInto g) x.sdyn } := by
  induction es using List.reverseRecOn with
  | nil => cases p <;> rfl
  | append_singleton es e ih =>
    have he := h e (by simp)
    rw [List.foldl_append, List.foldl_cons, List.foldl_nil, ih fun e he => h e (List.mem_append_left _ he), State.keyStep_quiet,
      State.modPl_modPl]
    · simp only [List.foldl_append, List.foldl_cons, List.foldl_nil]
      rfl
    · rw [State.pl_modPl_same]
      exact he

/-- At a boundary of its generator at which no stream has a fragment newly overdue, every stream ages (R42). -/
theorem State.sd_keyCheck_quiet {s : State} {p : Plane} {g st : Nat} (hsorted : (s.pl p).sdyn.sorted)
    (h : ∀ e ∈ (s.pl p).sdyn, (s.pl p).follows g e.1 → e.2.late ((s.pl p).entry e.1) = []) (hst : st < 2 ^ 18) :
    ((s.keyCheck p g).pl p).sd st =
      if (s.pl p).follows g st then ((s.pl p).sd st).aged ((s.pl p).entry st) else (s.pl p).sd st := by
  have hsd (x : PlaneS) : x.sd st = Tab.get StreamDyn.none_ st x.sdyn := by rw [PlaneS.sd, Nat.mod_eq_of_lt hst]
  rw [State.keyCheck_eq, State.foldl_keyStep_quiet h, State.pl_modPl_same, hsd, hsd]
  dsimp only
  rw [PlaneS.get_foldl_ageInto _ _ hsorted]
  cases hfind : Tab.find st (s.pl p).sdyn with
  | some d => simp
  | none =>
    rw [if_neg (by simp), Tab.get_eq_find, hfind]
    exact (ite_self _).symm

end Sys2Proof.Machine
end


section
/-!
A table of jobs that lists one number twice, for which the statement of the Canvas fails.
-/
namespace Sys2Proof.Machine

/-- Plane A with a table of jobs that lists number 0 twice: a build job first, then a draw job. -/
def listedTwice : State := Tests.alone.modPl .a fun x =>
  { x with jobs := [(0, BitVec.ofNat 1024 (2 ^ 1023 + 2 ^ 1022)), (0, BitVec.ofNat 1024 (2 ^ 1023))] }

/-- At E(0) job 0 opens as its first entry has it: a build, with deadline E(1) + 0 µs. -/
theorem listedTwice_deadline : (((listedTwice.canvasBoundary .a 0).pl .a).instOf 0).map Inst.deadline = some (listedTwice.eK .a 1) ∧
    listedTwice.eK .a 1 ≠ listedTwice.gK .a 1 := by
  decide +kernel

/-- Refutes O21: the statement takes any table of jobs. In one that lists a number twice, a build job before a draw job, the number is that
of a valid draw job, but what opens is the build, with deadline E(k) + DEADLINE_OFS and not G(k). Where the numbers of the table rise,
`State.canvasBoundary_opens` says that the draws open as stated. -/
theorem not_canvasAndKeyframes : ¬ Obligations.CanvasAndKeyframes := by
  rintro ⟨hboundary, -⟩
  obtain ⟨-, -, -, -, -, -, hopens⟩ := hboundary listedTwice .a 0 (fun _ he => nomatch he) rfl rfl
  obtain ⟨i, hi, -, hdeadline, -⟩ := hopens rfl (by decide +kernel) rfl rfl rfl 0 (by decide +kernel)
  obtain ⟨hat, hne⟩ := listedTwice_deadline
  rw [hi] at hat
  exact hne (Option.some.inj (hat.symm.trans (congrArg some hdeadline)))

end Sys2Proof.Machine
end


section
/-!
What `after` leaves and what it adds (R90, R450, R502): settled levels after every command, and nothing where they were right already.
-/
namespace Sys2Proof.Machine

/-- What putting something out leaves alone, the balls' moves leave alone. -/
theorem State.ballsMove_keeps {β : Type} (g : State → β) (hg : ∀ (s : State) o, g (s.emit o) = g s) (s t : State) : g (s.ballsMove t) = g t := by
  have hirq (u : State) (p : Fin 4) : g (match t.irqLevel p with
      | some b => if s.irqLevel p = some b then u else u.emit (.irq p.val b)
      | none => u) = g u := by
    split
    · split
      · rfl
      · exact hg ..
    · rfl
  have hphase : g (if s.ballPhase = t.ballPhase then t else t.emit (.balls t.ballPhase)) = g t := by
    split
    · rfl
    · exact hg ..
  refine (State.each_keeps g hirq _ _).trans ?_
  split
  · exact hphase
  · split
    · exact hphase
    · exact (hg ..).trans hphase

/-- The bypass pins follow the registers and the planes (R90). -/
theorem State.bypOpen_congr {s t : State} (hreg : t.regs = s.regs) (hpl : ∀ p, t.pl p = s.pl p) (k : Nat) : t.bypOpen k = s.bypOpen k := by
  have hr (o : Nat) : t.reg o = s.reg o := congrArg (Tab.get (resetOf o) o) hreg
  have hrf (o hi lo : Nat) : t.rf o hi lo = s.rf o hi lo := congrArg (fld · hi lo) (hr o)
  have hrb (o i : Nat) : t.rb o i = s.rb o i := congrArg (bit · i) (hr o)
  simp only [State.bypOpen, State.joinSt, State.sideRing, State.portMode, hrf, hrb, hpl]

/-- The field of AON_BYP_CTL that shows the pins does not decide their levels (R90). -/
theorem State.bypOpen_setRf_shown (s : State) (v : Nat) {k : Nat} (hk : k < 4) :
    (s.setRf R.AON_BYP_CTL 11 8 v).bypOpen k = s.bypOpen k := by
  have hport (p : Plane) (i : Nat) : R.PORT_CFG p i ≠ R.AON_BYP_CTL := by simp only [R.PORT_CFG, R.AON_BYP_CTL]; omega
  have hforce : (s.setRf R.AON_BYP_CTL 11 8 v).rb R.AON_BYP_CTL k = s.rb R.AON_BYP_CTL k := by
    rw [State.rb_setRf _ _ _ _ _ _ (by decide) (by decide), if_neg (by omega)]
  have hrf {o : Nat} (ho : o ≠ R.AON_BYP_CTL) (hi lo : Nat) : (s.setRf R.AON_BYP_CTL 11 8 v).rf o hi lo = s.rf o hi lo :=
    s.rf_setReg_ne ho _ hi lo
  have hjoin : R.AON_JOIN_STATUS ≠ R.AON_BYP_CTL := by decide
  simp only [State.bypOpen, State.joinSt, State.sideRing, State.portMode, hrf (hport _ _), hrf hjoin, hforce, State.pl_setRf]

/-- What the field of AON_BYP_CTL shows of the pins' levels. -/
theorem testBit_shown (a b c d : Bool) {k : Nat} (hk : k < 4) :
    (a.toNat + 2 * b.toNat + 4 * c.toNat + 8 * d.toNat).testBit k = [a, b, c, d].getD k false := by
  revert a b c d k
  decide

theorem State.rb_driveByp (s : State) {k : Nat} (hk : k < 4) : s.driveByp.rb R.AON_BYP_CTL (8 + k) = s.bypOpen k := by
  rw [State.driveByp, State.rb_setRf _ _ _ _ _ _ (by decide) (by decide), if_pos (by omega), Nat.add_sub_cancel_left, testBit_shown _ _ _ _ hk]
  match k, hk with
  | 0, _ | 1, _ | 2, _ | 3, _ => rfl

/-- Whatever the change, a command leaves the levels settled. -/
theorem State.settled_after (s t : State) : (s.after t).Settled := by
  have hreg : (s.after t).regs = t.bypass.driveByp.regs := State.ballsMove_keeps State.regs (fun _ _ => rfl) _ _
  have hpl (p : Plane) : (s.after t).pl p = t.bypass.driveByp.pl p :=
    (by cases p <;> rfl : (s.after t).pl p = (s.ballsMove t.bypass.driveByp).pl p).trans
      (State.ballsMove_keeps (State.pl · p) (fun s o => s.pl_emit o p) _ _)
  refine ⟨?_, fun k hk => ?_⟩
  · show ((s.ballsMove t.bypass.driveByp).pba &&& (s.ballsMove t.bypass.driveByp).activeVecs) &&&
      ~~~(s.ballsMove t.bypass.driveByp).activeVecs = 0
    rw [BitVec.and_assoc, BitVec.and_not_self]
    exact BitVec.and_zero
  · rw [State.bypOpen_congr hreg hpl, State.rb, State.reg, hreg]
    exact (t.bypass.rb_driveByp hk).trans (State.bypOpen_setRf_shown _ _ hk).symm

/-- Every command answers a next state, which settles what the command changed. -/
theorem exec_eq_after (i : Instr) (s : State) : ∃ t, exec i s = .next (s.after t) := by
  cases i <;> exact ⟨_, rfl⟩

/-- A step, of a command or of time, settles what it changed. -/
theorem step_eq_after (s : State) : ∃ s0 t : State, step s = .next (s0.after t) := by
  unfold step
  split
  · exact ⟨_, exec_eq_after ..⟩
  · exact ⟨s, s.tick, rfl⟩

/-- Settles O5: every step ends in `after`, which settles the levels whatever they were. -/
theorem everyStepSettles : Obligations.EveryStepSettles := by
  intro s t _ hstep
  obtain ⟨s0, u, hu⟩ := step_eq_after s
  rw [hu] at hstep
  cases hstep
  exact s0.settled_after u

/-! Where the levels are right already -/

/-- Where the pins stand at their levels nothing drives them. -/
theorem State.bypass_of_shown {t : State} (h : ∀ k, k < 4 → t.rb R.AON_BYP_CTL (8 + k) = t.bypOpen k) : t.bypass = t := by
  have hnone : ([0, 1, 2, 3].filter fun k => t.bypOpen k != t.rb R.AON_BYP_CTL (8 + k)) = [] := by
    simp [h 0, h 1, h 2, h 3]
  rw [State.bypass, hnone]
  rfl

/-- A field written with its own bits is the word it was. -/
theorem setFld_of_bits {w : Word} {hi lo v : Nat} (hl : lo ≤ hi) (hh : hi < 32) (h : ∀ i, lo ≤ i → i ≤ hi → v.testBit (i - lo) = bit w i) :
    setFld w hi lo v = w := by
  refine eq_of_bits fun i _ => ?_
  rw [bit_setFld _ _ _ _ _ hl hh]
  split
  · next hi => exact h i hi.1 hi.2
  · rfl

theorem State.setReg_reg {t : State} (hwf : t.regsWf) (off : Nat) : t.setReg off (t.reg off) = t := by
  show { t with regs := _ } = t
  rw [show Tab.set _ off (t.reg off) t.regs = t.regs from Tab.set_get_self hwf]

theorem State.driveByp_of_shown {t : State} (hwf : t.regsWf) (h : ∀ k, k < 4 → t.rb R.AON_BYP_CTL (8 + k) = t.bypOpen k) : t.driveByp = t := by
  rw [State.driveByp, State.setRf, setFld_of_bits (by decide) (by decide), State.setReg_reg hwf]
  intro i hlo hhi
  obtain ⟨k, rfl⟩ := Nat.exists_eq_add_of_le hlo
  have hk : k < 4 := by omega
  rw [Nat.add_sub_cancel_left, testBit_shown _ _ _ _ hk, ← State.rb, h k hk]
  match k, hk with
  | 0, _ | 1, _ | 2, _ | 3, _ => rfl

/-- Nothing moves at the balls where the column, EXTEST's levels and the interrupt pins stay. -/
theorem State.ballsMove_of_still {s t : State} (hphase : s.ballPhase = t.ballPhase) (hext : s.extLevels = t.extLevels)
    (hirq : ∀ p, s.irqLevel p = t.irqLevel p) : s.ballsMove t = t := by
  have hstill (u : State) (p : Fin 4) : (match t.irqLevel p with
      | some b => if s.irqLevel p = some b then u else u.emit (.irq p.val b)
      | none => u) = u := by
    split
    · next b hb => rw [if_pos ((hirq p).trans hb)]
    · rfl
  simp only [State.ballsMove, State.each, hphase, hext, if_true, ite_self]
  exact List.foldl_fixed' (fun p => hstill t p) _

/-- Pending bits none of which is outside a set are all in it. -/
theorem and_eq_of_and_not {w : Nat} {x a : BitVec w} (h : x &&& ~~~a = 0) : x &&& a = x := by
  refine BitVec.eq_of_getLsbD_eq fun i hi => ?_
  have hx : (x &&& ~~~a).getLsbD i = false := by rw [h]; exact BitVec.getLsbD_zero
  rw [BitVec.getLsbD_and, BitVec.getLsbD_not] at hx
  rw [BitVec.getLsbD_and]
  revert hx
  cases x.getLsbD i <;> simp [hi]

/-- Settles O6: the pins, the field that shows them, the balls and the pending messages each stay as they are. -/
theorem levelsAlreadyRight : Obligations.LevelsAlreadyRight := by
  rintro s t ⟨hpba, hshown⟩ hwf hphase hext hirq
  have hpend : t.pba &&& t.activeVecs = t.pba := and_eq_of_and_not hpba
  rw [State.after, State.bypass_of_shown hshown, State.driveByp_of_shown hwf hshown, State.ballsMove_of_still hphase hext hirq]
  simp only [hpend]

end Sys2Proof.Machine
end


section
/-!
What the row of a command packet comes to once its executor takes the packet: its part at each plane, or once for the device (R77, R416,
R417, R426).
-/
namespace Sys2Proof.Machine

/-! Taking a command -/

@[simp] theorem State.targets_taken (s : State) (c d : Cmd) : (s.taken c).targets d = s.targets d := rfl

@[simp] theorem State.coreFor_taken (s : State) (c d : Cmd) : (s.taken c).coreFor d = s.coreFor d := rfl

@[simp] theorem State.lead_taken (s : State) (c : Cmd) : (s.taken c).lead = s.lead := rfl

/-- The command that its executor takes next runs its row (R417). -/
theorem State.runCmd_next {s : State} {op : Nat} {c : Cmd} (hop : c.op.toNat = op) (hnext : s.nextCmd (op / 256 == 0xF) = some c)
    (f : State → State) : s.runCmd op c f = f (s.taken c) := if_pos ⟨hop, hnext⟩

/-! The shapes of a command's part -/

/-- Parts that complete DONE at every plane leave what they do at one plane after the other. -/
theorem foldl_parts_of_onEach {f : State → Plane → State × Part} {g : State → Plane → Option State}
    (hfg : ∀ u p v, g u p = some v → f u p = (v, stDone, [])) {ps : List Plane} {s t : State} (h : onEach g ps s = some t)
    (acc : List (Plane × Nat × List Byte)) :
    ps.foldl (fun (a : State × List (Plane × Nat × List Byte)) p => ((f a.1 p).1, a.2 ++ [(p, (f a.1 p).2.1, (f a.1 p).2.2)])) (s, acc) =
      (t, acc ++ allDone ps) := by
  induction ps generalizing s acc with
  | nil => cases h; simp [allDone]
  | cons p ps ih =>
    obtain hnone | ⟨v, hv⟩ : g s p = none ∨ ∃ v, g s p = some v := by cases g s p <;> simp
    · simp [onEach, hnone] at h
    · simp only [onEach, hv] at h
      rw [List.foldl_cons, hfg s p v hv, ih h]
      simp [allDone]

theorem State.perPlane_of_onEach {s t : State} {c : Cmd} {ps : List Plane} {split : Bool} {f : State → Plane → State × Part}
    {g : State → Plane → Option State} (htargets : s.targets c = .ok (ps, split)) (hfg : ∀ u p v, g u p = some v → f u p = (v, stDone, []))
    (h : onEach g ps s = some t) : s.perPlane c f = t.answer c (allDone ps) split := by
  have hfold := foldl_parts_of_onEach hfg h []
  rw [State.perPlane, htargets]
  exact congrArg (fun a : State × List (Plane × Nat × List Byte) => a.1.answer c a.2 split) hfold

theorem State.perPlane_refused {s : State} {c : Cmd} {st : Nat} (h : s.targets c = .error st) (f : State → Plane → State × Part) :
    s.perPlane c f = s.refuse c ((s.coreFor c).getD s.lead) st := by
  rw [State.perPlane, h]

theorem State.onceCmd_eq {s : State} {c : Cmd} {p : Plane} {ps : List Plane} {split : Bool} (hcore : s.coreFor c = some p)
    (htargets : s.targets c = .ok (ps, split)) (f : State → Plane → State × Part) :
    s.onceCmd c f = (f s p).1.answer c [(p, (f s p).2)] split := by
  rw [State.onceCmd, htargets, hcore]

theorem State.onceCmd_refused {s : State} {c : Cmd} {st : Nat} (h : s.targets c = .error st) (f : State → Plane → State × Part) :
    s.onceCmd c f = s.refuse c ((s.coreFor c).getD s.lead) st := by
  rw [State.onceCmd, h]

/-! Rows of packets by the shape of their command -/

section Rows

variable {i : Cmd → Instr} {op : Nat} {cmd : State → Cmd → State}
  (hexec : ∀ c s, exec (i c) s = .next (s.after ((s.runCmd op c (cmd · c)).drain)))
include hexec

/-- A packet that does its part at each plane does what the part does. -/
theorem packetDoes_of_perPlane {f : Cmd → State → Plane → State × Part} {g : Cmd → State → Plane → Option State}
    (hcmd : ∀ c u, cmd u c = u.perPlane c (f c)) (hfg : ∀ c u p v, g c u p = some v → f c u p = (v, stDone, [])) : packetDoes i op g := by
  rintro s c p ps split t ⟨hop, hnext, -, htargets⟩ ht
  rw [hexec, State.runCmd_next hop hnext, hcmd, State.perPlane_of_onEach (s.targets_taken c c ▸ htargets) (hfg c) ht]

/-- A packet whose command leaves what `g` gives, where its targets and its control core are known. -/
theorem packetGives_of {g : Cmd → State → Plane → List Plane → Bool → Option State}
    (hcmd : ∀ c u p ps split t, u.coreFor c = some p → u.targets c = .ok (ps, split) → g c u p ps split = some t → cmd u c = t) :
    packetGives i op g := by
  rintro s c p ps split t ⟨hop, hnext, hcore, htargets⟩ ht
  rw [hexec, State.runCmd_next hop hnext, hcmd c (s.taken c) p ps split t hcore htargets ht]

theorem packetAnswers_of {g : Cmd → State → Plane → Option (State × Nat × List Byte)}
    (hcmd : ∀ c u p ps split t st res, u.coreFor c = some p → u.targets c = .ok (ps, split) → g c u p = some (t, st, res) →
      cmd u c = t.answer c [(p, st, res)] split) : packetAnswers i op g := by
  rintro s c p ps split t st res ⟨hop, hnext, hcore, htargets⟩ ht
  rw [hexec, State.runCmd_next hop hnext, hcmd c (s.taken c) p ps split t st res hcore htargets ht]

/-- A packet that the control core executes once answers what its part answers. -/
theorem packetAnswers_of_onceCmd {g : Cmd → State → Plane → Option (State × Nat × List Byte)}
    (hcmd : ∀ c u p t, g c u p = some t → ∃ f, cmd u c = u.onceCmd c f ∧ f u p = t) : packetAnswers i op g :=
  packetAnswers_of hexec fun c u p ps split t st res hcore htargets h => by
    obtain ⟨f, hf, ht⟩ := hcmd c u p _ h
    rw [hf, State.onceCmd_eq hcore htargets, ht]

theorem packetRefused_of
    (hcmd : ∀ c u st, u.targets c = .error st → cmd u c = u.refuse c ((u.coreFor c).getD u.lead) st) : packetRefused i op := by
  rintro s c st hop hnext htargets
  rw [hexec, State.runCmd_next hop hnext, hcmd c (s.taken c) st htargets, State.lead_taken]

theorem packetRefused_of_perPlane {f : Cmd → State → Plane → State × Part} (hcmd : ∀ c u, cmd u c = u.perPlane c (f c)) :
    packetRefused i op :=
  packetRefused_of hexec fun c u _ h => (hcmd c u).trans (State.perPlane_refused h _)

theorem packetRefused_of_onceCmd {f : Cmd → State → State → Plane → State × Part} (hcmd : ∀ c u, cmd u c = u.onceCmd c (f c u)) :
    packetRefused i op :=
  packetRefused_of hexec fun c u _ h => (hcmd c u).trans (State.onceCmd_refused h _)

end Rows

/-! What a plane's part leaves -/

theorem State.putRegs_of_putRegsAll {u v : State} {p : Plane} {ws : List (Nat × Word)} (h : putRegsAll (coreOf p) ws u = some v) :
    u.putRegs p ws = (v, stDone, []) := by
  obtain ⟨hfit, hv⟩ := Option.ite_none_right_eq_some.1 h
  exact (if_pos hfit).trans (congrArg (fun w => (w, stDone, [])) (Option.some.inj hv))

theorem State.putBlock_of_stageBlock {u v : State} {sc : Nat} {ws : List (Nat × Word)} (h : stageBlock sc ws u = some v) :
    u.putBlock sc ws = (v, stDone, []) := by
  obtain ⟨hok, hv⟩ := Option.ite_none_right_eq_some.1 h
  obtain ⟨hfit, hfree⟩ := Bool.and_eq_true_iff.1 hok
  have hfit' : fitAll ws = true := hfit
  have hfree' : u.pendingAt sc = false := by simpa using hfree
  cases hv
  simp [State.putBlock, hfit', hfree', ended]

/-- A part that is done where its parameters are in range. -/
theorem part_of_guard {bad ok : Prop} [Decidable bad] [Decidable ok] {v : State} {refused part : State × Part} {left : Option State}
    (hbad : ok → ¬bad) (hpart : left = some v → part = (v, stDone, [])) (h : (if ok then left else none) = some v) :
    (if bad then refused else part) = (v, stDone, []) := by
  obtain ⟨hok, hleft⟩ := Option.ite_none_right_eq_some.1 h
  rw [if_neg (hbad hok), hpart hleft]

/-- A part that leaves a state completes DONE. -/
theorem partOr_of_toOption {u v : State} {p : Plane} {r : Except Part State} (h : r.toOption = some v) : partOr u p r = (v, stDone, []) := by
  cases r with
  | error e => cases h
  | ok w => cases h; rfl

end Sys2Proof.Machine
end


section
/-!
Packets that write the configuration of planes (R430, R432, R433): the part of each at one plane.
-/
namespace Sys2Proof.Machine

/-- Settles O55: each packet does a part at every plane it acts on, which leaves what the statement says where its parameters are in
range. -/
theorem planePackets : Obligations.PlanePackets := by
  refine ⟨?nop, ?tdConfig, ?egSet, ?egEnable, ?tbConfig, ?portConfig, ?portPtp, ?portRing, ?portAddr, ?queueConfig, ?queueFlush, ?jobCancel,
    ?guardSet, ?winConfig, ?bridgeCtl⟩
  case nop =>
    refine packetDoes_of_perPlane (cmd := State.cmdNop) (fun _ _ => rfl) (fun _ _ => State.cmdNop.eq_def ..) fun c u p v h => ?_
    rw [← Option.some.inj h, ended]
  case tdConfig =>
    exact packetDoes_of_perPlane (cmd := State.cmdTd) (fun _ _ => rfl) (fun _ _ => State.cmdTd.eq_def ..) fun _ _ _ _ =>
      part_of_guard not_lt.2 State.putRegs_of_putRegsAll
  case egSet =>
    exact packetDoes_of_perPlane (cmd := State.cmdEgSet) (fun _ _ => rfl) (fun _ _ => State.cmdEgSet.eq_def ..) fun _ _ _ _ =>
      part_of_guard not_lt.2 State.putBlock_of_stageBlock
  case egEnable =>
    refine packetDoes_of_perPlane (cmd := State.cmdEgEnable) (fun _ _ => rfl) (fun _ _ => State.cmdEgEnable.eq_def ..) fun c u p v h => ?_
    obtain ⟨⟨hg, hen⟩, hv⟩ := Option.ite_none_right_eq_some.1 h
    rw [if_neg (not_or.2 ⟨hg.not_gt, hen.not_gt⟩), ← Option.some.inj hv, ended]
  case tbConfig =>
    exact packetDoes_of_perPlane (cmd := State.cmdTb) (fun _ _ => rfl) (fun _ _ => State.cmdTb.eq_def ..) fun _ _ _ _ h =>
      State.putRegs_of_putRegsAll h
  case portConfig =>
    refine packetDoes_of_perPlane (cmd := State.cmdPortCfg) (fun _ _ => rfl) (fun _ _ => State.cmdPortCfg.eq_def ..) fun c u p v h => ?_
    obtain ⟨⟨hi, himg⟩, hput⟩ := Option.ite_none_right_eq_some.1 h
    rw [if_neg hi.not_gt, if_neg (ne_true_of_eq_false himg), State.putBlock_of_stageBlock hput]
  case portPtp =>
    exact packetDoes_of_perPlane (cmd := State.cmdPortPtp) (fun _ _ => rfl) (fun _ _ => State.cmdPortPtp.eq_def ..) fun _ _ _ _ =>
      part_of_guard not_lt.2 State.putRegs_of_putRegsAll
  case portRing =>
    exact packetDoes_of_perPlane (cmd := State.cmdPortRing) (fun _ _ => rfl) (fun _ _ => State.cmdPortRing.eq_def ..) fun _ _ _ _ =>
      part_of_guard not_lt.2 State.putRegs_of_putRegsAll
  case portAddr =>
    exact packetDoes_of_perPlane (cmd := State.cmdPortAddr) (fun _ _ => rfl) (fun _ _ => State.cmdPortAddr.eq_def ..) fun _ _ _ _ =>
      part_of_guard not_lt.2 State.putRegs_of_putRegsAll
  case queueConfig =>
    refine packetDoes_of_perPlane (cmd := State.cmdQueue) (fun _ _ => rfl) (fun _ _ => State.cmdQueue.eq_def ..) fun c u p v h => ?_
    obtain ⟨⟨hq, hfit, himg, hfree⟩, hv⟩ := Option.ite_none_right_eq_some.1 h
    have hfit' : fitAll (cRegs c (R.Q_CFG p (cNum c 0 2)) 4 4) = true := hfit
    rw [if_neg (by simp [hq.not_gt, hfit']), if_neg (ne_true_of_eq_false himg), if_neg (ne_true_of_eq_false hfree), ← Option.some.inj hv]
    obtain heven | hodd := Nat.mod_two_eq_zero_or_one (cNum c 20 1)
    · simp only [heven, Nat.zero_ne_one, if_true, if_false]
      rfl
    · simp only [hodd, Nat.one_ne_zero, if_true, if_false]
      rfl
  case queueFlush =>
    refine packetDoes_of_perPlane (cmd := State.cmdFlush) (fun _ _ => rfl) (fun _ _ => State.cmdFlush.eq_def ..) fun c u p v h => ?_
    obtain ⟨hq, hv⟩ := Option.ite_none_right_eq_some.1 h
    rw [if_neg hq.not_gt, ← Option.some.inj hv, State.flushRequest, ended]
  case jobCancel =>
    refine packetDoes_of_perPlane (cmd := State.cmdCancel) (fun _ _ => rfl) (fun _ _ => State.cmdCancel.eq_def ..) fun c u p v h => ?_
    obtain ⟨⟨hmin, hmax, hlen, hjobs⟩, hv⟩ := Option.ite_none_right_eq_some.1 h
    rw [if_neg, ← Option.some.inj hv]
    · rfl
    · simpa [Nat.pos_iff_ne_zero.1 hmin, hmax, hlen] using hjobs
  case guardSet =>
    refine packetDoes_of_perPlane (cmd := State.cmdGuard) (fun _ _ => rfl) (fun _ _ => State.cmdGuard.eq_def ..) fun c u p v h => ?_
    obtain ⟨⟨hfit, himg⟩, hput⟩ := Option.ite_none_right_eq_some.1 h
    simp only [hfit, himg, Bool.not_true, Bool.false_eq_true, if_false]
    exact State.putBlock_of_stageBlock hput
  case winConfig =>
    refine packetDoes_of_perPlane (cmd := State.cmdWinConfig) (fun _ _ => rfl) (fun _ _ => State.cmdWinConfig.eq_def ..) fun c u p v h => ?_
    obtain ⟨⟨hn, himg⟩, hput⟩ := Option.ite_none_right_eq_some.1 h
    rw [if_neg hn.not_gt, if_neg (ne_true_of_eq_false himg)]
    exact State.putBlock_of_stageBlock hput
  case bridgeCtl =>
    exact packetDoes_of_perPlane (cmd := State.cmdBridgeCtl) (fun _ _ => rfl) (fun _ _ => State.cmdBridgeCtl.eq_def ..) fun _ _ _ _ h =>
      State.putRegs_of_putRegsAll h

end Sys2Proof.Machine
end


section
/-!
Packets that write the tables (R432, R433), and packets refused for the planes they name (R77, R459).
-/
namespace Sys2Proof.Machine

/-- The part of a table command at one plane, where its count is in range and its entries are there (R432). -/
def tablePart (typ w nmax : Nat) (c : Cmd) (s : State) (p : Plane) : Option State :=
  let n := cNum c w w
  if 1 ≤ n ∧ n ≤ nmax ∧ n * tableSize typ ≤ (c.ps.drop (2 * w)).length ∧ s.imgLocked = false then
    (s.writeTable p typ (cNum c 0 w) n (c.ps.drop (2 * w))).toOption else none

theorem packetDoes_tablePart {i : Cmd → Instr} {op typ w nmax : Nat}
    (hexec : ∀ c s, exec (i c) s = .next (s.after ((s.runCmd op c (·.cmdTable c typ w nmax)).drain))) :
    packetDoes i op (tablePart typ w nmax) := by
  refine packetDoes_of_perPlane (cmd := fun s c => s.cmdTable c typ w nmax) hexec (fun _ _ => State.cmdTable.eq_def ..) fun c u p v h => ?_
  obtain ⟨⟨hmin, hmax, hlen, himg⟩, hv⟩ := Option.ite_none_right_eq_some.1 h
  rw [if_neg (not_or.2 ⟨hmin.not_gt, not_or.2 ⟨hmax.not_gt, hlen.not_gt⟩⟩), if_neg (ne_true_of_eq_false himg)]
  exact partOr_of_toOption hv

/-- Settles O56: a table command's part writes the entries that its rules and admission let through, and no command acts on planes that
R77 or R459 refuse. -/
theorem tablePackets : Obligations.TablePackets := by
  refine ⟨packetDoes_tablePart fun _ _ => rfl, packetDoes_tablePart fun _ _ => rfl, packetDoes_tablePart fun _ _ => rfl,
    packetDoes_tablePart fun _ _ => rfl, packetDoes_tablePart fun _ _ => rfl, packetDoes_tablePart fun _ _ => rfl,
    packetDoes_tablePart fun _ _ => rfl, ?streamWrite, ?lutWrite, ?refused⟩
  case streamWrite =>
    refine packetDoes_of_perPlane (cmd := State.cmdStreams) (fun _ _ => rfl) (fun _ _ => State.cmdStreams.eq_def ..) fun c u p v h => ?_
    obtain ⟨⟨hmin, hmax, hlen, himg⟩, hv⟩ := Option.ite_none_right_eq_some.1 h
    rw [if_neg (not_or.2 ⟨hmin.not_gt, not_or.2 ⟨hmax.not_gt, hlen.not_gt⟩⟩), if_neg (ne_true_of_eq_false himg)]
    exact partOr_of_toOption hv
  case lutWrite =>
    refine packetDoes_of_perPlane (cmd := State.cmdLut) (fun _ _ => rfl) (fun _ _ => State.cmdLut.eq_def ..) fun c u p v h => ?_
    obtain ⟨⟨hlen, himg⟩, hv⟩ := Option.ite_none_right_eq_some.1 h
    rw [if_neg hlen.not_gt, if_neg (ne_true_of_eq_false himg)]
    exact partOr_of_toOption hv
  case refused =>
    refine ⟨?_, ?_, ?_, ?_, ?_, ?_, ?_, ?_, ?_⟩
    · exact packetRefused_of_perPlane (cmd := State.cmdNop) (fun _ _ => rfl) fun _ _ => State.cmdNop.eq_def ..
    · exact packetRefused_of_perPlane (cmd := State.cmdEgSet) (fun _ _ => rfl) fun _ _ => State.cmdEgSet.eq_def ..
    · exact packetRefused_of_perPlane (cmd := State.cmdPortCfg) (fun _ _ => rfl) fun _ _ => State.cmdPortCfg.eq_def ..
    · exact packetRefused_of_perPlane (cmd := fun s c => s.cmdTable c 1 2 254) (fun _ _ => rfl) fun _ _ => State.cmdTable.eq_def ..
    · exact packetRefused_of_perPlane (cmd := fun s c => s.cmdTable c 8 2 63) (fun _ _ => rfl) fun _ _ => State.cmdTable.eq_def ..
    · exact packetRefused_of_perPlane (cmd := State.cmdGuard) (fun _ _ => rfl) fun _ _ => State.cmdGuard.eq_def ..
    · exact packetRefused_of_onceCmd (cmd := State.cmdSlConfig) (fun _ _ => rfl) fun _ _ => State.cmdSlConfig.eq_def ..
    · exact packetRefused_of_perPlane (cmd := State.cmdWinConfig) (fun _ _ => rfl) fun _ _ => State.cmdWinConfig.eq_def ..
    · exact packetRefused_of_onceCmd (cmd := State.cmdMaintStatus) (fun _ _ => rfl) fun _ _ => State.cmdMaintStatus.eq_def ..

end Sys2Proof.Machine
end


section
/-!
Packets of the System and Time groups that the control core executes once for the device (R76, R79, R91, R108, R430, R431, R488).
-/
namespace Sys2Proof.Machine

/-! Packets whose command decides more than its part -/

/-- SET_LEAD while EG0 of the lead gives no boundaries acts at once (R76, R430). -/
theorem State.cmdSetLead_now {u : State} {c : Cmd} {p : Plane} {ps : List Plane} {split : Bool} (hcore : u.coreFor c = some p)
    (htargets : u.targets c = .ok (ps, split)) (hplane : cNum c 0 1 ≤ 1)
    (hactive : u.active (if cNum c 0 1 = 0 then .a else .b) = true) (hfree : u.setLead = none) (hen : u.egEn u.lead 0 = false) :
    u.cmdSetLead c = (u.leadTo (if cNum c 0 1 = 0 then .a else .b)).answer c [(p, stDone, List.replicate 8 255 ++ [0])] split := by
  simp only [State.cmdSetLead, htargets, hcore, hplane.not_gt, hactive, hfree, hen, if_false, Bool.not_true, Bool.not_false, Bool.true_or,
    Bool.false_eq_true, Option.isSome_none, if_true, Option.getD_some]

/-- SET_LEAD while EG0 of the lead is live waits for its boundary, the next one where the named one has passed (R76, R430). -/
theorem State.cmdSetLead_later {u : State} {c : Cmd} {p : Plane} {ps : List Plane} {split : Bool} (hcore : u.coreFor c = some p)
    (htargets : u.targets c = .ok (ps, split)) (hplane : cNum c 0 1 ≤ 1)
    (hactive : u.active (if cNum c 0 1 = 0 then .a else .b) = true) (hfree : u.setLead = none) (hen : u.egEn u.lead 0 = true)
    (hlive : ((u.pl u.lead).egS 0).live = true) :
    u.cmdSetLead c = { u.accept c [p] split stAccepted with
      setLead := some (if cNum c 0 1 = 0 then .a else .b, max ((u.pl u.lead).egS 0).next (cNum c 8 8), c,
        decide (cNum c 8 8 < ((u.pl u.lead).egS 0).next)) } := by
  have hmax : (if cNum c 8 8 < ((u.pl u.lead).egS 0).next then ((u.pl u.lead).egS 0).next else cNum c 8 8) =
      max ((u.pl u.lead).egS 0).next (cNum c 8 8) := by split <;> omega
  simp only [State.cmdSetLead, htargets, hcore, hplane.not_gt, hactive, hfree, hen, hlive, if_false, Bool.not_true, Bool.or_false,
    Bool.false_eq_true, Option.isSome_none, Option.getD_some, decide_eq_true_eq, hmax]

/-- The waiting lead is taken at its boundary (R76, R430). -/
theorem State.applyLead_due {s : State} {p : Plane} {k : Nat} {c : Cmd} {late : Bool} (hwaits : s.setLead = some (p, k, c, late))
    (hen : s.egEn s.lead 0 = true) (hlive : ((s.pl s.lead).egS 0).live = true) (hdue : k ≤ ((s.pl s.lead).egS 0).next)
    (hnot : ((s.pl s.lead).egS 0).next ≤ k + 1) :
    s.applyLead = ({ s with setLead := none }.leadTo p).complete c stDone (toBE 8 k ++ toBE 1 late.toNat) := by
  simp only [State.applyLead, hwaits, hen, hlive, Bool.and_true, if_true, if_pos hdue, if_neg hnot.not_gt]

/-- A number that fits is assigned (R50, R430). -/
theorem State.cmdSetDevnum_assigns {u : State} {c : Cmd} (hall : c.all = false) (huid : cNum c 2 1 % 2 = 0) (hn : cNum c 0 2 ≤ 1023) :
    u.cmdSetDevnum c = u.onceCmd c fun s _ =>
      ((s.setReg R.AON_DEVNUM (BitVec.ofNat 32 (0x80000000 + cNum c 0 2))).bootDevnum.joinConfirm, stDone, []) := by
  have hpack : pack [(1, 31), (cNum c 0 2, 0)] = BitVec.ofNat 32 (0x80000000 + cNum c 0 2) := by
    simp [pack]
  have hbyUid : (cNum c 2 1 % 2 == 1) = false := by rw [huid]; rfl
  simp only [State.cmdSetDevnum, hall, hbyUid, hn.not_gt, hpack, Bool.false_and, Bool.false_eq_true, false_and, or_false, if_false, ended]

/-- Register reads within BAR0 begin (R430). -/
theorem State.cmdRegRead_begins {u : State} {c : Cmd} {p : Plane} {ps : List Plane} {split : Bool} (hcore : u.coreFor c = some p)
    (htargets : u.targets c = .ok (ps, split)) (hmin : 1 ≤ cNum c 4 1) (hmax : cNum c 4 1 ≤ 3) (hal : cNum c 0 4 % 4 = 0)
    (hend : cNum c 0 4 + 4 * cNum c 4 1 ≤ 2 ^ 24) : u.cmdRegRead c = (u.hold c [p] split).regReadFrom p c (cNum c 4 1) [] := by
  have hgood : goodOff (cNum c 0 4) = true := by
    simp only [goodOff, hal, beq_self_eq_true, Bool.true_and, decide_eq_true_eq]
    omega
  simp only [State.cmdRegRead, htargets, hcore, hmin.not_gt, hmax.not_gt, hgood, hend.not_gt, Bool.not_true, Bool.false_eq_true, or_false,
    if_false]

/-- Register writes whose values fit are made one after another (R430). -/
theorem State.cmdRegWrite_writes {u : State} {c : Cmd} (hlen : c.ps.length % 8 = 0) (hmin : 1 ≤ c.ps.length / 8) (hmax : c.ps.length / 8 ≤ 64)
    (hfit : (((List.range (c.ps.length / 8)).map fun i => (cNum c (8 * i) 4, cWord c (8 * i + 4))).all fun w =>
      w.1 % 4 == 0 && decide (w.1 < 2 ^ 24) && fitsReg w.1 w.2) = true) :
    u.cmdRegWrite c = u.onceCmd c fun s p =>
      (((List.range (c.ps.length / 8)).map fun i => (cNum c (8 * i) 4, cWord c (8 * i + 4))).foldl
        (fun u w => u.writeAll (coreOf p) w.1 w.2) s, stDone, []) := by
  have hnone : (((List.range (c.ps.length / 8)).map fun i => (cNum c (8 * i) 4, cWord c (8 * i + 4))).any fun e =>
      !goodOff e.1 || !fitsReg e.1 e.2) = false := by
    rw [List.any_eq_not_all_not, Bool.not_eq_false', ← hfit]
    refine congrArg (List.all _) (funext fun w => ?_)
    simp only [goodOff, Bool.not_or, Bool.not_not]
  simp only [State.cmdRegWrite, hlen, hmin.not_gt, hmax.not_gt, hnone, ne_eq, not_true_eq_false, Bool.false_eq_true, or_false, if_false]
  rfl

/-- Settles O54: each packet answers once, from the state it leaves. -/
theorem systemPackets : Obligations.SystemPackets := by
  refine ⟨?identify, ?discover, ?setDevnum, ?setLead, ?setLeadLater, ?setLeadApply, ?planeHold, ?regRead, ?regWrite, ?snapshot, ?bypassForce,
    ?timeRead⟩
  case identify =>
    exact packetAnswers_of_onceCmd (cmd := State.cmdIdentify) (fun _ _ => rfl) fun _ _ _ _ h =>
      ⟨_, State.cmdIdentify.eq_def .., Option.some.inj h⟩
  case discover =>
    exact packetAnswers_of_onceCmd (cmd := State.cmdDiscover) (fun _ _ => rfl) fun _ _ _ _ h =>
      ⟨_, State.cmdDiscover.eq_def .., Option.some.inj h⟩
  case setDevnum =>
    refine packetAnswers_of_onceCmd (cmd := State.cmdSetDevnum) (fun _ _ => rfl) fun c u p t h => ?_
    obtain ⟨⟨hall, huid, hn⟩, ht⟩ := Option.ite_none_right_eq_some.1 h
    exact ⟨_, State.cmdSetDevnum_assigns hall huid hn, Option.some.inj ht⟩
  case setLead =>
    refine packetAnswers_of (cmd := State.cmdSetLead) (fun _ _ => rfl) fun c u p ps split t st res hcore htargets h => ?_
    obtain ⟨⟨hplane, hactive, hfree, hen⟩, ht⟩ := Option.ite_none_right_eq_some.1 h
    cases ht
    exact State.cmdSetLead_now hcore htargets hplane hactive hfree hen
  case setLeadLater =>
    refine packetGives_of (cmd := State.cmdSetLead) (fun _ _ => rfl) fun c u p ps split t hcore htargets h => ?_
    obtain ⟨⟨hplane, hactive, hfree, hen, hlive⟩, ht⟩ := Option.ite_none_right_eq_some.1 h
    cases ht
    exact State.cmdSetLead_later hcore htargets hplane hactive hfree hen hlive
  case setLeadApply =>
    intro s p k c late hwaits hen hlive hdue hnot
    rw [← State.applyLead_due hwaits hen hlive hdue hnot]
    rfl
  case planeHold =>
    refine packetAnswers_of_onceCmd (cmd := State.cmdHold) (fun _ _ => rfl) fun c u p t h => ⟨_, State.cmdHold.eq_def .., ?_⟩
    rw [← Option.some.inj h]
    rfl
  case regRead =>
    refine packetGives_of (cmd := State.cmdRegRead) (fun _ _ => rfl) fun c u p ps split t hcore htargets h => ?_
    obtain ⟨⟨hmin, hmax, hal, hend⟩, ht⟩ := Option.ite_none_right_eq_some.1 h
    cases ht
    exact State.cmdRegRead_begins hcore htargets hmin hmax hal hend
  case regWrite =>
    refine packetAnswers_of_onceCmd (cmd := State.cmdRegWrite) (fun _ _ => rfl) fun c u p t h => ?_
    obtain ⟨⟨hlen, hmin, hmax, hfit⟩, ht⟩ := Option.ite_none_right_eq_some.1 h
    exact ⟨_, State.cmdRegWrite_writes hlen hmin hmax hfit, Option.some.inj ht⟩
  case snapshot =>
    refine packetAnswers_of_onceCmd (cmd := State.cmdSnapshot) (fun _ _ => rfl) fun c u p t h => ⟨_, State.cmdSnapshot.eq_def .., ?_⟩
    obtain ⟨hsrc, ht⟩ := Option.ite_none_right_eq_some.1 h
    rw [← Option.some.inj ht]
    simp only [hsrc, beq_self_eq_true, Bool.not_true, Bool.false_eq_true, if_false]
    rfl
  case bypassForce =>
    exact packetAnswers_of_onceCmd (cmd := State.cmdBypass) (fun _ _ => rfl) fun _ _ _ _ h =>
      ⟨_, State.cmdBypass.eq_def .., Option.some.inj h⟩
  case timeRead =>
    exact packetAnswers_of_onceCmd (cmd := State.cmdTimeRead) (fun _ _ => rfl) fun _ _ _ _ h =>
      ⟨_, State.cmdTimeRead.eq_def .., Option.some.inj h⟩

end Sys2Proof.Machine
end


section
/-!
A command whose change is known: from what its row runs to the state it leaves.
-/
namespace Sys2Proof.Machine

theorem exec_next_of_eq {i : Instr} {s t u : State} (hexec : exec i s = .next (s.after t)) (h : t = u) : exec i s = .next (s.after u) :=
  h ▸ hexec

theorem exec_drain_of_eq {i : Instr} {s t u : State} (hexec : exec i s = .next (s.after t.drain)) (h : t = u) :
    exec i s = .next (s.after u.drain) := h ▸ hexec

end Sys2Proof.Machine
end


section
/-!
Pin copies and their decision point (R60-R65): what each branch of either does.
-/
namespace Sys2Proof.Machine

/-! Copies -/

/-- The copy at the head of its plane's path that arrives is held, or counts as late (R60, R61, R63). -/
theorem State.copyReceive_frame {s : State} {p : Plane} {n : Nat} {e : PathC} {rest : List PathC} {d : List Byte} (hpin : s.pinOn = true)
    (hp : s.present p = true) (hpath : (s.pl p).path = e :: rest) (hout : e.out = n) (hdata : e.copy.data = some d) :
    s.copyReceive p n e.copy.oseq e.copy.obj (.frame d) =
      let s1 := s.modPl p fun x => { x with path := rest }
      if (s.outS n).past e.copy.oseq || s1.decidedBy n e.copy.oseq then (s1.count R.LDH_LATE_CNT).raise 19
      else s1.modOut n fun o => { o with copies := o.copies ++ [e.copy] } := by
  have houtS : (s.modPl p fun x => { x with path := rest }).outS n = s.outS n := by simp only [State.outS, State.modPl_outs]
  simp only [State.copyReceive, hpin, hp, hpath, hout, hdata, houtS, beq_self_eq_true, Bool.and_true, Bool.not_true, Bool.or_false,
    Bool.false_eq_true, if_false, reduceCtorEq]

/-- A copy that stops partway counts (R62). -/
theorem State.copyReceive_partial {s : State} {p : Plane} {n : Nat} {e : PathC} {rest : List PathC} (obj : Byte) (hpin : s.pinOn = true)
    (hp : s.present p = true) (hpath : (s.pl p).path = e :: rest) (hout : e.out = n) :
    s.copyReceive p n e.copy.oseq obj .partialCopy = (s.modPl p fun x => { x with path := rest }).count R.LDH_PARTIAL_CNT := by
  simp only [State.copyReceive, hpin, hp, hpath, hout, beq_self_eq_true, Bool.and_true, Bool.not_true, Bool.or_false,
    Bool.false_eq_true, if_false, if_true]

/-! Decision points -/

/-- The copies among which the decision point of `oseq` chooses: in IDLE none of a job's release (R61, R481). -/
def State.rivals (s : State) (n : Nat) (oseq : Word) : List Copy :=
  if s.idleMiss (s.outS n) oseq then [] else (s.outS n).copies.filter fun c => c.oseq == oseq

theorem State.rivals_eq (s : State) (n : Nat) (oseq : Word) :
    s.rivals n oseq = if s.rf R.AON_PWR_STATUS 31 30 = 1 ∧ ∀ e ∈ (s.outS n).cmds, e.1 ≠ oseq then []
      else (s.outS n).copies.filter fun c => c.oseq == oseq := by
  have hidle : s.idleMiss (s.outS n) oseq = true ↔ s.rf R.AON_PWR_STATUS 31 30 = 1 ∧ ∀ e ∈ (s.outS n).cmds, e.1 ≠ oseq := by
    simp [State.idleMiss]
  exact if_congr hidle rfl rfl

/-- The decision of `oseq` at output `n` is recorded in `t`: its choice, and what the output has missed (R61, R64). -/
def State.decided (s : State) (n : Nat) (oseq : Word) (t : State) (ch : Choice) (miss holding safe : Bool) : State :=
  t.modOut n fun y => { y with
    copies := (s.outS n).copies.filter fun c => c.oseq != oseq, chosen := y.chosen ++ [(oseq, ch, (s.rivals n oseq).length)],
    missed := ((s.outS n).tally (oseq.toNat / 4096)).1, epoch := some (oseq.toNat / 4096), miss := miss, holding := holding, safe := safe }

/-- A decision point by the lead's copy and the other plane's (R61, R64, R65, R438). -/
theorem State.decide_eq {s : State} {n : Nat} {oseq : Word} (hpin : s.pinOn = true) (hpast : (s.outS n).past oseq = false) :
    s.decide_ n oseq =
      let o := s.outS n
      let miss := (o.tally (oseq.toNat / 4096)).2
      match (s.rivals n oseq).find? fun c => c.plane == s.lead, (s.rivals n oseq).find? fun c => c.plane != s.lead with
      | some a, some b => s.decided n oseq (if a.obj = b.obj ∧ a.data = b.data then s
          else ((s.count R.LDH_MISMATCH_CNT).setRb (if n < 32 then R.LDH_DIV_LO else R.LDH_DIV_HI) (n % 32) true).raise 16)
          (s.snuffCopy n a) miss false false
      | some a, none => s.decided n oseq s (s.snuffCopy n a) miss false false
      | none, some b => s.decided n oseq (s.when (s.active s.lead && s.active (other s.lead)) fun s => s.count R.LDH_FALLBACK_CNT)
          (s.snuffCopy n b) miss false false
      | none, none =>
        if s.snuffed n then
          s.decided n oseq s (if s.snf.safe.getLsbD n then s.safeChoice n else if s.outTel n then .zero else .skip) miss o.holding o.safe
        else if o.safe || !s.rb (R.LDH_OUT_CFG n) 2 || decide (s.rf R.LDH_CTL 15 8 ≤ (o.tally (oseq.toNat / 4096)).1) then
          s.decided n oseq (if o.safe then s else s.enterSafe n) (s.safeChoice n) true false true
        else s.decided n oseq (s.raiseIf (!o.holding) 17) .hold true true false := by
  simp only [State.decide_, hpin, hpast, Bool.not_true, Bool.or_false, Bool.false_eq_true, if_false]
  rfl

/-- Settles O42, by the copies that the decision point has: both, the lead's, the other plane's, none. -/
theorem copiesAndDecisions : Obligations.CopiesAndDecisions := by
  intro s p n oseq e rest obj d hpin
  refine ⟨?copies, ?decision⟩
  case copies =>
    rintro hp hpath hout rfl rfl hdata
    refine ⟨⟨_, rfl, ?_⟩, exec_next_of_eq rfl (State.copyReceive_partial e.copy.obj hpin hp hpath hout)⟩
    rw [State.copyReceive_frame hpin hp hpath hout hdata]
    dsimp only
    split <;> rfl
  case decision =>
    intro hpast o k cs mine theirs done
    have hcs : cs = s.rivals n.val oseq := (s.rivals_eq n.val oseq).symm
    have hdone (t : State) (ch : Choice) (miss holding safe : Bool) :
        done t ch miss holding safe = s.decided n.val oseq t ch miss holding safe := by
      simp only [done, hcs]
      rfl
    have hmine : mine = (s.rivals n.val oseq).find? fun c => c.plane == s.lead := by simp only [mine, hcs]
    have htheirs : theirs = (s.rivals n.val oseq).find? fun c => c.plane != s.lead := by simp only [theirs, hcs]
    have hexec {t : State} (h : s.decide_ n.val oseq = t) : exec (.decisionPoint n oseq) s = .next (s.after t) := exec_next_of_eq rfl h
    simp only [State.decide_eq hpin hpast, ← hmine, ← htheirs] at hexec
    refine ⟨?both, ?differ, ?lead, ?fallback, ?hold, ?safe⟩
    case both =>
      intro a b ha hb hobj hdata
      exact hexec (by simp only [ha, hb, hobj, hdata, hdone, and_self, if_true, o, k])
    case differ =>
      intro a b ha hb hdiff
      exact hexec (by simp only [ha, hb, if_neg (not_and_or.2 hdiff), hdone, o, k])
    case lead =>
      intro a ha hb
      exact hexec (by simp only [ha, hb, hdone, o, k])
    case fallback =>
      intro b ha hb hlead hother
      exact hexec (by simp only [ha, hb, hlead, hother, hdone, State.when, Bool.and_self, if_true, o, k])
    case hold =>
      intro ha hb hfree hsafe hhold hleft
      refine hexec ?_
      simp only [o, k] at hsafe hleft
      simp only [ha, hb, hfree, hsafe, hhold, hleft.not_ge, hdone, decide_false, Bool.not_true, Bool.or_false, Bool.false_eq_true, if_false, o]
    case safe =>
      intro ha hb hfree hsafe hhold
      refine hexec ?_
      simp only [o] at hsafe
      simp only [ha, hb, hfree, hsafe, hhold, hdone, Bool.not_false, Bool.or_true, Bool.true_or, Bool.false_eq_true, if_false, if_true]

end Sys2Proof.Machine
end


section
/-!
The feeds (R53-R56) and the Taper link (R71-R73, R80, R523).
-/
namespace Sys2Proof.Machine

/-! Feeds -/

theorem planeNum_lt (p : Plane) : planeNum p < 2 := by cases p <;> decide

theorem planeNum_inj {p q : Plane} (h : planeNum p = planeNum q) : p = q := by
  revert h
  cases p <;> cases q <;> decide

theorem other_ne (p : Plane) : other p ≠ p := by cases p <;> decide

@[simp] theorem State.regs_setFeed (s : State) (f : Plane) (x : FeedS) : (s.setFeed f x).regs = s.regs := by cases f <;> rfl

/-- A feed falls below its threshold: its monitor counts, and ABOVE clears (R56). -/
def State.feedLow (s : State) (f : Plane) : State := (s.setFeed f ⟨true, false⟩).setRb R.AON_FEED_STATUS (planeNum f) false

theorem State.rb_feedLow (s : State) (f : Plane) {i : Nat} (h : i ≠ planeNum f) : (s.feedLow f).rb R.AON_FEED_STATUS i = s.rb R.AON_FEED_STATUS i := by
  have hf : planeNum f < 32 := (planeNum_lt f).trans (by decide)
  rw [State.feedLow, State.rb_setRb_ne _ _ _ hf h]
  simp only [State.rb, State.reg, State.regs_setFeed]

theorem State.feedGood_feedLow (s : State) (f g : Plane) : (s.feedLow f).feedGood g = s.feedGood g :=
  s.rb_feedLow f (by have := planeNum_lt f; omega)

theorem State.feedAbove_other_feedLow (s : State) (f : Plane) : (s.feedLow f).feedAbove (other f) = s.feedAbove (other f) :=
  s.rb_feedLow f fun h => other_ne f (planeNum_inj h)

/-- What the loss of all power leaves does not depend on the registers or the feeds' monitors (R54). -/
theorem State.aonLost_feedLow (s : State) (f : Plane) : (s.feedLow f).aonLost = s.aonLost := by cases f <;> rfl

/-- FEED_BELOW_THRESHOLD while a feed still holds the device up (R54, R56). -/
theorem State.feedFalls_held {s : State} {f : Plane} (hon : s.aonOn = true)
    (h : s.feedGood f = true ∨ s.feedGood (other f) = true ∨ s.feedAbove (other f) = true) : s.feedFalls f = s.feedLow f := by
  have hheld : ((s.feedLow f).feedGood f || (s.feedLow f).feedGood (other f) || (s.feedLow f).feedAbove (other f)) = true := by
    rw [s.feedGood_feedLow, s.feedGood_feedLow, s.feedAbove_other_feedLow, Bool.or_assoc]
    simpa only [Bool.or_eq_true] using h
  rw [State.feedFalls, hon]
  exact if_pos hheld

/-- FEED_BELOW_THRESHOLD when no feed holds the device up (R54). -/
theorem State.feedFalls_lost {s : State} {f : Plane} (hon : s.aonOn = true) (hown : s.feedGood f = false) (hgood : s.feedGood (other f) = false)
    (habove : s.feedAbove (other f) = false) : s.feedFalls f = s.aonLost := by
  have hlost : ((s.feedLow f).feedGood f || (s.feedLow f).feedGood (other f) || (s.feedLow f).feedAbove (other f)) = false := by
    rw [s.feedGood_feedLow, s.feedGood_feedLow, s.feedAbove_other_feedLow, hown, hgood, habove]
    rfl
  rw [State.feedFalls, hon]
  exact (if_neg (ne_true_of_eq_false hlost)).trans (s.aonLost_feedLow f)

/-- Settles O25, by what each crossing and each declaration comes to. -/
theorem feedCommands : Obligations.FeedCommands := by
  intro s f hon
  refine ⟨fun h => exec_next_of_eq rfl (State.feedFalls_held hon h),
    fun hown hgood habove => exec_next_of_eq rfl (State.feedFalls_lost hon hown hgood habove), ?above, fun hgood hbelow => ?lost,
    fun hgood hcount => ?good⟩
  case above => exact exec_next_of_eq rfl (if_neg (by simp [hon]))
  case lost => exact exec_drain_of_eq rfl (if_neg (by simp [hon, hgood, hbelow]))
  case good => exact exec_next_of_eq rfl (if_neg (by simp [hon, hgood, hcount]))

/-! The Taper link -/

/-- The link is down, before what that means for a rejoin (R72, R73). -/
def State.taperLost (s : State) : State :=
  State.modeFrom s ((({ s with taperUp := false, link := [] }.addSat R.AON_TAPER_CNT 31 24 1).raise 112).record 0x0D 0 [0, 0, 0, 0])

/-- Where no plane rejoins, the loss of the link cuts no rejoin off (R72, R85). -/
theorem State.taperGoes_quiet {s : State} (hup : s.taperUp = true) (h : ∀ q, (s.taperLost.pl q).rejoin = none) :
    s.taperGoes = s.taperLost.suspendRule := by
  rw [State.taperLost] at h ⊢
  simp only [State.taperGoes, hup, Bool.not_true, Bool.false_eq_true, if_false, h]

/-- The sentence at the head of what is on its way to a plane leaves the link (R523). -/
theorem link_head {before rest : List (Plane × Int × Sent)} {p : Plane} {arrival : Int} {h : Sent} (hbefore : ∀ e ∈ before, e.1 ≠ p) :
    (before ++ (p, arrival, h) :: rest).find? (fun e => decide (e.1 = p)) = some (p, arrival, h) ∧
      (before ++ (p, arrival, h) :: rest).erase (p, arrival, h) = before ++ rest := by
  constructor
  · rw [List.find?_append, List.find?_eq_none.2 (by simpa using hbefore)]
    simp
  · rw [List.erase_append_right _ fun hmem => hbefore _ hmem rfl, List.erase_cons_head]

theorem State.taperIn_head {s : State} {p : Plane} {before rest : List (Plane × Int × Sent)} {arrival : Int} {h : Sent}
    (hlink : s.link = before ++ (p, arrival, h) :: rest) (hbefore : ∀ e ∈ before, e.1 ≠ p) (crcErr : Bool) :
    s.taperIn p crcErr = if crcErr then { s with link := before ++ rest }.taperCrc 1
      else if s.taperUp && (s.active p || s.finalPass p) then { s with link := before ++ rest }.arrive p 5 arrival h
      else { s with link := before ++ rest } := by
  obtain ⟨hfind, herase⟩ := link_head (arrival := arrival) (h := h) (rest := rest) hbefore
  simp only [State.taperIn, hlink, hfind, herase]

/-- Settles O26, by what the link's loss, its return, a sentence and a digest come to. -/
theorem taperCommands : Obligations.TaperCommands := by
  intro s p port errs epoch peer
  refine ⟨?down, ?up, ?upSplit, ?sentence, ?digest⟩
  case down =>
    intro hup s0 s1 s2 hquiet
    exact exec_drain_of_eq rfl (State.taperGoes_quiet (s := s0) hup hquiet)
  case up =>
    intro hdown hon hboth
    refine exec_drain_of_eq rfl ?_
    simp only [State.taperComes, hdown, hon, hboth, Bool.not_true, Bool.or_false, Bool.false_eq_true, if_false]
  case upSplit =>
    intro hdown hon ha hb
    refine exec_drain_of_eq rfl ?_
    simp only [State.taperComes, hdown, hon, ha, hb, Bool.and_true, Bool.not_true, Bool.or_false, Bool.false_eq_true, if_false, if_true]
  case sentence =>
    intro before rest arrival h hlink hbefore
    refine ⟨fun hup hactive => exec_next_of_eq rfl ((State.taperIn_head hlink hbefore false).trans ?_),
      exec_next_of_eq rfl (State.taperIn_head hlink hbefore true)⟩
    simp only [hup, hactive, Bool.true_or, Bool.and_true, Bool.false_eq_true, if_false, if_true]
  case digest =>
    intro own
    have hown : s.ownDigest p port.val epoch = own := rfl
    refine ⟨fun hmode hdiff hnew => exec_next_of_eq rfl ?_, fun hmode hdiff hold => exec_next_of_eq rfl ?_, fun hsame => exec_next_of_eq rfl ?_⟩
    · rw [State.digest, hown, if_pos ⟨hmode, hdiff⟩, State.when, if_pos (by simpa using hnew)]
    · rw [State.digest, hown, if_pos ⟨hmode, hdiff⟩, State.when, if_neg (by simpa using hold)]
    · rw [State.digest, hown, if_neg fun h => hsame.elim (fun hm => hm h.1) fun he => h.2 he]

end Sys2Proof.Machine
end


section
/-!
Boot and RELEARN (R86, R87, R474-R477).
-/
namespace Sys2Proof.Machine

/-- A change of a plane is what it does to the plane as it stands. -/
theorem State.modPl_congr {s : State} {p : Plane} {f g : PlaneS → PlaneS} (h : f (s.pl p) = g (s.pl p)) : s.modPl p f = s.modPl p g := by
  rw [State.modPl, State.modPl, h]

/-! Boot -/

section Boot

variable {s : State} {p : Plane} {v : Word} {k : BitVec 16} (first second : SlotCheck)
  (hst : (s.pl p).st = .boot) (hfw : (s.pl p).fw = none) (hdead : (s.pl p).dead = false) (hmnt : s.mntOf p = none)
  (htry : s.rb (R.AON_BOOT (planeNum p)) 31 = false)
include hst hfw hdead hmnt htry

/-- Good firmware in the slot that the boot ROM reads first (R473, R477). -/
theorem State.bootComplete_first (hgood : s.slotCheck p (s.fwActive p) first = .good v k) :
    s.bootComplete p first second = ((((s.modPl p fun x => { x with fw := some (v, k) }).setReg (R.AON_FW_VER (planeNum p)) v).bootShows p
      (s.fwActive p) 1 false).afterBoot p) := by
  simp only [State.bootComplete, hst, hfw, hdead, hmnt, htry, hgood, ne_eq, not_true_eq_false, Option.isSome_none, Bool.false_eq_true, or_self,
    if_false]

/-- Good firmware in the other slot alone (R477). -/
theorem State.bootComplete_second (hbad : ∀ w l, s.slotCheck p (s.fwActive p) first ≠ .good w l)
    (hgood : s.slotCheck p (1 - s.fwActive p) second = .good v k) :
    s.bootComplete p first second = (((((s.modPl p fun x => { x with fw := some (v, k) }).setReg (R.AON_FW_VER (planeNum p)) v).bootShows p
      (1 - s.fwActive p) 1 true).raiseP p 156).afterBoot p) := by
  simp only [State.bootComplete, hst, hfw, hdead, hmnt, htry, hgood, ne_eq, not_true_eq_false, Option.isSome_none, Bool.false_eq_true, or_self,
    if_false]

end Boot

/-- A slot with a header that nothing has written is judged as the board came (R476; log 51). -/
theorem State.slotCheck_unwritten {s : State} {p : Plane} {slot : Nat} (h : s.flashOcts p (fwAddr slot) 16 = List.replicate 16 0xFF)
    (c : SlotCheck) : s.slotCheck p slot c = c := by
  have hun : s.fwUnwritten p slot = true := by rw [State.fwUnwritten, State.fwHeader, h]; rfl
  simp only [State.slotCheck, hun, Bool.true_or, if_true]

section Header

variable {s : State} {p : Plane} {slot : Nat} {c : SlotCheck} (hwr : s.flashOcts p (fwAddr slot) 16 ≠ List.replicate 16 0xFF)
include hwr

/-- A slot with a header of its own is judged by it (R476). -/
theorem State.slot_judged (hc : c ≠ .flashErr) : ¬(s.fwUnwritten p slot || c == .flashErr) = true := by
  have hun : s.fwUnwritten p slot = false := beq_eq_false_iff_ne.2 hwr
  rw [hun, beq_eq_false_iff_ne.2 hc]
  decide

theorem State.slotCheck_noHeader (hc : c ≠ .flashErr) (hmagic : octs (s.flashOcts p (fwAddr slot) 16) 0 4 ≠ 0x53584657) :
    s.slotCheck p slot c = .noHeader := (if_neg (State.slot_judged hwr hc)).trans (if_pos hmagic)

theorem State.slotCheck_badLength (hc : c ≠ .flashErr) (hmagic : octs (s.flashOcts p (fwAddr slot) 16) 0 4 = 0x53584657)
    (hlen : 7 * 2 ^ 20 - 512 < octs (s.flashOcts p (fwAddr slot) 16) 12 4) : s.slotCheck p slot c = .badLength :=
  (if_neg (State.slot_judged hwr hc)).trans ((if_neg (not_not.2 hmagic)).trans (if_pos hlen))

theorem State.slotCheck_good {v : Word} {k : BitVec 16} (hmagic : octs (s.flashOcts p (fwAddr slot) 16) 0 4 = 0x53584657)
    (hlen : octs (s.flashOcts p (fwAddr slot) 16) 12 4 ≤ 7 * 2 ^ 20 - 512) (hkey : octs (s.flashOcts p (fwAddr slot) 16) 10 1 ≤ 3) :
    s.slotCheck p slot (.good v k) = .good (BitVec.ofNat 32 (octs (s.flashOcts p (fwAddr slot) 16) 4 4))
      (BitVec.ofNat 16 (octs (s.flashOcts p (fwAddr slot) 16) 8 2)) :=
  (if_neg (State.slot_judged (c := .good v k) hwr nofun)).trans
    ((if_neg (not_not.2 hmagic)).trans ((if_neg hlen.not_gt).trans (if_neg hkey.not_gt)))

end Header

/-! RELEARN -/

/-- Epochs that time has counted while EG0 is disabled, every 1/60 s since `since` (R87). -/
theorem State.relearnCount_eq {s : State} {p : Plane} {x : RelearnS} (h : (s.pl p).relearn = some x) :
    s.relearnCount p = x.count + (if x.loaded && x.counting && !x.suspended && !s.egEn p 0 then
      ((s.pl p).raw.toNat + 2 ^ 64 - x.since) % 2 ^ 64 * 60 / unitsPerSec else 0) := by
  simp only [State.relearnCount, h]
  split <;> rfl

theorem State.relearnMay_loaded {s : State} {p : Plane} {x : RelearnS} (h : (s.pl p).relearn = some x) (hmay : s.relearnMay p = true) :
    (x.loaded && x.counting && !x.suspended) = true := by
  simp only [State.relearnMay, h, Bool.and_eq_true] at hmay
  obtain ⟨⟨⟨⟨⟨-, hloaded⟩, hcounting⟩, -⟩, hfree⟩, -⟩ := hmay
  simp only [hloaded, hcounting, hfree, Bool.and_self]

theorem State.imageLoaded_found {s : State} {p : Plane} {x : RelearnS} {im : List Byte} (hx : (s.pl p).relearn = some x)
    (him : s.findImage p = some im) (hst : (s.pl p).st = .relearn) (hload : x.loaded = false) (hsus : x.suspended = false) :
    s.imageLoaded p = s.relearnLoad p im := by
  simp only [State.imageLoaded, hx, him, hst, hload, hsus, decide_true, Bool.not_false, Bool.and_self, if_true]

theorem State.unmute_eq {s : State} {p : Plane} {x : RelearnS} (hx : (s.pl p).relearn = some x) :
    s.unmute p = s.modPl p fun y => { y with relearn := some { x with muted := false } } := by
  rw [State.unmute, State.modRelearn]
  exact State.modPl_congr (by rw [hx]; rfl)

/-- COLD_START_COUNT_START takes what has been counted, and a cold start counts from then on (R87, R475). -/
theorem State.coldCount_eq {s : State} {p : Plane} {x : RelearnS} (hx : (s.pl p).relearn = some x) :
    s.coldCount p = s.modPl p fun y =>
      { y with relearn := some (if x.cold then { x with count := s.relearnCount p, since := (s.pl p).raw.toNat, counting := true }
                 else { x with count := s.relearnCount p, since := (s.pl p).raw.toNat }) } := by
  rw [State.coldCount, State.modRelearn, State.relearnFold, State.modPl_modPl]
  exact State.modPl_congr (by rw [hx]; rfl)

/-- Settles O27, from what each slot's check gives and from the counts of RELEARN. -/
theorem bootAndRelearnCommands : Obligations.BootAndRelearnCommands := by
  intro s p
  refine ⟨?boot, ?slot, ?load, ?count, ?done, ?limit⟩
  case boot =>
    intro v k second hst hfw hdead hmnt htry first
    exact ⟨fun hgood => exec_drain_of_eq rfl (State.bootComplete_first first second hst hfw hdead hmnt htry hgood),
      fun hbad hgood => exec_drain_of_eq rfl (State.bootComplete_second first second hst hfw hdead hmnt htry hbad hgood)⟩
  case slot =>
    intro slot c h
    refine ⟨fun hun => State.slotCheck_unwritten hun c, fun hwr hc => ⟨State.slotCheck_noHeader hwr hc, State.slotCheck_badLength hwr hc, ?_⟩⟩
    rintro hmagic hlen hkey v k rfl
    exact State.slotCheck_good hwr hmagic hlen hkey
  case load =>
    intro x im hx him hst hload hsus
    exact exec_drain_of_eq rfl (State.imageLoaded_found hx him hst hload hsus)
  case count =>
    intro x hx
    refine ⟨exec_next_of_eq rfl (State.unmute_eq hx), exec_next_of_eq rfl ((State.coldCount_eq hx).trans ?_)⟩
    rw [State.relearnCount_eq hx]
  case done =>
    intro hmay hready
    refine exec_next_of_eq rfl ?_
    rw [State.relearnDone, hmay, hready]
    rfl
  case limit =>
    intro x hx hmay hlimit
    have hcount : s.rf R.AON_PSUP_CTL 15 8 ≤ s.relearnCount p := by
      rw [State.relearnCount_eq hx, State.relearnMay_loaded hx hmay, Bool.true_and]
      cases hen : s.egEn p 0 <;> simpa [hen] using hlimit
    refine exec_next_of_eq rfl ?_
    rw [State.relearnLimit, hmay, decide_eq_true hcount]
    rfl

end Sys2Proof.Machine
end


section
/-!
The phases of a rejoin (R82-R85): what each command of a rejoin does in its phase.
-/
namespace Sys2Proof.Machine

section Rejoin

variable {s : State} {p : Plane} {x : RejoinS} (hx : (s.pl p).rejoin = some x)
include hx

theorem State.rejoinSynced_sync (hphase : x.phase = .sync) :
    s.rejoinSynced p = ((s.alignTime p).modRejoin p fun y => { y with phase := .pass }).setPState p .copy := by
  simp only [State.rejoinSynced, hx, hphase, if_true]

theorem State.rejoinPass_pass (dirty : Nat) (hphase : x.phase = .pass) :
    s.rejoinPass p dirty = s.modRejoin p fun y =>
      { y with passes := y.passes + 1, dirty := dirty,
               phase := if decide (dirty ≤ s.finalMax p) || decide (8 ≤ x.passes) then .awaitGuard else .pass } := by
  simp only [State.rejoinPass, hx, hphase, if_true]

/-- The final pass runs where the dirty set fits; otherwise another pass runs, and the epoch without a final pass counts (R84). -/
theorem State.rejoinFinal_guard (dirty : Nat) (hphase : x.phase = .awaitGuard) (hpause : s.imgPause = false) (hbuf : s.imgBuf = false) :
    s.rejoinFinal p dirty =
      if dirty ≤ s.finalMax p then s.modRejoin p fun y => { y with phase := .final, dirty := dirty }
      else s.modRejoin p fun y =>
        { y with dirty := dirty, passes := y.passes + 1, tries := if y.tries < 16 then y.tries + 1 else y.tries } := by
  simp only [State.rejoinFinal, hx, hphase, hpause, hbuf, ne_eq, not_true_eq_false, Bool.false_eq_true, or_self, if_false]

theorem State.rejoinSlow_sixteen (htries : x.tries = 16) :
    s.rejoinSlow p = (s.modRejoin p fun y => { y with tries := 17 }).raise 116 := by
  simp only [State.rejoinSlow, hx, htries, if_true]

/-- The handover of a rejoin that is no resynchronisation (R83). -/
theorem State.rejoinHandover_final (hphase : x.phase = .final) (hactive : s.active (other p) = true) (hresync : x.resync = false) :
    s.rejoinHandover p = ((((((s.copyRegs p).alignTime p).each [0, 1, 2, 3] fun t i => t.wrapDown p i).setPl p
      (copyPlane (s.pl p) (s.pl (other p)) (s.pl p).st (some { x with phase := .firstRelease }))).setPState p .active).each (s.pl p).finalQ
        fun t e => t.replay p e.1 e.2.1 e.2.2).rejoinCompletes p := by
  simp only [State.rejoinHandover, hx, hphase, hactive, hresync, ne_eq, not_true_eq_false, Bool.not_true, Bool.false_eq_true, or_self, if_false]

theorem State.rejoinFirst_firstRelease (hphase : x.phase = .firstRelease) :
    s.rejoinFirst p = (s.modPl p fun y => { y with rejoin := none }).raise 114 := by
  simp only [State.rejoinFirst, hx, hphase, if_true]

/-- A rejoin that a command began and the Taper link keeps waiting times out (R82). -/
theorem State.rejoinTimeout_waits {m : MaintOp} {c : Cmd} (hphase : x.phase = .waitTaper) (hmnt : s.mntOf p = some m) (hop : m.op = 1)
    (hcmd : m.cmd = some c) (hdown : s.taperUp = false) (hst : (s.pl p).st ≠ .boot ∨ (s.pl p).fw.isSome = true) :
    s.rejoinTimeout p = (s.modPl p fun y => { y with rejoin := none }).mntDone m stTimeout [] := by
  simp only [State.rejoinTimeout, hx, hmnt]
  exact if_pos ⟨hphase, hop, by rw [hcmd]; rfl, by rw [hdown]; rfl, hst⟩

end Rejoin

/-- Settles O28, phase by phase. -/
theorem rejoinCommands : Obligations.RejoinCommands := by
  intro s p x dirty hx
  refine ⟨fun hphase => exec_next_of_eq rfl (State.rejoinSynced_sync hx hphase),
    fun hphase => exec_next_of_eq rfl (State.rejoinPass_pass hx dirty hphase),
    fun hphase hpause hbuf hfits => exec_next_of_eq rfl ((State.rejoinFinal_guard hx dirty hphase hpause hbuf).trans (if_pos hfits)),
    fun hphase hpause hbuf hmore => exec_next_of_eq rfl ((State.rejoinFinal_guard hx dirty hphase hpause hbuf).trans (if_neg hmore.not_ge)),
    fun htries => exec_next_of_eq rfl (State.rejoinSlow_sixteen hx htries),
    fun hphase hactive hresync => exec_drain_of_eq rfl (State.rejoinHandover_final hx hphase hactive hresync),
    fun hphase => exec_next_of_eq rfl (State.rejoinFirst_firstRelease hx hphase),
    fun m c hphase hmnt hop hcmd hdown hst => exec_next_of_eq rfl (State.rejoinTimeout_waits hx hphase hmnt hop hcmd hdown hst)⟩

end Sys2Proof.Machine
end


section
/-!
Power-up, resets, holds and bypass force (R55, R79, R81, R91, R438, R450, R471, R472).
-/
namespace Sys2Proof.Machine

/-! Writes of the AON registers that do more than hold a value -/

/-- A write in the AON range, by its register (R16, R79, R91, R481, R485, R486). -/
theorem State.writeAll_aon {s : State} {r : Req} {off : Nat} (hlo : 0x100000 ≤ off) (hhi : off < 0x200000) (hrow : (rowOf off).isSome = true)
    (v : Word) : s.writeAll r off v =
      if off = R.AON_PSUP_CTL then (s.psupWrite v).1
      else if off = R.AON_BYP_CTL then s.bypWrite v
      else if off = R.AON_PWR_CTL then s.pwrWrite v
      else if off = R.AON_FR_CTL then s.frCtl v
      else if off = R.AON_FR_MARK then s.frMark v
      else s.writeReg r off v := by
  obtain ⟨row, hrow⟩ := Option.isSome_iff_exists.1 hrow
  have hhq : ¬(off = R.HQ_CTL (row.ix1 off) ∧ row.ix1 off < 4) := by simp only [R.HQ_CTL]; omega
  have hbase : isHqBase off = false := by
    simp only [isHqBase, R.HQ_SQ_BASE_LO, R.HQ_SQ_BASE_HI, R.HQ_RQ_BASE_LO, R.HQ_RQ_BASE_HI, List.any_eq_false, List.mem_cons,
      List.not_mem_nil, or_false, Bool.or_eq_true, beq_iff_eq]
    omega
  have hev : ¬((off = R.EV_STATUS (row.ix1 off) ∨ off = R.EV_MASK (row.ix1 off)) ∧ row.ix1 off < 8) := by
    simp only [R.EV_STATUS, R.EV_MASK]; omega
  have hroute : ¬(off = R.EV_ROUTE (row.ix1 off) ∧ row.ix1 off < 256) := by simp only [R.EV_ROUTE]; omega
  simp only [State.writeAll, hrow, if_neg hhi.not_ge, if_neg hhq, hbase, Bool.false_and, Bool.false_eq_true, if_false, if_neg hev, if_neg hroute]

theorem State.regWrite_psup {s : State} {r : Req} (hr : s.reqOn r = true) (v : Word) : s.regWrite r R.AON_PSUP_CTL 4 v = (s.psupWrite v).1 :=
  (State.regWrite_aligned hr (by decide) v).trans ((State.writeAll_aon (by decide) (by decide) (by decide) v).trans (if_pos rfl))

theorem State.regWrite_byp {s : State} {r : Req} (hr : s.reqOn r = true) (v : Word) : s.regWrite r R.AON_BYP_CTL 4 v = s.bypWrite v :=
  (State.regWrite_aligned hr (by decide) v).trans ((State.writeAll_aon (by decide) (by decide) (by decide) v).trans
    ((if_neg (by decide)).trans (if_pos rfl)))

/-! Holds (R79) -/

/-- AON_PSUP_CTL with the fields of a write that are no HOLD bits (R79, R87). -/
def State.psupKept (s : State) (v : Word) : State :=
  (s.when (decide (16 ≤ fld v 15 8)) fun s => s.setRf R.AON_PSUP_CTL 15 8 (fld v 15 8)).setRf R.AON_PSUP_CTL 3 2 (fld v 3 2)

/-- The write sets the HOLD bits of both planes while both are ACTIVE (R79). -/
def State.psupBoth (s : State) (v : Word) : Bool :=
  bit v 0 && bit v 1 && !s.rb R.AON_PSUP_CTL 0 && !s.rb R.AON_PSUP_CTL 1 && s.active .a && s.active .b

/-- Plane `q` has its HOLD bit set after the write: one newly set is refused for the only ACTIVE plane, and for the lead where both planes'
are set (R79). -/
def State.psupHolds (s : State) (v : Word) (q : Plane) : Bool :=
  bit v (planeNum q) && !(!s.rb R.AON_PSUP_CTL (planeNum q) && ((s.active q && !s.active (other q)) || (s.psupBoth v && decide (s.lead = q))))

/-- AON_PSUP_CTL as the write leaves it. -/
def State.psupSet (s : State) (v : Word) : State :=
  ((s.psupKept v).setRb R.AON_PSUP_CTL 0 (s.psupHolds v .a)).setRb R.AON_PSUP_CTL 1 (s.psupHolds v .b)

/-- A plane whose HOLD bit the write has newly set is lost (R79, R81). -/
def State.psupLose (s : State) (v : Word) (t : State) (q : Plane) : State :=
  if s.psupHolds v q && !s.rb R.AON_PSUP_CTL (planeNum q) && t.present q then t.planeLost q .held none else t

theorem State.psupWrite_eq (s : State) (v : Word) :
    (s.psupWrite v).1 = ((s.psupLose v (s.psupLose v (s.psupSet v) .a) .b).holdRule.tryRejoin .a).tryRejoin .b := by
  have hholds (q : Plane) : (bit v (planeNum q) && !(bit v (planeNum q) && !s.rb R.AON_PSUP_CTL (planeNum q) &&
      ((s.active q && !s.active (other q)) || (s.psupBoth v && decide (s.lead = q))))) = s.psupHolds v q := by
    rw [State.psupHolds]
    cases bit v (planeNum q) <;> simp
  have ha := hholds .a
  have hb := hholds .b
  simp only [State.psupWrite, State.psupLose, State.psupSet, ← ha, ← hb]
  rfl

@[simp] theorem State.pl_psupSet (s : State) (v : Word) (q : Plane) : (s.psupSet v).pl q = s.pl q := by
  simp only [State.psupSet, State.psupKept, State.when, State.pl_setRb, State.pl_setRf]
  split <;> simp

theorem State.taperUp_psupSet (s : State) (v : Word) : (s.psupSet v).taperUp = s.taperUp := by
  simp only [State.psupSet, State.psupKept, State.when]
  split <;> rfl

theorem State.rb_psupSet (s : State) (v : Word) (q : Plane) : (s.psupSet v).rb R.AON_PSUP_CTL (planeNum q) = s.psupHolds v q := by
  cases q
  · exact (State.rb_setRb_ne _ _ _ (by decide) (by decide)).trans (State.rb_setRb_same _ _ _ (by decide))
  · exact State.rb_setRb_same _ _ _ (by decide)

/-- Without a HOLD bit no plane is shown HELD (R75). -/
theorem State.holdRule_of_free {t : State} (h : ∀ q, t.rb R.AON_PSUP_CTL (planeNum q) = false) : t.holdRule = t := by
  have hstep (q : Plane) : (if t.rb R.AON_PSUP_CTL (planeNum q) && decide ((t.pl q).st = .off) then t.setPState q (t.downState q) else t) = t := by
    rw [h q]
    rfl
  rw [State.holdRule, State.each]
  exact List.foldl_fixed' hstep bothPlanes

/-- With the Taper link down no rejoin begins (R82). -/
theorem State.tryRejoin_of_down {t : State} {q : Plane} (hdown : t.taperUp = false) (hnone : (t.pl q).rejoin = none) : t.tryRejoin q = t := by
  simp [State.tryRejoin, State.rejoinReady, hdown, hnone]

/-- A write that leaves no HOLD bit set, with the Taper link down and no rejoin, leaves the register alone changed (R79). -/
theorem State.psupWrite_free {s : State} {v : Word} (hfree : ∀ q, s.psupHolds v q = false) (hdown : s.taperUp = false)
    (hnone : ∀ q, (s.pl q).rejoin = none) :
    (s.psupWrite v).1 = ((s.psupKept v).setRb R.AON_PSUP_CTL 0 false).setRb R.AON_PSUP_CTL 1 false := by
  have hlose (t : State) (q : Plane) : s.psupLose v t q = t := by rw [State.psupLose, hfree]; rfl
  have hhold : (s.psupSet v).holdRule = s.psupSet v := State.holdRule_of_free fun q => (s.rb_psupSet v q).trans (hfree q)
  have htry (q : Plane) : (s.psupSet v).tryRejoin q = s.psupSet v :=
    State.tryRejoin_of_down ((s.taperUp_psupSet v).trans hdown) ((congrArg PlaneS.rejoin (s.pl_psupSet v q)).trans (hnone q))
  rw [State.psupWrite_eq, hlose, hlose, hhold, htry, htry, State.psupSet, hfree, hfree]

/-- A write that newly sets the HOLD bit of one present plane, and leaves the other's clear, takes that plane out (R79, R81). -/
theorem State.psupWrite_lone {s : State} {v : Word} {p : Plane} (hholds : ∀ q, s.psupHolds v q = decide (p = q))
    (hnew : s.rb R.AON_PSUP_CTL (planeNum p) = false) (hp : s.present p = true) :
    (s.psupWrite v).1 =
      ((((((s.psupKept v).setRb R.AON_PSUP_CTL 0 (decide (p = .a))).setRb R.AON_PSUP_CTL 1 (decide (p = .b))).planeLost p .held none).holdRule).tryRejoin
        .a).tryRejoin .b := by
  have hpresent : (s.psupSet v).present p = true := by rw [State.present, State.pl_psupSet]; exact hp
  have hother (t : State) {q : Plane} (h : p ≠ q) : s.psupLose v t q = t := by
    rw [State.psupLose, hholds, decide_eq_false h]
    rfl
  have hown : s.psupLose v (s.psupSet v) p = (s.psupSet v).planeLost p .held none := by
    rw [State.psupLose, hholds, hnew, hpresent]
    simp
  have hboth : s.psupLose v (s.psupLose v (s.psupSet v) .a) .b = (s.psupSet v).planeLost p .held none := by
    cases p with
    | a => rw [hown, hother (q := .b) _ (by decide)]
    | b => rw [hother (q := .a) _ (by decide), hown]
  rw [State.psupWrite_eq, hboth, State.psupSet, hholds, hholds]

/-- Which HOLD bits a write names, by the field of both. -/
theorem fld_hold_bits (v : Word) : fld v 1 0 = (bit v 0).toNat + 2 * (bit v 1).toNat := by
  simp only [fld, nfld, bit, BitVec.getLsbD, Nat.toNat_testBit]
  omega

section Bits

variable {s : State} {v : Word}

theorem State.psupHolds_of_clear {q : Plane} (h : bit v (planeNum q) = false) : s.psupHolds v q = false := by
  rw [State.psupHolds, h, Bool.false_and]

/-- No write sets both HOLD bits unless it names both (R79). -/
theorem State.psupBoth_of_clear {q : Plane} (h : bit v (planeNum q) = false) : s.psupBoth v = false := by
  cases q with
  | a => rw [State.psupBoth, show bit v 0 = false from h]; rfl
  | b => rw [State.psupBoth, show bit v 1 = false from h, Bool.and_false]; rfl

/-- The only ACTIVE plane is not held (R79). -/
theorem State.psupHolds_only {q : Plane} (hnew : s.rb R.AON_PSUP_CTL (planeNum q) = false) (hactive : s.active q = true)
    (halone : s.active (other q) = false) : s.psupHolds v q = false := by
  rw [State.psupHolds, hnew, hactive, halone]
  simp

/-- A plane whose peer is ACTIVE is held, where the write does not hold both (R79). -/
theorem State.psupHolds_peer {q : Plane} (hbit : bit v (planeNum q) = true) (hpeer : s.active (other q) = true) (hone : s.psupBoth v = false) :
    s.psupHolds v q = true := by
  rw [State.psupHolds, hbit, hpeer, hone]
  simp

/-- Of both planes ACTIVE the lead is not held by a write that would hold both, and the other one is (R79). -/
theorem State.psupHolds_both {q : Plane} (hbit : bit v (planeNum q) = true) (hnew : s.rb R.AON_PSUP_CTL (planeNum q) = false)
    (hpeer : s.active (other q) = true) (hboth : s.psupBoth v = true) : s.psupHolds v q = decide (s.lead ≠ q) := by
  rw [State.psupHolds, hbit, hnew, hpeer, hboth]
  simp

end Bits

/-- The HOLD bit of one plane alone. -/
theorem hold_bits_of_one {v : Word} {p : Plane} (h : fld v 1 0 = 2 ^ planeNum p) : bit v (planeNum p) = true ∧ bit v (planeNum (other p)) = false := by
  rw [fld_hold_bits] at h
  revert h
  cases p <;> simp only [planeNum, other] <;> cases bit v 0 <;> cases bit v 1 <;> decide

theorem hold_bits_of_none {v : Word} (h : fld v 1 0 = 0) (q : Plane) : bit v (planeNum q) = false := by
  rw [fld_hold_bits] at h
  revert h
  cases q <;> simp only [planeNum] <;> cases bit v 0 <;> cases bit v 1 <;> decide

theorem eq_or_eq_other (p q : Plane) : q = p ∨ q = other p := by cases p <;> cases q <;> decide

theorem ne_iff_other_eq (p q : Plane) : p ≠ q ↔ other p = q := by cases p <;> cases q <;> decide

theorem State.present_of_active {s : State} {p : Plane} (h : s.active p = true) : s.present p = true := by
  have hst : (s.pl p).st = .active := of_decide_eq_true h
  rw [State.present, PlaneS.present, hst]
  rfl

/-! What power and resets do -/

theorem State.planeComes_ready {s : State} {p : Plane} (hst : (s.pl p).st = .off ∨ (s.pl p).st = .held) (hmay : s.mayPower p = true)
    (hfree : s.rb R.AON_PSUP_CTL (planeNum p) = false) (hmaint : s.maint = []) :
    s.planeComes p = { s.planeReset p with qsUp := if s.qsUp.contains p then s.qsUp else s.qsUp ++ [p] }.setPState p .boot :=
  if_pos ⟨hst, hmay, by rw [hfree]; rfl, by rw [hmaint]; rfl⟩

/-- Settles O29, from what a write of AON_PSUP_CTL comes to by the HOLD bits it sets, and from what each reset leaves. -/
theorem powerUpAndReset : Obligations.PowerUpAndReset := by
  intro s r p v
  refine ⟨?domain, ?holds, ?powerOn, ?pin, ?plane, ?resetFalls, ?resetRises, rfl⟩
  case domain => exact fun hp => exec_drain_of_eq rfl (if_pos hp)
  case holds =>
    intro kept free hr
    have hexec {t : State} (h : (s.psupWrite v).1 = t) : exec (.planeHoldSet r v) s = .next (s.after t.drain) :=
      exec_drain_of_eq rfl ((State.regWrite_psup hr v).trans h)
    refine ⟨?release, ?only, ?one, ?any, ?both, exec_next_of_eq rfl (State.regWrite_byp hr v)⟩
    case release =>
      intro hzero hdown hnone
      exact exec_drain_of_eq rfl ((State.regWrite_psup hr v).trans
        (State.psupWrite_free (fun q => State.psupHolds_of_clear (hold_bits_of_none hzero q)) hdown hnone))
    case only =>
      intro hone hnew hactive halone hdown hnone
      refine hexec (State.psupWrite_free (fun q => ?_) hdown hnone)
      obtain rfl | rfl := eq_or_eq_other p q
      · exact State.psupHolds_only hnew hactive halone
      · exact State.psupHolds_of_clear (hold_bits_of_one hone).2
    case one =>
      intro hone hnew hp hpeer
      obtain ⟨hbit, hclear⟩ := hold_bits_of_one hone
      refine hexec (State.psupWrite_lone (fun q => ?_) hnew hp)
      obtain rfl | rfl := eq_or_eq_other p q
      · rw [State.psupHolds_peer hbit hpeer (State.psupBoth_of_clear hclear), decide_eq_true rfl]
      · rw [State.psupHolds_of_clear hclear, decide_eq_false (other_ne p).symm]
    case any =>
      intro held two hold lose
      exact hexec (s.psupWrite_eq v)
    case both =>
      intro h0 h1 hnew0 hnew1 ha hb x
      have hbit (q : Plane) : bit v (planeNum q) = true := by cases q <;> assumption
      have hnew (q : Plane) : s.rb R.AON_PSUP_CTL (planeNum q) = false := by cases q <;> assumption
      have hactive (q : Plane) : s.active q = true := by cases q <;> assumption
      have hboth : s.psupBoth v = true := by rw [State.psupBoth, h0, h1, hnew0, hnew1, ha, hb]; rfl
      refine hexec (State.psupWrite_lone (fun q => ?_) (hnew x) ?_)
      · rw [State.psupHolds_both (hbit q) (hnew q) (hactive _) hboth]
        exact decide_eq_decide.2 (ne_iff_other_eq _ _)
      · exact State.present_of_active (hactive x)
  case powerOn =>
    intro hoff
    exact exec_next_of_eq rfl (if_neg (ne_true_of_eq_false hoff))
  case pin =>
    intro hpow hpin hrst
    exact exec_next_of_eq rfl (if_pos (by rw [hpow, hpin, hrst]; rfl))
  case plane => exact fun hst hmay hfree hmaint => exec_drain_of_eq rfl (State.planeComes_ready hst hmay hfree hmaint)
  case resetFalls =>
    intro hon hrst
    exact exec_drain_of_eq rfl (if_neg (by rw [hon, hrst]; decide))
  case resetRises =>
    intro hrst
    exact exec_next_of_eq rfl (if_neg (by rw [hrst]; decide))

end Sys2Proof.Machine
end


section
/-!
Presentation times (R97, R131): a dial time from its PT64.
-/
namespace Sys2Proof.Machine

/-- A PT64 holds the seconds modulo 2^32 and the nanoseconds of a dial time (R131). -/
theorem toNat_toPt64 (x : Int) :
    (toPt64 x).toNat = x.toNat / 16 / 1000000000 % 2 ^ 32 * 2 ^ 32 + x.toNat / 16 % 1000000000 := by
  simp only [toPt64, BitVec.toNat_ofNat]
  exact Nat.mod_eq_of_lt (by omega)

/-- The seconds that complete a PT64 are those that bring it within 2^31 s of now (R131). -/
theorem fdiv_of_near {now x half q : Int} (hlo : now - half ≤ x) (hhi : x < now + half) :
    Int.fdiv (now + half - 1 - (x - 2 * half * q)) (2 * half) = q := by
  rw [show now + half - 1 - (x - 2 * half * q) = (now + half - 1 - x) + q * (2 * half) by ring,
    Int.add_mul_fdiv_right _ _ (by omega), Int.fdiv_eq_zero_of_lt (by omega) (by omega), Int.zero_add]

/-- Settles O9, since the seconds that PT64 leaves out are those of the window around now. -/
theorem presentationTimeRoundTrip : Obligations.PresentationTimeRoundTrip := by
  intro now x hpos hfrac hlo hhi
  have hpt := toNat_toPt64 x
  have hns : x.toNat / 16 % 1000000000 < 2 ^ 32 := by omega
  have hsec : (toPt64 x).toNat / 2 ^ 32 = x.toNat / 16 / 1000000000 % 2 ^ 32 := by omega
  have hmod : (toPt64 x).toNat % 2 ^ 32 = x.toNat / 16 % 1000000000 := by omega
  refine ⟨?_, by omega⟩
  have hshown : (((x.toNat / 16 / 1000000000 % 2 ^ 32 * 1000000000 + x.toNat / 16 % 1000000000) * 16 : Nat) : Int) =
      x - 2 * (2 ^ 31 * unitsPerSec : Nat) * (x.toNat / 16 / 1000000000 / 2 ^ 32 : Nat) := by
    simp only [unitsPerSec]
    omega
  have hfull : ((2 ^ 32 * unitsPerSec : Nat) : Int) = 2 * (2 ^ 31 * unitsPerSec : Nat) := by simp only [unitsPerSec]; omega
  rw [ofPt64, hsec, hmod, hshown, hfull]
  rw [fdiv_of_near (by simpa using hlo) (by simpa using hhi)]
  omega

end Sys2Proof.Machine
end


section
/-!
The passing of time on an empty queue (R94, R125, R472).
-/
namespace Sys2Proof.Machine

/-- The raw counter of a present plane counts (R94). -/
theorem PlaneS.raw_rawTick (x : PlaneS) : x.rawTick.raw = if x.present then x.raw + 32 else x.raw := by
  unfold PlaneS.rawTick
  split <;> rfl

/-- What does not depend on the AON ticks, their fraction and registers, is as before they count (R472). -/
theorem State.aonTick_keeps {β : Type} (g : State → β) (hfrac : ∀ (s : State) n, g { s with tickFrac := n } = g s)
    (hticks : ∀ (s : State) v, g (s.setReg64 R.AON_TICKS_LO v) = g s) (s : State) : g s.aonTick = g s := by
  unfold State.aonTick
  split
  · rfl
  split
  · exact hfrac ..
  · exact (hticks ..).trans (hfrac ..)

/-- A pair of registers written leaves the others. -/
theorem State.reg_setReg64_ne (s : State) {off o : Nat} (h1 : o ≠ off) (h2 : o ≠ off + 4) (v : Nat) :
    (s.setReg64 off v).reg o = s.reg o := by
  rw [State.setReg64, State.reg_setReg_ne _ h2, State.reg_setReg_ne _ h1]

@[simp] theorem State.pl_setReg64 (s : State) (off v : Nat) (p : Plane) : (s.setReg64 off v).pl p = s.pl p := by
  rw [State.setReg64, State.pl_setReg, State.pl_setReg]

/-- The state of time's passing once the cycle has ended, but for the AON ticks (R94, R125). -/
def State.advanced (e : State) : State :=
  { e with lt := if e.pinOn then ((e.lt : Int) + 32 * 2 ^ 40 + 32 * e.sreg R.LT_FREQ_ADJ).toNat else e.lt
           pA := e.pA.rawTick, pB := e.pB.rawTick }

theorem State.pl_advanced (e : State) (p : Plane) : e.advanced.pl p = (e.pl p).rawTick := by cases p <;> rfl

/-- On an empty queue time passes. -/
theorem step_of_empty {s : State} (h : s.pending = []) : step s = .next (s.after s.tick) := by
  rw [step, h]

/-- Settles O3: the AON ticks touch none of the clocks. -/
theorem timePassesOnAnEmptyQueue : Obligations.TimePassesOnAnEmptyQueue := by
  intro s hempty e
  have htick : s.tick = e.advanced.aonTick := rfl
  clear_value e
  refine ⟨s.tick, step_of_empty hempty, ?_⟩
  rw [htick]
  refine ⟨fun p => ?_, ?_, fun off h1 h2 => ?_, ?_⟩
  · rw [State.aonTick_keeps (fun s => (s.pl p).raw) (fun s n => by cases p <;> rfl) (fun s v => by rw [State.pl_setReg64]),
      State.pl_advanced, PlaneS.raw_rawTick]
    rfl
  · exact State.aonTick_keeps State.lt (fun _ _ => rfl) (fun _ _ => rfl) _
  · exact State.aonTick_keeps (State.reg · off) (fun _ _ => rfl) (fun s v => s.reg_setReg64_ne h1 h2 v) _
  · exact State.aonTick_keeps State.out (fun _ _ => rfl) (fun _ _ => rfl) _

end Sys2Proof.Machine
end


section
/-!
Commits of a time domain (R98-R100, R112).
-/
namespace Sys2Proof.Machine

/-! Pairs and fields written and read back -/

/-- A 64-bit value reads back from its pair (R10). -/
theorem State.reg64_setReg64_same (s : State) (off : Nat) {v : Nat} (h : v < 2 ^ 64) : (s.setReg64 off v).reg64 off = v := by
  have hlo : (s.setReg64 off v).reg off = BitVec.ofNat 32 v :=
    (State.reg_setReg_ne _ (by omega) _).trans (State.reg_setReg_same ..)
  have hhi : (s.setReg64 off v).reg (off + 4) = BitVec.ofNat 32 (v / 2 ^ 32) := State.reg_setReg_same ..
  simp only [State.reg64, hlo, hhi, BitVec.toNat_ofNat]
  omega

/-- A pair reads as its two registers do. -/
theorem State.reg64_congr {s t : State} {off : Nat} (h1 : t.reg off = s.reg off) (h2 : t.reg (off + 4) = s.reg (off + 4)) :
    t.reg64 off = s.reg64 off := by rw [State.reg64, State.reg64, h1, h2]

theorem toU_lt (n : Nat) (x : Int) : toU n x < 2 ^ n := by
  have hpos : (0 : Int) < (2 ^ n : Nat) := by exact_mod_cast Nat.two_pow_pos n
  have h1 := Int.emod_nonneg x hpos.ne'
  have h2 := Int.emod_lt_of_pos x hpos
  simp only [toU]
  omega

theorem State.dial_lt (s : State) (p : Plane) (d : Nat) : s.dial p d < 2 ^ 68 := toU_lt ..

theorem State.snap64_lt (s : State) (off : Nat) : s.snap64 off < 2 ^ 64 := by
  have h1 := (s.snapReg off).isLt
  have h2 := (s.snapReg (off + 4)).isLt
  simp only [State.snap64]
  omega

/-! What a commit writes -/

/-- OFFSET that a domain's commit gives: as written for SET, the dial time stepped for STEP, the dial time for RATE (R99, R100). -/
def State.committedOffset (s : State) (p : Plane) (d : Nat) : Nat :=
  if fld (s.snapReg (R.TD_KIND p d)) 1 0 = 2 then s.snap64 (R.TD_OFFSET_NS_LO p d) * 16 + fld (s.snapReg (R.TD_OFFSET_FRAC p d)) 3 0
  else if fld (s.snapReg (R.TD_KIND p d)) 1 0 = 1 then toU 68 ((s.dial p d : Int) + sext 32 (s.snapReg (R.TD_STEP p d)).toNat)
  else s.dial p d

/-- The anchor that a domain's commit gives: as written for SET, else the present raw value (R99, R100). -/
def State.committedAnchor (s : State) (p : Plane) (d : Nat) : Nat :=
  if fld (s.snapReg (R.TD_KIND p d)) 1 0 = 2 then s.snap64 (R.TD_ANCHOR_LO p d) else (s.pl p).raw.toNat

theorem State.committedOffset_lt (s : State) (p : Plane) (d : Nat) : s.committedOffset p d < 2 ^ 68 := by
  have h1 := s.snap64_lt (R.TD_OFFSET_NS_LO p d)
  have h2 := fld_lt (s.snapReg (R.TD_OFFSET_FRAC p d)) 3 0
  unfold State.committedOffset
  split
  · omega
  split
  · exact toU_lt ..
  · exact s.dial_lt p d

theorem State.committedAnchor_lt (s : State) (p : Plane) (d : Nat) : s.committedAnchor p d < 2 ^ 64 := by
  unfold State.committedAnchor
  split
  · exact s.snap64_lt _
  · exact (s.pl p).raw.isLt

/-- The registers of a domain with a commit's parameters, OFFSET and anchor (R99). -/
def State.tdWritten (s : State) (p : Plane) (d offset anchor : Nat) : State :=
  ((((((s.setReg (R.TD_KIND p d) (s.snapReg (R.TD_KIND p d))).setReg (R.TD_INC_ADJ p d) (s.snapReg (R.TD_INC_ADJ p d))).setReg
    (R.TD_STEP p d) (s.snapReg (R.TD_STEP p d))).setReg64 (R.TD_OFFSET_NS_LO p d) (offset / 16)).setReg (R.TD_OFFSET_FRAC p d)
      (BitVec.ofNat 32 (offset % 16))).setReg64 (R.TD_ANCHOR_LO p d) anchor).endCommit (R.TD_STAGE_CTL p d)

/-- A domain once its commit has applied, before any fold into the bridge (R99). -/
def State.tdTaken (s : State) (p : Plane) (d : Nat) : State :=
  ((((s.tdWritten p d (s.committedOffset p d) (s.committedAnchor p d)).unstage (R.TD_INC_ADJ p d) (R.TD_STEP p d)).unstage
    (R.TD_OFFSET_NS_LO p d) (R.TD_CFG p d)).setStaged (R.TD_STEP p d) 0).modPl p fun x =>
      { x with dom := modAt d (fun y => { y with seed := false }) x.dom }

@[simp] theorem State.reg_setStaged (s : State) (off : Nat) (v : Word) (o : Nat) : (s.setStaged off v).reg o = s.reg o := rfl

@[simp] theorem State.pl_setStaged (s : State) (off : Nat) (v : Word) (q : Plane) : (s.setStaged off v).pl q = s.pl q := by cases q <;> rfl

@[simp] theorem State.pl_unstage (s : State) (lo hi : Nat) (q : Plane) : (s.unstage lo hi).pl q = s.pl q := by cases q <;> rfl

@[simp] theorem State.pl_endCommit (s : State) (sc : Nat) (q : Plane) : (s.endCommit sc).pl q = s.pl q := by cases q <;> rfl

@[simp] theorem State.setStaged_out (s : State) (off : Nat) (v : Word) : (s.setStaged off v).out = s.out := rfl

@[simp] theorem State.unstage_out (s : State) (lo hi : Nat) : (s.unstage lo hi).out = s.out := rfl

@[simp] theorem State.endCommit_out (s : State) (sc : Nat) : (s.endCommit sc).out = s.out := rfl

@[simp] theorem State.setReg64_out (s : State) (off v : Nat) : (s.setReg64 off v).out = s.out := rfl

section Written

variable (s : State) (p : Plane) (d : Nat)

theorem State.reg_tdTaken (o : Nat) : (s.tdTaken p d).reg o = (s.tdWritten p d (s.committedOffset p d) (s.committedAnchor p d)).reg o := by
  rw [State.tdTaken, State.reg_modPl, State.reg_setStaged, State.reg_unstage, State.reg_unstage]

/-- Outside its block's registers before TD_CFG a domain's commit writes nothing. -/
theorem State.reg_tdTaken_apart {o : Nat} (h : o < R.TD_STAGE_CTL p d ∨ R.TD_CFG p d ≤ o) : (s.tdTaken p d).reg o = s.reg o := by
  simp only [R.TD_STAGE_CTL, R.TD_CFG] at h
  rw [State.reg_tdTaken, State.tdWritten, State.reg_endCommit_ne, State.reg_setReg64_ne, State.reg_setReg_ne, State.reg_setReg64_ne,
    State.reg_setReg_ne, State.reg_setReg_ne, State.reg_setReg_ne] <;>
    simp only [R.TD_KIND, R.TD_INC_ADJ, R.TD_STEP, R.TD_OFFSET_NS_LO, R.TD_OFFSET_FRAC, R.TD_ANCHOR_LO, R.TD_STAGE_CTL] <;> omega

theorem State.reg_tdTaken_incAdj : (s.tdTaken p d).reg (R.TD_INC_ADJ p d) = s.snapReg (R.TD_INC_ADJ p d) := by
  rw [State.reg_tdTaken, State.tdWritten, State.reg_endCommit_ne, State.reg_setReg64_ne, State.reg_setReg_ne, State.reg_setReg64_ne,
    State.reg_setReg_ne, State.reg_setReg_same] <;>
    simp only [R.TD_INC_ADJ, R.TD_STEP, R.TD_OFFSET_NS_LO, R.TD_OFFSET_FRAC, R.TD_ANCHOR_LO, R.TD_STAGE_CTL] <;> omega

theorem State.rb_tdTaken_pending : (s.tdTaken p d).rb (R.TD_STAGE_CTL p d) 31 = false := by
  rw [State.rb, State.reg_tdTaken]
  exact State.rb_endCommit_pending ..

/-- OFFSET after a commit (R97, R102). -/
theorem State.tdOffset_tdTaken : (s.tdTaken p d).tdOffset p d = s.committedOffset p d := by
  have hlt := s.committedOffset_lt p d
  have hns : (s.tdTaken p d).reg64 (R.TD_OFFSET_NS_LO p d) = s.committedOffset p d / 16 := by
    refine Eq.trans ?_ (State.reg64_setReg64_same (((s.setReg (R.TD_KIND p d) (s.snapReg (R.TD_KIND p d))).setReg (R.TD_INC_ADJ p d)
      (s.snapReg (R.TD_INC_ADJ p d))).setReg (R.TD_STEP p d) (s.snapReg (R.TD_STEP p d))) (R.TD_OFFSET_NS_LO p d) (by omega))
    apply State.reg64_congr <;> rw [State.reg_tdTaken, State.tdWritten, State.reg_endCommit_ne, State.reg_setReg64_ne, State.reg_setReg_ne] <;>
      simp only [R.TD_OFFSET_NS_LO, R.TD_OFFSET_FRAC, R.TD_ANCHOR_LO, R.TD_STAGE_CTL] <;> omega
  have hfrac : (s.tdTaken p d).reg (R.TD_OFFSET_FRAC p d) = BitVec.ofNat 32 (s.committedOffset p d % 16) := by
    rw [State.reg_tdTaken, State.tdWritten, State.reg_endCommit_ne, State.reg_setReg64_ne, State.reg_setReg_same] <;>
      simp only [R.TD_OFFSET_FRAC, R.TD_ANCHOR_LO, R.TD_STAGE_CTL] <;> omega
  simp only [State.tdOffset, State.rf, hns, hfrac, fld, nfld, BitVec.toNat_ofNat]
  omega

theorem State.anchor_tdTaken : (s.tdTaken p d).reg64 (R.TD_ANCHOR_LO p d) = s.committedAnchor p d := by
  rw [State.reg64, State.reg_tdTaken, State.reg_tdTaken, State.tdWritten, State.reg_endCommit_ne, State.reg_endCommit_ne, ← State.reg64]
  · exact State.reg64_setReg64_same _ _ (s.committedAnchor_lt p d)
  all_goals simp only [R.TD_ANCHOR_LO, R.TD_STAGE_CTL]; omega

theorem State.bridge_tdTaken (q : Plane) : ((s.tdTaken p d).pl q).bridge = (s.pl q).bridge := by
  have hpl : ∀ q, (s.tdWritten p d (s.committedOffset p d) (s.committedAnchor p d)).pl q = s.pl q := fun q => by
    simp only [State.tdWritten, State.pl_endCommit, State.pl_setReg64, State.pl_setReg]
  by_cases h : q = p
  · subst h
    rw [State.tdTaken, State.pl_modPl_same, State.pl_setStaged, State.pl_unstage, State.pl_unstage, hpl]
  · rw [State.tdTaken, State.pl_modPl_ne _ h, State.pl_setStaged, State.pl_unstage, State.pl_unstage, hpl]

theorem State.out_tdTaken : (s.tdTaken p d).out = s.out := by
  simp only [State.tdTaken, State.tdWritten, State.modPl_out, State.setStaged_out, State.unstage_out, State.endCommit_out, State.setReg64_out,
    State.setReg_out]

end Written

/-- A commit without the seed of RELEARN: what it writes, and its fold into the bridge where the domain is selected (R99, R112). -/
theorem State.tdApply_pending {s : State} {p : Plane} {d : Nat} (hpend : s.rb (R.TD_STAGE_CTL p d) 31 = true)
    (hseed : ((s.pl p).dom.getD d DomS.rest).seed = false) :
    s.tdApply p d =
      if (fld (s.snapReg (R.TD_KIND p d)) 1 0 = 1 ∨ fld (s.snapReg (R.TD_KIND p d)) 1 0 = 2) ∧ s.sel p = d ∧ (s.pl p).cold = false then
        ((s.tdTaken p d).modPl p fun x =>
          { x with bridge := x.bridge - sext 68 (toU 68 (((s.tdTaken p d).dial p d : Int) - s.dial p d)) }).checkBridge p
      else s.tdTaken p d := by
  simp only [State.tdApply, State.pendingAt, hpend, hseed, Bool.not_true, Bool.false_eq_true, if_false, Bool.not_false, and_true,
    Bool.not_eq_true', State.tdTaken, State.tdWritten, State.committedOffset, State.committedAnchor]

/-- Settles O19, by what a commit writes for each KIND. -/
theorem domainCommit : Obligations.DomainCommit := by
  intro s p d hpend hseed kind raw
  refine ⟨s.tdTaken p d, ?_, s.rb_tdTaken_pending p d, s.reg_tdTaken_incAdj p d, fun hset => ?_, fun hstep => ?_, fun hrate => ?_,
    s.bridge_tdTaken p d, s.out_tdTaken p d, fun off => s.reg_tdTaken_apart p d⟩
  · exact exec_next_of_eq rfl (State.tdApply_pending hpend hseed)
  all_goals rw [State.tdOffset_tdTaken, State.anchor_tdTaken, State.committedOffset, State.committedAnchor]
  · exact ⟨if_pos hset, if_pos hset⟩
  · have hne : kind ≠ 2 := by omega
    exact ⟨(if_neg hne).trans (if_pos hstep), if_neg hne⟩
  · have hne : kind ≠ 2 := by omega
    have hne' : kind ≠ 1 := by omega
    exact ⟨(if_neg hne).trans (if_neg hne'), if_neg hne⟩

end Sys2Proof.Machine
end


section
/-!
Lantern time, its mirror, and the planes' skew (R125-R129).
-/
namespace Sys2Proof.Machine

/-! The discipline of Lantern time (R126) -/

theorem clamp_mem {lo hi : Int} (h : lo ≤ hi) (x : Int) : lo ≤ clamp lo hi x ∧ clamp lo hi x ≤ hi := by
  unfold clamp
  split_ifs <;> omega

/-- A value within a register's signed range reads back from it. -/
theorem sext_ofNat_toU {x : Int} (hlo : -2 ^ 31 ≤ x) (hhi : x < 2 ^ 31) : sext 32 (BitVec.ofNat 32 (toU 32 x)).toNat = x := by
  simp only [sext, toU, BitVec.toNat_ofNat]
  split_ifs <;> omega

/-- What a discipline sample shows of the reference (R126). -/
def State.ltMarked (s : State) : State :=
  ((s.setReg R.LT_PHASE_ERR (BitVec.ofNat 32 (toU 32 (clamp (-2147483648) 2147483647 (s.release s.lead - s.lantern))))).setRf R.LT_STATUS
    31 30 1).setRf R.LT_STATUS 29 29 (planeNum s.lead)

/-- The state once a discipline sample has measured the reference (R126). -/
def State.ltShown (s : State) : State := { s.ltMarked with ltPhase := s.release s.lead - s.lantern }

theorem State.reg_with_ltPhase (s : State) (x : Int) (o : Nat) : State.reg { s with ltPhase := x } o = s.reg o := rfl

theorem State.reg_ltShown (s : State) (o : Nat) : s.ltShown.reg o = s.ltMarked.reg o := State.reg_with_ltPhase ..

theorem State.ltShown_out (s : State) : s.ltShown.out = s.out := by
  simp only [State.ltShown, State.ltMarked, State.setRf, State.setReg_out]

theorem State.reg_ltMarked_ne (s : State) {o : Nat} (h1 : o ≠ R.LT_STATUS) (h2 : o ≠ R.LT_PHASE_ERR) : s.ltMarked.reg o = s.reg o := by
  rw [State.ltMarked, State.reg_setRf_ne _ h1, State.reg_setRf_ne _ h1, State.reg_setReg_ne _ h2]

theorem State.lanternSample_first {s : State} (hpin : s.pinOn = true) (hlead : s.active s.lead = true)
    (h : s.rf R.LT_STATUS 31 30 = 0 ∨ s.ltStep = true) : s.lanternSample = s.ltShown.lanternSet (s.release s.lead) := by
  simp only [State.lanternSample, hpin, hlead, h, Bool.not_true, Bool.or_self, Bool.false_eq_true, if_false, if_true, State.ltShown, State.ltMarked]

/-- What a later sample does with the error that it has measured, `t` being Lantern time (R126). -/
def State.ltDrawn (s : State) (t : Nat) (err : Int) : State :=
  let (f, s1) := s.free32
  let (w, s2) := s1.free32
  let step : Int := ((min (w.toNat % 17) err.natAbs * 2 ^ 40 : Nat) : Int)
  let lt : Int := (t : Int) + (if err < 0 then -step else step)
  { s2 with lt := lt.toNat }.setReg R.LT_FREQ_ADJ (BitVec.ofNat 32 (toU 32 (clamp (-219902325) 219902325 (sext 32 f.toNat))))

theorem State.lanternSample_later {s : State} (hpin : s.pinOn = true) (hlead : s.active s.lead = true)
    (hmode : s.rf R.LT_STATUS 31 30 ≠ 0) (hstep : s.ltStep = false) :
    s.lanternSample = s.ltShown.ltDrawn s.lt (s.release s.lead - s.lantern) := by
  simp only [State.lanternSample, hpin, hlead, hmode, hstep, Bool.not_true, Bool.or_self, Bool.false_eq_true, or_self, if_false]
  rfl

section Drawn

variable (s : State) (t : Nat) (err : Int)

theorem State.lt_ltDrawn : (s.ltDrawn t err).lt = ((t : Int) + if err < 0 then
    -((min ((Config.freeWord (s.freeCtr + 1)).toNat % 17) err.natAbs * 2 ^ 40 : Nat) : Int)
    else ((min ((Config.freeWord (s.freeCtr + 1)).toNat % 17) err.natAbs * 2 ^ 40 : Nat) : Int)).toNat := rfl

/-- Lantern time moves towards the plane's release time, by no more than 16 units and never beyond (R126). -/
theorem State.lt_ltDrawn_bounds :
    (err < 0 → (s.ltDrawn t err).lt ≤ t ∧ t ≤ (s.ltDrawn t err).lt + min 16 err.natAbs * 2 ^ 40) ∧
    (0 ≤ err → t ≤ (s.ltDrawn t err).lt ∧ (s.ltDrawn t err).lt ≤ t + min 16 err.natAbs * 2 ^ 40) := by
  have h := Nat.mod_lt (Config.freeWord (s.freeCtr + 1)).toNat (show 0 < 17 by decide)
  rw [State.lt_ltDrawn]
  generalize (Config.freeWord (s.freeCtr + 1)).toNat % 17 = w at *
  refine ⟨fun he => ?_, fun he => ?_⟩
  · rw [if_pos he]; omega
  · rw [if_neg (not_lt.2 he)]; omega

/-- The frequency word is within the limit of R126. -/
theorem State.freq_ltDrawn : (sext 32 ((s.ltDrawn t err).reg R.LT_FREQ_ADJ).toNat).natAbs ≤ 219902325 := by
  obtain ⟨hlo, hhi⟩ := clamp_mem (lo := -219902325) (hi := 219902325) (by decide) (sext 32 (Config.freeWord s.freeCtr).toNat)
  have hreg : (s.ltDrawn t err).reg R.LT_FREQ_ADJ = _ := State.reg_setReg_same ..
  rw [hreg, sext_ofNat_toU (by omega) (by omega)]
  omega

theorem State.reg_ltDrawn_ne {o : Nat} (h : o ≠ R.LT_FREQ_ADJ) : (s.ltDrawn t err).reg o = s.reg o := State.reg_setReg_ne _ h _

theorem State.ltDrawn_out : (s.ltDrawn t err).out = s.out := rfl

end Drawn

/-- Settles O24, sample by sample: what sets Lantern time, and what draws it nearer. -/
theorem lanternCommands : Obligations.LanternCommands := by
  intro s p g
  refine ⟨?sample, fun hpin htrack => ?holdover, fun hpin hen => ?mirror, ?skew⟩
  case sample =>
    intro hpin hlead x err s1
    refine ⟨fun hfirst => exec_next_of_eq rfl (State.lanternSample_first hpin hlead hfirst), fun hmode hstep => ?_⟩
    refine ⟨_, exec_next_of_eq rfl (State.lanternSample_later hpin hlead hmode hstep), ?_⟩
    obtain ⟨hback, hforth⟩ := s.ltShown.lt_ltDrawn_bounds s.lt (s.release s.lead - s.lantern)
    have hreg (o : Nat) (h : o ≠ R.LT_FREQ_ADJ) := (s.ltShown.reg_ltDrawn_ne s.lt (s.release s.lead - s.lantern) h).trans (s.reg_ltShown o)
    exact ⟨hreg _ (by decide), hreg _ (by decide), State.freq_ltDrawn .., hback, hforth,
      fun o h1 h2 h3 => (hreg o h3).trans (s.reg_ltMarked_ne h1 h2), (State.ltDrawn_out ..).trans s.ltShown_out⟩
  case holdover => exact exec_next_of_eq rfl (if_pos (by rw [hpin, htrack]; rfl))
  case mirror => exact exec_next_of_eq rfl (if_pos (by rw [hpin, hen]; rfl))
  case skew =>
    intro hmode v far n
    exact exec_next_of_eq rfl (if_neg (not_not.2 hmode))

end Sys2Proof.Machine
end


section
/-!
Captured edges and LTC frames (R105, R313, R318, R319).
-/
namespace Sys2Proof.Machine

/-- The state once an edge's stamp and count are shown and its event is raised (R313, R317). -/
def State.edgeShown (s : State) (i : Fin 8) (rising : Bool) (t : Int) : State :=
  ((((({ s with ci := modAt i.val (fun x => { x with last := some t }) s.ci } : State).setReg64 (R.CI_LAST_LO i.val) (t.toNat / 16)).setReg
    (R.CI_COUNT i.val) (s.reg (R.CI_COUNT i.val) + 1)).setRb (R.CI_STATUS i.val) 31 rising).setRb (R.CI_STATUS i.val) 30 true).raise (80 + i.val)

/-- The first edge that an input takes on either slope: shown, and a measurement of the servos whose source it is (R105, R313). -/
theorem State.captureEdge_first {s : State} {i : Fin 8} {rising : Bool} (hpin : s.pinOn = true)
    (hen : bit (s.reg (R.CI_CFG i.val)) 31 = true) (hedges : fld (s.reg (R.CI_CFG i.val)) 30 29 = 3)
    (hlast : (s.ci.getD i.val ⟨none, 0⟩).last = none) :
    s.captureEdge i rising =
      let t : Int := ((s.lantern + 31) / 32 * 32 : Nat) - (Config.captureDelay i.val : Nat)
      ((s.edgeShown i rising t).refSeen (fun src inp => (src == 2 || (src == 3 && rising)) && inp == i.val)
        fun p d y => nearer y.meas (s.edgeOffset p y.cfg (s.toDial p d (s.toRelease t)))).when (bit (s.reg (R.CI_CFG i.val)) 28)
          fun u => u.lanEnter t (.capture i rising (s.reg (R.CI_COUNT i.val) + 1)) := by
  simp only [State.captureEdge, hpin, hen, hedges, hlast, Bool.not_true, Bool.or_self, Bool.false_eq_true, if_false, if_true,
    State.edgeShown]

/-- Settles O45: what an edge, a frame and the loss of lock do where none of them is ignored. -/
theorem captureAndLtc : Obligations.CaptureAndLtc := by
  intro s i j rising rate hms ub start
  refine ⟨fun hpin hen hedges hlast => ?edge, fun hpin => ?frame, fun hlock => exec_next_of_eq rfl (if_pos hlock)⟩
  case edge =>
    intro t n u
    have hedge := State.captureEdge_first (rising := rising) hpin hen hedges hlast
    exact ⟨fun hout => ⟨_, exec_next_of_eq rfl (hedge.trans (if_neg (ne_true_of_eq_false hout))), rfl⟩,
      fun hin => ⟨_, exec_next_of_eq rfl (hedge.trans (if_pos hin)), rfl⟩⟩
  case frame =>
    intro n s1 u
    exact ⟨_, exec_next_of_eq rfl (if_neg (by rw [hpin]; decide)), rfl⟩

end Sys2Proof.Machine
end


section
/-!
States of a time domain (R103-R107, R134).
-/
namespace Sys2Proof.Machine

/-! Elements of lists and domains of a plane -/

theorem getD_modAt_same {α : Type} {i : Nat} (f : α → α) {l : List α} (h : i < l.length) (d : α) : (modAt i f l).getD i d = f (l.getD i d) := by
  induction l generalizing i with
  | nil => exact absurd h (Nat.not_lt_zero i)
  | cons x xs ih =>
    cases i with
    | zero => rfl
    | succ i => exact ih (Nat.lt_of_succ_lt_succ h)

/-- What a change of an element keeps of it, it keeps at every place of a list. -/
theorem getD_modAt_keeps {α β : Type} (g : α → β) {f : α → α} (hf : ∀ x, g (f x) = g x) (i j : Nat) (l : List α) (d : α) :
    g ((modAt i f l).getD j d) = g (l.getD j d) := by
  induction l generalizing i j with
  | nil => rw [modAt]
  | cons x xs ih =>
    cases i <;> cases j
    · exact hf x
    · rfl
    · rfl
    · exact ih ..

@[simp] theorem length_modAt {α : Type} (i : Nat) (f : α → α) (l : List α) : (modAt i f l).length = l.length := by
  induction l generalizing i with
  | nil => rw [modAt]
  | cons x xs ih => cases i <;> simp [modAt, ih]

section Domain

variable (s : State) (p : Plane) (d : Nat)

theorem State.reg_modDom (f : DomS → DomS) (o : Nat) : (s.modDom p d f).reg o = s.reg o := State.reg_modPl ..

theorem State.dom_modDom (f : DomS → DomS) : ((s.modDom p d f).pl p).dom = modAt d f (s.pl p).dom := by
  rw [State.modDom, State.pl_modPl_same]

theorem State.domS_modDom {d : Nat} (f : DomS → DomS) (h : d < (s.pl p).dom.length) :
    ((s.modDom p d f).pl p).domS d = f ((s.pl p).domS d) := by
  rw [PlaneS.domS, State.dom_modDom, getD_modAt_same f h, PlaneS.domS]

/-- A change that keeps the count of updates within 50 ns. -/
theorem State.run_modDom {f : DomS → DomS} (hf : ∀ y, (f y).run = y.run) :
    (((s.modDom p d f).pl p).domS d).run = ((s.pl p).domS d).run := by
  rw [PlaneS.domS, State.dom_modDom, getD_modAt_keeps DomS.run hf, PlaneS.domS]

/-! Commits of a servo -/

theorem State.pl_commit (sc : Nat) (q : Plane) : (s.commit sc).pl q = s.pl q := by
  unfold State.commit
  split <;> cases q <;> rfl

/-- A commit writes its stage control register alone. -/
theorem State.reg_commit_of_ne {sc o : Nat} (h : o ≠ sc) : (s.commit sc).reg o = s.reg o := by
  unfold State.commit
  split <;> exact State.reg_setRb_ne _ h ..

theorem State.pl_free32 (q : Plane) : s.free32.2.pl q = s.pl q := by cases q <;> rfl

theorem State.reg_servoRate_ne (kind : Nat) {o : Nat} (h : o ≠ R.TD_STAGE_CTL p d) : (s.servoRate p d kind).reg o = s.reg o := by
  unfold State.servoRate
  dsimp only
  split <;> exact (State.reg_modDom ..).trans (State.reg_commit_of_ne _ h)

theorem State.run_servoRate (kind : Nat) : (((s.servoRate p d kind).pl p).domS d).run = ((s.pl p).domS d).run := by
  unfold State.servoRate
  dsimp only
  split
  all_goals
    rw [State.run_modDom]
    · simp only [State.pl_commit, State.pl_setStaged, State.pl_free32]
    · exact fun _ => rfl

theorem tdStatus_ne_stageCtl : R.TD_STATUS p d ≠ R.TD_STAGE_CTL p d := by
  simp only [R.TD_STATUS, R.TD_STAGE_CTL]
  omega

theorem State.rf_servoRate (kind hi lo : Nat) : (s.servoRate p d kind).rf (R.TD_STATUS p d) hi lo = s.rf (R.TD_STATUS p d) hi lo := by
  rw [State.rf, State.reg_servoRate_ne _ _ _ _ (tdStatus_ne_stageCtl p d), State.rf]

theorem State.domState_servoRate (kind : Nat) : (s.servoRate p d kind).domState p d = s.domState p d := s.rf_servoRate ..

theorem State.domState_setDom {st : Nat} (h : st < 16) : (s.setDom p d st).domState p d = st := by
  rw [State.domState, State.rf, State.setDom, State.setRf, State.reg_setReg_same, fld_setFld_same _ _ _ _ (by decide) (by decide)]
  exact Nat.mod_eq_of_lt h

/-- The state of a domain stands apart from the offset that its register shows. -/
theorem State.offset_setDom (st : Nat) : (s.setDom p d st).rf (R.TD_STATUS p d) 23 0 = s.rf (R.TD_STATUS p d) 23 0 := by
  rw [State.rf, State.setDom, State.setRf, State.reg_setReg_same, fld_setFld_apart _ _ (by decide) (by decide) (.inl (by decide)), State.rf]

theorem State.pl_setDom (st : Nat) (q : Plane) : (s.setDom p d st).pl q = s.pl q := State.pl_setRf ..

theorem State.reg_ltcStep_ne (sec : Int) {o : Nat} (h : o ≠ R.TD_STAGE_CTL p d) : (s.ltcStep p d sec).reg o = s.reg o := by
  simp only [State.ltcStep, State.reg_commit_of_ne _ h, State.setStaged64, State.reg_setStaged]

theorem State.pl_ltcStep (sec : Int) (q : Plane) : (s.ltcStep p d sec).pl q = s.pl q := by
  simp only [State.ltcStep, State.pl_commit, State.setStaged64, State.pl_setStaged]

theorem State.reg_servoTakes_ne {o : Nat} (h : o ≠ R.TD_STAGE_CTL p d) : (s.servoTakes p d).reg o = s.reg o := by
  unfold State.servoTakes State.when
  dsimp only
  split
  · rw [State.reg_ltcStep_ne _ _ _ _ h, State.reg_modDom]
  · rw [State.reg_modDom]

theorem State.rf_servoTakes (hi lo : Nat) : (s.servoTakes p d).rf (R.TD_STATUS p d) hi lo = s.rf (R.TD_STATUS p d) hi lo := by
  rw [State.rf, State.reg_servoTakes_ne _ _ _ (tdStatus_ne_stageCtl p d), State.rf]

/-- Taking up a configuration keeps the number of domains. -/
theorem State.length_servoTakes : ((s.servoTakes p d).pl p).dom.length = (s.pl p).dom.length := by
  unfold State.servoTakes State.when
  dsimp only
  split <;> simp only [State.pl_ltcStep, State.dom_modDom, length_modAt]

/-! Entry to HOLDOVER (R106) -/

theorem State.domState_holdover : (s.holdover p d).domState p d = 4 := by
  unfold State.holdover
  dsimp only
  rw [State.domState, State.rf, State.reg_modDom]
  exact State.domState_setDom _ p d (by decide)

theorem State.offset_holdover : (s.holdover p d).rf (R.TD_STATUS p d) 23 0 = s.rf (R.TD_STATUS p d) 23 0 := by
  unfold State.holdover
  dsimp only
  rw [State.rf, State.reg_modDom, ← State.rf, State.offset_setDom, State.rf, State.reg_commit_of_ne _ (tdStatus_ne_stageCtl p d)]
  rfl

/-! A servo's update with a measured offset (R104-R106) -/

/-- Consecutive updates within 50 ns; in LOCKED_PEER only those against the plane's own reference count. -/
def State.servoRun (offset : Int) : Nat :=
  if s.domState p d = 3 ∧ !((s.pl p).domS d).ref then 0
  else if offset.natAbs ≤ 800 then ((s.pl p).domS d).run + 1 else 0

/-- The domain with its configuration taken up, the offset shown and the update counted. -/
def State.servoShown (offset : Int) : State :=
  ((s.servoTakes p d).setRf (R.TD_STATUS p d) 23 0 (toU 24 (clamp (-8388607) 8388607 offset))).modDom p d fun y =>
    { y with run := s.servoRun p d offset }

/-- The domain's state after the update: what the servo does in each state. -/
def State.servoMoved (offset : Int) : State :=
  let t := s.servoShown p d offset
  let run := s.servoRun p d offset
  let kind := if 160000 < offset.natAbs then 1 else 0
  if s.domState p d = 3 ∧ !s.peerLocked p d then t.holdover p d
  else if s.domState p d = 3 then
    (if ((s.pl p).domS d).ref ∧ 16 ≤ run then (t.setDom p d 2).servoRate p d 0 else t.servoRate p d 0)
  else if s.domState p d = 2 then
    (if 16000 < offset.natAbs then (t.setDom p d 1).servoRate p d kind else t.servoRate p d 0)
  else if 16 ≤ run ∧ s.domState p d = 1 then (t.setDom p d 2).servoRate p d 0
  else (t.setDom p d 1).servoRate p d kind

theorem State.servoUpdate_measured {s : State} {p : Plane} {d : Nat} {offset : Int} (hp : s.present p = true)
    (hsrc : srcCfg (s.reg (R.TD_CFG p d)) ≠ 0) (hmeas : s.measured p d = some offset) :
    s.servoUpdate p d = (State.domEvents s (s.servoMoved p d offset)).autoSwitch p := by
  simp only [State.servoUpdate, hp, hsrc, hmeas, Bool.not_true, Bool.false_eq_true, if_false]
  rfl

theorem State.domState_servoShown (offset : Int) : (s.servoShown p d offset).domState p d = s.domState p d := by
  rw [State.domState, State.rf, State.servoShown, State.reg_modDom, State.setRf, State.reg_setReg_same,
    fld_setFld_apart _ _ (by decide) (by decide) (.inr (by decide)), ← State.rf, State.rf_servoTakes, State.domState]

theorem State.offset_servoShown (offset : Int) :
    (s.servoShown p d offset).rf (R.TD_STATUS p d) 23 0 = toU 24 (clamp (-8388607) 8388607 offset) := by
  rw [State.rf, State.servoShown, State.reg_modDom, State.setRf, State.reg_setReg_same, fld_setFld_same _ _ _ _ (by decide) (by decide)]
  exact Nat.mod_eq_of_lt (toU_lt 24 _)

theorem State.run_servoShown {d : Nat} (h : d < (s.pl p).dom.length) (offset : Int) :
    (((s.servoShown p d offset).pl p).domS d).run = s.servoRun p d offset := by
  rw [State.servoShown, State.domS_modDom]
  rw [State.pl_setRf, State.length_servoTakes]
  exact h

/-- Whatever an update does to a domain's state, the offset stays shown. -/
theorem State.offset_servoMoved (offset : Int) :
    (s.servoMoved p d offset).rf (R.TD_STATUS p d) 23 0 = toU 24 (clamp (-8388607) 8388607 offset) := by
  rw [← s.offset_servoShown p d offset]
  unfold State.servoMoved
  dsimp only
  split_ifs <;> simp only [State.offset_holdover, State.rf_servoRate, State.offset_setDom]

theorem State.run_servoMoved {d : Nat} (h : d < (s.pl p).dom.length) (offset : Int) (hst : s.domState p d ≠ 3) :
    (((s.servoMoved p d offset).pl p).domS d).run = if offset.natAbs ≤ 800 then ((s.pl p).domS d).run + 1 else 0 := by
  have hrun : s.servoRun p d offset = if offset.natAbs ≤ 800 then ((s.pl p).domS d).run + 1 else 0 := if_neg fun h => hst h.1
  rw [← hrun, ← s.run_servoShown p h offset, State.servoMoved, if_neg fun h => hst h.1, if_neg hst]
  split_ifs <;> simp only [State.run_servoRate, State.pl_setDom]

/-! The reference of a domain lost or not set (R103, R106) -/

/-- A domain whose reference is lost, before its device state is looked at. -/
def State.refDropped (s : State) (p : Plane) (d : Nat) : State :=
  let t := s.modDom p d fun y => { y with ref := false, run := 0 }
  if s.domState p d = 3 then (if s.peerLocked p d then t else t.holdover p d)
  else if (s.domState p d = 2 ∨ s.domState p d = 1) ∧ s.peerLocked p d then t.setDom p d 3
  else if s.domState p d = 2 then t.holdover p d
  else t

theorem State.refLost_eq : s.refLost p d = (State.domEvents s (s.refDropped p d)).autoSwitch p := rfl

/-- A domain whose SOURCE is NONE at its servo's update. -/
def State.servoFree (s : State) (p : Plane) (d : Nat) : State :=
  ((s.servoTakes p d).setDom p d 0).modDom p d fun y => { y with run := 0 }

theorem State.servoUpdate_free {s : State} {p : Plane} {d : Nat} (hp : s.present p = true) (hsrc : srcCfg (s.reg (R.TD_CFG p d)) = 0) :
    s.servoUpdate p d = (State.domEvents s (s.servoFree p d)).autoAll := by
  simp only [State.servoUpdate, hp, hsrc, Bool.not_true, Bool.false_eq_true, if_false, if_true]
  rfl

theorem State.domState_modDom (f : DomS → DomS) : (s.modDom p d f).domState p d = s.domState p d := by
  rw [State.domState, State.rf, State.reg_modDom, State.domState, State.rf]

end Domain

section Commands

variable {s : State} {p : Plane} {d : Nat}

/-- The state of a domain after an update with a measured offset, by the state before it (R106). -/
theorem State.domState_servoMoved (offset : Int) :
    (s.domState p d = 0 ∨ s.domState p d = 4 → (s.servoMoved p d offset).domState p d = 1) ∧
    (s.domState p d = 1 → (s.servoMoved p d offset).domState p d = if 16 ≤ s.servoRun p d offset then 2 else 1) ∧
    (s.domState p d = 2 → (s.servoMoved p d offset).domState p d = if 16000 < offset.natAbs then 1 else 2) ∧
    (s.domState p d = 3 → s.peerLocked p d = true → (s.servoMoved p d offset).domState p d =
      if ((s.pl p).domS d).ref ∧ 16 ≤ s.servoRun p d offset then 2 else 3) ∧
    (s.domState p d = 3 → s.peerLocked p d = false → (s.servoMoved p d offset).domState p d = 4) := by
  have hset (t : State) {st : Nat} (h : st < 16) : (t.setDom p d st).domState p d = st := t.domState_setDom p d h
  refine ⟨fun h => ?_, fun h => ?_, fun h => ?_, fun h hpeer => ?_, fun h hpeer => ?_⟩
  · obtain h | h := h <;> simp [State.servoMoved, h, State.domState_servoRate, hset]
  · by_cases hrun : 16 ≤ s.servoRun p d offset <;> simp [State.servoMoved, h, hrun, State.domState_servoRate, hset]
  · by_cases hfar : 16000 < offset.natAbs <;>
      simp [State.servoMoved, h, hfar, State.domState_servoRate, State.domState_servoShown, hset]
  · by_cases hown : ((s.pl p).domS d).ref ∧ 16 ≤ s.servoRun p d offset <;>
      simp [State.servoMoved, h, hpeer, hown, State.domState_servoRate, State.domState_servoShown, hset]
  · simp [State.servoMoved, h, hpeer, State.domState_holdover]

/-- The state of a domain after the loss of its reference (R106). -/
theorem State.domState_refDropped :
    (s.domState p d = 2 ∨ s.domState p d = 1 → s.peerLocked p d = true → (s.refDropped p d).domState p d = 3) ∧
    (s.domState p d = 1 → s.peerLocked p d = false → (s.refDropped p d).domState p d = 1) ∧
    (s.domState p d = 2 → s.peerLocked p d = false → (s.refDropped p d).domState p d = 4) ∧
    (s.domState p d = 0 ∨ s.domState p d = 4 → (s.refDropped p d).domState p d = s.domState p d) := by
  have hset (t : State) {st : Nat} (h : st < 16) : (t.setDom p d st).domState p d = st := t.domState_setDom p d h
  refine ⟨fun h hpeer => ?_, fun h hpeer => ?_, fun h hpeer => ?_, fun h => ?_⟩
  · obtain h | h := h <;> simp [State.refDropped, h, hpeer, hset]
  · simp [State.refDropped, h, hpeer, State.domState_modDom]
  · simp [State.refDropped, h, hpeer, State.domState_holdover]
  · obtain h | h := h <;> simp [State.refDropped, h, State.domState_modDom]

end Commands

/-- Settles O22, by what an update does in each state and what the loss of the reference does. -/
theorem domainStates : Obligations.DomainStates := by
  refine ⟨fun s p d offset hp hmin hmax hdom hmeas => ?update, fun s p d => ⟨fun h3 hown => ?peer, fun h => ?own, fun hp hsrc hnone hdom => ?none⟩,
    fun s p d => ⟨?lost, fun hp hhold hwarn => ?warn, fun hzero => ?quiet⟩⟩
  case update =>
    intro st own run
    have hsrc : srcCfg (s.reg (R.TD_CFG p d)) ≠ 0 := by
      simp only [State.rf] at hmin hmax
      simp only [srcCfg, if_neg hmax.not_gt]
      omega
    have hrun (h : st ≠ 3) : s.servoRun p d offset = run := if_neg fun h' => h h'.1
    have hrunOwn (h : own = true) : s.servoRun p d offset = run := if_neg fun h' => by simp [show ((s.pl p).domS d).ref = true from h] at h'
    obtain ⟨hfree, hacquire, hlocked, hpeer, halone⟩ := State.domState_servoMoved (s := s) (p := p) (d := d) offset
    refine ⟨s.servoMoved p d offset, exec_next_of_eq rfl (State.servoUpdate_measured hp hsrc hmeas), hfree, fun h => ?_, hlocked,
      fun h h' => ?_, halone, s.run_servoMoved p hdom offset, s.offset_servoMoved p d offset⟩
    · rw [hacquire h, hrun (by rw [h]; decide)]
    · rw [hpeer h h']
      by_cases ho : own = true
      · rw [hrunOwn ho]
      · rw [if_neg fun hc => ho hc.1, if_neg fun hc => ho hc.1]
  case peer => exact if_pos ⟨h3, by rw [hown]; rfl⟩
  case own => exact if_neg fun hc => by simp_all
  case none =>
    have hsrc : srcCfg (s.reg (R.TD_CFG p d)) = 0 := by
      simp only [State.rf] at hsrc
      simp [srcCfg, hsrc]
    refine ⟨s.servoFree p d, exec_next_of_eq rfl (State.servoUpdate_free hp hsrc), ?_, ?_⟩
    · rw [State.servoFree, State.domState_modDom, State.domState_setDom _ _ _ (by decide)]
    · rw [State.servoFree, State.domS_modDom]
      rw [State.pl_setDom, State.length_servoTakes]
      exact hdom
  case lost =>
    obtain ⟨hpeer, hacquire, hlocked, hstays⟩ := State.domState_refDropped (s := s) (p := p) (d := d)
    exact ⟨s.refDropped p d, exec_next_of_eq rfl (congrArg (State.modPl · p _) (s.refLost_eq p d)), hpeer, hacquire, hlocked, hstays⟩
  case warn => exact exec_next_of_eq rfl (if_pos (by rw [hp, hhold]; simpa using hwarn))
  case quiet => exact exec_next_of_eq rfl (if_neg (by simp [hzero]))

end Sys2Proof.Machine
end


section
/-!
What is booked of events and of instances that end: counters, logs, event sentences, messages, records (R278, R279, R297, R449-R451, R485).
What does not look at these is the same after an event is raised or the end of a job's run is told.
-/
namespace Sys2Proof.Machine

/-- The registers in which events, dropped sentences, ends of instances and recorder records are counted and shown. -/
def booked (o : Nat) : Prop :=
  o < 0x3000 ∨ o = R.AON_FR_CTL ∨ ∃ p : Plane, (0x410000 + planeOfs p ≤ o ∧ o < 0x420000 + planeOfs p) ∨
    (0x501000 + planeOfs p ≤ o ∧ o < 0x510000 + planeOfs p) ∨ (0x580000 + planeOfs p ≤ o ∧ o < 0x581000 + planeOfs p)

/-- A change of a plane that touches what it sends, its descriptors' last releases and its copy path alone. -/
def Books (f : PlaneS → PlaneS) : Prop :=
  ∀ x, ∃ a b c d e, f x = { x with txq := a, hold := b, seqs := c, descSt := d, path := e }

/-- `g` looks at nothing that is booked. -/
structure Unbooked {β : Type} (g : State → β) : Prop where
  reg : ∀ (s : State) (o : Nat) (v : Word), booked o → g (s.setReg o v) = g s
  pl : ∀ (s : State) (p : Plane) (f : PlaneS → PlaneS), Books f → g (s.modPl p f) = g s
  emit : ∀ (s : State) (x : Output), g (s.emit x) = g s
  pba : ∀ (s : State) (v : BitVec 64), g { s with pba := v } = g s
  evHold : ∀ (s : State) (t : Tab (Bool × Nat × BitVec 64)), g { s with evHold := t } = g s
  fr : ∀ (s : State) (a : Tab (BitVec 128)) (b : Nat) (c : List Nat), g { s with fr := a, frDone := b, frNow := c } = g s

/-- What each step of a loop keeps, the loop keeps. -/
theorem foldl_keeps {α σ β : Type} (g : σ → β) {f : σ → α → σ} {xs : List α} (h : ∀ s, ∀ x ∈ xs, g (f s x) = g s) (s : σ) :
    g (xs.foldl f s) = g s :=
  List.foldlRecOn (motive := fun t => g t = g s) xs f rfl fun t ht x hx => (h t x hx).trans ht

/-! Which registers are booked -/

theorem booked_evStatus {n : Nat} (h : n < 256) : booked (R.EV_STATUS (n / 32)) := .inl (by unfold R.EV_STATUS; omega)
theorem booked_evSentCount : booked R.EV_SENT_COUNT := .inl (by decide)
theorem booked_snfBufDrop (p : Plane) : booked (R.SNF_BUF_DROP p) := .inr (.inr ⟨p, by unfold R.SNF_BUF_DROP; omega⟩)
theorem booked_portTxDrop (p : Plane) (i : Fin 4) : booked (R.PORT_TX_DROP p i.val) :=
  .inr (.inr ⟨p, by unfold R.PORT_TX_DROP; omega⟩)
theorem booked_portCounters (p : Plane) (i : Fin 4) : booked (R.PORT_COUNTERS p i.val 14) :=
  .inr (.inr ⟨p, by unfold R.PORT_COUNTERS; omega⟩)
theorem booked_dspCounters (p : Plane) {i : Nat} (h : i < 16) : booked (R.DSP_COUNTERS p i) :=
  .inr (.inr ⟨p, by unfold R.DSP_COUNTERS; omega⟩)
theorem booked_relCounters (p : Plane) {i : Nat} (h : i < 16) : booked (R.REL_COUNTERS p i) :=
  .inr (.inr ⟨p, by unfold R.REL_COUNTERS; omega⟩)
theorem booked_dspLog (p : Plane) {i j : Nat} (hi : i < 1024) (hj : j < 4) : booked (R.DSP_LOG p i 0 + 4 * j) :=
  .inr (.inr ⟨p, by unfold R.DSP_LOG; omega⟩)
theorem booked_dspLogHead (p : Plane) : booked (R.DSP_LOG_HEAD p) := .inr (.inr ⟨p, by unfold R.DSP_LOG_HEAD; omega⟩)
theorem booked_dspLogTail (p : Plane) : booked (R.DSP_LOG_TAIL p) := .inr (.inr ⟨p, by unfold R.DSP_LOG_TAIL; omega⟩)

theorem evOf_lt {p : Plane} {n : Nat} (h : n < 192) : evOf p n < 256 := by
  cases p <;> simp only [evOf, planeNum] <;> omega

theorem length_complRec (j : Nat) (i : Inst) (outcome : Nat) (now : Int) : (complRec j i outcome now).length = 16 := by
  simp [complRec]

/-- A plane whose job `j` has ended with a record: its run and its engine are given up, and the other instances are looked at again
(R274, R278). -/
def PlaneS.ended (x : PlaneS) (j : Nat) (bs : List Byte) : PlaneS :=
  ({ x with
     inst := Tab.erase j x.inst, recs := Tab.set [] j bs x.recs,
     engs := x.engs.map fun e => match e with
       | some g => if g.job = j then none else some g
       | none => none } : PlaneS).wakeAll

namespace Unbooked

variable {β : Type} {g : State → β} (hg : Unbooked g)
include hg

omit hg in
theorem ite {c : Prop} [Decidable c] {s t : State} (h : c → g t = g s) : g (if c then t else s) = g s := by
  split
  next hc => exact h hc
  next => rfl

theorem setRf (s : State) {o : Nat} (ho : booked o) (hi lo v : Nat) : g (s.setRf o hi lo v) = g s := hg.reg _ _ _ ho

theorem count (s : State) {o : Nat} (ho : booked o) : g (s.count o) = g s := hg.setRf s ho ..

/-! Event sentences and messages -/

theorem enqueue (s : State) (p : Plane) (port : Fin 4) (h : Sent) (fwd stomp : Bool) : g (s.enqueue p port h fwd stomp).1 = g s := by
  have hput : g (s.modPl p fun x => { x with txq := x.txq ++ [⟨port, h.cls, h, fwd, stomp⟩] }) = g s :=
    hg.pl _ _ _ fun x => ⟨_, _, _, _, _, rfl⟩
  unfold State.enqueue State.enqueueAs
  dsimp only
  split
  · split
    · exact hg.count s (booked_snfBufDrop p)
    · exact hput
  · split
    · exact hg.count s (booked_portTxDrop p port)
    · exact hput

theorem sendEast (s : State) (p : Plane) (ring : Nat) (h : Sent) (fwd stomp : Bool) : g (s.sendEast p ring h fwd stomp).1 = g s := by
  unfold State.sendEast
  dsimp only
  split
  · rfl
  split
  · split
    · exact hg.enqueue ..
    · rfl
  split
  · split
    · exact hg.count s (booked_portCounters p _)
    · exact hg.pl _ _ _ fun x => ⟨_, _, _, _, _, rfl⟩
  split
  · exact hg.enqueue ..
  · rfl

theorem originateOn (s : State) (p : Plane) (h : Sent) : g (s.originateOn p h).1 = g s := by
  unfold State.originateOn State.originateBy
  split
  · have h1 := hg.sendEast s p 1 h false false
    dsimp only
    split
    · exact (hg.sendEast ..).trans h1
    · exact h1
  · exact hg.sendEast ..

theorem takeSeq (s : State) (p : Plane) (c : Nat) : g (s.takeSeq p c).2 = g s := by
  have hput (s : State) (q : Plane) (t : PlaneS → Tab Word) : g (s.modPl q fun x => { x with seqs := t x }) = g s :=
    hg.pl _ _ _ fun x => ⟨_, _, _, _, _, rfl⟩
  unfold State.takeSeq
  dsimp only
  split
  · dsimp only
    rw [hput, hput]
  · dsimp only
    rw [hput]

theorem originate (s : State) (p : Plane) (h : Sent) : g (s.originate p h).1 = g s := by
  unfold State.originate
  exact (foldl_keeps (fun a : State × List Plane => g a.1) (fun a y _ => hg.originateOn a.1 y _) _).trans (hg.takeSeq ..)

theorem setHeld (s : State) (n : Nat) (x : Bool × Nat × BitVec 64) : g (s.setHeld n x) = g s := hg.evHold ..

theorem sendEvent (s : State) (n cnt : Nat) (first : BitVec 64) : g (s.sendEvent n cnt first) = g s := by
  unfold State.sendEvent
  exact (hg.setHeld ..).trans ((hg.count _ booked_evSentCount).trans (foldl_keeps g (fun s p _ => hg.originate s p _) _))

theorem eventSentence (s : State) (n : Nat) : g (s.eventSentence n) = g s := by
  unfold State.eventSentence
  split
  · dsimp only
    split
    · exact hg.sendEvent ..
    · exact hg.setHeld ..
  · rfl

theorem request (s : State) (v : Nat) : g (s.request v) = g s := by
  unfold State.request
  split
  · rfl
  split
  · exact hg.pba ..
  · exact hg.emit ..

theorem requestAll (s : State) (vs : BitVec 64) : g (s.requestAll vs) = g s := by
  unfold State.requestAll
  split
  · rfl
  · exact foldl_keeps g (fun s v _ => hg.request s v) _

theorem settle (s : State) (old : BitVec 64) (all : Bool) : g (s.settle old all) = g s := (hg.requestAll ..).trans (hg.pba ..)

/-- Raising an event changes nothing that `g` looks at. -/
theorem raise (s : State) {n : Nat} (hn : n < 256) : g (s.raise n) = g s :=
  (hg.eventSentence ..).trans ((hg.settle ..).trans (hg.setRf s (booked_evStatus hn) ..))

theorem raiseIf (s : State) (b : Bool) {n : Nat} (hn : n < 256) : g (s.raiseIf b n) = g s := by
  unfold State.raiseIf
  split
  · exact hg.raise s hn
  · rfl

/-- A recorder record (R485). -/
theorem record (s : State) (kind src : Nat) (data : List Byte) : g (s.record kind src data) = g s := by
  have hfr : booked R.AON_FR_CTL := .inr (.inl rfl)
  unfold State.record
  dsimp only
  split
  · exact hg.setRf s hfr ..
  · split
    · exact (hg.setRf _ hfr ..).trans ((hg.setRf _ hfr ..).trans (hg.fr ..))
    · exact (hg.setRf _ hfr ..).trans (hg.fr ..)

/-! The end of a job's run -/

theorem logCompl (s : State) (p : Plane) {bs : List Byte} (hbs : bs.length = 16) : g (s.logCompl p bs) = g s := by
  have hlt (n : Nat) : n % 1024 < 1024 := Nat.mod_lt _ (by decide)
  have hwords (n : Nat) : g (s.setWords (R.DSP_LOG p (n % 1024) 0) bs) = g s :=
    foldl_keeps g (fun s i hi => hg.reg s _ _ (booked_dspLog p (hlt n) (by rw [hbs] at hi; simpa using hi))) s
  unfold State.logCompl
  dsimp only
  split
  · exact hg.count s (booked_dspCounters p (by decide))
  · split
    · exact (hg.count _ (booked_dspCounters p (by decide))).trans ((hg.setRf _ (booked_dspLogTail p) ..).trans
        ((hg.setRf _ (booked_dspLogHead p) ..).trans (hwords _)))
    · exact (hg.raiseIf _ _ (evOf_lt (by decide))).trans ((hg.setRf _ (booked_dspLogHead p) ..).trans (hwords _))

/-- What a job's run delivers (R297). -/
theorem deliver (s : State) (p : Plane) (i : Inst) (outcome : Nat) : g (s.deliver p i outcome) = g s := by
  have hlast (s : State) (d l : Nat) : g (s.modPl p fun x => x.setLast d l) = g s :=
    hg.pl _ _ _ fun x => ⟨_, _, _, _, _, rfl⟩
  have hpath (s : State) (d l : Nat) (e : PlaneS → List PathC) : g (s.modPl p fun x => { x.setLast d l with path := e x }) = g s :=
    hg.pl _ _ _ fun x => ⟨_, _, _, _, _, rfl⟩
  have hbuilt (b : Bool) : g (s.when b fun s => s.modPl p fun x => x.noteBuilt (jBuf i.desc) i.epoch
      (outcome == 0 || outcome == 1 || outcome == 2 || outcome == 5) i.rdesc) = g s := by
    unfold State.when
    split
    · exact hg.pl _ _ _ fun x => ⟨_, _, _, _, _, rfl⟩
    · rfl
  unfold State.deliver
  dsimp only
  split
  · exact hbuilt _
  split
  · exact (hlast ..).trans (hbuilt _)
  split
  · refine (hg.count _ ?_).trans ((hpath ..).trans (hbuilt _))
    split <;> exact booked_relCounters p (by decide)
  · exact (hlast ..).trans (hbuilt _)

/-- Of a run that ends `g` sees no more than that its plane has given it up. -/
theorem finishInst {s : State} {p : Plane} {j : Nat} {i : Inst} (h : (s.pl p).instOf j = some i) (e : Nat) (quiet : Bool) :
    ∃ bs, g (s.finishInst p j e quiet) = g (s.modPl p fun x => x.ended j bs) := by
  unfold State.finishInst
  rw [h]
  exact ⟨_, (hg.raiseIf _ _ (evOf_lt (by decide))).trans ((hg.raiseIf _ _ (evOf_lt (by decide))).trans
    ((ite fun _ => hg.logCompl _ p (length_complRec ..)).trans
      ((ite fun ho => hg.count _ (booked_dspCounters p (by omega))).trans (hg.deliver ..))))⟩

end Unbooked

/-! What looks at nothing booked -/

theorem unbooked_pl (q : Plane) {β : Type} {k : PlaneS → β}
    (hk : ∀ (x : PlaneS) a b c d e, k { x with txq := a, hold := b, seqs := c, descSt := d, path := e } = k x) : Unbooked fun s => k (s.pl q) where
  reg s _ v _ := by rw [State.pl_setReg]
  pl s p f hf := by
    obtain rfl | h := eq_or_ne q p
    · obtain ⟨a, b, c, d, e, hx⟩ := hf (s.pl q)
      rw [State.pl_modPl_same, hx, hk]
    · rw [State.pl_modPl_ne _ h]
  emit _ _ := by cases q <;> rfl
  pba _ _ := by cases q <;> rfl
  evHold _ _ := by cases q <;> rfl
  fr _ _ _ _ := by cases q <;> rfl

end Sys2Proof.Machine
end


section
/-!
Switches of the time domain and jumps of release time (R111-R116): what becomes of an armed switch, of the instances that a jump passes over.
-/
namespace Sys2Proof

theorem Tab.find_eq_none {α : Type} {k : Nat} {t : Tab α} : Tab.find k t = none ↔ ∀ e ∈ t, e.1 ≠ k := by
  induction t with
  | nil => simp [Tab.find]
  | cons e t ih =>
    obtain ⟨k', v⟩ := e
    by_cases h : k' = k <;> simp [Tab.find, h, ih]

theorem Tab.mem_of_find {α : Type} {k : Nat} {v : α} {t : Tab α} (h : Tab.find k t = some v) : (k, v) ∈ t := by
  induction t with
  | nil => simp [Tab.find] at h
  | cons e t ih =>
    obtain ⟨k', v'⟩ := e
    by_cases hk : k' = k
    · simp_all [Tab.find]
    · simp [Tab.find, hk] at h
      exact List.mem_cons_of_mem _ (ih h)

namespace Machine

/-! Instances that have ended stay ended -/

theorem PlaneS.instOf_eq_none {x : PlaneS} {k : Nat} : x.instOf k = none ↔ ∀ e ∈ x.inst, e.1 ≠ k := Tab.find_eq_none

theorem PlaneS.instOf_wakeInst_none {x : PlaneS} {k : Nat} (h : x.instOf k = none) (j : Nat) : (x.wakeInst j).instOf k = none := by
  unfold PlaneS.wakeInst
  split
  · exact h
  next i hi =>
    split
    · have hk : k ≠ j := by rintro rfl; exact Option.some_ne_none _ (hi.symm.trans h)
      exact (Tab.find_put_ne hk ..).trans h
    · exact h

theorem PlaneS.instOf_wakeAll_none {x : PlaneS} {k : Nat} (h : x.instOf k = none) : x.wakeAll.instOf k = none :=
  List.foldlRecOn (motive := fun y => PlaneS.instOf y k = none) _ _ h fun _ hy j _ => PlaneS.instOf_wakeInst_none hy j

theorem PlaneS.instOf_ended_same (x : PlaneS) (j : Nat) (bs : List Byte) : (x.ended j bs).instOf j = none :=
  PlaneS.instOf_wakeAll_none (PlaneS.instOf_eq_none.2 fun _ he => (Tab.mem_erase.1 he).2)

theorem PlaneS.instOf_ended_none {x : PlaneS} {k : Nat} (h : x.instOf k = none) (j : Nat) (bs : List Byte) : (x.ended j bs).instOf k = none :=
  PlaneS.instOf_wakeAll_none (PlaneS.instOf_eq_none.2 fun e he => PlaneS.instOf_eq_none.1 h e (Tab.mem_erase.1 he).1)

section
variable (s : State) (p : Plane)

theorem unbooked_instOf (k : Nat) : Unbooked fun s => (s.pl p).instOf k :=
  unbooked_pl p (k := (·.instOf k)) fun _ _ _ _ _ _ => rfl

theorem State.instOf_finishInst_same (j e : Nat) (quiet : Bool) : ((s.finishInst p j e quiet).pl p).instOf j = none := by
  cases h : (s.pl p).instOf j with
  | none => unfold State.finishInst; rw [h]; exact h
  | some i =>
    obtain ⟨bs, hf⟩ := (unbooked_instOf p j).finishInst h e quiet
    rw [hf, State.pl_modPl_same, PlaneS.instOf_ended_same]

theorem State.instOf_finishInst_none {k : Nat} (hk : (s.pl p).instOf k = none) (j e : Nat) (quiet : Bool) :
    ((s.finishInst p j e quiet).pl p).instOf k = none := by
  cases h : (s.pl p).instOf j with
  | none => unfold State.finishInst; rw [h]; exact hk
  | some i =>
    obtain ⟨bs, hf⟩ := (unbooked_instOf p k).finishInst h e quiet
    rw [hf, State.pl_modPl_same, PlaneS.instOf_ended_none hk]

/-- Instances that are ended one after another are open no more, whatever the outcome of each. -/
theorem State.instOf_foldl_none {f : State → Nat × Inst → State} (hf : ∀ t e, ∃ n, f t e = t.finishInst p e.1 n false)
    {es : List (Nat × Inst)} {e : Nat × Inst} (he : e ∈ es) : ((es.foldl f s).pl p).instOf e.1 = none := by
  induction es using List.reverseRecOn with
  | nil => cases he
  | append_singleton es e' ih =>
    rw [List.foldl_append, List.foldl_cons, List.foldl_nil]
    obtain ⟨n, hn⟩ := hf (es.foldl f s) e'
    rw [hn]
    obtain he | he := List.mem_append.1 he
    · exact State.instOf_finishInst_none _ _ (ih he) ..
    · rw [List.mem_singleton.1 he]
      exact State.instOf_finishInst_same ..

/-- The instances that are picked are open no more (R264). -/
theorem State.instOf_skipInsts {f : Inst → Bool} {j : Nat} {i : Inst} (hi : (s.pl p).instOf j = some i) (hf : f i = true) :
    ((s.skipInsts p f).pl p).instOf j = none := by
  refine State.instOf_foldl_none s p (fun t e => ?_) (e := (j, i)) (List.mem_filter.2 ⟨Tab.mem_of_find hi, hf⟩)
  split <;> exact ⟨_, rfl⟩

theorem State.skipInsts_none {f : Inst → Bool} (hf : ∀ i, f i = false) : s.skipInsts p f = s := by
  unfold State.skipInsts
  rw [List.filter_eq_nil_iff.2 fun e _ => by simp [hf]]
  rfl

end

/-! An armed switch (R111, R114) -/

section
variable (s : State) (p : Plane) (w : Switch)

/-- In DUPLEX the other plane's switch to the same target goes the same way (R116). -/
def State.switchTold (t : State) (b : Bool) : State :=
  t.when (s.mode == 3) fun s => s.modPl (other p) fun x =>
    { x with sw := x.sw.map fun v => if v.target = w.target then { v with go := some b } else v }

/-- The target is selected, and the difference of the dials goes into the bridge (R111). -/
def State.switchMoved (t : State) : State :=
  (t.modPl p fun x => { x with bridge := x.bridge + ((s.dial p (s.sel p) : Int) - s.dial p w.target) }).setRf (R.TB_CTL p) 31 31 w.target

/-- The end of the TIME_SWITCH that armed the switch, or that was given up. -/
def Switch.ended (t : State) (b : Bool) : State :=
  if w.cmd.isSome then t.switchDone b else if w.given.isSome then t.switchDone false else t

/-- A switch that is due goes as it has been told, or else as the target's state and the distance of the dials are. -/
theorem State.switchStep_due {s : State} {p : Plane} {w : Switch} (hw : (s.pl p).sw = some w) (hdue : w.due (s.grid p) ((s.pl p).egS 0).index = true)
    (hsel : s.sel p ≠ w.target) :
    let good := domGood (s.devDom w.target)
    let near := s.bridgeOk (if s.mode = 3 then s.lead else p)
    let go := w.go.getD (good && near)
    let t := (s.switchTold p w (s.raiseIf (w.go.isNone && good && !near) 123) go).disarm p
    s.switchStep p = w.ended (if go then ((s.switchMoved p w t).raiseIf w.go.isNone 122).record 9 (srcOf p) [1] else t) go := by
  intro good near go t
  have hnow : s.switchNow p =
      (if go then ((s.switchMoved p w t).raiseIf w.go.isNone 122).record 9 (srcOf p) [1] else t,
        if w.cmd.isSome then some go else if w.given.isSome then some false else none) := by
    unfold State.switchNow
    rw [hw]
    simp only [hdue, Bool.not_true, Bool.false_eq_true, if_false, beq_eq_false_iff_ne.2 hsel, Bool.or_false]
    change (if (!go) = true then _ else _) = _
    by_cases hgo : go = true
    · rw [if_pos hgo, if_neg (by rw [hgo]; decide)]; rfl
    · rw [if_neg hgo, if_pos (by rw [Bool.not_eq_true] at hgo; rw [hgo]; decide)]; rfl
  unfold State.switchStep Switch.ended
  rw [hnow]
  dsimp only
  by_cases hc : w.cmd.isSome
  · simp only [hc, if_true]
  · by_cases hg : w.given.isSome <;> simp only [hc, hg, Bool.false_eq_true, if_false, if_true]

/-- A switch that is not due stays, but for a TIME_SWITCH given up whose boundary has come. -/
theorem State.switchStep_given {s : State} {p : Plane} {w : Switch} (hw : (s.pl p).sw = some w)
    (hdue : w.due (s.grid p) ((s.pl p).egS 0).index = false) {b : Nat} (hb : w.given = some b) (hle : b ≤ ((s.pl p).egS 0).index) :
    s.switchStep p = (s.modPl p fun x => { x with sw := if w.auto.isSome || w.cmd.isSome then some { w with given := none } else none }).switchDone
      false := by
  unfold State.switchStep State.switchNow State.switchGiven
  simp only [hw, hdue, hb, Nat.not_lt.2 hle, Bool.not_false, if_true, if_false]

theorem State.switchStep_waits {s : State} {p : Plane} {w : Switch} (hw : (s.pl p).sw = some w)
    (hdue : w.due (s.grid p) ((s.pl p).egS 0).index = false) (hb : ∀ b, w.given = some b → ((s.pl p).egS 0).index < b) : s.switchStep p = s := by
  unfold State.switchStep State.switchNow State.switchGiven
  cases hg : w.given with
  | none => simp only [hw, hdue, hg, Bool.not_false, if_true]
  | some b => simp only [hw, hdue, hg, hb b hg, Bool.not_false, if_true]

theorem Switch.due_iff (grid n : Nat) : w.due grid n = true ↔
    (∃ a, w.auto = some a ∧ (n = a ∨ (a < n ∧ n % grid = 0))) ∨ ∃ b, w.cmd = some b ∧ b ≤ n := by
  obtain ⟨target, auto, cmd, given, go⟩ := w
  cases auto <;> cases cmd <;> simp [Switch.due]

/-! The loss of a switch's target (R114) -/

/-- What becomes of one plane's switch to a domain that is lost. -/
def State.loseAt (s : State) (d : Nat) (p : Plane) : State :=
  match (s.pl p).sw with
  | some w =>
    if w.target ≠ d ∨ w.go.isSome then s
    else
      let given := if w.given.isSome then w.given else w.cmd
      (s.modPl p fun x => { x with sw := given.map fun b => ⟨d, none, none, some b, none⟩ }).setRb (R.TB_CTL p) 30 false
  | none => s

theorem State.loseSwitch_eq (d : Nat) : s.loseSwitch d = (s.loseAt d .a).loseAt d .b := rfl

variable {p w} in
theorem State.loseAt_armed (hw : (s.pl p).sw = some w) (hgo : w.go = none) : s.loseAt w.target p =
    (s.modPl p fun x => { x with sw := (if w.given.isSome then w.given else w.cmd).map fun b => ⟨w.target, none, none, some b, none⟩ }).setRb
      (R.TB_CTL p) 30 false := by
  unfold State.loseAt
  simp only [hw, hgo, ne_eq, not_true_eq_false, Option.isSome_none, Bool.false_eq_true, or_self, if_false]

theorem State.pl_loseAt_ne (d : Nat) {q : Plane} (h : q ≠ p) : (s.loseAt d p).pl q = s.pl q := by
  unfold State.loseAt
  split
  · split
    · rfl
    · rw [State.pl_setRb, State.pl_modPl_ne _ h]
  · rfl

theorem State.reg_loseAt_ne (d : Nat) {q : Plane} (h : q ≠ p) : (s.loseAt d p).reg (R.TB_CTL q) = s.reg (R.TB_CTL q) := by
  have hreg : R.TB_CTL q ≠ R.TB_CTL p := by cases p <;> cases q <;> simp_all [R.TB_CTL, planeOfs]
  unfold State.loseAt
  split
  · split
    · rfl
    · rw [State.reg_setRb_ne _ hreg, State.reg_modPl]
  · rfl

variable {s p w} in
/-- An armed switch to a domain that is lost is given up: a TIME_SWITCH stays for its boundary alone. -/
theorem State.loseSwitch_armed (hw : (s.pl p).sw = some w) (hgo : w.go = none) :
    ((s.loseSwitch w.target).pl p).sw = (if w.given.isSome then w.given else w.cmd).map (fun b => ⟨w.target, none, none, some b, none⟩) ∧
      (s.loseSwitch w.target).rb (R.TB_CTL p) 30 = false := by
  have hat (t : State) (hw : (t.pl p).sw = some w) : ((t.loseAt w.target p).pl p).sw =
      (if w.given.isSome then w.given else w.cmd).map (fun b => ⟨w.target, none, none, some b, none⟩) ∧
        (t.loseAt w.target p).rb (R.TB_CTL p) 30 = false := by
    rw [t.loseAt_armed hw hgo]
    exact ⟨by rw [State.pl_setRb, State.pl_modPl_same], State.rb_setRb_same _ _ _ (by decide)⟩
  rw [State.loseSwitch_eq]
  cases p with
  | a =>
    obtain ⟨hsw, hrb⟩ := hat s hw
    exact ⟨by rw [State.pl_loseAt_ne _ _ _ (by decide), hsw], by rw [State.rb, State.reg_loseAt_ne _ _ _ (by decide)]; exact hrb⟩
  | b => exact hat _ (by rw [State.pl_loseAt_ne _ _ _ (by decide), hw])

end

/-! A jump of release time (R115) -/

theorem State.when_pos (t : State) (n : Nat) (f : State → State) : t.when (decide (0 < n)) f = if n = 0 then t else f t := by
  unfold State.when
  by_cases h : n = 0 <;> simp [h, Nat.pos_iff_ne_zero]

theorem State.ethBetween_back (s : State) (p : Plane) {t0 t1 : Int} (h : t1 ≤ t0) (r : BitVec 256) : s.ethBetween p t0 t1 r = 0 := by
  unfold State.ethBetween
  simp only [decide_eq_true h, Bool.or_true, if_true]

/-- Settles O23: a switch that is due by what decides over it, the loss of its target plane by plane, and a jump by the instances that it
passes over. -/
theorem releaseTimeCommands : Obligations.ReleaseTimeCommands := by
  intro s p moved told done near index
  refine ⟨fun w hw => ⟨fun hdue hsel => ?_, fun hdue b hb hle => ?_, fun hdue hb => ?_, fun hgo _ => State.loseSwitch_armed hw hgo⟩,
    Switch.due_iff, rfl, ?_⟩
  · have hstep := State.switchStep_due hw hdue hsel
    refine ⟨fun hgo hgood hnear => ?_, fun hgo hgood => ?_, fun hgo hgood hnear => ?_, fun b hgo => ?_⟩ <;> refine exec_next_of_eq rfl (hstep.trans ?_)
    · change s.bridgeOk (if s.mode = 3 then s.lead else p) = true at hnear
      simp only [hgo, hgood, hnear, Option.getD_none, Option.isNone_none, Bool.and_true, Bool.not_true, Bool.and_false, if_true, State.raiseIf,
        Bool.false_eq_true, if_false]
      rfl
    · simp only [hgo, hgood, Option.getD_none, Option.isNone_none, Bool.and_false, Bool.false_and, State.raiseIf, Bool.false_eq_true, if_false]
      rfl
    · change s.bridgeOk (if s.mode = 3 then s.lead else p) = false at hnear
      simp only [hgo, hgood, hnear, Option.getD_none, Option.isNone_none, Bool.and_false, Bool.not_false, Bool.and_true, if_true, State.raiseIf,
        Bool.false_eq_true, if_false]
      rfl
    · simp only [hgo, Option.getD_some, Option.isNone_some, Bool.false_and, State.raiseIf, Bool.false_eq_true, if_false]
      rfl
  · exact exec_next_of_eq rfl (State.switchStep_given hw hdue hb hle)
  · exact exec_next_of_eq rfl (State.switchStep_waits hw hdue hb)
  · intro hjump s1 t0 t1 s2 s3 s4 u
    have hs4 (h : t1 ≤ t0) : s4 = s2 := by
      have hs3 : s3 = s2 := State.each_keeps id (fun t e => by exact if_pos (s.ethBetween_back p h e.2)) s2 (s.pl p).descs
      exact (State.skipInsts_none s3 p fun i => by rw [decide_eq_false (not_lt.2 h), Bool.and_false]).trans hs3
    refine ⟨exec_next_of_eq rfl ?_, hs4, fun hlt j i hi hd => ?_⟩
    · unfold State.jumpNow
      simp only [hjump, State.when_pos, Bool.not_true, Bool.false_eq_true, if_false]
      rfl
    · exact State.instOf_skipInsts s3 p hi (by rw [decide_eq_true hd, decide_eq_true hlt]; rfl)

end Machine
end Sys2Proof
end


section
/-!
Epoch generators (R119-R122, R124): a write of EGn_CTL, and a boundary.
-/
namespace Sys2Proof.Machine

/-- The row of EGn_CTL. -/
def egCtlRow : RegRow := rows_time[26]

section
variable {s : State} {p : Plane} {g : Nat}

/-! EGn_CTL is a register of its own row, whose write enables or disables the generator -/

section
variable (p) (hg : g < 4)
include hg

omit hg in
theorem egCtl_eq : R.EG_CTL p g = 0x400404 + g * 0x40 + planeOfs p := by unfold R.EG_CTL; omega

theorem normOff_egCtl : normOff (R.EG_CTL p g) = 0x400404 + g * 0x40 := by
  rw [egCtl_eq]
  exact normOff_plane p (by omega) (by omega)

theorem rowOf_egCtl : rowOf (R.EG_CTL p g) = some egCtlRow := by
  have hrows : rowsAt (0x400404 + g * 0x40) = rows_time := by
    rw [rowsAt, if_neg (by omega), if_neg (by omega), if_neg (by omega), if_neg (by omega), if_neg (by omega), if_pos (by omega)]
  rw [rowOf, normOff_egCtl p hg, hrows]
  exact findRow_indexed (l := rows_time) (row := egCtlRow) (k := 26) rfl (by decide) rfl hg

theorem ix1_egCtl : egCtlRow.ix1 (R.EG_CTL p g) = g := by
  rw [RegRow.ix1, normOff_egCtl p hg]
  change (0x400404 + g * 0x40 - 0x400404) / 0x40 = g
  omega

theorem planeOf_egCtl : planeOf (R.EG_CTL p g) = some p := by
  rw [egCtl_eq]
  exact planeOf_plane p (by omega) (by omega)

theorem logOf_egCtl : logOf (R.EG_CTL p g) = none := by
  unfold logOf
  rw [if_neg (by unfold R.EG_CTL R.EV_COLLECT_TAIL; omega), planeOf_egCtl p hg]
  dsimp only
  rw [if_neg (by unfold R.EG_CTL R.DSP_LOG_TAIL; omega), if_neg (by unfold R.EG_CTL R.BRG_PLOG_TAIL; omega),
    if_neg (by unfold R.EG_CTL R.BRG_DLOG_TAIL; omega)]

theorem isStageCtl_egCtl : isStageCtl (R.EG_CTL p g) = false := by
  rw [isStageCtl, rowOf_egCtl p hg]
  exact Bool.and_false _

variable {p} in
/-- A write of EGn_CTL of a plane that is present. -/
theorem State.regWrite_egCtl {r : Req} (hr : s.reqOn r = true) (hp : s.present p = true) (v : Word) :
    s.regWrite r (R.EG_CTL p g) 4 v = s.egCtl egCtlRow p g v := by
  have hthere : s.there (R.EG_CTL p g) = true := by rw [State.there, planeOf_egCtl p hg]; exact hp
  rw [State.regWrite_aligned hr (by cases p <;> simp only [R.EG_CTL, planeOfs] <;> omega), State.writeAll_of_le (by unfold R.EG_CTL; omega),
    State.writeReg_of_single (by cases p <;> simp only [R.EG_CTL, planeOfs] <;> omega) hthere (rowOf_egCtl p hg) (isStageCtl_egCtl p hg)
      (logOf_egCtl p hg) rfl, planeOf_egCtl p hg, ix1_egCtl p hg]
  exact if_pos ⟨rfl, hg⟩

end

/-! What a write of EGn_CTL leaves -/

/-- Of all registers none but EGn_CTL has another value, and the plane's clock, its bridge and its generators stand as they did. -/
structure State.EgCtlOnly (p : Plane) (g : Nat) (s t : State) : Prop where
  reg : ∀ o, o ≠ R.EG_CTL p g → t.reg o = s.reg o
  raw : (t.pl p).raw = (s.pl p).raw
  bridge : (t.pl p).bridge = (s.pl p).bridge
  eg : (t.pl p).eg = (s.pl p).eg
  out : t.out = s.out

namespace State.EgCtlOnly

theorem refl (s : State) : EgCtlOnly p g s s := ⟨fun _ _ => rfl, rfl, rfl, rfl, rfl⟩

theorem trans {t u : State} (h : EgCtlOnly p g s t) (h' : EgCtlOnly p g t u) : EgCtlOnly p g s u :=
  ⟨fun o ho => (h'.reg o ho).trans (h.reg o ho), h'.raw.trans h.raw, h'.bridge.trans h.bridge, h'.eg.trans h.eg, h'.out.trans h.out⟩

theorem put (s : State) (p : Plane) (g : Nat) (row : RegRow) (v hw : Word) : EgCtlOnly p g s (s.put row (R.EG_CTL p g) v hw) :=
  ⟨fun _ => State.reg_put_ne s row _ v hw, by rw [State.pl_put], by rw [State.pl_put], by rw [State.pl_put], State.out_put ..⟩

theorem setRb (s : State) (p : Plane) (g i : Nat) (b : Bool) : EgCtlOnly p g s (s.setRb (R.EG_CTL p g) i b) :=
  ⟨fun _ h => State.reg_setRb_ne s h i b, by rw [State.pl_setRb], by rw [State.pl_setRb], by rw [State.pl_setRb], rfl⟩

theorem modPl (s : State) (p : Plane) (g : Nat) {f : PlaneS → PlaneS} (hraw : ∀ x, (f x).raw = x.raw) (hbridge : ∀ x, (f x).bridge = x.bridge)
    (heg : ∀ x, (f x).eg = x.eg) : EgCtlOnly p g s (s.modPl p f) :=
  ⟨fun _ _ => State.reg_modPl .., by rw [State.pl_modPl_same, hraw], by rw [State.pl_modPl_same, hbridge], by rw [State.pl_modPl_same, heg],
    State.modPl_out ..⟩

theorem outs (s : State) (p : Plane) (g : Nat) (f : State → List OutS) : EgCtlOnly p g s { s with outs := f s } :=
  ⟨fun _ _ => rfl, by cases p <;> rfl, by cases p <;> rfl, by cases p <;> rfl, rfl⟩

theorem relearnFold (s : State) (p : Plane) (g : Nat) (b : Bool) : EgCtlOnly p g s (s.when b fun s => s.relearnFold p) := by
  unfold State.when
  split
  · exact modPl s p g (fun _ => rfl) (fun _ => rfl) fun _ => rfl
  · exact refl s

variable {t : State} (h : EgCtlOnly p g s t)
include h

theorem reg64 {o : Nat} (h1 : o ≠ R.EG_CTL p g) (h2 : o + 4 ≠ R.EG_CTL p g) : t.reg64 o = s.reg64 o :=
  State.reg64_congr (h.reg _ h1) (h.reg _ h2)

theorem sel : t.sel p = s.sel p := by
  rw [State.sel, State.rf, h.reg _ (by unfold R.TB_CTL R.EG_CTL; omega)]; rfl

theorem dial (d : Nat) : t.dial p d = s.dial p d := by
  have hoff : t.tdOffset p d = s.tdOffset p d := by
    rw [State.tdOffset, State.rf, h.reg64 (by unfold R.TD_OFFSET_NS_LO R.EG_CTL; omega) (by unfold R.TD_OFFSET_NS_LO R.EG_CTL; omega),
      h.reg _ (by unfold R.TD_OFFSET_FRAC R.EG_CTL; omega)]
    rfl
  rw [State.dial, State.dialAt, State.sreg, h.raw, hoff, h.reg64 (by unfold R.TD_ANCHOR_LO R.EG_CTL; omega) (by unfold R.TD_ANCHOR_LO R.EG_CTL; omega),
    h.reg _ (by unfold R.TD_INC_ADJ R.EG_CTL; omega)]
  rfl

theorem release : t.release p = s.release p := by rw [State.release, h.sel, h.dial, h.bridge]; rfl

/-- The first boundary that the generator comes to is the same. -/
theorem first : epochAfter (t.egBase p g) (t.egOrigin p g) (t.egNum p g) (t.egDen p g) (t.release p) =
    epochAfter (s.egBase p g) (s.egOrigin p g) (s.egNum p g) (s.egDen p g) (s.release p) := by
  rw [State.egBase, State.egOrigin, State.egNum, State.egDen, h.release,
    h.reg64 (by unfold R.EG_BASE_NS_LO R.EG_CTL; omega) (by unfold R.EG_BASE_NS_LO R.EG_CTL; omega),
    h.reg64 (by unfold R.EG_ORIGIN_LO R.EG_CTL; omega) (by unfold R.EG_ORIGIN_LO R.EG_CTL; omega),
    h.reg _ (by unfold R.EG_NUM R.EG_CTL; omega), h.reg _ (by unfold R.EG_DEN R.EG_CTL; omega)]
  rfl

end State.EgCtlOnly

/-! EN set and cleared (R121) -/

variable (s p g)

@[simp] theorem State.reg_modEg (f : EgS → EgS) (o : Nat) : (s.modEg p g f).reg o = s.reg o := State.reg_modPl ..

theorem State.eg_modEg (f : EgS → EgS) : ((s.modEg p g f).pl p).eg = modAt g f (s.pl p).eg := by rw [State.modEg, State.pl_modPl_same]

/-- A write that acknowledges flags leaves EN. -/
theorem State.egEn_put (v : Word) : (s.put { egCtlRow with rw := 0 } (R.EG_CTL p g) v 0).egEn p g = s.egEn p g := by
  have h := State.bit_put s { egCtlRow with rw := 0 } (R.EG_CTL p g) v 0 (i := 31) (by decide)
  have hw1c : egCtlRow.w1c.testBit 31 = false := by decide
  simp only [hw1c, Nat.zero_testBit, Bool.and_false, Bool.false_and, Bool.or_false, Bool.not_false, Bool.and_true, Bool.false_eq_true, if_false] at h
  exact h

theorem State.reg_with_mirror (m : List MirrorS) (o : Nat) : State.reg { s with mirror := m } o = s.reg o := rfl

theorem State.pl_with_mirror (m : List MirrorS) (q : Plane) : State.pl { s with mirror := m } q = s.pl q := by cases q <;> rfl

theorem State.reg_mirrorFrom (o : Nat) : (s.mirrorFrom p g).reg o = s.reg o := by
  unfold State.mirrorFrom
  split
  · exact State.reg_with_mirror ..
  · rfl

theorem State.pl_mirrorFrom (q : Plane) : (s.mirrorFrom p g).pl q = s.pl q := by
  unfold State.mirrorFrom
  split
  · exact State.pl_with_mirror ..
  · rfl

theorem State.reg_egStart (o : Nat) : (s.egStart p g).reg o = s.reg o := by
  unfold State.egStart
  dsimp only
  split
  · rw [State.reg_with_mirror, State.reg_mirrorFrom, State.reg_modEg]
  · exact State.reg_modEg ..

theorem State.eg_egStart : ((s.egStart p g).pl p).eg = modAt g (fun e => { e with
    live := true, next := epochAfter (s.egBase p g) (s.egOrigin p g) (s.egNum p g) (s.egDen p g) (s.release p) }) (s.pl p).eg := by
  unfold State.egStart
  dsimp only
  split
  · rw [State.pl_with_mirror, State.pl_mirrorFrom, State.eg_modEg]
  · exact State.eg_modEg ..

variable {s p g}

/-- EN written, with what tells of a boundary cleared. -/
def State.egSwitched (s : State) (p : Plane) (g : Nat) (en : Bool) : State :=
  ((s.when (g == 0) fun s => s.relearnFold p).setRb (R.EG_CTL p g) 31 en).setRb (R.EG_CTL p g) 30 false

theorem State.EgCtlOnly.switched (s : State) (p : Plane) (g : Nat) (en : Bool) : EgCtlOnly p g s (s.egSwitched p g en) :=
  (EgCtlOnly.relearnFold ..).trans ((EgCtlOnly.setRb ..).trans (EgCtlOnly.setRb ..))

theorem State.egEn_egSwitched (s : State) (p : Plane) (g : Nat) (en : Bool) : (s.egSwitched p g en).egEn p g = en := by
  rw [State.egEn, State.egSwitched, State.rb_setRb_ne _ _ _ (by decide) (by decide), State.rb_setRb_same _ _ _ (by decide)]

theorem State.egEn_with_outs (s : State) (f : List OutS) : State.egEn { s with outs := f } p g = s.egEn p g := rfl

/-- The outputs and the Ethernet releases of the plane have no last release (R121). -/
def State.relForgotten (s : State) (p : Plane) : State :=
  State.modPl { s with outs := s.outs.map fun o => { o with last := none } } p fun x =>
    { x with descSt := x.descSt.map fun e => (e.1, { e.2 with done := none }) }

theorem State.EgCtlOnly.forgotten (s : State) (p : Plane) (g : Nat) : EgCtlOnly p g s (s.relForgotten p) := by
  unfold State.relForgotten
  refine (EgCtlOnly.outs s p g fun s => s.outs.map fun o => { o with last := none }).trans (EgCtlOnly.modPl _ p g ?_ ?_ ?_) <;> exact fun _ => rfl

theorem State.egEn_relForgotten : (s.relForgotten p).egEn p g = s.egEn p g := by
  rw [State.egEn, State.rb, State.relForgotten, State.reg_modPl]
  exact s.egEn_with_outs _

/-- EN set, without a commit to wait for: the generator starts. -/
theorem State.egEnable_off (hen : s.egEn p g = false) (hpend : s.rb (R.EG_STAGE_CTL p g) 31 = false) :
    ∃ t, EgCtlOnly p g s t ∧ t.egEn p g = true ∧ s.egEnable p g = t.egStart p g := by
  let t := if s.canvasEg p = g then (s.egSwitched p g true).relForgotten p else s.egSwitched p g true
  have ht : EgCtlOnly p g s t := by
    unfold t; split
    · exact (EgCtlOnly.switched ..).trans (EgCtlOnly.forgotten ..)
    · exact EgCtlOnly.switched ..
  refine ⟨t, ht, ?_, ?_⟩
  · unfold t; split
    · rw [State.egEn_relForgotten, State.egEn_egSwitched]
    · rw [State.egEn_egSwitched]
  · unfold State.egEnable
    rw [if_neg (by rw [hen]; decide)]
    change (if s.rb (R.EG_STAGE_CTL p g) 31 = true then t else t.egStart p g) = _
    rw [if_neg (by rw [hpend]; decide)]

/-- EN cleared: the generator comes to no boundary. -/
theorem State.egDisable_on (hen : s.egEn p g = true) :
    (∀ o, (s.egDisable p g).reg o = (s.egSwitched p g false).reg o) ∧ (s.egDisable p g).out = (s.egSwitched p g false).out ∧
      ((s.egDisable p g).pl p).eg = modAt g (fun e => { e with live := false }) ((s.egSwitched p g false).pl p).eg := by
  have hdis : s.egDisable p g = (let t := (s.egSwitched p g false).modEg p g fun e => { e with live := false }
      if s.lead = p then { t with mirror := modAt g (fun m => { m with en := false }) t.mirror } else t) := by
    unfold State.egDisable
    rw [if_neg (by rw [hen]; decide)]
    rfl
  rw [hdis]
  dsimp only
  split
  · exact ⟨fun o => by rw [State.reg_with_mirror, State.reg_modEg], State.modPl_out .., by rw [State.pl_with_mirror, State.eg_modEg]⟩
  · exact ⟨State.reg_modEg _ _ _ _, State.modPl_out .., State.eg_modEg ..⟩

end

end Sys2Proof.Machine
end


section
/-!
A generator's commit and its boundaries (R119-R122).
-/
namespace Sys2Proof.Machine

section
variable {s : State} {p : Plane} {g : Nat}

/-! A commit applies (R120, R121) -/

section
variable (hpend : s.rb (R.EG_STAGE_CTL p g) 31 = true)
include hpend

theorem State.egApply_refused (hbad : validPeriod (s.snapReg (R.EG_NUM p g)).toNat (s.snapReg (R.EG_DEN p g)).toNat = false)
    (hlive : ((s.pl p).egS g).live = true) :
    s.egApply p g = ((s.endCommit (R.EG_STAGE_CTL p g)).setRb (R.EG_CTL p g) 29 true).raise 127 := by
  unfold State.egApply State.egCommit
  simp only [State.pendingAt, hpend, hbad, hlive, Bool.not_true, Bool.not_false, Bool.and_false, Bool.false_and, Bool.false_eq_true, if_true, if_false]

variable (hgood : validPeriod (s.snapReg (R.EG_NUM p g)).toNat (s.snapReg (R.EG_DEN p g)).toNat = true) (hcanvas : s.canvasEg p ≠ g)
include hgood hcanvas

theorem State.egApply_stopped (hlive : ((s.pl p).egS g).live = false) (hen : s.egEn p g = false) :
    s.egApply p g = (s.applyBlock (R.EG_STAGE_CTL p g)).mirrorFrom p g := by
  unfold State.egApply State.egCommit
  simp only [State.pendingAt, hpend, hgood, hlive, hen, beq_eq_false_iff_ne.2 hcanvas, Bool.not_true, Bool.and_false, Bool.false_and,
    Bool.false_eq_true, if_false]

theorem State.egApply_live (hlive : ((s.pl p).egS g).live = true) :
    s.egApply p g = (((((s.setReg64 (R.EG_BASE_NS_LO p g) (s.egTime p g ((s.pl p).egS g).index / 16)).setReg64
      (R.EG_ORIGIN_LO p g) ((s.pl p).egS g).index).setReg (R.EG_NUM p g) (s.snapReg (R.EG_NUM p g))).setReg (R.EG_DEN p g)
        (s.snapReg (R.EG_DEN p g))).endCommit (R.EG_STAGE_CTL p g) |>.unstage (R.EG_BASE_NS_LO p g) (R.EG_INDEX_LO p g)).mirrorFrom p g := by
  unfold State.egApply State.egCommit
  simp only [State.pendingAt, hpend, hgood, hlive, beq_eq_false_iff_ne.2 hcanvas, Bool.not_true, Bool.and_false,
    Bool.false_eq_true, if_false, if_true]

end

/-! The planes' parameters compared (R122) -/

/-- Nothing tells the planes' generators apart. -/
def State.egSame (s : State) (g : Nat) : Prop :=
  s.egNum .a g = s.egNum .b g ∧ s.egDen .a g = s.egDen .b g ∧ s.egBase .a g = s.egBase .b g ∧ s.egOrigin .a g = s.egOrigin .b g ∧
    s.egEn .a g = s.egEn .b g

/-- The other plane has yet to come to the boundary. -/
def State.egBehind (s : State) (p : Plane) (g : Nat) : Prop :=
  s.egEn (other p) g = true ∧ (((s.pl (other p)).egS g).live = false ∨ ((s.pl (other p)).egS g).next = ((s.pl p).egS g).index)

/-- Outside DUPLEX, or where the planes agree or cannot be compared yet. -/
def State.egAgrees (s : State) (p : Plane) (g : Nat) : Prop := s.mode ≠ 3 ∨ s.egSame g ∨ s.egBehind p g

theorem State.egCompare_of_agrees (h : s.egAgrees p g) : s.egCompare p g = s := by
  unfold State.egCompare
  refine if_neg fun hc => ?_
  simp only [Bool.and_eq_true, Bool.not_eq_true', ← Bool.not_eq_true (_ && _), decide_eq_true_eq, beq_iff_eq, Bool.or_eq_true] at hc
  obtain ⟨⟨hmode, hsame⟩, hbehind⟩ := hc
  obtain h | ⟨h1, h2, h3, h4, h5⟩ | h := h
  · exact h hmode
  · exact hsame ⟨⟨⟨⟨h1, h2⟩, h3⟩, h4⟩, h5⟩
  · exact hbehind h

theorem State.egCompare_of_differs (h : ¬ s.egAgrees p g) :
    s.egCompare p g = ((s.setRb (R.EG_CTL .a g) 28 true).setRb (R.EG_CTL .b g) 28 true).raise 127 := by
  unfold State.egCompare
  refine if_pos ?_
  simp only [Bool.and_eq_true, Bool.not_eq_true', ← Bool.not_eq_true (_ && _), decide_eq_true_eq, beq_iff_eq, Bool.or_eq_true]
  simp only [State.egAgrees, not_or, ne_eq, not_not] at h
  obtain ⟨hmode, hsame, hbehind⟩ := h
  exact ⟨⟨hmode, fun ⟨⟨⟨⟨h1, h2⟩, h3⟩, h4⟩, h5⟩ => hsame ⟨h1, h2, h3, h4, h5⟩⟩, hbehind⟩

theorem State.egAgrees_congr {t : State} (hmode : t.mode = s.mode) (hreg : ∀ o, t.reg o = s.reg o) (heg : ∀ q, (t.pl q).eg = (s.pl q).eg) :
    t.egAgrees p g ↔ s.egAgrees p g := by
  simp only [State.egAgrees, State.egSame, State.egBehind, State.egNum, State.egDen, State.egBase, State.egOrigin, State.egEn, State.rb,
    State.reg64, PlaneS.egS, hmode, hreg, heg]

/-! A boundary (R119) -/

/-- The index of the boundary that the generator has come to is shown. -/
def State.egStepped (s : State) (p : Plane) (g : Nat) : State :=
  (s.modEg p g fun e => { e with index := e.next, next := e.next + 1 }).setRb (R.EG_CTL p g) 30 true

theorem State.reg_egStepped_ne {o : Nat} (h : o ≠ R.EG_CTL p g) : (s.egStepped p g).reg o = s.reg o := by
  rw [State.egStepped, State.reg_setRb_ne _ h, State.reg_modEg]

theorem State.mode_modPl {f : PlaneS → PlaneS} (hst : ∀ x, (f x).st = x.st) (hrejoin : ∀ x, (f x).rejoin = x.rejoin) :
    (s.modPl p f).mode = s.mode := by
  cases p <;> simp only [State.mode, State.active, State.modPl, State.setPl, State.pl, hst, hrejoin] <;> rfl

theorem State.mode_setRb (o i : Nat) (b : Bool) : (s.setRb o i b).mode = s.mode := rfl

theorem State.mode_egStepped : (s.egStepped p g).mode = s.mode := by
  rw [State.egStepped, State.mode_setRb]
  exact State.mode_modPl (fun _ => rfl) fun _ => rfl

theorem State.pl_egStepped_same : (s.egStepped p g).pl p =
    { s.pl p with eg := modAt g (fun e => { e with index := e.next, next := e.next + 1 }) (s.pl p).eg } := by
  rw [State.egStepped, State.pl_setRb, State.modEg, State.pl_modPl_same]

theorem State.snf_egStepped : (s.egStepped p g).snf = s.snf := by cases p <;> rfl

/-- A generator that runs and that no commit waits for. -/
structure State.EgRuns (s : State) (p : Plane) (g : Nat) : Prop where
  present : s.present p = true
  en : s.egEn p g = true
  live : ((s.pl p).egS g).live = true
  idle : s.rb (R.EG_STAGE_CTL p g) 31 = false

theorem State.egCommit_idle (h : s.rb (R.EG_STAGE_CTL p g) 31 = false) : s.egCommit p g = (s, false) :=
  if_pos (by rw [State.pendingAt, h]; rfl)

theorem State.guardAt_idle (h : s.rb (R.REL_STAGE_CTL p) 31 = false) : s.guardAt p false = s := by
  unfold State.guardAt
  rw [State.pendingAt, h]
  rfl

namespace State.EgRuns

variable (h : s.EgRuns p g)
include h

theorem guard : ¬ (!(s.present p && s.egEn p g && ((s.pl p).egS g).live)) = true := by
  rw [h.present, h.en, h.live]; decide

theorem length : g < (s.pl p).eg.length := by
  by_contra hc
  have hlive := h.live
  rw [PlaneS.egS, List.getD_eq_default _ _ (Nat.not_lt.1 hc)] at hlive
  exact Bool.false_ne_true hlive

theorem index_stepped : (((s.egStepped p g).pl p).egS g).index = ((s.pl p).egS g).next := by
  rw [State.pl_egStepped_same, PlaneS.egS, getD_modAt_same _ h.length]
  rfl

theorem stepped_idle : (s.egStepped p g).egCommit p g = (s.egStepped p g, false) :=
  State.egCommit_idle (by rw [State.rb, State.reg_egStepped_ne (by unfold R.EG_STAGE_CTL R.EG_CTL; omega)]; exact h.idle)

/-- A boundary that neither EG0 nor the Canvas takes part in. -/
theorem boundary_apart (hg : g ≠ 0) (hcanvas : s.canvasEg p ≠ g) : s.boundary p g = ((s.egStepped p g).egCompare p g, none) := by
  have hi := h.stepped_idle
  unfold State.egStepped at hi ⊢
  unfold State.boundary
  rw [if_neg h.guard]
  simp only [hi, if_neg hg, if_neg hcanvas]

/-- A boundary of EG0 where it is not the canvas generator. -/
theorem boundary_eg0 (hg : g = 0) (hcanvas : s.canvasEg p ≠ g) (hcmp : (s.egStepped p g).egAgrees p g) :
    s.boundary p g = ((((s.egStepped p g).switchNow p).1.jumpNow p).autoSwitch p, ((s.egStepped p g).switchNow p).2) := by
  have hi := h.stepped_idle
  have hc := State.egCompare_of_agrees hcmp
  unfold State.egStepped at hi hc ⊢
  unfold State.boundary
  rw [if_neg h.guard]
  simp only [hi, hc, if_pos hg, if_neg hcanvas]

/-- A boundary of the canvas generator, with nothing that waits for it. -/
theorem boundary_canvas (hg : g ≠ 0) (hcanvas : s.canvasEg p = g) (hcmp : (s.egStepped p g).egAgrees p g) (hhold : s.snf.holdEnds = false)
    (hrel : s.rb (R.REL_STAGE_CTL p) 31 = false) : s.boundary p g = ((s.egStepped p g).canvasBoundary p ((s.pl p).egS g).next, none) := by
  have hi := h.stepped_idle
  have hc := State.egCompare_of_agrees hcmp
  have hhold' : (s.egStepped p g).snf.holdEnds = false := by rw [State.snf_egStepped]; exact hhold
  have hidle : (s.egStepped p g).guardAt p false = s.egStepped p g :=
    State.guardAt_idle (by rw [State.rb, State.reg_egStepped_ne (by unfold R.REL_STAGE_CTL R.EG_CTL; omega)]; exact hrel)
  unfold State.egStepped at hi hc hhold' hidle ⊢
  unfold State.boundary
  rw [if_neg h.guard]
  simp only [hi, hc, if_neg hg, if_pos hcanvas, hhold', Bool.false_eq_true, if_false, decide_eq_false hg, Bool.false_and, State.when]
  exact congrArg (fun t => (State.canvasBoundary t p ((s.pl p).egS g).next, none)) hidle

end State.EgRuns

/-- At a boundary of the canvas generator one boundary less is left at which no instances open (R443, R481). -/
def State.openCounted (s : State) (p : Plane) : State := s.modPl p fun x => { x with noOpen := x.noOpen - 1 }

/-- An open TIME_SWITCH ends with the switch that it armed (R114). -/
def State.switchEnds (r : State × Option Bool) : State := match r.2 with | some ok => r.1.switchDone ok | none => r.1

theorem State.imgAt_none (h : s.img = none) : s.imgAt p g = false := by
  unfold State.imgAt
  rw [h]

theorem State.applyLead_none (h : s.setLead = none) : s.applyLead = s := by
  unfold State.applyLead
  rw [h]

theorem State.relearnTick_none (h : (s.pl p).relearn = none) : s.relearnTick p = s := by
  have hc : s.relearnCounts p = s := by unfold State.relearnCounts; rw [h]
  unfold State.relearnTick
  rw [hc]
  dsimp only
  rw [h]

theorem State.mode_openCounted : (s.openCounted p).mode = s.mode := State.mode_modPl (fun _ => rfl) fun _ => rfl

theorem State.reg_openCounted (o : Nat) : (s.openCounted p).reg o = s.reg o := State.reg_modPl ..

theorem State.eg_openCounted (q : Plane) : ((s.openCounted p).pl q).eg = (s.pl q).eg := by
  obtain rfl | h := eq_or_ne q p
  · rw [State.openCounted, State.pl_modPl_same]
  · rw [State.openCounted, State.pl_modPl_ne _ h]

theorem State.reg_egStepped_openCounted (o : Nat) : ((s.openCounted p).egStepped p g).reg o = (s.egStepped p g).reg o := by
  obtain rfl | h := eq_or_ne o (R.EG_CTL p g)
  · simp only [State.egStepped, State.setRb, State.setRf, State.reg_setReg_same, State.reg_modEg, State.reg_openCounted]
  · rw [State.reg_egStepped_ne h, State.reg_egStepped_ne h, State.reg_openCounted]

theorem State.eg_egStepped_openCounted (q : Plane) : (((s.openCounted p).egStepped p g).pl q).eg = ((s.egStepped p g).pl q).eg := by
  obtain rfl | h := eq_or_ne q p
  · rw [State.pl_egStepped_same, State.pl_egStepped_same, State.eg_openCounted]
  · rw [State.egStepped, State.egStepped, State.pl_setRb, State.pl_setRb, State.modEg, State.modEg, State.pl_modPl_ne _ h, State.pl_modPl_ne _ h,
      State.eg_openCounted]

theorem State.EgRuns.openCounted (h : s.EgRuns p g) : (s.openCounted p).EgRuns p g where
  present := by
    have := h.present
    rw [State.present, State.openCounted, State.pl_modPl_same]
    exact this
  en := by
    rw [State.egEn, State.rb, State.reg_openCounted]
    exact h.en
  live := by
    rw [PlaneS.egS, State.eg_openCounted]
    exact h.live
  idle := by
    rw [State.rb, State.reg_openCounted]
    exact h.idle

namespace State.EgRuns

variable (h : s.EgRuns p g) (himg : s.img = none)
include h himg

/-- A boundary that is not the Canvas's. -/
theorem epochStep_apart (hcanvas : s.canvasEg p ≠ g) (hlead : g ≠ 0 ∨ s.setLead = none) :
    s.epochStep p g = if g = 0 then (State.switchEnds (s.boundary p g)).relearnTick p else State.switchEnds (s.boundary p g) := by
  have hstays : (if g = 0 ∧ s.lead = p then s.applyLead else s) = s := by
    obtain hg | hs := hlead
    · exact if_neg fun hc => hg hc.1
    · rw [State.applyLead_none hs, ite_self]
  unfold State.epochStep
  rw [if_neg h.guard]
  obtain ⟨⟨t, done⟩, hb⟩ : ∃ r, s.boundary p g = r := ⟨_, rfl⟩
  simp only [State.imgAt_none himg, Bool.false_eq_true, if_false, if_neg hcanvas, hstays, hb]
  cases done <;> rfl

/-- A boundary of the canvas generator, where that is not EG0 and nothing waits for it. -/
theorem epochStep_canvas (hcanvas : s.canvasEg p = g) (hg : g ≠ 0) (hcmp : (s.egStepped p g).egAgrees p g) (hhold : s.snf.holdEnds = false)
    (hrel : s.rb (R.REL_STAGE_CTL p) 31 = false) :
    s.epochStep p g = ((s.openCounted p).egStepped p g).canvasBoundary p ((s.pl p).egS g).next := by
  have hsnf : (s.openCounted p).snf = s.snf := by unfold State.openCounted; cases p <;> rfl
  have hb := h.openCounted.boundary_canvas hg (by rw [State.canvasEg, State.rf, State.reg_openCounted]; exact hcanvas)
    ((State.egAgrees_congr (by rw [State.mode_egStepped, State.mode_egStepped, State.mode_openCounted]) State.reg_egStepped_openCounted
      State.eg_egStepped_openCounted).2 hcmp) (by rw [hsnf]; exact hhold) (by rw [State.rb, State.reg_openCounted]; exact hrel)
  rw [PlaneS.egS, State.eg_openCounted] at hb
  unfold State.openCounted at hb
  unfold State.epochStep
  rw [if_neg h.guard]
  simp only [State.imgAt_none himg, Bool.false_eq_true, if_false, if_pos hcanvas, hg, false_and, hb]
  rfl

end State.EgRuns

end

/-! What takes part in a boundary of EG0 only where something waits for it (R114, R115) -/

section
variable {s : State} {p : Plane}

theorem State.switchNow_none (h : (s.pl p).sw = none) : s.switchNow p = (s, none) := by
  unfold State.switchNow
  rw [h]

theorem State.jumpNow_none (h : (s.pl p).jump = false) : s.jumpNow p = s := by
  unfold State.jumpNow
  rw [h]
  rfl

theorem State.autoSwitch_off (h : ∀ q, s.rb (R.TB_CTL q) 25 = false) : s.autoSwitch p = s := by
  unfold State.autoSwitch
  refine if_pos ?_
  rw [h]
  simp only [Bool.not_false, Bool.or_true, Bool.true_or]

end

/-! A write of EGn_CTL that changes EN (R121) -/

/-- A write of EGn_CTL takes away the flags that it acknowledges. -/
def State.egAcked (s : State) (p : Plane) (g : Nat) (v : Word) : State := s.put { egCtlRow with rw := 0 } (R.EG_CTL p g) v 0

section
variable {s : State} {r : Req} {p : Plane} {g : Nat} (hr : s.reqOn r = true) (hp : s.present p = true) (hg : g < 4)
include hr hp hg

theorem State.regWrite_egCtl_set : s.regWrite r (R.EG_CTL p g) 4 0x80000000 = (s.egAcked p g 0x80000000).egEnable p g :=
  by
  rw [State.regWrite_egCtl hg hr hp, State.egCtl]
  exact if_pos (by decide)

theorem State.regWrite_egCtl_clear : s.regWrite r (R.EG_CTL p g) 4 0 = (s.egAcked p g 0).egDisable p g :=
  by
  rw [State.regWrite_egCtl hg hr hp, State.egCtl]
  exact if_neg (by decide)

variable (hlt : g < (s.pl p).eg.length)
include hlt

theorem State.egSet_starts (hen : s.egEn p g = false) (hpend : s.rb (R.EG_STAGE_CTL p g) 31 = false) :
    ∃ u, s.regWrite r (R.EG_CTL p g) 4 0x80000000 = u ∧ u.egEn p g = true ∧ (u.pl p).egS g =
      ⟨true, ((s.pl p).egS g).index, epochAfter (s.egBase p g) (s.egOrigin p g) (s.egNum p g) (s.egDen p g) (s.release p)⟩ := by
  have hack : State.EgCtlOnly p g s (s.egAcked p g 0x80000000) := State.EgCtlOnly.put ..
  have hidle : (s.egAcked p g 0x80000000).rb (R.EG_STAGE_CTL p g) 31 = false := by
    rw [State.rb, hack.reg _ (by unfold R.EG_STAGE_CTL R.EG_CTL; omega)]
    exact hpend
  obtain ⟨t, ht, hten, hstart⟩ := State.egEnable_off ((State.egEn_put ..).trans hen) hidle
  have hall := hack.trans ht
  refine ⟨_, (State.regWrite_egCtl_set hr hp hg).trans hstart, ?_, ?_⟩
  · rw [State.egEn, State.rb, State.reg_egStart]
    exact hten
  · rw [PlaneS.egS, State.eg_egStart, getD_modAt_same _ (by rw [hall.eg]; exact hlt), hall.eg, hall.first]
    rfl

theorem State.egClear_stops (hen : s.egEn p g = true) :
    ∃ u, s.regWrite r (R.EG_CTL p g) 4 0 = u ∧ u.egEn p g = false ∧ (u.pl p).egS g = ⟨false, ((s.pl p).egS g).index, ((s.pl p).egS g).next⟩ ∧
      (∀ o, o ≠ R.EG_CTL p g → u.reg o = s.reg o) ∧ u.out = s.out := by
  have hack : State.EgCtlOnly p g s (s.egAcked p g 0) := State.EgCtlOnly.put ..
  obtain ⟨hreg, hout, heg⟩ := State.egDisable_on (s := s.egAcked p g 0) ((State.egEn_put ..).trans hen)
  have hall := hack.trans (State.EgCtlOnly.switched _ p g false)
  refine ⟨_, State.regWrite_egCtl_clear hr hp hg, ?_, ?_, fun o ho => (hreg o).trans (hall.reg o ho), hout.trans hall.out⟩
  · rw [State.egEn, State.rb, hreg]
    exact State.egEn_egSwitched ..
  · rw [PlaneS.egS, heg, getD_modAt_same _ (by rw [hall.eg]; exact hlt), hall.eg]
    rfl

end

/-- Settles O20: a write of EGn_CTL by the register's row, a commit by its period, and a boundary by what takes part in it. -/
theorem epochGeneratorCommands : Obligations.EpochGeneratorCommands := by
  intro s r p g hr hp e num den sc
  refine ⟨fun hen hpend hlt => ?_, fun hen hlt => ?_, fun hpend hbad hlive => ?_, fun hpend hgood hlive hen hcanvas => ?_,
    fun hpend hgood hlive hcanvas => ?_, fun hen hlive himg hidle => ?_⟩
  · obtain ⟨u, hu, h⟩ := State.egSet_starts hr hp g.isLt hlt hen hpend
    exact ⟨u, exec_next_of_eq rfl hu, h⟩
  · obtain ⟨u, hu, h⟩ := State.egClear_stops hr hp g.isLt hlt hen
    exact ⟨u, exec_next_of_eq rfl hu, h⟩
  · exact exec_next_of_eq rfl (State.egApply_refused hpend hbad hlive)
  · exact exec_next_of_eq rfl (State.egApply_stopped hpend hgood hcanvas hlive hen)
  · exact exec_next_of_eq rfl (State.egApply_live hpend hgood hcanvas hlive)
  · intro s1 y same behind
    have hruns : s.EgRuns p g := ⟨hp, hen, hlive, hidle⟩
    have hagree : s1.egAgrees p g ↔ s.mode ≠ 3 ∨ same ∨ behind := by
      have hindex : ((s1.pl p).egS g).index = e.next := hruns.index_stepped
      have hmode : s1.mode = s.mode := State.mode_egStepped
      rw [State.egAgrees, State.egBehind, hmode, hindex]
      rfl
    refine ⟨fun hcanvas hg hcmp => ?_, fun hcanvas hg hmode hsame hbehind => ?_, fun hcanvas hg hcmp hlead hrelearn => ?_,
      fun hcanvas hg hcmp hhold hrel => ?_⟩
    · refine exec_drain_of_eq rfl ?_
      rw [hruns.epochStep_apart himg hcanvas (.inl hg), if_neg hg, hruns.boundary_apart hg hcanvas]
      exact State.egCompare_of_agrees (hagree.2 hcmp)
    · refine exec_drain_of_eq rfl ?_
      rw [hruns.epochStep_apart himg hcanvas (.inl hg), if_neg hg, hruns.boundary_apart hg hcanvas]
      exact State.egCompare_of_differs fun h => (hagree.1 h).elim (absurd hmode) fun h => h.elim hsame hbehind
    · intro r s2 s3
      have hstep : s.epochStep p g = s3.relearnTick p := by
        rw [hruns.epochStep_apart himg hcanvas (.inr hlead), if_pos hg, hruns.boundary_eg0 hg hcanvas (hagree.2 hcmp)]
        rfl
      have hgo (h : (s3.pl p).relearn = none) : exec (.epochBoundary p g) s = .next (s.after s3.drain) :=
        exec_drain_of_eq rfl (hstep.trans (State.relearnTick_none h))
      refine ⟨hgo, fun hsw hjump hauto hautoA hautoB => ?_⟩
      have hpl : s1.pl p = _ := State.pl_egStepped_same
      have hr1 : r = (s1, none) := State.switchNow_none (by rw [hpl]; exact hsw)
      have hctl (q : Plane) : s1.rb (R.TB_CTL q) 25 = false := by
        have hreg : s1.reg (R.TB_CTL q) = s.reg (R.TB_CTL q) :=
          State.reg_egStepped_ne (by unfold R.TB_CTL R.EG_CTL; cases p <;> cases q <;> simp only [planeOfs] <;> omega)
        rw [State.rb, hreg]
        cases q
        · exact hautoA
        · exact hautoB
      have hs2 : s2 = s1 := by
        unfold s2
        rw [hr1]
        exact (congrArg (·.autoSwitch p) (State.jumpNow_none (by rw [hpl]; exact hjump))).trans (State.autoSwitch_off hctl)
      have hs3 : s3 = s1 := by
        change State.switchEnds (s2, r.2) = s1
        rw [hr1, hs2]
        rfl
      rw [← hs3]
      exact hgo (by rw [hs3, hpl]; exact hrelearn)
    · exact exec_drain_of_eq rfl (hruns.epochStep_canvas himg hcanvas hg (hagree.2 hcmp) hhold hrel)

end Sys2Proof.Machine
end


section
/-!
The duplicate-discard window of an origin and class (R143).
-/
namespace Sys2Proof.Machine

/-! How far sequence numbers lie behind one another, modulo 2^32 -/

theorem toNat_sub_eq_zero {a x : Word} : (a - x).toNat = 0 ↔ x = a := by bv_omega

theorem toNat_sub_inj {h x y : Word} : (h - x).toNat = (h - y).toNat ↔ x = y := by bv_omega

/-- Of two numbers behind `a` the one further behind is behind the other by the difference. -/
theorem toNat_sub_further {a h x : Word} (hle : (a - h).toNat ≤ (a - x).toNat) : (h - x).toNat = (a - x).toNat - (a - h).toNat := by bv_omega

/-- The one less far behind is behind the other only around the end of the numbers. -/
theorem toNat_sub_around {a h x : Word} (hlt : (a - x).toNat < (a - h).toNat) :
    (h - x).toNat = 2 ^ 32 - (a - h).toNat + (a - x).toNat := by bv_omega

/-! What is on record -/

/-- The record moved up by `d`, with the newest number. -/
theorem getLsbD_record_ahead (r : BitVec 1024) {d j : Nat} (hj : j < 1024) :
    ((if d < 1024 then r <<< d else 0) ||| 1).getLsbD j = (decide (j = 0) || (decide (d ≤ j) && r.getLsbD (j - d))) := by
  have hone : (1 : BitVec 1024).getLsbD j = decide (j = 0) := by
    rw [show (1 : BitVec 1024) = 1#1024 from rfl, BitVec.getLsbD_one]
    simp
  have hmove : (if d < 1024 then r <<< d else 0).getLsbD j = (decide (d ≤ j) && r.getLsbD (j - d)) := by
    split
    · rw [BitVec.getLsbD_shiftLeft, decide_eq_true hj, Bool.true_and, ← decide_not, decide_eq_decide.2 Nat.not_lt]
    · rw [decide_eq_false (by omega : ¬ d ≤ j), Bool.false_and]
      exact BitVec.getLsbD_zero
  rw [BitVec.getLsbD_or, hone, hmove, Bool.or_comm]

/-- The record with the number `i` behind added. -/
theorem getLsbD_record_behind (r : BitVec 1024) (i : Nat) {j : Nat} (hj : j < 1024) :
    (r ||| BitVec.ofNat 1024 (2 ^ i)).getLsbD j = (decide (j = i) || r.getLsbD j) := by
  rw [BitVec.getLsbD_or, BitVec.getLsbD_ofNat, Nat.testBit_two_pow, Bool.or_comm, decide_eq_true hj, Bool.true_and, decide_eq_decide.2 eq_comm]

theorem recorded_iff {w : DupWin} {x : Word} : recorded w x = true ↔ (w.high - x).toNat < 1024 ∧ w.rec_.getLsbD (w.high - x).toNat = true := by
  rw [recorded, Bool.and_eq_true, decide_eq_true_eq]

theorem recorded_first {seq x : Word} : recorded ⟨seq, 1⟩ x = true ↔ x = seq := by
  have hself : (seq - x).toNat = 0 ↔ x = seq := toNat_sub_eq_zero
  rw [recorded_iff, ← hself, show (1 : BitVec 1024) = 1#1024 from rfl, BitVec.getLsbD_one]
  simp only [Bool.and_eq_true, decide_eq_true_eq]
  omega

variable {w : DupWin} {seq x : Word}

/-- The record once the window has moved up to a number ahead. -/
theorem recorded_ahead (hpos : 1 ≤ (seq - w.high).toNat) (hhalf : (seq - w.high).toNat < 2 ^ 31) :
    recorded ⟨seq, (if (seq - w.high).toNat < 1024 then w.rec_ <<< (seq - w.high).toNat else 0) ||| 1⟩ x = true ↔
      x = seq ∨ recorded w x = true ∧ (seq - x).toNat < 1024 := by
  have hself : (seq - x).toNat = 0 ↔ x = seq := toNat_sub_eq_zero
  rw [recorded_iff, recorded_iff, ← hself]
  by_cases hj : (seq - x).toNat < 1024
  case neg => simp only [hj, and_false, false_and, or_false, false_iff]; omega
  rw [getLsbD_record_ahead _ hj, Bool.or_eq_true, Bool.and_eq_true, decide_eq_true_eq, decide_eq_true_eq]
  simp only [hj, true_and, and_true]
  refine or_congr_right ?_
  by_cases hd : (seq - w.high).toNat ≤ (seq - x).toNat
  · rw [toNat_sub_further hd]
    simp only [hd, true_and, show (seq - x).toNat - (seq - w.high).toNat < 1024 by omega]
  · have hfar : ¬ (w.high - x).toNat < 1024 := by rw [toNat_sub_around (Nat.lt_of_not_le hd)]; omega
    simp only [hd, hfar, false_and]

/-- The record once a number behind has been added. -/
theorem recorded_behind (hnear : (w.high - seq).toNat < 1024) :
    recorded { w with rec_ := w.rec_ ||| BitVec.ofNat 1024 (2 ^ (w.high - seq).toNat) } x = true ↔
      x = seq ∨ recorded w x = true ∧ (w.high - x).toNat < 1024 := by
  have hself : (w.high - x).toNat = (w.high - seq).toNat ↔ x = seq := toNat_sub_inj
  rw [recorded_iff, recorded_iff, ← hself]
  by_cases hj : (w.high - x).toNat < 1024
  · simp only [hj, getLsbD_record_behind _ _ hj, Bool.or_eq_true, decide_eq_true_eq, true_and, and_true]
  · simp only [hj, and_false, false_and, or_false, false_iff]
    omega

/-- What is on record as a truth value. -/
theorem eq_decide_or_of_iff {a b : Bool} {c d : Prop} [Decidable c] [Decidable d] (h : a = true ↔ c ∨ b = true ∧ d) :
    a = (decide c || (b && decide d)) := by
  rw [Bool.eq_iff_iff, h, Bool.or_eq_true, Bool.and_eq_true, decide_eq_true_eq, decide_eq_true_eq]

/-! What the window decides -/

theorem dupCheck_same (hd : (seq - w.high).toNat = 0) : dupCheck (some w) seq = (some true, w) := by
  rw [dupCheck]
  exact if_pos hd

theorem dupCheck_ahead (hpos : 1 ≤ (seq - w.high).toNat) (hhalf : (seq - w.high).toNat < 2 ^ 31) :
    dupCheck (some w) seq = (none, ⟨seq, (if (seq - w.high).toNat < 1024 then w.rec_ <<< (seq - w.high).toNat else 0) ||| 1⟩) := by
  rw [dupCheck]
  exact (if_neg (by omega)).trans (if_pos hhalf)

/-- A number behind is a duplicate where it is on record, stale where it lies too far behind, and otherwise new. -/
theorem dupCheck_behind (hhalf : 2 ^ 31 ≤ (seq - w.high).toNat) : dupCheck (some w) seq =
    if recorded w seq = true then (some true, w)
    else if (w.high - seq).toNat ≤ 1023 then (none, { w with rec_ := w.rec_ ||| BitVec.ofNat 1024 (2 ^ (w.high - seq).toNat) })
    else (some false, w) := by
  simp only [dupCheck, recorded_iff, show ¬ (seq - w.high).toNat = 0 by omega, show ¬ (seq - w.high).toNat < 2 ^ 31 by omega, if_false]
  by_cases hnear : 1024 ≤ (w.high - seq).toNat
  · simp only [hnear, show ¬ (w.high - seq).toNat < 1024 by omega, show ¬ (w.high - seq).toNat ≤ 1023 by omega, if_true, if_false, false_and]
  · simp only [hnear, show (w.high - seq).toNat < 1024 by omega, show (w.high - seq).toNat ≤ 1023 by omega, if_true, if_false, true_and]

/-- Settles O15, by where the sequence number lies: at H, ahead of it, or behind it. -/
theorem duplicateWindow : Obligations.DuplicateWindow := by
  intro w seq d
  refine ⟨rfl, rfl, fun x => Bool.eq_iff_iff.2 (recorded_first.trans (decide_eq_true_iff).symm), ?_⟩
  obtain hd | ⟨hpos, hhalf⟩ | hhalf : d = 0 ∨ (1 ≤ d ∧ d < 2 ^ 31) ∨ 2 ^ 31 ≤ d := by omega
  · rw [dupCheck_same hd, if_neg (by omega), if_pos (.inl hd)]
    exact ⟨rfl, nofun, fun _ => rfl⟩
  · simp only [dupCheck_ahead hpos hhalf, and_self, hpos, hhalf, if_true]
    exact ⟨trivial, fun _ => ⟨trivial, fun x => eq_decide_or_of_iff (recorded_ahead hpos hhalf)⟩, fun h => absurd rfl h⟩
  · simp only [dupCheck_behind hhalf, show ¬ (1 ≤ d ∧ d < 2 ^ 31) by omega, show ¬ d = 0 by omega, false_or, if_false]
    split
    · exact ⟨rfl, nofun, fun _ => rfl⟩
    split
    next hnear => exact ⟨rfl, fun _ => ⟨rfl, fun x => eq_decide_or_of_iff (recorded_behind (by omega))⟩, fun h => absurd rfl h⟩
    · exact ⟨rfl, nofun, fun _ => rfl⟩

end Sys2Proof.Machine
end


section
/-!
Ports of a plane (R135, R145, R166-R169): what a change of PORT_STATUS, of PORT_RING or of a counter leaves of the rest.
-/
namespace Sys2Proof.Machine

section
variable {s t : State} {p : Plane} {i : Nat}

theorem State.reg_count_ne (s : State) {off o : Nat} (h : o ≠ off) : (s.count off).reg o = s.reg o := State.reg_setRf_ne _ h ..

@[simp] theorem State.pl_count (s : State) (off : Nat) (q : Plane) : (s.count off).pl q = s.pl q := State.pl_setRf ..

theorem State.portMode_congr (h : t.reg (R.PORT_CFG p i) = s.reg (R.PORT_CFG p i)) : t.portMode p i = s.portMode p i := by
  rw [State.portMode, State.portMode, State.rf, State.rf, h]

theorem portCfg_ne_portStatus (j : Nat) : R.PORT_CFG p i ≠ R.PORT_STATUS p j := by
  unfold R.PORT_CFG R.PORT_STATUS
  omega

end

/-! PORT_RING is a register of its own row, whose write may wrap a port that is down -/

/-- The row of PORT_RING. -/
def portRingRow : RegRow := rows_port[3]

section
variable (p : Plane) {i : Nat} (hi : i < 4)

theorem portRing_eq : R.PORT_RING p i = 0x41000C + i * 0x4000 + planeOfs p := by unfold R.PORT_RING; omega

include hi

theorem normOff_portRing : normOff (R.PORT_RING p i) = 0x41000C + i * 0x4000 := by
  rw [portRing_eq]
  exact normOff_plane p (by omega) (by omega)

theorem rowOf_portRing : rowOf (R.PORT_RING p i) = some portRingRow := by
  rw [rowOf, normOff_portRing p hi, rowsAt_port (by omega) (by omega)]
  exact findRow_indexed (l := rows_port) (row := portRingRow) (k := 3) rfl (by decide) rfl hi

theorem ix1_portRing : portRingRow.ix1 (R.PORT_RING p i) = i := by
  rw [RegRow.ix1, normOff_portRing p hi]
  change (0x41000C + i * 0x4000 - 0x41000C) / 0x4000 = i
  omega

theorem planeOf_portRing : planeOf (R.PORT_RING p i) = some p := by
  rw [portRing_eq]
  exact planeOf_plane p (by omega) (by omega)

theorem logOf_portRing : logOf (R.PORT_RING p i) = none := by
  unfold logOf
  rw [if_neg (by unfold R.PORT_RING R.EV_COLLECT_TAIL; omega), planeOf_portRing p hi]
  dsimp only
  rw [if_neg (by unfold R.PORT_RING R.DSP_LOG_TAIL; omega), if_neg (by unfold R.PORT_RING R.BRG_PLOG_TAIL; omega),
    if_neg (by unfold R.PORT_RING R.BRG_DLOG_TAIL; omega)]

theorem isStageCtl_portRing : isStageCtl (R.PORT_RING p i) = false := by
  rw [isStageCtl, rowOf_portRing p hi]
  exact Bool.and_false _

theorem State.writePlane_portRing {s : State} {r : Req} {row : RegRow} (v : Word) :
    s.writePlane r row p (R.PORT_RING p i) i v = (s.put row (R.PORT_RING p i) v 0).wrapDown p ⟨i, hi⟩ := by
  have hbelow : R.PORT_RING p i < 0x480000 + planeOfs p := by unfold R.PORT_RING; omega
  have habove : 0x410000 + planeOfs p ≤ R.PORT_RING p i := by unfold R.PORT_RING; omega
  rw [State.writePlane, if_neg (by unfold R.EG_CTL; omega), if_neg (by unfold R.ING_RULE_SEL; omega), if_neg (by unfold R.ING_STREAM_SEL; omega),
    if_neg (by unfold R.Q_CTL; omega), if_neg (by unfold R.BU_APPLY_SEL; omega), if_neg (by unfold R.DSP_CANCEL; omega),
    if_neg (by unfold R.DSP_JOB_SEL; omega), if_neg (by unfold R.REL_DESC_SEL; omega), if_neg (by unfold R.BRG_MAP_SEL; omega),
    if_neg (by unfold R.BRG_WIN_ERR; omega), dif_pos ⟨rfl, hi⟩]

variable {p} in
/-- A write of PORT_RING of a plane that is present. -/
theorem State.writeAll_portRing {s : State} (hp : s.present p = true) (r : Req) (v : Word) :
    s.writeAll r (R.PORT_RING p i) v = (s.put portRingRow (R.PORT_RING p i) v 0).wrapDown p ⟨i, hi⟩ := by
  have hthere : s.there (R.PORT_RING p i) = true := by rw [State.there, planeOf_portRing p hi]; exact hp
  rw [State.writeAll_of_le (by unfold R.PORT_RING; omega), State.writeReg_of_single (by cases p <;> simp only [R.PORT_RING, planeOfs] <;> omega)
    hthere (rowOf_portRing p hi) (isStageCtl_portRing p hi) (logOf_portRing p hi) rfl, planeOf_portRing p hi, ix1_portRing p hi]
  exact State.writePlane_portRing p hi v

end

end Sys2Proof.Machine
end


section
/-!
Links, wraps and unwraps, wrap notices, and the end of a duplicate window (R143, R145-R148, R161, R167, R302).
-/
namespace Sys2Proof

theorem Tab.find_erase {α : Type} (j k : Nat) (t : Tab α) : Tab.find k (Tab.erase j t) = if k = j then none else Tab.find k t := by
  induction t with
  | nil => simp [Tab.erase, Tab.find]
  | cons e t ih =>
    obtain ⟨k', v⟩ := e
    by_cases hj : k' = j
    · subst hj
      by_cases hk : k = k'
      · subst hk
        simpa [Tab.erase] using ih
      · simp [Tab.erase, Tab.find, ih, hk, Ne.symm hk]
    · by_cases hk : k = k'
      · subst hk
        simp [Tab.erase, Tab.find, hj]
      · simp [Tab.erase, Tab.find, ih, hj, Ne.symm hk]

namespace Machine

section
variable {s : State} {p : Plane} {port : Fin 4}

/-! A link goes down (R145, R146, R167) -/

theorem State.portMode_showFault (faults : BitVec 2) : (s.showFault p port.val faults).portMode p port.val = s.portMode p port.val :=
  State.portMode_congr (State.reg_setRf_ne _ (portCfg_ne_portStatus _) ..)

theorem State.linkUp_showFault (faults : BitVec 2) : (s.showFault p port.val faults).linkUp p port.val = s.linkUp p port.val :=
  State.rb_setRf _ _ _ _ _ _ (by decide) (by decide)

/-- A wrap by what it comes to: the port's sentences leave it, and where its ring wraps those of an east port go on. -/
theorem State.wrapAt_eq (s : State) (p : Plane) (port : Fin 4) : s.wrapAt p port =
    let waiting := s.takeTx p port
    let held := waiting.2.takeHold p port
    let emptied := (held.2.setRb (R.PORT_STATUS p port.val) 26 false).modPort p port fun x => { x with turning := false }
    let wrapped := ((emptied.setRb (R.PORT_STATUS p port.val) 30 true).raiseP p 132).voidCal p port
    if s.portMode p port.val = 1 ∧ s.rb (R.PORT_RING p port.val) 31 = true ∧ s.wrapped p port.val = false then
      (if isWest port then wrapped else wrapped.resend p (ringOf port) (waiting.1 ++ held.1))
    else emptied :=
  if_congr (by simp [and_assoc]) rfl rfl

theorem State.goesDown_up (hmode : s.portMode p port.val ≠ 0) (hup : s.linkUp p port.val = true) : s.goesDown p port =
    (((((s.setRb (R.PORT_STATUS p port.val) 31 false).setRb (R.PORT_STATUS p port.val) 27 false).modPort p port
      fun x => { x with wait := [] }).count (R.PORT_COUNTERS p port.val 13)).raiseP p (128 + port.val)).wrapAt p port :=
  if_neg (by simp [hmode, hup])

theorem State.goesDown_down (hdown : s.linkUp p port.val = false) : s.goesDown p port = s := if_pos (by simp [hdown])

theorem State.linkDownAt_shows (hmode : s.portMode p port.val ≠ 0) {faults : BitVec 2} (h : faults = 0 ∨ s.linkUp p port.val = false) :
    s.linkDownAt p port faults = s.showFault p port.val faults := by
  rw [State.linkDownAt, if_neg hmode, State.when]
  split
  next hf => exact State.goesDown_down ((State.linkUp_showFault faults).trans (h.resolve_left (by simpa using hf)))
  · rfl

theorem State.linkDownAt_lost (hmode : s.portMode p port.val ≠ 0) {faults : BitVec 2} (h : faults ≠ 0) :
    s.linkDownAt p port faults = (s.showFault p port.val faults).goesDown p port := by
  rw [State.linkDownAt, if_neg hmode, State.when, if_pos (by simpa using h)]

/-! WRAP_EN is set at a port that is down (R146) -/

theorem State.wrapDown_stays (h : s.portMode p port.val = 0 ∨ s.linkUp p port.val = true ∨ s.wrapped p port.val = true) : s.wrapDown p port = s :=
  if_pos (by simpa [or_assoc] using h)

theorem State.wrapDown_wraps (hmode : s.portMode p port.val ≠ 0) (hup : s.linkUp p port.val = false) (hwrap : s.wrapped p port.val = false) :
    s.wrapDown p port = s.wrapAt p port :=
  if_neg (by simp [hmode, hup, hwrap])

/-- A write of PORT_RING by a requester that can make it (R146). -/
theorem exec_hostRegisterWrite_portRing {r : Req} {off : BitVec 24} {row : RegRow} (hr : s.reqOn r = true) (hp : s.present p = true)
    (hoff : off.toNat = R.PORT_RING p port.val) (hrow : rowOf off.toNat = some row) (v : Word) :
    exec (.hostRegisterWrite r false off 4 v) s = .next (s.after ((s.put row off.toNat v 0).wrapDown p port).drain) := by
  have ha : off.toNat % 4 = 0 := by
    rw [hoff]
    cases p <;> simp only [R.PORT_RING, planeOfs] <;> omega
  rw [hoff, rowOf_portRing p port.isLt] at hrow
  rw [exec_hostRegisterWrite hr ha, hoff, State.writeAll_portRing port.isLt hp, Option.some.inj hrow]

section
variable {off : Nat} (hoff : off = R.PORT_RING p port.val) (row : RegRow) (v : Word)
include hoff

theorem State.portMode_put_portRing : (s.put row off v 0).portMode p port.val = s.portMode p port.val :=
  State.portMode_congr (State.reg_put_ne _ _ _ _ _ (by rw [hoff]; unfold R.PORT_CFG R.PORT_RING; omega))

theorem State.rb_put_portRing (k : Nat) : (s.put row off v 0).rb (R.PORT_STATUS p port.val) k = s.rb (R.PORT_STATUS p port.val) k :=
  congrArg (bit · k) (State.reg_put_ne _ _ _ _ _ (by rw [hoff]; unfold R.PORT_STATUS R.PORT_RING; omega))

end

/-! A link comes up (R145, R302), a port unwraps, a drain ends (R148) -/

theorem State.blockLen_pos (s : State) (p : Plane) (i : Nat) : 0 < s.blockLen p i := by
  unfold State.blockLen
  split <;> decide

theorem State.linkUpAt_down (hp : s.present p = true) (hmode : s.portMode p port.val ≠ 0) (hup : s.linkUp p port.val = false) :
    s.linkUpAt p port =
      let fec := s.rb (R.PORT_CFG p port.val) 27 && !(s.portMode p port.val == 2 && s.rb (R.PORT_CFG p port.val) 28)
      let up := s.setReg (R.PORT_STATUS p port.val) (setFld (setFld (s.reg (R.PORT_STATUS p port.val)) 29 27 fec.toNat) 31 31 1)
      (({ up with freeCtr := s.freeCtr + 1 }.modPort p port fun x =>
        { x with busy := 0, phase := (Config.freeWord s.freeCtr).toNat % s.blockLen p port.val }).raiseP p (128 + port.val)) :=
  if_neg (by simp [hp, hmode, hup])

theorem State.unwrapAt_wrapped (hwrap : s.wrapped p port.val = true) (hup : s.linkUp p port.val = true) : s.unwrapAt p port =
    let shown := (s.setRb (R.PORT_STATUS p port.val) 30 false).raiseP p 132
    if isWest port then shown.modPort p port fun x => { x with turning := true } else shown.setRb (R.PORT_STATUS p port.val) 26 true :=
  if_neg (by simp [hwrap, hup])

theorem State.drainEndAt_west (h : isWest port = true) : s.drainEndAt p port = s.modPort p port fun x => { x with turning := false } := if_pos h

theorem State.drainEndAt_east (h : isWest port = false) (hdrain : s.rb (R.PORT_STATUS p port.val) 26 = true) : s.drainEndAt p port =
    (s.setRb (R.PORT_STATUS p port.val) 26 false).feedHold p port (s.pl p).hold.length :=
  (if_neg (by simp [h])).trans (if_pos hdrain)

/-! A wrap notice is taken in (R147, R161) -/

/-- The PTP cut of a port is lifted where it is configured. -/
def State.cutLifted (s : State) (p : Plane) (i : Nat) : State :=
  if s.rb (R.PORT_PTP_CFG p i) 30 then s.setRb (R.PORT_STATUS p i) 25 true else s

theorem State.reg_cutLifted (s : State) (p : Plane) (i o : Nat) : (s.cutLifted p i).reg o =
    if o = R.PORT_STATUS p i ∧ s.rb (R.PORT_PTP_CFG p i) 30 = true then setBit (s.reg o) 25 true else s.reg o := by
  unfold State.cutLifted
  by_cases hcfg : s.rb (R.PORT_PTP_CFG p i) 30 = true
  · by_cases ho : o = R.PORT_STATUS p i
    · rw [if_pos hcfg, if_pos ⟨ho, hcfg⟩, ho]
      exact State.reg_setReg_same ..
    · rw [if_pos hcfg, if_neg fun h => ho h.1]
      exact State.reg_setRb_ne _ ho ..
  · rw [if_neg hcfg, if_neg fun h => hcfg h.2]

@[simp] theorem State.pl_cutLifted (s : State) (p : Plane) (i : Nat) (q : Plane) : (s.cutLifted p i).pl q = s.pl q := by
  unfold State.cutLifted
  split
  · exact State.pl_setRb ..
  · rfl

theorem State.liftCut_taken (hp : s.present p = true) (hmode : s.portMode p port.val = 1) (hup : s.linkUp p port.val = true) :
    s.liftCut p port = ((s.voidCal p port).cutLifted p (2 * ringOf port)).cutLifted p (2 * ringOf port + 1) :=
  if_neg (by simp [hp, hmode, hup])

theorem State.liftCut_down (hup : s.linkUp p port.val = false) : s.liftCut p port = s := if_pos (by simp [hup])

theorem State.reg_voidCal (s : State) (p : Plane) (port : Fin 4) (o : Nat) : (s.voidCal p port).reg o = s.reg o := State.reg_modPl ..

/-- The two ports of a ring by their registers. -/
theorem State.reg_lifted (s : State) (p : Plane) (i o : Nat) : ((s.cutLifted p i).cutLifted p (i + 1)).reg o =
    if (o = R.PORT_STATUS p i ∧ s.rb (R.PORT_PTP_CFG p i) 30 = true) ∨
      (o = R.PORT_STATUS p (i + 1) ∧ s.rb (R.PORT_PTP_CFG p (i + 1)) 30 = true) then setBit (s.reg o) 25 true else s.reg o := by
  have hcfg : (s.cutLifted p i).rb (R.PORT_PTP_CFG p (i + 1)) 30 = s.rb (R.PORT_PTP_CFG p (i + 1)) 30 := by
    rw [State.rb, State.reg_cutLifted, if_neg fun h => by have := h.1; unfold R.PORT_PTP_CFG R.PORT_STATUS at this; omega]
    rfl
  have hne : R.PORT_STATUS p (i + 1) ≠ R.PORT_STATUS p i := by unfold R.PORT_STATUS; omega
  rw [State.reg_cutLifted, hcfg, State.reg_cutLifted]
  by_cases h : o = R.PORT_STATUS p (i + 1)
  · simp only [h, hne, false_and, false_or, if_false]
  · simp only [h, false_and, or_false, if_false]

/-- A side of the plane is that of a port's ring. -/
theorem side_beq_of_ringOf {side : Bool} (h : side.toNat = ringOf port) : (side == decide (2 ≤ port.val)) = true := by
  unfold ringOf at h
  cases side <;> simp only [Bool.toNat_false, Bool.toNat_true] at h <;> simp <;> omega

theorem State.cal_voidCal {c : CalS} (hcal : (s.pl p).cal = some c) (hside : c.side.toNat = ringOf port) :
    ((s.voidCal p port).pl p).cal = some { c with void := true } := by
  rw [State.voidCal, State.pl_modPl_same]
  simp only [hcal, Option.map_some]
  rw [if_pos (side_beq_of_ringOf hside)]

end

/-! A duplicate window ends (R143) -/

section
variable (s : State) (p : Plane) (origin : BitVec 10) (cls : BitVec 3)

theorem State.regs_dupExpire : (s.dupExpire p origin cls).regs = s.regs := by cases p <;> rfl

theorem State.pl_dupExpire_other : (s.dupExpire p origin cls).pl (other p) = s.pl (other p) := by cases p <;> rfl

theorem State.dup_dupExpire : ((s.dupExpire p origin cls).pl p).dup = Tab.erase (origin.toNat * 8 + cls.toNat) (s.pl p).dup := by
  cases p <;> rfl

end

/-- Settles O33, by what each command of a link, a wrap and a wrap notice comes to. -/
theorem linksAndWraps : Obligations.LinksAndWraps := by
  refine ⟨?_, ?_⟩
  · intro s p port faults i shown wrapping
    have hwrapping (u : State) : u.wrapAt p port = wrapping u := u.wrapAt_eq p port
    refine ⟨fun hmode h => ?_, fun hmode hf hup => ?_, ?_, fun hp hmode hup => ?_, fun hwrap hup => ?_, fun hwest => ?_, fun heast hdrain => ?_⟩
    · exact exec_next_of_eq rfl (congrArg (·.joinRecheck p) (State.linkDownAt_shows hmode h))
    · refine exec_next_of_eq rfl (congrArg (·.joinRecheck p) ((State.linkDownAt_lost hmode hf).trans ?_))
      rw [State.goesDown_up (by rw [State.portMode_showFault]; exact hmode) (by rw [State.linkUp_showFault]; exact hup), hwrapping]
      rfl
    · intro r off v row hr hp hoff hrow u
      have hexec := exec_hostRegisterWrite_portRing hr hp hoff hrow v
      have hmode : u.portMode p i = s.portMode p i := State.portMode_put_portRing hoff row v
      have hup : u.linkUp p i = s.linkUp p i := State.rb_put_portRing hoff row v 31
      have hwrapped : u.wrapped p i = s.wrapped p i := State.rb_put_portRing hoff row v 30
      refine ⟨fun h => exec_drain_of_eq hexec (State.wrapDown_stays ?_), fun h1 h2 h3 =>
        exec_drain_of_eq hexec ((State.wrapDown_wraps (hmode ▸ h1) (hup.trans h2) (hwrapped.trans h3)).trans (hwrapping u))⟩
      rw [hmode, hup, hwrapped]
      exact h
    · intro fec up
      exact ⟨_, _, Nat.mod_lt _ (s.blockLen_pos p i), exec_next_of_eq rfl (State.linkUpAt_down hp hmode hup)⟩
    · exact exec_next_of_eq rfl (State.unwrapAt_wrapped hwrap hup)
    · exact exec_next_of_eq rfl (State.drainEndAt_west hwest)
    · exact exec_next_of_eq rfl (State.drainEndAt_east heast hdrain)
  · intro s p port origin cls
    refine ⟨fun hactive => exec_next_of_eq rfl (if_neg (by simp [hactive])), fun hp hmode hup => ?_,
      fun hup => exec_next_of_eq rfl (State.liftCut_down hup), rfl,
      _, rfl, s.regs_dupExpire .., s.pl_dupExpire_other .., fun k => by rw [s.dup_dupExpire, Tab.find_erase]⟩
    refine ⟨_, exec_next_of_eq rfl (State.liftCut_taken hp hmode hup), fun off => ?_, fun c hcal hside => ?_, ?_⟩
    · rw [State.reg_lifted, State.rb, State.rb, State.reg_voidCal, State.reg_voidCal, State.reg_voidCal]
      rfl
    · rw [State.pl_cutLifted, State.pl_cutLifted, State.cal_voidCal hcal hside]
    · rw [State.pl_cutLifted, State.pl_cutLifted]
      exact State.pl_modPl_ne _ (other_ne p) _

end Machine
end Sys2Proof
end


section
/-!
Native frames received and sent, and frames that a port discards (R34, R138-R145, R169, R302).
-/
namespace Sys2Proof.Machine

section
variable {s : State} {p : Plane} {port : Fin 4} {frame : List Byte}

/-! Reception (R138, R142, R145) -/

/-- A frame of a port without PRP has no trailer (R162). -/
theorem State.takeApart_plain (hprp : s.prpOn p port.val = false) : s.takeApart p port frame =
    let o := if octs frame 12 2 == 0x8100 then 16 else 12
    (octs frame 12 2 == 0x8100, octs frame o 2, frame.drop (o + 2), none) := by
  unfold State.takeApart
  rw [hprp]
  rfl

theorem State.nativeReceive_down (hp : s.present p = true) (hmode : s.portMode p port.val ≠ 0) (hup : s.linkUp p port.val = false) (ok : Bool) :
    s.nativeReceive p port ok frame = s.count (R.PORT_COUNTERS p port.val 3) := by
  unfold State.nativeReceive
  simp [hp, hmode, hup]

/-- A good native frame at a RING port, whose length its header gives, is passed on, and its sentence goes to the ingress. -/
theorem State.nativeReceive_ring {body : List Byte} {h : Sent} (hbody : frame.drop 14 = body)
    (hh : parseSent body ((body.drop 32).take (octs body 2 2)) = h)
    (hp : s.present p = true) (hmode : s.portMode p port.val = 1) (hup : s.linkUp p port.val = true) (hmin : 60 ≤ frame.length)
    (hmax : frame.length ≤ 8238) (htag : octs frame 12 2 ≠ 0x8100) (htype : octs frame 12 2 = s.rf (R.PORT_NATIVE_TYPE p port.val) 15 0)
    (hlen : octs body 2 2 = body.length - 32) (hprp : s.prpOn p port.val = false) (hfwd : s.forwards p = true) (hprobe : isProbe h = false)
    (hown : s.ownSent h = false) (hrem : (isWest port && s.removes (ringOf port) h) = false) :
    s.nativeReceive p port true frame =
      let t := (s.count (R.PORT_COUNTERS p port.val 0)).forward p port h false
      if headerErr h true then t.ing p 0
      else if h.stream.toNat = 0 ∨ 0xFF0005 ≤ h.stream.toNat then t.ing p 1
      else if strCmd ≤ h.stream.toNat then t
      else t.arrive p port.val (s.release p) h := by
  have hdelivered : (octs body 2 2 == body.length - 32) = true := beq_iff_eq.2 hlen
  have hoff : (octs frame 12 2 == 0x8100) = false := beq_eq_false_iff_ne.2 htag
  unfold State.nativeReceive
  dsimp only
  rw [if_neg (by simp [hp, hmode]), if_neg (by simp [hup]), if_neg (by simp [State.maxFrame, hmode]; omega), State.takeApart_plain hprp]
  simp only [hoff, Bool.false_eq_true, if_false, Nat.reduceAdd, hbody]
  rw [if_neg (by simp [hmode, htype]), if_neg (by simp [hmode, htype])]
  simp only [hdelivered, Bool.true_or, if_true, hh, hmode, hprobe, hown, hrem, hfwd, decide_true, beq_self_eq_true,
    Bool.true_and, Bool.and_false, Bool.not_true, Bool.not_false, Bool.false_or, Bool.false_eq_true, if_false]
  rfl

/-! Frames that a port discards (R137, R142, R145, R169) -/

theorem State.discarded_down (hp : s.present p = true) (hmode : s.portMode p port.val ≠ 0) (hup : s.linkUp p port.val = false)
    (why : Fin 7) : s.discarded p port why.val =
    if why.val ≠ 6 then s.count (R.PORT_COUNTERS p port.val 3)
    else if s.rb (R.PORT_STATUS p port.val) 27 then s.count (R.PORT_COUNTERS p port.val 15) else s := by
  unfold State.discarded
  by_cases hwhy : why.val = 6
  · simp [hp, hmode, hwhy, State.when]
  · simp [hp, hmode, hup, hwhy]

/-! Transmission (R34, R140, R302, R435) -/

theorem State.feedPort_empty (h : (s.pl p).hold = []) : s.feedPort p port = s := by
  unfold State.feedPort
  rw [h]
  split <;> rfl

section
variable (hup : s.linkUp p port.val = true) (hhold : (s.pl p).hold = [])
include hup hhold

theorem State.transmit_some {t : TxItem} (ht : s.txChoice p port = some t) : s.transmit p port =
    let u := s.modPl p fun x => { x with txq := removeFirst t x.txq }
    (if t.cls = 7 then u.modPort p port fun x => { x with snfAt := some (s.pl p).raw } else u).wireSent p port t.sent t.fwd t.stomp := by
  unfold State.transmit
  simp only [hup, State.feedPort_empty hhold, ht, State.when, beq_iff_eq]
  rfl

theorem State.transmit_none (ht : s.txChoice p port = none) :
    s.transmit p port = if s.portMode p port.val = 2 then s.sendWaiting p port else s := by
  unfold State.transmit
  simp only [hup, State.feedPort_empty hhold, ht]
  rfl

end

/-! Which sentence is next -/

/-- What the next sentence is chosen from holds it, at its port. -/
theorem mem_of_nextTx {q : List TxItem} {t : TxItem} (h : nextTx q port = some t) : t ∈ q ∧ t.port = port := by
  have hmem : ∀ b, nextTx q port = some b → b ∈ q.filter fun t => t.port == port := by
    unfold nextTx
    refine List.foldlRecOn (motive := fun a : Option TxItem => ∀ b, a = some b → b ∈ q.filter fun t => t.port == port) _ _
      (fun b hb => absurd hb (Option.some_ne_none b).symm) ?_
    intro a ha t ht b hb
    cases a with
    | none => exact Option.some.inj hb ▸ ht
    | some c =>
      dsimp only at hb
      split at hb
      · exact Option.some.inj hb ▸ ht
      · exact ha b hb
  simpa using hmem t h

theorem mem_of_mem_txHeads {q : List TxItem} {t : TxItem} (h : t ∈ txHeads q) : t ∈ q := by
  suffices hall : ∀ t ∈ txHeads q, t ∈ q from hall t h
  unfold txHeads
  refine List.foldlRecOn (motive := fun a : List TxItem => ∀ t ∈ a, t ∈ q) _ _ (fun _ h => absurd h List.not_mem_nil) ?_
  intro a ha t ht b hb
  split at hb
  · exact ha b hb
  · obtain hb | hb := List.mem_append.1 hb
    · exact ha b hb
    · exact List.mem_singleton.1 hb ▸ ht

theorem State.txChoice_spur {t : TxItem} (hmode : s.portMode p port.val = 2) (h : s.txChoice p port = some t) :
    t ∈ (s.pl p).txq ∧ t.port = port ∧
      (t.cls = 7 ∨ s.fits p port.val (s.frameOcts p port.val (s.sentFrame p port.val t.sent t.fwd t.stomp)).length = true) := by
  rw [State.txChoice, if_pos hmode] at h
  obtain ⟨hmem, hport⟩ := mem_of_nextTx h
  obtain ⟨hhead, hfits⟩ := List.mem_filter.1 hmem
  exact ⟨(List.mem_filter.1 (mem_of_mem_txHeads hhead)).1, hport, by simpa using hfits⟩

end

/-- Settles O34, by reception, transmission and discards. -/
theorem nativeFrames : Obligations.NativeFrames := by
  intro s p port frame i body h s1
  refine ⟨fun hp hmode hup hmin hmax htag htype hlen hprp hfwd hprobe hown hrem => exec_next_of_eq rfl
      (State.nativeReceive_ring rfl rfl hp hmode hup hmin hmax htag htype hlen hprp hfwd hprobe hown hrem),
    fun hp hmode hup ok => exec_next_of_eq rfl (State.nativeReceive_down hp hmode hup ok),
    fun t hup hhold ht => exec_drain_of_eq rfl (State.transmit_some hup hhold ht),
    fun hup hhold ht => exec_drain_of_eq rfl (State.transmit_none hup hhold ht),
    fun hmode => if_neg hmode, fun t => State.txChoice_spur,
    fun why hp hmode hup => exec_next_of_eq rfl ?_, fun why hp hmode hup => exec_next_of_eq rfl (State.discarded_down hp hmode hup why)⟩
  unfold State.discarded s1
  fin_cases why <;> simp [i, hp, hmode, hup, State.when]

end Sys2Proof.Machine
end


section
/-!
PTP messages received and sent (R152-R159, R170).
-/
namespace Sys2Proof

/-! Octets replaced in place -/

theorem clamp_eq_min_max {lo hi : Int} (h : lo ≤ hi) (x : Int) : clamp lo hi x = min hi (max lo x) := by
  unfold clamp
  split_ifs <;> omega

theorem slice_append_left {a : List Byte} {i n : Nat} (h : i + n ≤ a.length) (c : List Byte) : slice (a ++ c) i n = slice a i n := by
  have hpart : ((a ++ c).drop i).take n = (a.drop i).take n := by
    rw [List.drop_append_of_le_length (by omega), List.take_append_of_le_length (by rw [List.length_drop]; omega)]
  rw [slice, slice, hpart]

section
variable {bs new : List Byte} {i : Nat} (h : i + new.length ≤ bs.length)
include h

theorem patch_of_fits : patch bs i new = bs.take i ++ (new ++ bs.drop (i + new.length)) := by
  unfold patch
  simp only [List.take_of_length_le (show new.length ≤ bs.length - i by omega), List.append_assoc]

theorem length_patch : (patch bs i new).length = bs.length := by
  rw [patch_of_fits h]
  simp only [List.length_append, List.length_take, List.length_drop]
  omega

theorem slice_patch_same : slice (patch bs i new) i new.length = new := by
  have hat := slice_at (bs.take i) new (bs.drop (i + new.length))
  rwa [List.length_take, Nat.min_eq_left (by omega), ← patch_of_fits h] at hat

theorem slice_patch_before {j n : Nat} (hj : j + n ≤ i) : slice (patch bs i new) j n = slice bs j n := by
  have hlen : j + n ≤ (bs.take i).length := by rw [List.length_take]; omega
  rw [patch_of_fits h, slice_append_left hlen, ← slice_append_left hlen (bs.drop i), List.take_append_drop]

end

namespace Machine

/-! The dial time of an event message of this device as it leaves (R157) -/

theorem length_ts80 (dial : Nat) : (ts80 dial).length = 10 := by simp [ts80]

section
variable {s : State} {p : Plane} {i : Nat} {f : WireFrame} {d o : Nat} {req : Bool} (horig : f.orig = some (d, o, req))
include horig

theorem State.body_stampOrig : (s.stampOrig p i f).1.body =
    patch (patch f.body (o + 8) (toBE 8 (s.dialAt p d (s.egressRaw p i) % 16 * 4096))) (o + 34) (ts80 (s.dialAt p d (s.egressRaw p i))) := by
  unfold State.stampOrig
  rw [horig]

variable (hlen : o + 44 ≤ f.body.length)
include hlen

omit horig in
theorem State.stampOrig_fits (dial : Nat) : o + 34 + (ts80 dial).length ≤ (patch f.body (o + 8) (toBE 8 (dial % 16 * 4096))).length := by
  rw [length_ts80, length_patch (by rw [toBE_length]; omega)]
  exact hlen

theorem State.length_stampOrig : (s.stampOrig p i f).1.body.length = f.body.length := by
  rw [State.body_stampOrig horig, length_patch (State.stampOrig_fits hlen _), length_patch (by rw [toBE_length]; omega)]

theorem State.originTimestamp_stampOrig :
    slice (s.stampOrig p i f).1.body (o + 34) 10 = ts80 (s.dialAt p d (s.egressRaw p i)) := by
  have h := slice_patch_same (State.stampOrig_fits hlen (s.dialAt p d (s.egressRaw p i)))
  rw [length_ts80] at h
  rw [State.body_stampOrig horig, h]

theorem State.correction_stampOrig : octs (s.stampOrig p i f).1.body (o + 8) 8 = s.dialAt p d (s.egressRaw p i) % 16 * 4096 := by
  have h := slice_patch_same (bs := f.body) (new := toBE 8 (s.dialAt p d (s.egressRaw p i) % 16 * 4096)) (i := o + 8) (by rw [toBE_length]; omega)
  rw [toBE_length] at h
  rw [State.body_stampOrig horig, octs, slice_patch_before (State.stampOrig_fits hlen _) (by omega), h, beNat_toBE]
  exact Nat.mod_eq_of_lt (by omega)

end

/-- What leaves the port is the frame as it was stamped. -/
theorem State.wireNow_stamped (s : State) (p : Plane) (port : Fin 4) (f : WireFrame) :
    s.wireNow p port f = (s.stampOrig p port.val f).2.wireNow p port { (s.stampOrig p port.val f).1 with orig := none } := rfl

/-! Messages that this device originates (R158) -/

section
variable {s : State} {p : Plane} {i typ len dom ctl : Nat} {corr : Int} {seq : BitVec 16} {log : Byte} {tail : List Byte}

theorem State.length_ptpHeader : (s.ptpHeader p i typ len dom corr seq ctl log ++ tail).length = 34 + tail.length := by
  rw [List.length_append]
  rfl

theorem State.messageType_ptpHeader (h : typ < 256) : octs (s.ptpHeader p i typ len dom corr seq ctl log ++ tail) 0 1 = typ := octs_of_drop rfl h

theorem State.domainNumber_ptpHeader (h : dom < 256) : octs (s.ptpHeader p i typ len dom corr seq ctl log ++ tail) 4 1 = dom := octs_of_drop rfl h

theorem State.sequenceId_ptpHeader : octs (s.ptpHeader p i typ len dom corr seq ctl log ++ tail) 30 2 = seq.toNat := octs_of_drop rfl seq.isLt

end

section
variable {s : State} {p : Plane}

theorem State.delayReq_sends {d : Nat} {c : Master} (hc : (s.pl p).masters.getD d none = some c) (hsyncs : c.syncs ≠ [])
    (hfwd : s.forwards p = true) (hsrc : fld ((s.pl p).domS d).cfg 31 28 = 1) (hopen : s.ptpOpen p c.port.val = true)
    (he2e : s.p2p p c.port.val = false) : ∃ len log, s.delayReq p d =
      (s.modDom p d fun y => { y with drSeq := y.drSeq + 1 }).ptpSend p c.port false
        (s.ptpHeader p c.port.val 1 len (fld ((s.pl p).domS d).cfg 27 20) 0 ((s.pl p).domS d).drSeq 1 log ++ toBE 10 0) (some (d, true)) := by
  unfold State.delayReq
  rw [hc]
  exact ⟨_, _, if_neg (by simp [hsyncs, hfwd, srcCfg, hsrc, hopen, he2e])⟩

theorem State.pdelayReq_sends {port : Fin 4} (hfwd : s.forwards p = true) (hopen : s.ptpOpen p port.val = true)
    (hp2p : s.p2p p port.val = true) :
    let seq := ((s.pl p).port.getD port.val PortS.rest).pdSeq + 1
    ∃ (e : Fin 2) (len : Nat) (log : Byte), s.pdelayReq p port = (s.free32.2.modPort p port fun x => { x with pdSeq := seq }).ptpSend p port true
      (s.free32.2.ptpHeader p port.val 2 len (s.rf (R.TD_CFG p e.val) 27 20) 0 seq 5 log ++ toBE 20 0) (some (e.val, false)) :=
  ⟨⟨fld s.free32.1 8 8, fld_lt ..⟩, _, _, if_neg (by simp [hfwd, hopen, hp2p])⟩

theorem State.peerLost_p2p {port : Fin 4} (hp : s.present p = true) (hmode : s.portMode p port.val ≠ 0) (hp2p : s.p2p p port.val = true) :
    s.peerLost p port = (s.setReg (R.PORT_LINK_DELAY p port.val) 0xFFFFFFFF).raiseP p 133 :=
  if_pos (by simp [hp, hmode, hp2p])

end

/-! Messages received, at a port that has counted them -/

/-- A message is counted as a frame and as a PTP message (R169). -/
def State.ptpCounted (s : State) (p : Plane) (i : Nat) : State := (s.count (R.PORT_COUNTERS p i 0)).count (R.PORT_COUNTERS p i 8)

section
variable {s : State} {p : Plane} {i : Nat}

@[simp] theorem State.pl_ptpCounted (q : Plane) : (s.ptpCounted p i).pl q = s.pl q := by rw [State.ptpCounted, State.pl_count, State.pl_count]

theorem State.reg_ptpCounted_ne {o : Nat} (h0 : o ≠ R.PORT_COUNTERS p i 0) (h8 : o ≠ R.PORT_COUNTERS p i 8) :
    (s.ptpCounted p i).reg o = s.reg o := by
  rw [State.ptpCounted, State.reg_count_ne _ h8, State.reg_count_ne _ h0]

theorem State.reg_ptpCounted_ptpCfg : (s.ptpCounted p i).reg (R.PORT_PTP_CFG p i) = s.reg (R.PORT_PTP_CFG p i) :=
  State.reg_ptpCounted_ne (by unfold R.PORT_PTP_CFG R.PORT_COUNTERS; omega) (by unfold R.PORT_PTP_CFG R.PORT_COUNTERS; omega)

theorem State.reg_ptpCounted_linkDelay : (s.ptpCounted p i).reg (R.PORT_LINK_DELAY p i) = s.reg (R.PORT_LINK_DELAY p i) :=
  State.reg_ptpCounted_ne (by unfold R.PORT_LINK_DELAY R.PORT_COUNTERS; omega) (by unfold R.PORT_LINK_DELAY R.PORT_COUNTERS; omega)

theorem State.reg_ptpCounted_asym : (s.ptpCounted p i).reg (R.PORT_ASYM p i) = s.reg (R.PORT_ASYM p i) :=
  State.reg_ptpCounted_ne (by unfold R.PORT_ASYM R.PORT_COUNTERS; omega) (by unfold R.PORT_ASYM R.PORT_COUNTERS; omega)

theorem State.p2p_ptpCounted : (s.ptpCounted p i).p2p p i = s.p2p p i := congrArg (bit · 28) State.reg_ptpCounted_ptpCfg

theorem State.dialAt_ptpCounted {d : Nat} (hd : d < 2) (raw : Nat) : (s.ptpCounted p i).dialAt p d raw = s.dialAt p d raw := by
  have hreg {o : Nat} (ho : o < 0x410000 + planeOfs p) : (s.ptpCounted p i).reg o = s.reg o :=
    State.reg_ptpCounted_ne (by unfold R.PORT_COUNTERS; omega) (by unfold R.PORT_COUNTERS; omega)
  have hanchor : (s.ptpCounted p i).reg64 (R.TD_ANCHOR_LO p d) = s.reg64 (R.TD_ANCHOR_LO p d) :=
    State.reg64_congr (hreg (by unfold R.TD_ANCHOR_LO; omega)) (hreg (by unfold R.TD_ANCHOR_LO; omega))
  have hoffset : (s.ptpCounted p i).reg64 (R.TD_OFFSET_NS_LO p d) = s.reg64 (R.TD_OFFSET_NS_LO p d) :=
    State.reg64_congr (hreg (by unfold R.TD_OFFSET_NS_LO; omega)) (hreg (by unfold R.TD_OFFSET_NS_LO; omega))
  have hadj : (s.ptpCounted p i).reg (R.TD_INC_ADJ p d) = s.reg (R.TD_INC_ADJ p d) := hreg (by unfold R.TD_INC_ADJ; omega)
  have hfrac : (s.ptpCounted p i).reg (R.TD_OFFSET_FRAC p d) = s.reg (R.TD_OFFSET_FRAC p d) := hreg (by unfold R.TD_OFFSET_FRAC; omega)
  simp only [State.dialAt, State.tdOffset, State.sreg, State.rf, hanchor, hoffset, hadj, hfrac]

theorem State.dial_ptpCounted {d : Nat} (hd : d < 2) : (s.ptpCounted p i).dial p d = s.dial p d := by
  rw [State.dial, State.dial, State.dialAt_ptpCounted hd, State.pl_ptpCounted]

end

section
variable {s : State} {p : Plane} {port : Fin 4} {frame m : List Byte} {o : Nat} {udp : Bool}

/-- A good message at an open port is taken in; one that is no Sync in two steps counts nowhere else (R152-R158, R169). -/
theorem State.ptpReceive_taken (hat : ptpAt frame = some (o, udp)) (hp : s.present p = true) (hmode : s.portMode p port.val ≠ 0)
    (hup : s.linkUp p port.val = true) (hopen : s.ptpOpen p port.val = true) (hfwd : s.forwards p = true) (hprp : s.prpOn p port.val = false)
    (htag : s.portMode p port.val = 1 → octs frame 12 2 ≠ 0x8100) (hmin : 60 ≤ frame.length) (hmax : frame.length + 4 ≤ s.maxFrame p port)
    (hone : octs (frame.drop o) 0 1 % 16 = 0 → octs (frame.drop o) 6 1 / 2 % 2 = 0) (stamps : List Nat) :
    s.ptpReceive p port true frame stamps = (s.ptpCounted p port.val).ptpTake p port frame o udp stamps := by
  have hring : (octs frame 12 2 == 0x8100 && s.portMode p port.val == 1) = false := by simpa using mt htag
  have hstep : (octs (frame.drop o) 0 1 % 16 == 0 && nfld (octs (frame.drop o) 6 1) 1 1 == 1) = false := by
    simp only [nfld, Bool.and_eq_false_iff, beq_eq_false_iff_ne]
    omega
  unfold State.ptpReceive
  rw [State.takeApart_plain hprp]
  dsimp only
  rw [if_neg (by simp [hp, hmode]), if_neg (by simp [hup]), if_neg (by omega)]
  simp only [Option.isSome_none, Bool.false_eq_true, if_false, hring, hat, hstep, hopen, hfwd, State.when]
  rfl

/-! What becomes of a message that is taken in, by its type -/

variable (hm : frame.drop o = m) (stamps : List Nat)
include hm

theorem State.ptpTake_pdelayReq (htyp : octs m 0 1 % 16 = 2) (hp2p : s.p2p p port.val = true) :
    s.ptpTake p port frame o udp stamps = s.pdelayResp p port m (stamps.getD port.val 0) := by
  unfold State.ptpTake
  simp only [hm, htyp, hp2p, if_true]

theorem State.ptpTake_pdelayResp (htyp : octs m 0 1 % 16 = 3) (hp2p : s.p2p p port.val = true) :
    s.ptpTake p port frame o udp stamps = s.pdelayDone p port m (stamps.getD port.val 0) := by
  unfold State.ptpTake
  simp [hm, htyp, hp2p]

theorem State.ptpTake_endToEnd (htyp : octs m 0 1 % 16 = 1 ∨ octs m 0 1 % 16 = 9) (hp2p : s.p2p p port.val = true) :
    s.ptpTake p port frame o udp stamps = s.count (R.PORT_COUNTERS p port.val 3) := by
  unfold State.ptpTake
  obtain h | h := htyp <;> simp [hm, h, hp2p]

/-- A Sync that the plane has passed on already goes to its servos alone. -/
theorem State.ptpTake_sync (htyp : octs m 0 1 % 16 = 0) (hdone : (s.pl p).ptpDone (ptpKey m) = true) :
    s.ptpTake p port frame o udp stamps = s.ptpServo p port m := by
  unfold State.ptpTake
  simp [hm, htyp, hdone]

omit hm

/-- A valid answer to this port's request (R158). -/
theorem State.pdelayDone_valid (hone : octs m 6 1 / 2 % 2 = 0) (hid : slice m 44 10 = s.portId p port.val)
    (hseq : octs m 30 2 = (((s.pl p).port.getD port.val PortS.rest).pdSeq).toNat) (trip : Nat) :
    s.pdelayDone p port m trip = s.setReg (R.PORT_LINK_DELAY p port.val) (BitVec.ofNat 32
      (min 0xFFFFFFFE (max 0 (Int.fdiv ((trip * 4096 : Nat) - sext 64 (octs m 8 8)) 2))).toNat) := by
  unfold State.pdelayDone
  rw [← clamp_eq_min_max (by decide)]
  exact if_neg (by simp [nfld, hone, hid, hseq])

end

/-! A Sync of the timeTransmitter that a servo follows (R105, R152, R158) -/

section
variable {s : State} {p : Plane} {port : Fin 4} {m : List Byte} {d : Nat}

theorem State.ptpServo_one (h : s.followers p (octs m 4 1) = [d]) : s.ptpServo p port m = s.ptpServoOf p port m d := by
  unfold State.ptpServo
  rw [h]
  rfl

/-- A fresh Sync in one step is noted, and shows the domain's offset. -/
theorem State.ptpServoOf_sync {c : Master} (htyp : octs m 0 1 % 16 = 0) (hone : octs m 6 1 / 2 % 2 = 0)
    (hc : (s.pl p).masters.getD d none = some c) (hid : c.identity = slice m 20 10) (hnew : BitVec.ofNat 16 (octs m 30 2) ∉ c.syncs)
    (hdelay : s.reg (R.PORT_LINK_DELAY p port.val) ≠ 0xFFFFFFFF) : ∃ x : Master, s.ptpServoOf p port m d =
      (s.modPl p fun y => { y with masters := modAt d (fun _ => some x) y.masters }).modDom p d fun y => s.ptpSync p port m y d := by
  have htwo : nfld (octs m 6 1) 1 1 = 0 := hone
  unfold State.ptpServoOf
  simp only [htyp, htwo, hc]
  refine ⟨_, (if_neg (by decide)).trans ((if_pos rfl).trans (if_neg ?_))⟩
  rintro (h | h | ⟨-, h⟩)
  · exact h hid
  · exact hnew (List.contains_iff_mem.1 h)
  · exact hdelay h

/-- What the servo of a P2P port's Sync has measured. -/
theorem State.domS_ptpServo_sync {c : Master} (hp2p : s.p2p p port.val = true) (hd : d < (s.pl p).dom.length)
    (hfollow : s.followers p (octs m 4 1) = [d]) (htyp : octs m 0 1 % 16 = 0) (hone : octs m 6 1 / 2 % 2 = 0)
    (hc : (s.pl p).masters.getD d none = some c) (hid : c.identity = slice m 20 10) (hnew : BitVec.ofNat 16 (octs m 30 2) ∉ c.syncs)
    (hdelay : s.reg (R.PORT_LINK_DELAY p port.val) ≠ 0xFFFFFFFF) :
    (((s.ptpServo p port m).pl p).domS d).ref = true ∧ (((s.ptpServo p port m).pl p).domS d).meas =
      some (s.dial p d - tsOf m - Int.fdiv (sext 64 (octs m 8 8) + s.sreg (R.PORT_ASYM p port.val)) 4096 -
        (s.reg (R.PORT_LINK_DELAY p port.val)).toNat / 4096) := by
  obtain ⟨x, hx⟩ := State.ptpServoOf_sync htyp hone hc hid hnew hdelay
  rw [State.ptpServo_one hfollow, hx, State.domS_modDom _ _ _ (by rw [State.pl_modPl_same]; exact hd), State.ptpSync, if_pos hp2p]
  exact ⟨rfl, rfl⟩

end

/-- Settles O35, by what a message does that is taken in, by its stamp where it leaves, and by the messages that this device originates. -/
theorem ptpCommands : Obligations.PtpCommands := by
  intro s p port frame stamps o udp d c i m typ s1
  refine ⟨fun hat hp hmode hup hopen hfwd hp2p hprp htag hmin hmax => ?_, fun f dd at0 req horig hlen => ?_, ?_, ?_,
    fun hp hmode hp2p => exec_next_of_eq rfl (State.peerLost_p2p hp hmode hp2p)⟩
  · have htaken (hone : typ = 0 → octs m 6 1 / 2 % 2 = 0) {t : State} (h : s1.ptpTake p port frame o udp stamps = t) :
        exec (.ptpMessageReceive p port true frame stamps) s = .next (s.after t) :=
      exec_next_of_eq rfl ((State.ptpReceive_taken hat hp hmode hup hopen hfwd hprp htag hmin hmax hone stamps).trans h)
    have hp2p1 : s1.p2p p i = true := State.p2p_ptpCounted.trans hp2p
    have hpl : s1.pl p = s.pl p := State.pl_ptpCounted p
    have hlink : s1.reg (R.PORT_LINK_DELAY p i) = s.reg (R.PORT_LINK_DELAY p i) := State.reg_ptpCounted_linkDelay
    have hasym : s1.sreg (R.PORT_ASYM p i) = s.sreg (R.PORT_ASYM p i) := congrArg (fun w : Word => sext 32 w.toNat) State.reg_ptpCounted_asym
    have hdial : s1.dial p d.val = s.dial p d.val := State.dial_ptpCounted d.isLt
    refine ⟨fun htyp => htaken (by omega) (State.ptpTake_pdelayReq rfl stamps htyp hp2p1), fun htyp hid hseq hone => ?_,
      fun htyp => htaken (by omega) (State.ptpTake_endToEnd rfl stamps htyp hp2p1), fun htyp hone hdone hd _ hfollow hc hid hnew hdelay => ?_⟩
    · refine htaken (by omega) ((State.ptpTake_pdelayResp rfl stamps htyp hp2p1).trans (State.pdelayDone_valid (s := s1) hone hid ?_ _))
      rw [hpl]
      exact hseq
    · refine ⟨_, htaken (fun _ => hone) (State.ptpTake_sync rfl stamps htyp (by rw [hpl]; exact hdone)), ?_⟩
      rw [← hlink] at hdelay ⊢
      rw [← hasym, ← hdial]
      rw [← hpl] at hd hc
      exact State.domS_ptpServo_sync hp2p1 hd (by rw [State.followers, hpl]; exact hfollow) htyp hone hc hid hnew hdelay
  · exact ⟨State.originTimestamp_stampOrig horig hlen, State.correction_stampOrig horig hlen, State.length_stampOrig horig hlen,
      s.wireNow_stamped p port f⟩
  · intro cfg hc hsyncs hfwd hsrc hopen he2e
    obtain ⟨len, log, h⟩ := State.delayReq_sends hc hsyncs hfwd hsrc hopen he2e
    exact ⟨_, exec_next_of_eq rfl h, State.length_ptpHeader, State.messageType_ptpHeader (by decide),
      State.domainNumber_ptpHeader (fld_lt ..), State.sequenceId_ptpHeader⟩
  · intro hfwd hopen hp2p
    obtain ⟨e, len, log, h⟩ := State.pdelayReq_sends hfwd hopen hp2p
    exact ⟨_, e, _, exec_next_of_eq rfl h, rfl, State.length_ptpHeader, State.messageType_ptpHeader (by decide),
      State.domainNumber_ptpHeader (fld_lt ..), State.sequenceId_ptpHeader⟩

end Machine
end Sys2Proof
end


section
/-!
LINK_CAL (R160, R161) and PRP supervision (R164).
-/
namespace Sys2Proof.Machine

section
variable {s : State} {p : Plane}

/-! Probes of LINK_CAL go out (R160) -/

/-- The octets of a probe that sets out. -/
theorem probe_octets : toBE 1 2 ++ toBE 7 0 ++ toBE 8 0 = (2 :: List.replicate 15 0 : List Byte) := rfl

section
variable {c : CalS} (hcal : (s.pl p).cal = some c)
include hcal

theorem State.calProbe_goes (hlt : c.sent < c.probes) : s.calProbe p =
    let n := s.notice p (2 :: List.replicate 15 0)
    let sent := n.2.modPl p fun x => { x with cal := some { c with sent := c.sent + 1 } }
    if s.devValid then sent.sendOwn p c.side.toNat n.1 (!c.east) else sent := by
  unfold State.calProbe
  rw [hcal]
  have hround : (c.east && c.sent == c.probes) = false := by simp; omega
  simp only [hround, probe_octets, Bool.false_eq_true, if_false, show ¬ c.sent = c.probes by omega]
  rfl

/-- With every eastward probe sent the first westward one goes. -/
theorem State.calProbe_turns (heast : c.east = true) (hsent : c.sent = c.probes) (hpos : 0 < c.probes) : s.calProbe p =
    let n := s.notice p (2 :: List.replicate 15 0)
    let sent := n.2.modPl p fun x => { x with cal := some { c with east := false, sent := 1 } }
    if s.devValid then sent.sendOwn p c.side.toNat n.1 true else sent := by
  unfold State.calProbe
  rw [hcal]
  have hround : (c.east && c.sent == c.probes) = true := by simp [heast, hsent]
  simp only [hround, probe_octets, if_true, show ¬ 0 = c.probes by omega, if_false]
  rfl

/-- The run completes once every westward probe was sent (R161). -/
theorem State.calDone_all {m : MaintOp} {d : Cmd} (hrun : s.mntRun 4 = some m) (hcmd : m.cmd = some d) (heast : c.east = false)
    (hsent : c.probes ≤ c.sent) : s.calDone p =
      let st := if (calResult c).1 then stDone else stTimeout
      let t := (s.modPl p fun x => { x with cal := none }).part d p st (calResult c).2
      if (t.pl (other p)).cal.isSome then t else t.mntDone m st [] := by
  unfold State.calDone
  rw [hrun, hcal]
  simp only [heast, Nat.not_lt.2 hsent, Bool.false_eq_true, or_self, if_false, hcmd]

end

/-! A probe comes in (R160) -/

section
variable {port : Fin 4} {bs : List Byte} {h : Sent} (hh : parseSent bs (bs.drop 32) = h) (hp : s.present p = true)
  (hmode : s.portMode p port.val = 1) (hprobe : isProbe h = true) (hup : s.linkUp p port.val = true) (residence : Nat)
include hh hp hmode hprobe hup

theorem State.calReceive_other (hown : s.ownSent h = false) (hfwd : s.forwards p = true) : s.calReceive p port bs residence =
    (s.count (R.PORT_COUNTERS p port.val 0)).forward p port { h with
      payload := h.payload.take 8 ++ toBE 8 (toU 64 (sext 64 (octs h.payload 8 8) + (residence * 4096 : Nat) + s.sreg (R.PORT_ASYM p port.val))) }
      false := by
  unfold State.calReceive
  simp only [hh, hp, hmode, hprobe, hup, hown, hfwd]
  rfl

/-- What one of this device's own adds to the run of its ring. -/
theorem State.calReceive_own (hown : s.ownSent h = true) {c : CalS} (hcal : (s.pl p).cal = some c) (hside : c.side.toNat = ringOf port) :
    ((s.calReceive p port bs residence).pl p).cal = some
      (if isWest port then { c with
        sumE := c.sumE + ((residence * 4096 : Nat) - sext 64 (octs h.payload 8 8)), nE := c.nE + 1, members := h.hops.toNat + 1 }
       else { c with sumW := c.sumW + ((residence * 4096 : Nat) - sext 64 (octs h.payload 8 8)), nW := c.nW + 1 }) := by
  unfold State.calReceive
  simp only [hh, hp, hmode, hprobe, hup, hown]
  simp [hcal, hside]

end

/-! PRP supervision (R164) -/

/-- Type and length of a supervision frame's TLV, and the end of its list. -/
theorem supervision_octets (head mac : List Byte) : head ++ toBE 1 20 ++ toBE 1 6 ++ mac ++ toBE 2 0 = head ++ [20, 6] ++ mac ++ [0, 0] := by
  rw [List.append_assoc head]
  rfl

theorem State.prpSupervise_sends {port : Fin 4} (hactive : s.active p = true) (hprp : s.prpOn p port.val = true)
    (hup : s.linkUp p port.val = true) (hen : s.rb (R.PORT_PRP p port.val) 31 = true) : s.prpSupervise p port =
      let sa := s.addr48 (R.PORT_MAC_LO p port.val)
      (s.modPort p port fun x => { x with supSeq := x.supSeq + 1 }).wire p port
        0x01154E000100 sa 0x88FB (toBE 2 1 ++ toBE 2 (((s.pl p).port.getD port.val PortS.rest).supSeq).toNat ++ [20, 6] ++ toBE 6 sa ++ [0, 0])
        false false := by
  unfold State.prpSupervise
  simp only [hactive, hprp, hup, hen, Bool.and_self, if_true, supervision_octets]

theorem State.prpSupIn_up {i : Nat} (hp : s.present p = true) (hup : s.linkUp p i = true) (hmode : s.portMode p i ≠ 0) : s.prpSupIn p i =
    let t := s.count (R.PORT_COUNTERS p i 0)
    if s.portMode p i = 1 then t.count (R.PORT_COUNTERS p i 3)
    else if s.prpOn p i then t.count (R.PORT_COUNTERS p i 12) else t := by
  unfold State.prpSupIn
  simp [hp, hup, hmode, State.when]

theorem State.prpSupIn_down {i : Nat} (hp : s.present p = true) (hup : s.linkUp p i = false) (hmode : s.portMode p i ≠ 0) :
    s.prpSupIn p i = s.count (R.PORT_COUNTERS p i 3) := by
  unfold State.prpSupIn
  simp [hp, hup, hmode]

end

/-- Settles O36, by what a probe, its return, a run's end and a supervision frame come to. -/
theorem calibrationAndPrp : Obligations.CalibrationAndPrp := by
  intro s p port bs residence c i h s1 acc on
  exact ⟨fun hcal hlt => exec_next_of_eq rfl (State.calProbe_goes hcal hlt),
    fun hcal heast hsent hpos => exec_next_of_eq rfl (State.calProbe_turns hcal heast hsent hpos),
    fun hp hmode hprobe hup => ⟨fun hown hfwd => exec_next_of_eq rfl (State.calReceive_other rfl hp hmode hprobe hup residence hown hfwd),
      fun hown hcal hside => ⟨_, rfl, State.calReceive_own rfl hp hmode hprobe hup residence hown hcal hside⟩⟩,
    fun m d hrun hcmd hcal heast hsent => exec_next_of_eq rfl (State.calDone_all hcal hrun hcmd heast hsent),
    fun hactive hprp hup hen => exec_next_of_eq rfl (State.prpSupervise_sends hactive hprp hup hen),
    fun hp hup hmode => exec_next_of_eq rfl (State.prpSupIn_up hp hup hmode),
    fun hp hup hmode => exec_next_of_eq rfl (State.prpSupIn_down hp hup hmode)⟩

end Sys2Proof.Machine
end


section
/-!
Foreign inputs (R172, R175, R176): what the parsers' outcome and the ports' own checks come to.
-/
namespace Sys2Proof.Machine

variable {s : State} {p : Plane} {f : Foreign}

/-! Inputs of the Lantern ring (R172, R176, R280) -/

/-- An input that its parser refuses counts why. -/
theorem State.foreign_error {stamp : Int} {i : Nat} (hring : ∀ port frame, f ≠ .eth port frame) (hon : s.ingressOn p = true)
    (hparse : s.parse p stamp f = .error i) : s.foreign p stamp f = s.ing p i := by
  cases f with
  | eth port frame => exact absurd rfl (hring port frame)
  | _ => simp only [State.foreign, hon, hparse]; rfl

/-- An input that no back-pressure holds is matched as one of source 4. -/
theorem State.foreign_free {stamp : Int} {x : Parsed} (hring : ∀ port frame, f ≠ .eth port frame) (hon : s.ingressOn p = true)
    (hparse : s.parse p stamp f = .ok x) (hfree : s.inputHeld p x = false) : s.foreign p stamp f = s.matched p stamp 4 x := by
  cases f with
  | eth port frame => exact absurd rfl (hring port frame)
  | _ => simp only [State.foreign, hon, hparse, hfree, Bool.and_false]; rfl

/-- An input of a capture or LTC input that waits for the plane (R313). -/
theorem State.foreignIn_lan (hf : (∃ i up n, f = .capture i up n) ∨ ∃ i rate hms ub n, f = .ltc i rate hms ub n) {e : LanIn}
    (hfind : s.lanIn.find? (fun e => decide (e.input = f) && (if p = .a then e.toA else e.toB)) = some e)
    (hfree : s.foreignHeld p f = false) (arrival : Nat) :
    s.foreignIn p arrival f = (s.foreign p (s.toRelease e.stamp) f).lanTaken p fun d => decide (d = e) := by
  obtain ⟨i, up, n, rfl⟩ | ⟨i, rate, hms, ub, n, rfl⟩ := hf <;> simp [State.foreignIn, hfind, hfree]

/-- A packet or telegram of a line that waits for the plane (R329). -/
theorem State.foreignIn_line {n : Fin 32} (hf : (∃ bad os q, f = .serPkt n bad os q) ∨ ∃ bad chk os q, f = .serTel n bad chk os q) {k : Nat}
    (hfind : (s.slInputs p n).find? (fun e => decide (e.2 = f)) = some (k, f)) (hfree : s.foreignHeld p f = false) (arrival : Nat) :
    s.foreignIn p arrival f = (s.foreign p (s.toRelease (s.slStamp n k)) f).slTaken p n k := by
  obtain ⟨bad, os, q, rfl⟩ | ⟨bad, chk, os, q, rfl⟩ := hf <;> simp [State.foreignIn, hfind, hfree]

/-- A frame of a controller that waits for the plane (R355). -/
theorem State.foreignIn_can {n : Fin 8} {rtr : Bool} {desc data : List Byte} {q : Word}
    (hfind : ((s.canInputs p n).find? fun e => decide (e.2 = .can n rtr desc data q)).isSome = true)
    (hfree : s.foreignHeld p (.can n rtr desc data q) = false) (arrival : Nat) :
    s.foreignIn p arrival (.can n rtr desc data q) =
      (s.foreign p (s.toRelease (s.canStamp n q)) (.can n rtr desc data q)).modCan n.val fun x => x.taken p fun r => r.inseq == q := by
  obtain ⟨e, he⟩ := Option.isSome_iff_exists.1 hfind
  simp [State.foreignIn, he, hfree]

/-- An input that back-pressure holds stays; one that does not wait is nothing (R280). -/
theorem State.foreignIn_held (hring : ∀ port frame, f ≠ .eth port frame) (hheld : s.foreignHeld p f = true) (arrival : Nat) :
    s.foreignIn p arrival f = s := by
  cases f with
  | eth port frame => exact absurd rfl (hring port frame)
  | _ => simp only [State.foreignIn, hheld, if_true]; split <;> rfl

/-! Frames of a spur port (R137, R142, R175) -/

section
variable {port : Fin 4} {frame : List Byte}

/-- A frame that the port's own checks refuse or take, or for which no ingress runs, does what the checks do. -/
theorem State.foreign_port_checked (h : (s.spurFrame p port frame).1 = false ∨ s.ingressOn p = false) (arrival : Int) :
    s.foreign p arrival (.eth port frame) = (s.spurFrame p port frame).2 := by
  unfold State.foreign
  obtain h | h := h <;> simp [h]

variable (hgo : (s.spurFrame p port frame).1 = true) (hon : s.ingressOn p = true) {arrival : Int}
include hgo hon

theorem State.foreign_port_error {i : Nat} (hparse : (s.spurFrame p port frame).2.parse p arrival (.eth port frame) = .error i) :
    s.foreign p arrival (.eth port frame) = (s.spurFrame p port frame).2.ing p i := by
  simp only [State.foreign, hgo, hon, hparse]
  rfl

theorem State.foreign_port_ok {x : Parsed} (hparse : (s.spurFrame p port frame).2.parse p arrival (.eth port frame) = .ok x)
    (hlantern : x.lantern = none) : s.foreign p arrival (.eth port frame) = (s.spurFrame p port frame).2.matched p arrival port.val x := by
  simp only [State.foreign, hgo, hon, hparse, hlantern]
  rfl

omit hgo hon

/-- An untagged frame of fitting size and no type of the ring's own passes the port's checks and counts as received. -/
theorem State.spurFrame_passes (hp : s.present p = true) (hmode : s.portMode p port.val = 2) (hup : s.linkUp p port.val = true)
    (hptp : ptpAt frame = none) (hmin : 60 ≤ frame.length) (hmax : frame.length ≤ 9212) (hprp : s.prpOn p port.val = false)
    (htype : octs frame 12 2 ∉ [0x8100, 0x8808, 0x88FB, s.rf (R.PORT_NATIVE_TYPE p port.val) 15 0]) :
    s.spurFrame p port frame = (true, s.count (R.PORT_COUNTERS p port.val 0)) := by
  obtain ⟨htag, hpause, hsup, hnative⟩ : octs frame 12 2 ≠ 0x8100 ∧ octs frame 12 2 ≠ 0x8808 ∧ octs frame 12 2 ≠ 0x88FB ∧
      octs frame 12 2 ≠ s.rf (R.PORT_NATIVE_TYPE p port.val) 15 0 := by simpa using htype
  have hsized : 64 ≤ frame.length + 4 ∧ frame.length + 4 ≤ 9216 := by omega
  simp [State.spurFrame, State.takeApart, State.lanId, hp, hmode, hup, hptp, hprp, htag, hpause, hsup, hnative, hsized]

end

end Sys2Proof.Machine
end

section
/-!
The allocator's stages for the first candidate (R186, R187, R190) and a synchronised group that times out (R192).
-/
namespace Sys2Proof.Machine

section
variable {s : State} {p q : Plane} {c : Cand}

/-- What the allocator of plane `q` has once it has kept a candidate's pairing key (R187). -/
def State.keepKey (s : State) (q : Plane) (c : Cand) : State :=
  match c.pairKey with
  | some k => s.modPl q fun x => { x with pairs := x.pairs ++ [k] }
  | none => s

/-- What it has once it has noted the sequence number and the end of an sACN stream (R186). -/
def State.noteSacn (s : State) (q : Plane) (c : Cand) (a : Sacn) : State :=
  s.modPl q fun x => x.modSd c.stream.toNat fun d => { d with lastSeq := some a.seq, terminated := a.terminated }

/-- What it has once the candidate is held for its group, in place of one of its stream that was held before (R191). -/
def State.holdCand (s : State) (q : Plane) (c : Cand) : State :=
  (if ((s.pl q).sd c.stream.toNat).held.isSome then s.lose q 20 c.stream.toNat else s).modPl q fun x =>
    x.modSd c.stream.toNat fun d => { d with held := some c }

/-- An sACN packet waits for its group's synchronisation, unless the group's last synchronisation packet has its stamp (R190, log 121). -/
abbrev State.Holds (s : State) (q : Plane) (c : Cand) (a : Sacn) : Prop :=
  nfld c.entry.toNat 42 35 ≠ 0 ∧ a.syncAddr ≠ 0 ∧
    (((s.pl q).grp (nfld c.entry.toNat 42 35)).st ≠ 2 ∨ a.force = true) ∧ ((s.pl q).grp (nfld c.entry.toNat 42 35)).stamp ≠ some c.arrival

/-- The candidate's partner has come before it (R187). -/
def State.Paired (s : State) (q : Plane) (c : Cand) : Prop := ∃ k, c.pairKey = some k ∧ k ∈ (s.pl q).pairs

/-- The allocator takes the first candidate (R186). -/
theorem State.allocate_first {rest : List Cand} (h : (s.pl p).cands = c :: rest) : s.allocate p =
    ((s.modPl p fun x => { x with cands := rest }).allocOne (s.allocPlane p) c).mirrorAlloc (s.allocPlane p) c.stream.toNat := by
  simp only [State.allocate, h]

/-- Taking a candidate leaves the keys of the candidates before it. -/
theorem State.paired_modPl_cands (rest : List Cand) : (s.modPl p fun x => { x with cands := rest }).Paired q c ↔ s.Paired q c := by
  obtain rfl | h := eq_or_ne q p
  · simp only [State.Paired, State.pl_modPl_same]
  · simp only [State.Paired, State.pl_modPl_ne _ h]

/-- The allocator's own test for a partner. -/
theorem State.paired_of_test (h : (match c.pairKey with | some k => (s.pl q).pairs.contains k | none => false) = true) : s.Paired q c := by
  cases hk : c.pairKey with
  | none => simp [hk] at h
  | some k => exact ⟨k, hk, by simpa [hk] using h⟩

/-- Pairing: the second of a pair is lost (R187). -/
theorem State.allocOne_paired (h : s.Paired q c) : s.allocOne q c = s.lose q 15 c.stream.toNat := by
  obtain ⟨k, hk, hmem⟩ := h
  simp [State.allocOne, hk, hmem]

section
variable (hnew : ¬ s.Paired q c)
include hnew

/-- What is no sACN packet goes on to the rest (R186). -/
theorem State.allocOne_plain (hsacn : c.sacn = none) : s.allocOne q c = (s.keepKey q c).finish q c c.arrival := by
  unfold State.allocOne
  refine (if_neg fun h => hnew ?_).trans (by rw [hsacn]; rfl)
  exact State.paired_of_test h

/-- The stages of an sACN packet: its sequence number, the end of its stream, the hold for its group, the rest (R186). -/
theorem State.allocOne_sacn {a : Sacn} (hsacn : c.sacn = some a) : s.allocOne q c =
    let s1 := s.keepKey q c
    let s2 := s1.noteSacn q c a
    if seqRefused ((s1.pl q).sd c.stream.toNat).lastSeq a.seq then s1.lose q 19 c.stream.toNat
    else if a.terminated then s2.raiseP q 135
    else if s2.Holds q c a then s2.holdCand q c
    else s2.finish q c c.arrival := by
  unfold State.allocOne
  refine (if_neg fun h => hnew ?_).trans (by rw [hsacn]; rfl)
  exact State.paired_of_test h

end

/-- A sequence number is refused at most 19 behind the last (R186). -/
theorem seqRefused_iff {last : Option Byte} {new : Byte} : seqRefused last new = true ↔
    ∃ l, last = some l ∧ -19 ≤ sext 8 ((new.toNat + 256 - l.toNat) % 256) ∧ sext 8 ((new.toNat + 256 - l.toNat) % 256) ≤ 0 := by
  cases last <;> simp [seqRefused]

end

/-! A synchronised group without packets (R192) -/

section
variable {s : State} {p : Plane} {g : Nat}

theorem State.syncTimeout_synced (h : ((s.pl p).grp g).st = 1) : s.syncTimeout p g =
    ((s.pl p).heldIn g fun _ => true).foldl
      (fun (t : State) c => (t.lose p 20 c.stream.toNat).modPl p fun x => x.modSd c.stream.toNat fun d => { d with held := none })
      ((s.modPl p fun x => { x with sync := Tab.set SyncGrp.never g { (s.pl p).grp g with st := 2 } x.sync }).raiseP p 136) :=
  if_neg (not_not.2 h)

theorem State.syncTimeout_other (h : ((s.pl p).grp g).st ≠ 1) : s.syncTimeout p g = s := if_pos h

end

/-! Sentences held in a group (R191) -/

theorem mem_insCand {c d : Cand} {l : List Cand} : d ∈ insCand c l ↔ d = c ∨ d ∈ l := by
  induction l with
  | nil => simp [insCand]
  | cons e l ih =>
    unfold insCand
    split
    · simp
    · simp [ih, or_left_comm]

/-- Sorting by stream leaves what is sorted. -/
theorem mem_foldl_insCand {d : Cand} {l acc : List Cand} : d ∈ l.foldl (fun a c => insCand c a) acc ↔ d ∈ l ∨ d ∈ acc := by
  induction l generalizing acc with
  | nil => simp
  | cons c l ih => simp [ih, mem_insCand, or_assoc, or_left_comm]

theorem PlaneS.mem_heldIn {x : PlaneS} {g : Nat} {f : Cand → Bool} {c : Cand} :
    c ∈ x.heldIn g f ↔ (∃ e, e ∈ x.sdyn ∧ e.2.held = some c) ∧ nfld c.entry.toNat 42 35 = g ∧ f c = true := by
  simp [PlaneS.heldIn, mem_foldl_insCand]

end Sys2Proof.Machine
end

section
/-!
The statement of the ingress (R172-R194).
-/
namespace Sys2Proof.Machine

section
variable {s : State} {p : Plane} {f : Foreign}

/-- What an input of the Lantern ring that the plane takes comes to at its release time (R172, log 135). -/
theorem State.foreign_parsed {stamp : Int} {t : State} (hring : ∀ port frame, f ≠ .eth port frame) (hon : s.ingressOn p = true)
    (h : (∃ i, s.parse p (stamp + s.ltPhase) f = .error i ∧ t = s.ing p i) ∨
      ∃ x, s.parse p (stamp + s.ltPhase) f = .ok x ∧ s.inputHeld p x = false ∧ t = s.matched p (stamp + s.ltPhase) 4 x) :
    s.foreign p (s.toRelease stamp) f = t := by
  obtain ⟨i, hparse, rfl⟩ | ⟨x, hparse, hfree, rfl⟩ := h
  · exact State.foreign_error hring hon hparse
  · exact State.foreign_free hring hon hparse hfree

end

/-- Settles O37, by where an input comes from and what its parser says, by the allocator's stages, and by the state of a group. -/
theorem ingressCommands : Obligations.IngressCommands := by
  intro s p arrival f
  refine ⟨fun stamp t hon hfree ht => ⟨fun e hf hfind hstamp => ?lan, fun n k hf hfind hstamp => ?line,
      fun n rtr desc data q hf hfind hstamp => ?can⟩,
    fun hheld hring => exec_next_of_eq rfl (State.foreignIn_held hring hheld arrival), fun port frame hf => ?port, fun c rest hc => ?first, rfl,
    fun g => ⟨fun h => exec_next_of_eq rfl (State.syncTimeout_synced h), fun h => exec_next_of_eq rfl (State.syncTimeout_other h), fun c => ?held⟩⟩
  case lan =>
    have hring (port frame) : f ≠ .eth port frame := by obtain ⟨_, _, _, rfl⟩ | ⟨_, _, _, _, _, rfl⟩ := hf <;> nofun
    subst hstamp
    exact exec_next_of_eq rfl ((State.foreignIn_lan hf hfind hfree arrival).trans (by rw [State.foreign_parsed hring hon ht]))
  case line =>
    have hring (port frame) : f ≠ .eth port frame := by obtain ⟨_, _, _, rfl⟩ | ⟨_, _, _, _, rfl⟩ := hf <;> nofun
    subst hstamp
    exact exec_next_of_eq rfl ((State.foreignIn_line hf hfind hfree arrival).trans (by rw [State.foreign_parsed hring hon ht]))
  case can =>
    have hring (port frame) : f ≠ .eth port frame := by rw [hf]; nofun
    subst hf hstamp
    exact exec_next_of_eq rfl ((State.foreignIn_can hfind hfree arrival).trans (by rw [State.foreign_parsed hring hon ht]))
  case port =>
    subst hf
    exact ⟨fun h => exec_next_of_eq rfl (State.foreign_port_checked h arrival),
      fun hgo hon => ⟨fun k hparse => exec_next_of_eq rfl (State.foreign_port_error hgo hon hparse),
        fun x hparse hlantern => exec_next_of_eq rfl (State.foreign_port_ok hgo hon hparse hlantern)⟩,
      fun hp hmode hup hptp hmin hmax hprp htype => State.spurFrame_passes hp hmode hup hptp hmin hmax hprp htype⟩
  case first =>
    intro q st s0 answers paired s1
    have hpaired : s0.Paired q c ↔ paired := State.paired_modPl_cands rest
    have hanswers {t : State} (h : s0.allocOne q c = t) : answers t :=
      exec_next_of_eq rfl ((State.allocate_first hc).trans (congrArg (State.mirrorAlloc · q st) h))
    refine ⟨fun h => hanswers (State.allocOne_paired (hpaired.2 h)),
      fun h hsacn => hanswers (State.allocOne_plain (mt hpaired.1 h) hsacn), fun a h hsacn => ?_⟩
    intro old s2 g y hold
    have hold_iff : seqRefused ((s1.pl q).sd st).lastSeq a.seq = true ↔ old := seqRefused_iff
    have hstages := State.allocOne_sacn (mt hpaired.1 h) hsacn
    refine ⟨fun ho => hanswers (hstages.trans (if_pos (hold_iff.2 ho))), fun ho hends => ?_, fun ho hgoes hh => ?_, fun ho hgoes hh => ?_⟩
    all_goals refine hanswers (hstages.trans ((if_neg (mt hold_iff.1 ho)).trans ?_))
    · exact if_pos hends
    · exact (if_neg (ne_true_of_eq_false hgoes)).trans (if_pos hh)
    · exact (if_neg (ne_true_of_eq_false hgoes)).trans (if_neg hh)
  case held => exact PlaneS.mem_heldIn.trans (by simp)

end Sys2Proof.Machine
end


section
/-!
A descriptor's state register (R315, R316): a LAST that its field cannot hold, for which the statement of the selectors fails.
-/
namespace Sys2Proof.Machine

section
variable {s t : State}

/-- Where no side's join check has passed, both planes' bypass pins are closed (R90). -/
theorem State.bypOpen_of_joinSt {k : Nat} (h : t.joinSt k = 0) : t.bypOpen k = false := by
  simp [State.bypOpen, h]

/-- Where the bypass pins stand at their levels a command adds nothing to the registers but what shows the pins. -/
theorem State.reg_after_of_shown (h : ∀ k, k < 4 → t.rb R.AON_BYP_CTL (8 + k) = t.bypOpen k) {o : Nat} (ho : o ≠ R.AON_BYP_CTL) :
    (s.after t).reg o = t.reg o := by
  have hballs : (s.after t).reg o = t.bypass.driveByp.reg o := State.ballsMove_keeps (State.reg · o) (fun _ _ => rfl) _ _
  rw [hballs, State.bypass_of_shown h]
  exact t.reg_setRf_ne ho ..

end

/-- Plane A alone ACTIVE, with a LAST of 128 at descriptor 0. -/
def lastBeyond : State := Tests.alone.modPl .a fun x => { x with descSt := [(0, { DescS.none_ with last := 128 })] }

/-- What REL_DESC_STATE of plane A shows after a command. -/
def descStateAfter (o : Host.Outcome State Fault Refusal) : Word :=
  match o with
  | .next t => t.reg (R.REL_DESC_STATE .a)
  | _ => 0

/-- Bit 31 of 128 · 2^24 is set, though the descriptor it stands for is not valid. -/
theorem lastBeyond_valid : bit (descStateAfter (exec (.relDescSelWrite .host .a 0) lastBeyond)) 31 = true ∧
    rdValid ((lastBeyond.pl .a).desc 0) = false := by decide +kernel

/-- No pin is open, and AON_BYP_CTL shows that. -/
theorem lastBeyond_shown {k : Nat} (hk : k < 4) : lastBeyond.joinSt k = 0 ∧ lastBeyond.rb R.AON_BYP_CTL (8 + k) = false := by
  revert k
  decide +kernel

section
variable {s : State} {p : Plane}

theorem State.writePlane_relDescSel {r : Req} {row : RegRow} {i : Nat} (v : Word) :
    s.writePlane r row p (R.REL_DESC_SEL p) i v = s.selDesc p v := by
  rw [State.writePlane, if_neg (by unfold R.REL_DESC_SEL R.EG_CTL; omega), if_neg (by unfold R.REL_DESC_SEL R.ING_RULE_SEL; omega),
    if_neg (by unfold R.REL_DESC_SEL R.ING_STREAM_SEL; omega), if_neg (by unfold R.REL_DESC_SEL R.Q_CTL; omega),
    if_neg (by unfold R.REL_DESC_SEL R.BU_APPLY_SEL; omega), if_neg (by unfold R.REL_DESC_SEL R.DSP_CANCEL; omega),
    if_neg (by unfold R.REL_DESC_SEL R.DSP_JOB_SEL; omega), if_pos rfl]

/-- A write of REL_DESC_SEL takes the snapshot of the descriptor it names (R315). -/
theorem exec_relDescSelWrite {r : Req} (hr : s.reqOn r = true) (hp : s.present p = true) (v : Word) :
    exec (.relDescSelWrite r p v) s = .next (s.after (s.selDesc p v)) := by
  have halign : R.REL_DESC_SEL p % 4 = 0 := by cases p <;> rfl
  have hlo : 0x200000 ≤ R.REL_DESC_SEL p := by cases p <;> decide
  have hhi : R.REL_DESC_SEL p < 0xC00000 := by cases p <;> decide
  have hplane : planeOf (R.REL_DESC_SEL p) = some p := by cases p <;> rfl
  have hthere : s.there (R.REL_DESC_SEL p) = true := by rw [State.there, hplane]; exact hp
  obtain ⟨row, hrow, hpair⟩ : ∃ row, rowOf (R.REL_DESC_SEL p) = some row ∧ row.pair = .single := by
    cases p <;> exact ⟨_, by rfl, by rfl⟩
  have hsc : isStageCtl (R.REL_DESC_SEL p) = false := by cases p <;> rfl
  have hlog : logOf (R.REL_DESC_SEL p) = none := by cases p <;> rfl
  refine exec_next_of_eq rfl ?_
  rw [State.regWrite_aligned hr halign, State.writeAll_of_le hlo, State.writeReg_of_single hhi hthere hrow hsc hlog hpair, hplane]
  exact State.writePlane_relDescSel v

/-- Showing a snapshot changes no register but those that show its words (R198). -/
theorem State.reg_showEntry_ne {off n o : Nat} (h : ∀ i, i < n / 4 → o ≠ off + 4 * i) (v : Nat) : (s.showEntry off n v).reg o = s.reg o :=
  foldl_keeps (State.reg · o) (fun s i hi => s.reg_setReg_ne (h i (List.mem_range.1 hi)) _) s

/-- A word of five fields. -/
theorem pack_five (a b c d e i j k l m : Nat) : pack [(a, i), (b, j), (c, k), (d, l), (e, m)] =
    BitVec.ofNat 32 (a * 2 ^ i + (b * 2 ^ j + (c * 2 ^ k + (d * 2 ^ l + e * 2 ^ m)))) := rfl

/-- Of fields within their bits VALID and LAST are read back (R316). -/
theorem descState_fields {valid bound : Bool} {kind last job : Nat} (hkind : kind < 8) (hlast : last < 16) (hjob : job < 4096) :
    bit (pack [(valid.toNat, 31), (kind, 28), (last, 24), (bound.toNat, 12), (job, 0)]) 31 = valid ∧
      fld (pack [(valid.toNat, 31), (kind, 28), (last, 24), (bound.toNat, 12), (job, 0)]) 27 24 = last := by
  have hvalid := valid.toNat_lt
  have hbound := bound.toNat_lt
  rw [pack_five, bit, BitVec.getLsbD, fld, nfld, BitVec.toNat_ofNat, Nat.mod_eq_of_lt (by omega)]
  have htop : (valid.toNat * 2 ^ 31 + (kind * 2 ^ 28 + (last * 2 ^ 24 + (bound.toNat * 2 ^ 12 + job * 2 ^ 0)))) / 2 ^ 31 = valid.toNat := by
    omega
  refine ⟨?_, by omega⟩
  rw [Nat.testBit_eq_decide_div_mod_eq, htop]
  cases valid <;> rfl

/-- Where LAST and the jobs' numbers fit their fields, REL_DESC_STATE shows VALID and LAST of the descriptor (R316). -/
theorem State.selDesc_shows {v : Word} (hlast : ((s.pl p).dst (fld v 11 0)).last < 16) (hjobs : ∀ e ∈ (s.pl p).jobs, e.1 < 4096) :
    (s.selDesc p v).rb (R.REL_DESC_STATE p) 31 = rdValid ((s.pl p).desc (fld v 11 0)) ∧
      fld ((s.selDesc p v).reg (R.REL_DESC_STATE p)) 27 24 = ((s.pl p).dst (fld v 11 0)).last := by
  have hjob : ((s.pl p).jobs.find? fun e => jValid e.2 && jBuild e.2 && jBuf e.2 == fld v 11 0).elim 0 Prod.fst < 4096 := by
    cases hfind : (s.pl p).jobs.find? fun e => jValid e.2 && jBuild e.2 && jBuf e.2 == fld v 11 0 with
    | none => decide
    | some e => exact hjobs e (List.mem_of_find?_eq_some hfind)
  have hreg : (s.selDesc p v).reg (R.REL_DESC_STATE p) = _ :=
    (State.reg_showEntry_ne (by unfold R.REL_DESC_STATE R.REL_DESC_DATA; omega) _).trans
      ((State.reg_setReg64_ne _ (by unfold R.REL_DESC_STATE R.REL_DESC_LAUNCH_LO; omega)
        (by unfold R.REL_DESC_STATE R.REL_DESC_LAUNCH_LO; omega) _).trans (State.reg_setReg_same ..))
  rw [State.rb, hreg]
  exact descState_fields (Nat.mod_lt _ (by decide)) hlast hjob

end

/-- Refutes O39: the statement takes any LAST of a descriptor. One of 128, which no release leaves, overflows its field (R316) and shows as
VALID of a descriptor that is not valid. Where LAST and the jobs' numbers fit their fields, `State.selDesc_shows` says that the register
shows what the statement says. -/
theorem not_selectorsLogTailsAperture : ¬ Obligations.SelectorsLogTailsAperture := by
  rintro ⟨hselectors, -⟩
  obtain ⟨-, -, -, -, ⟨u, hexec, -, -, -, hvalid, -, -, hothers⟩, -⟩ := hselectors lastBeyond .host .a 0 (by decide) (by decide)
  have hjoin : u.reg R.AON_JOIN_STATUS = lastBeyond.reg R.AON_JOIN_STATUS := hothers _ (by decide)
  have hbyp : u.reg R.AON_BYP_CTL = lastBeyond.reg R.AON_BYP_CTL := hothers _ (by decide)
  have hshown (k : Nat) (hk : k < 4) : u.rb R.AON_BYP_CTL (8 + k) = u.bypOpen k := by
    obtain ⟨hst, hbit⟩ := lastBeyond_shown hk
    have hst' : u.joinSt k = 0 := by rw [← hst]; simp only [State.joinSt, State.rf, hjoin]
    rw [State.bypOpen_of_joinSt hst', ← hbit, State.rb, State.rb, hbyp]
  obtain ⟨hset, hnot⟩ := lastBeyond_valid
  rw [hexec] at hset
  have hbit : u.rb (R.REL_DESC_STATE .a) 31 = true :=
    (congrArg (bit · 31) (State.reg_after_of_shown (s := lastBeyond) hshown (by decide))).symm.trans hset
  exact Bool.false_ne_true (hnot.symm.trans (hvalid.symm.trans hbit))

end Sys2Proof.Machine
end


section
/-!
Sentence queues (R204-R217): what a change of one queue leaves of it and of the registers, and Q_CTL, a register of its own row.
-/
namespace Sys2Proof.Machine

section
variable {s : State} {p : Plane} {q : Nat}

/-! A change of one queue -/

@[simp] theorem State.q_modQ (s : State) (p : Plane) (q : Nat) (f : QueueS → QueueS) : ((s.modQ p q f).pl p).q q = f ((s.pl p).q q) := by
  rw [State.modQ, State.pl_modPl_same]
  exact Tab.get_set_same ..

@[simp] theorem State.reg_modQ (s : State) (p : Plane) (q : Nat) (f : QueueS → QueueS) (o : Nat) : (s.modQ p q f).reg o = s.reg o :=
  State.reg_modPl ..

/-- A change of a queue is what it does to the queue as it stands. -/
theorem State.modQ_congr {f g : QueueS → QueueS} (h : f ((s.pl p).q q) = g ((s.pl p).q q)) : s.modQ p q f = s.modQ p q g :=
  State.modPl_congr (by rw [h])

@[simp] theorem State.flushPend_modQ (s : State) (p : Plane) (q : Nat) (f : QueueS → QueueS) :
    (s.modQ p q f).flushPend p q = s.flushPend p q :=
  congrArg (bit · 31) (State.reg_modQ ..)

@[simp] theorem State.qDispatcher_modQ (s : State) (p : Plane) (q : Nat) (f : QueueS → QueueS) :
    (s.modQ p q f).qDispatcher p q = s.qDispatcher p q :=
  congrArg (fun w => fld w 31 30 == 0) (State.reg_modQ ..)

theorem State.when_beq (t : State) (a b : Nat) (f : State → State) : t.when (a == b) f = if a = b then f t else t := by
  simp [State.when]

/-! Flushes (R215) -/

theorem State.flushNow_idle (h : s.flushPend p q = false) : s.flushNow p q = s := by simp [State.flushNow, h]

theorem State.flushNow_due (h : s.flushPend p q = true) (hw : ((s.pl p).q q).writing = none) : s.flushNow p q =
    State.afterQ s (((s.modQ p q fun x => x.keepRead.settle).setRb (R.Q_STATUS p q) 31 false).addSat (R.Q_FLUSHED p q) 31 0
      ((s.pl p).q q).unbegun) p q := by
  simp [State.flushNow, h, hw]

end

/-! Q_CTL is a register of its own row, whose write enables, disables or flushes the queue (R214, R215, R222) -/

/-- The row of Q_CTL. -/
def qCtlRow : RegRow := rows_queue[5]

section
variable (p : Plane) {q : Nat} (hq : q < 512)

theorem qCtl_eq : R.Q_CTL p q = 0x4C0014 + q * 0x40 + planeOfs p := by unfold R.Q_CTL; omega

include hq

theorem normOff_qCtl : normOff (R.Q_CTL p q) = 0x4C0014 + q * 0x40 := by
  rw [qCtl_eq]
  exact normOff_plane p (by omega) (by omega)

theorem rowOf_qCtl : rowOf (R.Q_CTL p q) = some qCtlRow := by
  rw [rowOf, normOff_qCtl p hq, rowsAt_queue (by omega) (by omega)]
  exact findRow_indexed (l := rows_queue) (row := qCtlRow) (k := 5) rfl (by decide) rfl hq

theorem ix1_qCtl : qCtlRow.ix1 (R.Q_CTL p q) = q := by
  rw [RegRow.ix1, normOff_qCtl p hq]
  change (0x4C0014 + q * 0x40 - 0x4C0014) / 0x40 = q
  omega

theorem planeOf_qCtl : planeOf (R.Q_CTL p q) = some p := by
  rw [qCtl_eq]
  exact planeOf_plane p (by omega) (by omega)

theorem logOf_qCtl : logOf (R.Q_CTL p q) = none := by
  unfold logOf
  rw [if_neg (by unfold R.Q_CTL R.EV_COLLECT_TAIL; omega), planeOf_qCtl p hq]
  dsimp only
  rw [if_neg (by unfold R.Q_CTL R.DSP_LOG_TAIL; omega), if_neg (by unfold R.Q_CTL R.BRG_PLOG_TAIL; omega),
    if_neg (by unfold R.Q_CTL R.BRG_DLOG_TAIL; omega)]

theorem isStageCtl_qCtl : isStageCtl (R.Q_CTL p q) = false := by
  rw [isStageCtl, rowOf_qCtl p hq]
  exact Bool.and_false _

variable {p}

theorem State.writePlane_qCtl {s : State} {r : Req} {row : RegRow} (v : Word) :
    s.writePlane r row p (R.Q_CTL p q) q v = s.qCtl p q v := by
  rw [State.writePlane, if_neg (by unfold R.Q_CTL R.EG_CTL; omega), if_neg (by unfold R.Q_CTL R.ING_RULE_SEL; omega),
    if_neg (by unfold R.Q_CTL R.ING_STREAM_SEL; omega), if_pos ⟨rfl, hq⟩]

/-- A write of Q_CTL of a plane that is present. -/
theorem State.regWrite_qCtl {s : State} {r : Req} (hr : s.reqOn r = true) (hp : s.present p = true) (v : Word) :
    s.regWrite r (R.Q_CTL p q) 4 v = s.qCtl p q v := by
  have hthere : s.there (R.Q_CTL p q) = true := by rw [State.there, planeOf_qCtl p hq]; exact hp
  rw [State.regWrite_aligned hr (by cases p <;> simp only [R.Q_CTL, planeOfs] <;> omega), State.writeAll_of_le (by unfold R.Q_CTL; omega),
    State.writeReg_of_single (by cases p <;> simp only [R.Q_CTL, planeOfs] <;> omega) hthere (rowOf_qCtl p hq) (isStageCtl_qCtl p hq)
      (logOf_qCtl p hq) rfl, planeOf_qCtl p hq, ix1_qCtl p hq]
  exact State.writePlane_qCtl hq v

end

section
variable {s : State} {p : Plane} {q : Nat}

section
variable {v : Word}

/-- A write of EN = 1 enables a queue that is not enabled (R214). -/
theorem State.qCtl_enable (hset : bit v 31 = true) (hflush : bit v 30 = false) (hen : s.qEn p q = false) :
    s.qCtl p q v = (s.setRb (R.Q_CTL p q) 31 true).backPressure p q := by
  simp [State.qCtl, State.queueOn, hset, hflush, hen]

/-- A write of EN = 0 disables a queue that is enabled (R214). -/
theorem State.qCtl_disable (hclear : bit v 31 = false) (hflush : bit v 30 = false) (hen : s.qEn p q = true) :
    s.qCtl p q v = State.storeLevel s
      (((s.setRb (R.Q_CTL p q) 31 false).modQ p q fun x => { x.keepRead with doomed := x.doomed || x.writing.isSome }.settle).addSat
        (R.Q_FLUSHED p q) 31 0 ((s.pl p).q q).unbegun) p := by
  simp [State.qCtl, State.queueOff, hclear, hflush, hen]

/-- A write of FLUSH = 1 that leaves EN set requests a flush, due at once when no record is being written (R215). -/
theorem State.qCtl_flush (hset : bit v 31 = true) (hflush : bit v 30 = true) (hen : s.qEn p q = true) :
    s.qCtl p q v = (s.setRb (R.Q_STATUS p q) 31 true).flushNow p q := by
  simp [State.qCtl, State.flushRequest, hset, hflush, hen]

end

/-- FLUSH written beside an EN that is kept. -/
theorem bit_keepEn_flush (w : Word) :
    bit ((w &&& 0x80000000) ||| 0x40000000) 31 = bit w 31 ∧ bit ((w &&& 0x80000000) ||| 0x40000000) 30 = true := by
  simp [bit]

end

end Sys2Proof.Machine
end

section
/-!
What becomes of a sentence in its queue (R206, R209-R213, R217), and its levels at the end of the cycle (R216).
-/
namespace Sys2Proof.Machine

section
variable {s : State} {p : Plane} {q : Nat}

/-! Entry (R211, R213, R214) -/

/-- No commit waits for the queue's boundary (R220). -/
theorem State.qApply_idle (h : s.rb (R.Q_STAGE_CTL p q) 31 = false) : s.qApply p q = s := by
  simp [State.qApply, State.pendingAt, h]

/-- A free write channel takes the first sentence that waits (R207). -/
theorem State.admitNext_first {c : Int} {w : Rec} {rest : List (Int × Rec)} (hw : ((s.pl p).q q).writing = none)
    (hready : ((s.pl p).q q).ready = (c, w) :: rest) (hpend : s.flushPend p q = false) :
    s.admitNext p q = (s.modQ p q fun x => { x with ready := rest }).admitRec p q w := by
  simp only [State.admitNext, hw, hready, State.flushNow_idle hpend]

/-- What the write channel does with the sentence that it takes (R211, R213, R214, R481). -/
theorem State.admitRec_eq (s : State) (p : Plane) (q : Nat) (w : Rec) : s.admitRec p q w =
    let x := (s.pl p).q q
    if s.qEn p q = false ∨ s.rf R.AON_PWR_STATUS 31 30 = 1 then s.count (R.Q_DROP_DIS p q)
    else if w.words + x.occ + 1 ≤ s.rf (R.Q_LIMIT p q) 18 0 ∧
        x.cellsFor (x.occ + w.words + 1) ≤ (s.qMin p q - s.qHeld p q) + s.sharedFree p + s.qHeld p q then
      State.storeLevel s (((s.modQ p q fun x => { x with writing := some { w with qseq := x.qseq }, qseq := x.qseq + 1 }).modPl p fun y =>
        y.entered w.sent.stream.toNat).count (R.Q_ADMIT p q)) p
    else State.afterQ s (s.dropNewest p q w) p q := by
  simp only [State.admitRec, Bool.or_eq_true, Bool.not_eq_true', beq_iff_eq]

/-! Completion (R209, R210, R270) -/

/-- A record that is neither doomed nor flushed stands last once it is complete. -/
def State.recordKept (s : State) (p : Plane) (q : Nat) (w : Rec) : State :=
  State.afterQ s (s.modQ p q fun x => { x with writing := none, items := x.items ++ [.record w] }) p q

theorem State.completeRec_kept {w : Rec} (hw : ((s.pl p).q q).writing = some w) (hdoomed : ((s.pl p).q q).doomed = false)
    (hpend : s.flushPend p q = false) :
    s.completeRec p q = ((s.recordKept p q w).queueNotice p q false, if s.qDispatcher p q then some w else none) := by
  simp only [State.completeRec, hw, hdoomed, hpend]
  cases s.qDispatcher p q <;> rfl

/-- The record carries the epoch of the instance open when it completed (R270). -/
theorem State.recordDone_kept {w : Rec} (hw : ((s.pl p).q q).writing = some w) (hdoomed : ((s.pl p).q q).doomed = false)
    (hpend : s.flushPend p q = false) :
    let w1 := { w with seenIn := (s.pl p).openFor w }
    let s0 := s.modQ p q fun x => { x with writing := some w1 }
    let told := (s0.recordKept p q w1).queueNotice p q false
    s.recordDone p q = if s.qDispatcher p q then told.observe p w1 else told := by
  intro w1 s0 told
  have hs0 : (s.modQ p q fun x => { x with writing := x.writing.map fun r => { r with seenIn := (s.pl p).openFor r } }) = s0 :=
    State.modQ_congr (by rw [hw]; rfl)
  have hdone : s0.completeRec p q = (told, if s.qDispatcher p q then some w1 else none) := by
    rw [State.completeRec_kept (w := w1) (by simp [s0]) (by simpa [s0] using hdoomed) (by simpa [s0] using hpend), State.qDispatcher_modQ]
  rw [State.recordDone, hs0, hdone]
  cases s.qDispatcher p q <;> rfl

/-! Reading (R206, R209, R217, R218) -/

/-- The consumer has the word of a record that is next, corrected where need be. -/
def State.wordGone (s : State) (p : Plane) (q : Nat) (fixed : Nat) (w : Rec) : State :=
  (s.storeFixed p fixed).deliverWord p q ((s.pl p).q q).headTag ((s.pl p).q q).readPos (.record w)

/-- The tag of a record's next word (R206). -/
theorem QueueS.headTag_record {x : QueueS} {w : Rec} {more : List QItem} (h : x.items = .record w :: more) : x.headTag =
    let last := decide (w.words ≤ x.readPos + 1)
    let n := w.sent.payload.length
    (x.readPos == 0).toNat * 2 ^ 13 + last.toNat * 2 ^ 12 + if last && n != 0 then (n - 1) % 64 + 1 else 64 := by
  simp only [QueueS.headTag, h]

@[simp] theorem State.pl_wordGone (s : State) (p : Plane) (q fixed : Nat) (w : Rec) : (s.wordGone p q fixed w).pl p = s.pl p := by
  rw [State.wordGone, State.deliverWord, State.when_beq]
  split
  · exact (State.pl_emit ..).trans (State.pl_setRf ..)
  · exact State.pl_setRf ..

section
variable {w : Rec} {more : List QItem} (hitems : ((s.pl p).q q).items = .record w :: more) (hpend : s.flushPend p q = false) (fixed : Nat)
include hitems hpend

theorem State.readWord_within (hmore : ¬ w.words ≤ ((s.pl p).q q).readPos + 1) : s.readWord p q false fixed =
    State.afterQ s ((s.wordGone p q fixed w).modQ p q fun x =>
      { x with items := .record w :: more, readPos := ((s.pl p).q q).readPos + 1, head := (x.head + 1) % 4 }) p q := by
  simp only [State.readWord, State.flushNow_idle hpend, hitems, QItem.words, if_neg hmore]
  exact congrArg (State.afterQ s · p q) (State.modQ_congr (s := s.wordGone p q fixed w) (by rw [State.pl_wordGone]; rfl))

theorem State.readWord_last (hlast : w.words ≤ ((s.pl p).q q).readPos + 1) : s.readWord p q false fixed =
    State.afterQ s (((s.wordGone p q fixed w).modQ p q fun x =>
      { x with items := more, readPos := 0, head := (x.head + 1) % 4 }.settle).itemRead p q (.record w)) p q := by
  simp only [State.readWord, State.flushNow_idle hpend, hitems, QItem.words, if_pos hlast]
  rfl

end

/-! Levels (R216, R221) -/

section
variable {old : Bool × Bool} (hpeak : ((s.pl p).q q).occ ≤ (s.reg (R.Q_PEAK p q)).toNat)
include hpeak

/-- Up to the peak only the crossings are judged, both by the levels before either is told. -/
theorem State.judgeQ_of_le_peak : s.judgeQ p q old =
    (s.when (s.hiLive p q && !old.1) fun s => s.crossed p q 31).when (s.loLive p q && !old.2) fun s => s.crossed p q 30 := by
  rw [State.judgeQ, decide_eq_false (Nat.not_lt.2 hpeak)]
  rfl

theorem State.judgeQ_still (hhi : s.hiLive p q = old.1) (hlo : s.loLive p q = old.2) : s.judgeQ p q old = s := by
  simp [State.judgeQ_of_le_peak hpeak, State.when, hhi, hlo]

theorem State.judgeQ_reached (hhi : s.hiLive p q = true) (hold : old.1 = false) (hlo : s.loLive p q = false) :
    s.judgeQ p q old = s.crossed p q 31 := by
  simp [State.judgeQ_of_le_peak hpeak, State.when, hhi, hold, hlo]

end
end

/-- Settles O38, by what the write channel does with a sentence, by whether a word is its record's last, by what is written to Q_CTL, and by
the levels before and after. -/
theorem queueCommands : Obligations.QueueCommands := by
  intro s r p q w rest x
  refine ⟨fun c hw hready hpend hstage => ?entry, fun hw hdoomed hpend => ?complete, fun rc more fixed hitems hpend => ?read,
    fun hpend hw => exec_next_of_eq rfl (State.flushNow_due hpend hw),
    fun hr hp => ⟨fun hen => ?enable, fun hen => ?disable, fun hen => ?flush⟩,
    fun old hpeak => ⟨State.judgeQ_still hpeak, State.judgeQ_reached hpeak⟩⟩
  case entry =>
    refine exec_next_of_eq rfl ?_
    rw [State.qApply_idle hstage, State.admitNext_first hw hready hpend]
    exact State.admitRec_eq ..
  case complete =>
    intro w1 s0 s1 t told
    have htold : (s0.recordKept p q.val w1).queueNotice p q.val false = told := State.when_beq ..
    rw [← htold]
    exact exec_next_of_eq rfl (State.recordDone_kept hw hdoomed hpend)
  case read =>
    intro last n tag s1 s2
    have hs2 : s.wordGone p q.val fixed.val rc = s2 := by
      rw [State.wordGone, QueueS.headTag_record hitems]
      exact State.when_beq ..
    rw [← hs2]
    exact ⟨fun h => exec_next_of_eq rfl (State.readWord_within hitems hpend fixed.val (of_decide_eq_false h)),
      fun h => exec_next_of_eq rfl (State.readWord_last hitems hpend fixed.val (of_decide_eq_true h))⟩
  case enable => exact exec_next_of_eq rfl ((State.regWrite_qCtl q.isLt hr hp _).trans (State.qCtl_enable (by decide) (by decide) hen))
  case disable => exact exec_next_of_eq rfl ((State.regWrite_qCtl q.isLt hr hp _).trans (State.qCtl_disable (by decide) (by decide) hen))
  case flush =>
    obtain ⟨hkept, hflush⟩ := bit_keepEn_flush (s.reg (R.Q_CTL p q.val))
    exact exec_next_of_eq rfl ((State.regWrite_qCtl q.isLt hr hp _).trans (State.qCtl_flush (hkept.trans hen) hflush hen))

end Sys2Proof.Machine
end

section
/-!
A move within its window and with whole sources (R226-R239, R257): what its engine does with what the move's function gives.
-/
namespace Sys2Proof.Machine

/-- Engine `e` goes from where it stands to its next entry: the cycles spent and an uncorrectable word are its instance's (R257, R259). -/
def State.entryDone (t : State) (p : Plane) (e : Nat) (g : EngS) (cost : Nat) (bad : Bool) : State := t.modPl p fun x =>
  { x.modInst g.job (fun i => { i with cycles := i.cycles + cost, ending := none, ecc := i.ecc || bad }) with
    used := x.used + cost
    engs := modAt e (fun _ => some { g with entry := g.entry + 1, left := g.left - 1 }) x.engs }

/-- A move that was worked: what its window discarded and its fields are counted, and the engine goes on (R230, R263). -/
def State.moveDone (t : State) (p : Plane) (e : Nat) (g : EngS) (i : Inst) (cost late fields : Nat) : State :=
  let t1 := t.when (!jBuild i.desc && decide (0 < late)) fun t => (t.addSat (R.BU_COUNTERS p 0) 31 0 late).raiseP p 142
  let t2 := if fields = 0 then t1 else t1.setReg64 (R.BU_FIELDS_LO p) (t1.reg64 (R.BU_FIELDS_LO p) + fields)
  t2.entryDone p e g cost false

section
variable {s : State} {p : Plane} {e : Nat} {g0 : EngS} {i : Inst} {ecc : MoveEcc}

/-- The engine works its entry under the command of the entry's operation, while the canvas generator is enabled. -/
theorem State.execMove_runs {op : Nat} (hg : (s.pl p).engs.getD e none = some g0) (hi : (s.pl p).instOf g0.job = some i) (hleft : g0.left ≠ 0)
    (hwin : s.windowOver p i = false) (hruns : s.egEn p (s.canvasEg p) = true) (hop : mvOp (g0.mark ecc).move = op) :
    s.execMove p e op ecc = s.runMove p e g0 i ecc false := by
  have hmoves : s.jobsMove p = true := hruns
  have hstay : ¬ (g0.left = 0 ∨ mvOp g0.move ≠ op ∨ (!s.jobsMove p) = true) := by
    rintro (h | h | h)
    · exact hleft h
    · exact h hop
    · simp [hmoves] at h
  rw [State.execMove, hg]
  dsimp only
  rw [hi]
  dsimp only
  rw [if_neg hstay, hwin]

variable (hend : i.ending = none)
include hend

/-- A move that is skipped costs one cycle and does nothing else (R239, R259). -/
theorem State.runMove_skipped (hskip : (g0.mark ecc).ruined ecc = true ∨ emptyInput i (g0.mark ecc).move = true) :
    s.runMove p e g0 i ecc false = (s.moveEcc p ecc).entryDone p e (g0.mark ecc) 1 ((g0.mark ecc).ruined ecc) := by
  have hskip' : ((g0.mark ecc).ruined ecc || emptyInput i (g0.mark ecc).move) = true := by simpa using hskip
  unfold State.runMove State.entryDone
  simp only [hskip', hend, State.when]
  simp

/-- A move that is not skipped is worked whole. -/
theorem State.runMove_worked (hruin : (g0.mark ecc).ruined ecc = false) (hinput : emptyInput i (g0.mark ecc).move = false)
    (hwhole : shortSource i (g0.mark ecc).move = false) :
    s.runMove p e g0 i ecc false =
      let m := (g0.mark ecc).move
      let r := (s.moveEcc p ecc).workMove p (g0.mark ecc).tabs i m (mvN m) (2 ^ 32)
      r.1.moveDone p e (g0.mark ecc) i r.2.1 r.2.2 (if mvOp m = 2 ∨ mvOp m = 3 ∨ mvOp m = 4 then mvN m else 0) := by
  unfold State.runMove State.moveDone State.entryDone
  simp only [hruin, hinput, hwhole, hend, State.when]
  cases hb : jBuild i.desc <;> simp [or_assoc]

end

/-! What working a move gives, by its operation (R237) -/

section
variable (s : State) (p : Plane) (t : Tables) (i : Inst) {m : Nat} (n lim : Nat)

theorem State.workMove_nop (h : mvOp m = 0) : s.workMove p t i m n lim = (s, 1, 0) := by simp [State.workMove, h]

theorem State.workMove_apply (h : mvOp m = 1) : s.workMove p t i m n lim = s.moveApply p t i m lim := by simp [State.workMove, h]

theorem State.workMove_field (h : mvOp m = 2) : s.workMove p t i m n lim =
    let r := moveField (s.pl p) t i m n lim
    ((s.setPl p r.1).addSat (R.BU_COUNTERS p 2) 31 0 r.2.1, moveCost t m, r.2.2) := by simp [State.workMove, h]

theorem State.workMove_merge (h : mvOp m = 3) : s.workMove p t i m n lim =
    let r := moveMerge (s.pl p) t i m n lim
    ((s.setPl p r.1).addSat (R.BU_COUNTERS p 2) 31 0 r.2.1, moveCost t m, r.2.2) := by simp [State.workMove, h]

theorem State.workMove_const (h : mvOp m = 4) : s.workMove p t i m n lim =
    let r := moveConst (s.pl p) t i m n lim
    ((s.setPl p r.1).addSat (R.BU_COUNTERS p 2) 31 0 r.2.1, moveCost t m, r.2.2) := by simp [State.workMove, h]

theorem State.workMove_copy (h : mvOp m = 5) : s.workMove p t i m n lim =
    let r := moveCopy (s.pl p) i m n lim
    (s.setPl p r.1, moveCost t m, r.2) := by simp [State.workMove, h]

end

end Sys2Proof.Machine
end

section
/-!
An event raised shows in its status register (R449, R450): what is sent of it writes no event register but EV_SENT_COUNT.
-/
namespace Sys2Proof.Machine

section
variable {o : Nat}

/-- A register that is not booked is as it was after whatever is booked. -/
theorem unbooked_reg (h : ¬ booked o) : Unbooked fun s => s.reg o where
  reg s o' v ho := s.reg_setReg_ne (by rintro rfl; exact h ho) v
  pl s p f _ := State.reg_modPl s p f o
  emit _ _ := rfl
  pba _ _ := rfl
  evHold _ _ := rfl
  fr _ _ _ _ := rfl

/-! Sending changes no register below those of the planes -/

theorem State.reg_takeSeq (s : State) (p : Plane) (c : Nat) : (s.takeSeq p c).2.reg o = s.reg o := by
  unfold State.takeSeq
  dsimp only
  split
  · exact (State.reg_modPl ..).trans (State.reg_modPl ..)
  · exact State.reg_modPl ..

section
variable (ho : o < 0x400000)
include ho

theorem State.reg_enqueue_low (s : State) (p : Plane) (port : Fin 4) (h : Sent) (fwd stomp : Bool) :
    (s.enqueue p port h fwd stomp).1.reg o = s.reg o := by
  unfold State.enqueue State.enqueueAs
  dsimp only
  split
  · split
    · exact s.reg_count_ne (by unfold R.SNF_BUF_DROP; omega)
    · exact State.reg_modPl ..
  · split
    · exact s.reg_count_ne (by unfold R.PORT_TX_DROP; omega)
    · exact State.reg_modPl ..

theorem State.reg_sendEast_low (s : State) (p : Plane) (ring : Nat) (h : Sent) (fwd stomp : Bool) :
    (s.sendEast p ring h fwd stomp).1.reg o = s.reg o := by
  unfold State.sendEast
  dsimp only
  split
  · rfl
  split
  · split
    · exact State.reg_enqueue_low ho ..
    · rfl
  split
  · split
    · exact s.reg_count_ne (by unfold R.PORT_COUNTERS; omega)
    · exact State.reg_modPl ..
  split
  · exact State.reg_enqueue_low ho ..
  · rfl

theorem State.reg_originateOn_low (s : State) (p : Plane) (h : Sent) : (s.originateOn p h).1.reg o = s.reg o := by
  unfold State.originateOn State.originateBy
  split
  · dsimp only
    split
    · exact (State.reg_sendEast_low ho ..).trans (State.reg_sendEast_low ho ..)
    · exact State.reg_sendEast_low ho ..
  · exact State.reg_sendEast_low ho ..

theorem State.reg_originate_low (s : State) (p : Plane) (h : Sent) : (s.originate p h).1.reg o = s.reg o := by
  unfold State.originate
  exact (foldl_keeps (fun a : State × List Plane => a.1.reg o) (fun a y _ => State.reg_originateOn_low ho a.1 y _) _).trans (State.reg_takeSeq ..)

theorem State.reg_eventSentence_low (h : o ≠ R.EV_SENT_COUNT) (s : State) (n : Nat) : (s.eventSentence n).reg o = s.reg o := by
  have hsend (s : State) (n cnt : Nat) (first : BitVec 64) : (s.sendEvent n cnt first).reg o = s.reg o :=
    (State.reg_count_ne _ h).trans (foldl_keeps (State.reg · o) (fun s p _ => State.reg_originate_low ho s p _) s)
  unfold State.eventSentence
  split
  · dsimp only
    split
    · exact hsend ..
    · rfl
  · rfl

end

theorem State.reg_requestAll (s : State) (vs : BitVec 64) : (s.requestAll vs).reg o = s.reg o := by
  have hone (s : State) (v : Nat) : (s.request v).reg o = s.reg o := by
    unfold State.request
    split
    · rfl
    · split <;> rfl
  unfold State.requestAll
  split
  · rfl
  · exact foldl_keeps (State.reg · o) (fun s v _ => hone s v) s

end

/-- The status bit of an event that is raised is set. -/
theorem State.rb_raise_status (s : State) {n : Nat} (hn : n < 256) : (s.raise n).rb (R.EV_STATUS (n / 32)) (n % 32) = true := by
  have hlow : R.EV_STATUS (n / 32) < 0x400000 := by unfold R.EV_STATUS; omega
  have hcount : R.EV_STATUS (n / 32) ≠ R.EV_SENT_COUNT := by unfold R.EV_STATUS R.EV_SENT_COUNT; omega
  have hreg : (s.raise n).reg (R.EV_STATUS (n / 32)) = (s.markEvent n).reg (R.EV_STATUS (n / 32)) :=
    (State.reg_eventSentence_low hlow hcount ..).trans (State.reg_requestAll ..)
  rw [State.rb, hreg]
  exact s.rb_setRb_same _ true (Nat.mod_lt _ (by decide))

end Sys2Proof.Machine
end

section
/-!
The errors of the Burin memories (R259): what is counted of them, and what a half of the Canvas reads where words of it are lost.
-/
namespace Sys2Proof

/-- The part of a table that is kept reads as the table, the rest as the default. -/
theorem Tab.get_keep {α : Type} (d : α) (q : Nat → Bool) (k : Nat) (t : Tab α) :
    Tab.get d k (Tab.keep q t) = if q k then Tab.get d k t else d := by
  rw [Tab.get_eq_find, Tab.find_keep, Tab.get_eq_find]
  split <;> rfl

namespace Machine

theorem State.rf_addSat_same (s : State) (off n : Nat) : (s.addSat off 31 0 n).rf off 31 0 = min (s.rf off 31 0 + n) 0xFFFFFFFF := by
  rw [State.addSat, State.rf, State.setRf, State.reg_setReg_same, fld_setFld_same _ _ _ _ (by decide) (by decide)]
  exact Nat.mod_eq_of_lt (by omega)

theorem PlaneS.cv_setCv (x : PlaneS) (h k : Bool) (t : Tab Byte) : (x.setCv h t).cv k = if k = h then t else x.cv k := by
  cases h <;> cases k <;> rfl

/-- Words of a half that are taken as 0 read as 0, all others as before. -/
theorem PlaneS.get_cv_zeroWords (x : PlaneS) (h k : Bool) (ws : List Nat) (o : Nat) :
    Tab.get 0 o ((x.zeroWords h ws).cv k) = if k = h ∧ o / 8 ∈ ws then 0 else Tab.get 0 o (x.cv k) := by
  unfold PlaneS.zeroWords
  split
  next hws => simp [hws]
  next =>
    rw [PlaneS.cv_setCv]
    by_cases hk : k = h
    · by_cases ho : o / 8 ∈ ws <;> simp [hk, ho, Tab.get_keep]
    · simp [hk]

section
variable (s : State) (p : Plane)

section
variable (fixed bad : Nat)

/-- Counting errors changes nothing in a plane that is not booked. -/
theorem State.cv_buEcc (q : Plane) (h : Bool) : ((s.buEcc p fixed bad).pl q).cv h = (s.pl q).cv h := by
  have hcount : ((s.buEcc p fixed bad).pl q).cv h = (((s.addSat (R.BU_COUNTERS p 6) 31 0 fixed).addSat (R.BU_COUNTERS p 7) 31 0 bad).pl q).cv h :=
    (unbooked_pl q (k := (·.cv h)) fun _ _ _ _ _ _ => rfl).raiseIf _ _ (evOf_lt (by decide))
  rw [hcount, State.addSat, State.pl_setRf, State.addSat, State.pl_setRf]

theorem not_booked_buCounters {i : Nat} (hi : i < 16) : ¬ booked (R.BU_COUNTERS p i) := by
  have hofs (q : Plane) : planeOfs q = 0 ∨ planeOfs q = 0x400000 := by cases q <;> simp [planeOfs]
  have hp := hofs p
  unfold booked R.BU_COUNTERS R.AON_FR_CTL
  rintro (h | h | ⟨q, h⟩)
  · omega
  · omega
  · have hq := hofs q
    omega

theorem State.reg_buEcc {i : Nat} (hi : i < 16) : (s.buEcc p fixed bad).reg (R.BU_COUNTERS p i) =
    ((s.addSat (R.BU_COUNTERS p 6) 31 0 fixed).addSat (R.BU_COUNTERS p 7) 31 0 bad).reg (R.BU_COUNTERS p i) :=
  (unbooked_reg (not_booked_buCounters p hi)).raiseIf _ _ (evOf_lt (by decide))

theorem State.corrected_buEcc : (s.buEcc p fixed bad).rf (R.BU_COUNTERS p 6) 31 0 = min (s.rf (R.BU_COUNTERS p 6) 31 0 + fixed) 0xFFFFFFFF := by
  rw [State.rf, State.reg_buEcc s p fixed bad (by decide), State.addSat, State.reg_setRf_ne _ (by unfold R.BU_COUNTERS; omega)]
  exact State.rf_addSat_same ..

theorem State.uncorrected_buEcc : (s.buEcc p fixed bad).rf (R.BU_COUNTERS p 7) 31 0 = min (s.rf (R.BU_COUNTERS p 7) 31 0 + bad) 0xFFFFFFFF := by
  have hother : (s.addSat (R.BU_COUNTERS p 6) 31 0 fixed).rf (R.BU_COUNTERS p 7) 31 0 = s.rf (R.BU_COUNTERS p 7) 31 0 :=
    s.rf_setReg_ne (by unfold R.BU_COUNTERS; omega) ..
  rw [State.rf, State.reg_buEcc s p fixed bad (by decide), ← hother]
  exact State.rf_addSat_same ..

theorem State.told_buEcc (h : 0 < bad) :
    (s.buEcc p fixed bad).rb (R.EV_STATUS (evOf p 143 / 32)) (evOf p 143 % 32) = true := by
  rw [State.buEcc, State.raiseIf, if_pos (decide_eq_true h)]
  exact State.rb_raise_status _ (evOf_lt (by decide))

end

theorem State.rf_modPl (f : PlaneS → PlaneS) (o hi lo : Nat) : (s.modPl p f).rf o hi lo = s.rf o hi lo :=
  congrArg (fld · hi lo) (State.reg_modPl ..)

/-- The Canvas that a move reads: its uncorrectable words read as 0. -/
theorem State.get_cv_moveEcc (ecc : MoveEcc) (h : Bool) (o : Nat) :
    Tab.get 0 o (((s.moveEcc p ecc).pl p).cv h) = if (h, o / 8) ∈ ecc.canvas then 0 else Tab.get 0 o ((s.pl p).cv h) := by
  have hlose (x : PlaneS) : (x.loseBase ecc.applied).cv h = x.cv h := rfl
  rw [State.moveEcc, State.cv_buEcc, State.pl_modPl_same, hlose, PlaneS.get_cv_zeroWords, PlaneS.get_cv_zeroWords]
  cases h <;> simp

end

/-- Settles O40: a move that is skipped, the move of each operation, and the errors that a move counts. -/
theorem moveCommands : Obligations.MoveCommands := by
  refine ⟨fun s p e g0 i ecc hg hi hleft hwin hend hruns => ?move,
    fun s p ecc => ⟨State.get_cv_moveEcc s p ecc, ?corrected, ?uncorrected, State.told_buEcc _ p _ _⟩⟩
  case move =>
    intro g m n s1 x step fin sat
    have hrun {op : Nat} (hop : mvOp m = op) := State.execMove_runs hg hi hleft hwin hruns hop
    refine ⟨fun k c hc hop hskip => ?skipped, fun hruin hinput hwhole => ?worked⟩
    case skipped =>
      have hexec : exec c s = .next (s.after (s.execMove p e.val k ecc)) := by
        simp only [List.mem_cons, List.not_mem_nil, or_false, Prod.mk.injEq] at hc
        rcases hc with ⟨rfl, rfl⟩ | ⟨rfl, rfl⟩ | ⟨rfl, rfl⟩ | ⟨rfl, rfl⟩ | ⟨rfl, rfl⟩ | ⟨rfl, rfl⟩ <;> rfl
      exact exec_next_of_eq hexec ((hrun hop).trans (State.runMove_skipped hend hskip))
    case worked =>
      have hwork {op : Nat} {r : State × Nat × Nat} {fields : Nat} (hop : mvOp m = op)
          (hr : s1.workMove p g.tabs i m n (2 ^ 32) = r) (hfields : (if mvOp m = 2 ∨ mvOp m = 3 ∨ mvOp m = 4 then n else 0) = fields) :
          s.execMove p e.val op ecc = fin r.1 r.2.1 r.2.2 fields := by
        subst hr hfields
        exact (hrun hop).trans (State.runMove_worked hend hruin hinput hwhole)
      have hcountless {k : Nat} (hop : mvOp m = k) (hk : ¬ (k = 2 ∨ k = 3 ∨ k = 4)) :
          (if mvOp m = 2 ∨ mvOp m = 3 ∨ mvOp m = 4 then n else 0) = 0 := if_neg (hop ▸ hk)
      refine ⟨fun hop => ?_, fun hop => ?_, fun hop => ?_, fun hop => ?_, fun hop => ?_, fun hop => ?_⟩
      · have h := hwork hop (State.workMove_nop s1 p g.tabs i n _ hop) (hcountless hop (by decide))
        exact exec_next_of_eq rfl h
      · have h := hwork hop (State.workMove_apply s1 p g.tabs i n _ hop) (hcountless hop (by decide))
        exact exec_next_of_eq rfl h
      · have h := hwork hop (State.workMove_field s1 p g.tabs i n _ hop) (if_pos (.inl hop))
        exact exec_next_of_eq rfl h
      · have h := hwork hop (State.workMove_merge s1 p g.tabs i n _ hop) (if_pos (.inr (.inl hop)))
        exact exec_next_of_eq rfl h
      · have h := hwork hop (State.workMove_const s1 p g.tabs i n _ hop) (if_pos (.inr (.inr hop)))
        exact exec_next_of_eq rfl h
      · have h := hwork hop (State.workMove_copy s1 p g.tabs i n _ hop) (hcountless hop (by decide))
        exact exec_next_of_eq rfl h
  case corrected => rw [State.moveEcc, State.corrected_buEcc, State.rf_modPl]
  case uncorrected => rw [State.moveEcc, State.uncorrected_buEcc, State.rf_modPl]

end Machine
end Sys2Proof
end

section
/-!
Instances of jobs from WAIT to their outcome (R271, R276-R278): what each command does with the instance that it meets.
-/
namespace Sys2Proof.Machine

/-- A register of plane `p` that is no half of a pair, no stage control register and no log's tail. -/
structure PlaneReg (p : Plane) (off : Nat) : Prop where
  aligned : off % 4 = 0
  above : 0x200000 ≤ off
  below : off < 0xC00000
  plane : planeOf off = some p
  row : ∃ row, rowOf off = some row ∧ row.pair = .single
  noStage : isStageCtl off = false
  noLog : logOf off = none

/-- A write of such a register does what the plane's registers do by their names. -/
theorem PlaneReg.regWrite {s : State} {p : Plane} {off : Nat} {r : Req} (h : PlaneReg p off) (hr : s.reqOn r = true)
    (hp : s.present p = true) (v : Word) : ∃ row : RegRow, s.regWrite r off 4 v = s.writePlane r row p off (row.ix1 off) v := by
  obtain ⟨row, hrow, hpair⟩ := h.row
  have hthere : s.there off = true := by rw [State.there, h.plane]; exact hp
  refine ⟨row, ?_⟩
  rw [State.regWrite_aligned hr h.aligned, State.writeAll_of_le h.above,
    State.writeReg_of_single h.below hthere hrow h.noStage h.noLog hpair, h.plane]

section
variable {s : State} {p : Plane} {j : Nat}

section
variable {i : Inst} (hi : (s.pl p).instOf j = some i)
include hi

theorem State.jobTimeout_waits (hst : i.st = .wait) :
    s.jobTimeout p j = s.modPl p fun x => (x.modInst j fun i => { i with timedOut := true }).wakeInst j := by
  rw [State.jobTimeout, hi]
  exact if_pos hst

/-! A window closes (R230, R276) -/

theorem State.closeInst_idle (hst : i.st ≠ .run) : s.closeInst p j = s.finishInst p j 4 false := by
  rw [State.closeInst, hi]
  exact if_pos hst

theorem State.closeInst_draw (hst : i.st = .run) (hdraw : jBuild i.desc = false) :
    s.closeInst p j = s.modPl p fun x => x.modInst j fun i => { i with ending := some (i.ending.getD 6) } := by
  simp [State.closeInst, hi, hst, hdraw]

theorem State.closeInst_build_over (hst : i.st = .run) (hbuild : jBuild i.desc = true)
    (hover : ∀ k g, (s.pl p).engOf j = some (k, g) → g.left = 0) : s.closeInst p j = s.finishInst p j (i.ending.getD 6) false := by
  unfold State.closeInst
  rw [hi]
  dsimp only
  rw [if_neg (not_not.2 hst), if_pos hbuild]
  split
  next e g he => rw [if_pos (hover e g he)]
  next => rfl

/-! A cancellation (R277) -/

theorem State.cancelJob_idle (hst : i.st ≠ .run) : s.cancelJob p j = s.finishInst p j 3 false := by
  rw [State.cancelJob, hi]
  exact if_neg hst

theorem State.cancelJob_running (hst : i.st = .run) :
    s.cancelJob p j = s.modPl p fun x => x.modInst j fun i => { i with ending := some 3 } := by
  rw [State.cancelJob, hi]
  exact if_pos hst

end

theorem State.cancelJob_waits (hnone : (s.pl p).instOf j = none) (hnew : (s.pl p).cancel.contains j = false) :
    s.cancelJob p j = s.modPl p fun x => { x with cancel := x.cancel ++ [j] } := by
  rw [State.cancelJob, hnone]
  exact State.modPl_congr (by rw [hnew]; rfl)

theorem State.writePlane_dspCancel {r : Req} {row : RegRow} {n : Nat} (v : Word) :
    s.writePlane r row p (R.DSP_CANCEL p) n v = s.cancelJob p (fld v 11 0) := by
  rw [State.writePlane, if_neg (by unfold R.DSP_CANCEL R.EG_CTL; omega), if_neg (by unfold R.DSP_CANCEL R.ING_RULE_SEL; omega),
    if_neg (by unfold R.DSP_CANCEL R.ING_STREAM_SEL; omega), if_neg (by unfold R.DSP_CANCEL R.Q_CTL; omega),
    if_neg (by unfold R.DSP_CANCEL R.BU_APPLY_SEL; omega), if_pos rfl]

theorem planeReg_dspCancel (p : Plane) : PlaneReg p (R.DSP_CANCEL p) := by
  cases p <;> exact ⟨rfl, by decide, by decide, rfl, ⟨_, by rfl, by rfl⟩, rfl, rfl⟩

/-- A write of DSP_CANCEL cancels the job that it names (R277). -/
theorem exec_dspCancelWrite {r : Req} (hr : s.reqOn r = true) (hp : s.present p = true) (v : Word) :
    exec (.dspCancelWrite r p v) s = .next (s.after (s.cancelJob p (fld v 11 0))) := by
  obtain ⟨row, hrow⟩ := (planeReg_dspCancel p).regWrite hr hp v
  exact exec_next_of_eq rfl (hrow.trans (State.writePlane_dspCancel v))

end

/-! A run ends (R276, R278), and what stands while the canvas generator is disabled (R228) -/

theorem runOutcome_ended {i : Inst} {o : Nat} (h : i.ending = some o) (now : Int) : runOutcome i now = o := by rw [runOutcome, h]

theorem runOutcome_whole {i : Inst} (h : i.ending = none) (now : Int) : runOutcome i now =
    if jBuild i.desc = true ∧ i.deadline < now then 5 else if i.fallback then 2 else if i.slotMiss = 0 then 0 else 1 := by
  by_cases hmiss : i.slotMiss = 0 <;> simp [runOutcome, h, hmiss]

section
variable {s : State} {p : Plane} {e : Nat}

theorem State.jobDone_over {g : EngS} {i : Inst} (hruns : s.jobsMove p = true) (hg : (s.pl p).engs.getD e none = some g)
    (hi : (s.pl p).instOf g.job = some i) (hover : g.left = 0 ∨ i.ending ≠ none) :
    s.jobDone p e = s.finishInst p g.job (runOutcome i (s.release p)) false := by
  rw [State.jobDone, hg]
  dsimp only
  rw [hi]
  exact if_pos ⟨hover.imp_right Option.isSome_iff_ne_none.2, hruns⟩

variable (hstand : s.jobsMove p = false)
include hstand

/-- An engine whose instance is gone is free; any other stands as it was. -/
theorem State.jobDone_stands : s.jobDone p e = match (s.pl p).engs.getD e none with
    | some g => if (s.pl p).instOf g.job = none then s.modPl p fun x => { x with engs := modAt e (fun _ => none) x.engs } else s
    | none => s := by
  unfold State.jobDone
  cases (s.pl p).engs.getD e none with
  | none => rfl
  | some g =>
    dsimp only
    cases hi : (s.pl p).instOf g.job with
    | none => rfl
    | some i => simp [hstand]

theorem State.jobDispatch_stands (ecc : StoreEcc) : s.jobDispatch p e ecc = s := if_pos (.inr (.inr (by rw [hstand]; rfl)))

end

end Sys2Proof.Machine
end

section
/-!
Intake (R218, R270, R272): what the dispatcher does to queues and counters as it reads a job's sentences leaves the engines as they are, and
the instance in its state.
-/
namespace Sys2Proof.Machine

section
variable {p : Plane}

theorem unbooked_engs (p : Plane) : Unbooked fun s => (s.pl p).engs := unbooked_pl p (k := (·.engs)) fun _ _ _ _ _ _ => rfl

theorem State.engs_modPl (s : State) {f : PlaneS → PlaneS} (hf : ∀ x, (f x).engs = x.engs) : ((s.modPl p f).pl p).engs = (s.pl p).engs := by
  rw [State.pl_modPl_same, hf]

theorem State.engs_setReg (s : State) (off : Nat) (v : Word) : ((s.setReg off v).pl p).engs = (s.pl p).engs := by rw [State.pl_setReg]

theorem State.engs_modQ (s : State) (q : Nat) (f : QueueS → QueueS) : ((s.modQ p q f).pl p).engs = (s.pl p).engs :=
  s.engs_modPl fun _ => rfl

/-- What either branch comes to, a choice comes to. -/
theorem ite_keeps {α β : Type} (g : α → β) {c : Prop} [Decidable c] {a b : α} {y : β} (ha : g a = y) (hb : g b = y) :
    g (if c then a else b) = y := by
  split
  · exact ha
  · exact hb

/-! Levels and flushes -/

theorem State.engs_backPressure (s : State) (q : Nat) : ((s.backPressure p q).pl p).engs = (s.pl p).engs := by
  unfold State.backPressure
  split
  · split
    · exact State.engs_setReg ..
    · rfl
  split
  · exact ((unbooked_engs p).raise _ (evOf_lt (by decide))).trans (State.engs_setReg ..)
  · rfl

theorem State.engs_storeLevel (s0 s : State) : ((State.storeLevel s0 s p).pl p).engs = (s.pl p).engs := by
  refine ((unbooked_engs p).raiseIf _ _ (evOf_lt (by decide))).trans ?_
  split
  · exact State.engs_setReg ..
  · rfl

theorem State.engs_afterQ (s0 s : State) (q : Nat) : ((State.afterQ s0 s p q).pl p).engs = (s.pl p).engs :=
  (State.engs_storeLevel ..).trans ((State.engs_backPressure ..).trans (s.engs_modPl fun _ => ite_keeps PlaneS.engs rfl rfl))

theorem State.engs_flushNow (s : State) (q : Nat) : ((s.flushNow p q).pl p).engs = (s.pl p).engs := by
  unfold State.flushNow
  dsimp only
  split
  · exact (State.engs_afterQ ..).trans ((State.engs_setReg ..).trans ((State.engs_setReg ..).trans (State.engs_modQ ..)))
  · rfl

/-! Items read, with the uncorrectable words among them -/

theorem State.pl_freeOctets (s : State) (n : Nat) : (s.freeOctets n).2.pl p = s.pl p := by
  induction n generalizing s with
  | zero => rfl
  | succ n ih => exact (ih _).trans (State.pl_free32 ..)

theorem State.pl_spoil (s : State) (it : QItem) (n : Nat) : (s.spoil it n).2.pl p = s.pl p := by
  cases it <;> exact s.pl_freeOctets 64

theorem State.engs_badWord (s : State) (q : Nat) : ((s.badWord p q).pl p).engs = (s.pl p).engs :=
  ((unbooked_engs p).raise _ (evOf_lt (by decide))).trans ((State.engs_setReg ..).trans (State.engs_setReg ..))

theorem State.engs_readItems (s : State) (q from_ : Nat) (ecc : StoreEcc) (its : List QItem) :
    ((s.readItems p q from_ ecc its).2.pl p).engs = (s.pl p).engs :=
  foldl_keeps (fun a : List QItem × State => (a.2.pl p).engs) (fun a e _ =>
    foldl_keeps (fun b : QItem × State => (b.2.pl p).engs) (fun b _ _ =>
      (congrArg PlaneS.engs (State.pl_spoil ..)).trans (State.engs_badWord b.2 q)) (e.1, a.2)) ([], s)

/-! Intake of an item, of a queue, of a job's queues -/

/-- What an intake leaves: the engines of plane `p`, and the state of the instance that takes in. -/
def takerKept (p : Plane) (a : State × Inst) : List (Option EngS) × JState := ((a.1.pl p).engs, a.2.st)

theorem State.takerKept_takeItem (s : State) (i : Inst) (it : QItem) : takerKept p (s.takeItem p i it) = takerKept p (s, i) := by
  have hg := unbooked_engs p
  have hdsp {n : Nat} (hn : n < 16) : ((s.count (R.DSP_COUNTERS p n)).pl p).engs = (s.pl p).engs := hg.count s (booked_dspCounters p hn)
  have hlate : (((s.count (R.REL_COUNTERS p 0)).raiseP p 150).pl p).engs = (s.pl p).engs :=
    (hg.raise _ (evOf_lt (by decide))).trans (hg.count s (booked_relCounters p (by decide)))
  have hjoin (b : Bool) : ((s.when b fun s => s.count (R.DSP_COUNTERS p 10)).pl p).engs = (s.pl p).engs := by
    cases b
    · rfl
    · exact hdsp (by decide)
  cases it with
  | gap g => exact congrArg (·, i.st) (hdsp (by decide))
  | record r =>
    unfold State.takeItem
    dsimp only
    split
    · exact congrArg (·, i.st) (hdsp (by decide))
    · exact ite_keeps (takerKept p) (congrArg (·, i.st) hlate)
        (ite_keeps (takerKept p) (congrArg (·, i.st) (hdsp (by decide))) (congrArg (·, i.st) (hjoin _)))

theorem State.takerKept_intakeQueue (s : State) (ecc : StoreEcc) (i : Inst) (q : Nat) :
    takerKept p (s.intakeQueue p ecc i q) = takerKept p (s, i) := by
  unfold State.intakeQueue
  dsimp only
  refine (foldl_keeps (takerKept p) (fun a it _ => State.takerKept_takeItem a.1 a.2 it) _).trans (congrArg (·, i.st) ?_)
  have hflush := s.engs_flushNow (p := p) q
  refine (State.engs_readItems ..).trans (ite_keeps (fun t : State => (t.pl p).engs) ?_ ?_)
  · exact (State.engs_modPl _ (by intro; rfl)).trans hflush
  · exact (State.engs_afterQ ..).trans ((State.engs_modQ ..).trans ((State.engs_modPl _ (by intro; rfl)).trans hflush))

/-- The intake of an instance whose run begins (R272, R275). -/
def State.intakeJob (s : State) (p : Plane) (ecc : StoreEcc) (i : Inst) : State × Inst :=
  ((s.pl p).jobQueues i.desc).foldl (fun acc q => State.intakeQueue acc.1 p ecc acc.2 q)
    (s.storeFixed p ecc.fixed, { i with st := .run, cycles := 16 })

theorem State.takerKept_intakeJob (s : State) (ecc : StoreEcc) (i : Inst) : takerKept p (s.intakeJob p ecc i) = ((s.pl p).engs, .run) :=
  (foldl_keeps (takerKept p) (fun a q _ => State.takerKept_intakeQueue a.1 ecc a.2 q) _).trans (congrArg (·, JState.run) (State.engs_setReg ..))

end

/-! A free engine takes an instance (R241, R242, R273, R275) -/

section
variable {s : State} {p : Plane} {e k : Nat}

/-- Before a build job runs, the release buffer of its instance is cleared (R241). -/
def PlaneS.bufferCleared (x : PlaneS) (i : Inst) : PlaneS :=
  if jBuild i.desc then
    let base := rdAddr i.rdesc * 64
    x.setBank i.epoch (Tab.keep (fun o => decide (o < base) || decide (base + rdLen i.rdesc ≤ o)) (x.bank i.epoch))
  else x

theorem PlaneS.engs_bufferCleared (x : PlaneS) (i : Inst) : (x.bufferCleared i).engs = x.engs :=
  ite_keeps PlaneS.engs (ite_keeps PlaneS.engs rfl rfl) rfl

/-- The engine that takes job `j` on: it stands at the first entry of the run that is chosen (R273, R275). -/
def EngS.starts (t : Tables) (j : Nat) (d : BitVec 1024) (fb : Bool) : EngS :=
  { job := j, entry := if fb then jFbFirst d else jFirst d, left := if fb then jFbCount d else jCount d, tabs := t, badProfs := [],
    badLists := [] }

/-- The plane once engine `e` has taken on job `j`, whose intake gave `i` (R242, R273). -/
def PlaneS.jobTaken (x : PlaneS) (e j : Nat) (i : Inst) : PlaneS :=
  let fb := jFb i.desc && x.lacksBase i
  { x.bufferCleared i with
    inst := Tab.put j { i with fallback := fb } (x.bufferCleared i).inst
    used := (x.bufferCleared i).used + i.cycles
    engs := modAt e (fun _ => some (.starts x.tabs j i.desc fb)) (x.bufferCleared i).engs }

theorem State.startJob_eq {i : Inst} (hi : (s.pl p).instOf k = some i) (ecc : StoreEcc) : s.startJob p e k ecc =
    (s.intakeJob p ecc i).1.setPl p (((s.intakeJob p ecc i).1.pl p).jobTaken e k (s.intakeJob p ecc i).2) := by
  unfold State.startJob State.intakeJob
  rw [hi]
  dsimp only
  generalize List.foldl _ _ _ = r
  rfl

/-- Once the engine has taken the job, the job's instance runs, and the engine stands at the run that the instance's FALLBACK names. -/
theorem State.startJob_runs {i : Inst} (hi : (s.pl p).instOf k = some i) (he : e < (s.pl p).engs.length) (ecc : StoreEcc) :
    let t := s.startJob p e k ecc
    ∃ (i1 : Inst) (g : EngS), (t.pl p).instOf k = some i1 ∧ i1.st = .run ∧ (t.pl p).engs.getD e none = some g ∧ g.job = k ∧
      (i1.fallback = false → g.entry = jFirst i1.desc ∧ g.left = jCount i1.desc) ∧
      (i1.fallback = true → g.entry = jFbFirst i1.desc ∧ g.left = jFbCount i1.desc) := by
  intro t
  obtain ⟨hengs, hst⟩ := Prod.mk.inj (s.takerKept_intakeJob (p := p) ecc i)
  have ht : t.pl p = ((s.intakeJob p ecc i).1.pl p).jobTaken e k (s.intakeJob p ecc i).2 := 
    (congrArg (State.pl · p) (State.startJob_eq hi ecc)).trans (State.pl_setPl_same ..)
  generalize s.intakeJob p ecc i = r at hengs hst ht
  have hlen : e < ((r.1.pl p).bufferCleared r.2).engs.length := by rw [PlaneS.engs_bufferCleared, hengs]; exact he
  rw [ht]
  refine ⟨_, _, Tab.find_put_same .., hst, getD_modAt_same _ hlen none, rfl, fun hfb => ?_, fun hfb => ?_⟩
  · exact ⟨if_neg (Bool.eq_false_iff.1 hfb), if_neg (Bool.eq_false_iff.1 hfb)⟩
  · exact ⟨if_pos hfb, if_pos hfb⟩

theorem State.jobDispatch_takes (hruns : s.jobsMove p = true) (hfree : (s.pl p).engs.getD e none = none) (he : e < 16)
    (hk : (s.pl p).nextReady = some k) (ecc : StoreEcc) : s.jobDispatch p e ecc = s.startJob p e k ecc := by
  have hgo : ¬ (((s.pl p).engs.getD e none).isSome = true ∨ 16 ≤ e ∨ (!s.jobsMove p) = true) := by
    rw [hfree, hruns]
    simpa using he
  rw [State.jobDispatch, if_neg hgo, hk]

end

end Sys2Proof.Machine
end

section
/-!
The carry's end (R229, R258, R259): what each half reads.
-/
namespace Sys2Proof

/-- The entries of a table with rising keys, written one after another into another table. -/
theorem Tab.get_foldl_set {α : Type} [DecidableEq α] (d : α) (k : Nat) {b : Tab α} (hb : b.sorted) (t : Tab α) :
    Tab.get d k (b.foldl (fun t e => Tab.set d e.1 e.2 t) t) = (Tab.find k b).getD (Tab.get d k t) := by
  induction b generalizing t with
  | nil => rfl
  | cons e b ih =>
    obtain ⟨k', v⟩ := e
    obtain ⟨hm, hs⟩ := Tab.sorted_cons.1 hb
    rw [List.foldl_cons, ih hs]
    by_cases hk : k' = k
    · subst hk
      simp [Tab.find, Tab.find_of_below hm]
    · simp [Tab.find, hk, Tab.get_set_ne _ _ (Ne.symm hk)]

namespace Machine

section
variable {x : PlaneS}

theorem PlaneS.cvRead_of_not_stale {h : Bool} {o : Nat} (hs : x.isStale h (o / 64) = false) : x.cvRead h o = Tab.get 0 o (x.cv h) := by
  rw [PlaneS.cvRead, hs]
  rfl

theorem PlaneS.isStale_of_stale_false (hs : x.stale = false) (h : Bool) (l : Nat) : x.isStale h l = false := by
  simp [PlaneS.isStale, hs]

variable (x)

theorem PlaneS.isStale_not_half (l : Nat) : x.isStale (!x.half) l = false := by simp [PlaneS.isStale]

/-! The carry engine copies the rest -/

theorem PlaneS.stale_carryAll : x.carryAll.stale = false := by
  unfold PlaneS.carryAll
  split
  next => rfl
  next h => exact Bool.eq_false_of_not_eq_true h

/-- The half to which the carry engine copies: its clean lines, and the others of the other half. -/
def PlaneS.carried : Tab Byte :=
  (Tab.keep (fun o => !x.clean.contains (o / 64)) (x.cv (!x.half))).foldl (fun t e => Tab.set 0 e.1 e.2 t)
    (Tab.keep (fun o => x.clean.contains (o / 64)) (x.cv x.half))

theorem PlaneS.cv_carryAll (h : Bool) : x.carryAll.cv h = if x.stale = true ∧ h = x.half then x.carried else x.cv h := by
  cases hs : x.stale with
  | false => rw [PlaneS.carryAll, hs, if_neg (by simp)]; rfl
  | true =>
    have hcv : x.carryAll.cv h = (x.setCv x.half x.carried).cv h := by rw [PlaneS.carryAll, hs]; rfl
    rw [hcv, PlaneS.cv_setCv]
    simp

/-- The drawing half holds what was read of it: its own lines, and in the STALE ones the other half's. -/
theorem PlaneS.get_cv_carryAll (hs : (x.cv (!x.half)).sorted) (o : Nat) : Tab.get 0 o (x.carryAll.cv x.half) = x.cvRead x.half o := by
  rw [PlaneS.cv_carryAll, PlaneS.cvRead, PlaneS.isStale]
  cases hstale : x.stale with
  | false => simp
  | true =>
    have hcarried : Tab.get 0 o x.carried = if o / 64 ∈ x.clean then Tab.get 0 o (x.cv x.half) else Tab.get 0 o (x.cv (!x.half)) := by
      rw [PlaneS.carried, Tab.get_foldl_set 0 o (Tab.keep_sorted hs), Tab.find_keep, Tab.get_keep, Tab.get_eq_find 0 o (x.cv (!x.half))]
      by_cases hclean : o / 64 ∈ x.clean <;> simp [hclean]
    rw [if_pos ⟨rfl, rfl⟩, hcarried]
    by_cases hclean : o / 64 ∈ x.clean <;> simp [hclean]

/-! Words of it that were uncorrectable -/

theorem PlaneS.stale_zeroWords (h : Bool) (ws : List Nat) : (x.zeroWords h ws).stale = x.stale :=
  ite_keeps PlaneS.stale rfl (ite_keeps PlaneS.stale rfl rfl)

/-- Where the carry engine has copied everything, every octet is read where it stands. -/
theorem PlaneS.cvRead_carryRest (ws : List Nat) (h : Bool) (o : Nat) : (x.carryRest ws).cvRead h o =
    if h = x.half ∧ o / 8 ∈ ws ∧ x.isStale x.half (o / 8 / 8) = true then 0 else Tab.get 0 o (x.carryAll.cv h) := by
  have hstale : (x.carryRest ws).stale = false := (PlaneS.stale_zeroWords ..).trans x.stale_carryAll
  rw [PlaneS.cvRead_of_not_stale (PlaneS.isStale_of_stale_false hstale ..), PlaneS.carryRest, PlaneS.get_cv_zeroWords]
  simp only [List.mem_filter]

/-- The drawing half reads as before, but for the uncorrectable words of its STALE lines. -/
theorem PlaneS.cvRead_carryRest_half (hs : (x.cv (!x.half)).sorted) {ws : List Nat} (hws : ∀ w ∈ ws, x.isStale x.half (w / 8) = true) (o : Nat) :
    (x.carryRest ws).cvRead x.half o = if o / 8 ∈ ws then 0 else x.cvRead x.half o := by
  rw [PlaneS.cvRead_carryRest, PlaneS.get_cv_carryAll x hs]
  by_cases ho : o / 8 ∈ ws
  · simp [ho, hws _ ho]
  · simp [ho]

/-- The other half reads as before. -/
theorem PlaneS.cvRead_carryRest_other (ws : List Nat) (o : Nat) : (x.carryRest ws).cvRead (!x.half) o = x.cvRead (!x.half) o := by
  rw [PlaneS.cvRead_carryRest, PlaneS.cv_carryAll, PlaneS.cvRead_of_not_stale (x.isStale_not_half _)]
  simp

end

/-- Settles O41: what each command does with the instance it meets, what a free engine takes, and what the carry's end leaves. -/
theorem jobCommands : Obligations.JobCommands := by
  intro s r p e j i v ecc runs
  have hmoves : s.jobsMove p = runs := rfl
  refine ⟨fun hi => ⟨fun hst => ?timeout, fun hruns hst => ?missed, fun hruns hst hdraw => ?drawStops, fun hruns hst hbuild hover => ?buildEnds,
    fun hruns => ?standing, fun hr hp hv => ⟨fun hst => ?cancelled, fun hst => ?stopped⟩⟩, fun hr hp hnone hnew => ?waits,
    fun k hruns hfree hk hi he => ?dispatch, fun hstand => ⟨?dispatchStands, ?completeStands⟩, fun g hruns hg hi hover => ?complete,
    fun fixed bad hp => ?carry⟩
  case timeout => exact exec_next_of_eq rfl (State.jobTimeout_waits hi hst)
  case missed => exact exec_next_of_eq rfl ((if_pos hruns).trans (State.closeInst_idle hi hst))
  case drawStops => exact exec_next_of_eq rfl ((if_pos hruns).trans (State.closeInst_draw hi hst hdraw))
  case buildEnds => exact exec_next_of_eq rfl ((if_pos hruns).trans (State.closeInst_build_over hi hst hbuild hover))
  case standing => exact exec_next_of_eq rfl (if_neg (Bool.eq_false_iff.1 hruns))
  case cancelled => exact exec_next_of_eq (exec_dspCancelWrite hr hp v) (by rw [hv, State.cancelJob_idle hi hst])
  case stopped => exact exec_next_of_eq (exec_dspCancelWrite hr hp v) (by rw [hv, State.cancelJob_running hi hst])
  case waits => exact exec_next_of_eq (exec_dspCancelWrite hr hp v) (State.cancelJob_waits hnone hnew)
  case dispatch =>
    exact ⟨exec_next_of_eq rfl (State.jobDispatch_takes (hmoves.trans hruns) hfree e.isLt hk ecc), State.startJob_runs hi he ecc⟩
  case dispatchStands => exact exec_next_of_eq rfl (State.jobDispatch_stands (hmoves.trans hstand) ecc)
  case completeStands => exact exec_next_of_eq rfl (State.jobDone_stands (hmoves.trans hstand))
  case complete =>
    refine exec_next_of_eq rfl ((State.jobDone_over (hmoves.trans hruns) hg hi hover).trans (congrArg (s.finishInst p g.job · false) ?_))
    cases hend : i.ending with
    | some o => exact runOutcome_ended hend _
    | none => exact runOutcome_whole hend _
  case carry =>
    intro ws
    exact ⟨exec_next_of_eq rfl (if_pos hp), fun hs => PlaneS.cvRead_carryRest_half _ hs fun w hw => (List.mem_filter.1 hw).2,
      PlaneS.cvRead_carryRest_other _ ws⟩

end Machine
end Sys2Proof
end


section
/-!
Packets of the Release, Lantern and Bridge groups: configurations that answer once, pulse commands, frames and accesses that are handed on
(R310, R311, R337, R359, R382, R432, R433).
-/
namespace Sys2Proof.Machine

/-! Configurations -/

/-- A part that leaves a state where its parameters are in range is in range, and leaves it with DONE. -/
theorem done_of_guard {ok : Prop} [Decidable ok] {left : Option State} {t : State × Part}
    (h : (if ok then left.map fun u => (u, 0, []) else none) = some t) : ok ∧ ∃ v, left = some v ∧ (v, stDone, []) = t := by
  obtain ⟨hok, hleft⟩ := Option.ite_none_right_eq_some.1 h
  exact ⟨hok, Option.map_eq_some_iff.1 hleft⟩

/-- CAN_CONFIG sets EN as it names once the block is staged and the warning limits are written (R375, R433). -/
theorem State.putRegs_canSetEn {u v : State} {p : Plane} {ws : List (Nat × Word)} {n : Nat} {en : Bool}
    (h : ((putRegsAll (coreOf p) ws u).map fun w => w.canSetEn n en) = some v) :
    ((u.putRegs p ws).1.canSetEn n en, (u.putRegs p ws).2) = (v, stDone, []) := by
  obtain ⟨w, hput, hv⟩ := Option.map_eq_some_iff.1 h
  rw [State.putRegs_of_putRegsAll hput, hv]

/-- Every value of a block that a packet carries fits its register. -/
theorem fitAll_cRegs {c : Cmd} {off i n : Nat} (h : ((List.range n).all fun k => fitsReg (off + 4 * k) (cWord c (i + 4 * k))) = true) :
    fitAll (cRegs c off i n) = true := by
  rw [fitAll, cRegs, List.all_map, ← h]
  rfl

/-! Pulse commands -/

section Pulse

variable {u : State} {c : Cmd} {p : Plane} {ps : List Plane} {split : Bool}

/-- The earliest time at which a pulse command can act (R310). -/
def State.pulseSoon (u : State) (p : Plane) : Int := u.release p + u.rf (R.REL_CTL p) 7 0 * unitsPerUs

/-- The time that a pulse command names (R310). -/
def State.pulseNames (u : State) (p : Plane) (c : Cmd) : Int := ofPt64 (u.release p) (BitVec.ofNat 64 (cNum c 4 8))

/-- A pulse command waits at a plane (R310). -/
def State.placePulse (u : State) (cmd : PulseCmd) (q : Plane) : State := u.modPl q fun x => { x with pulses := x.pulses ++ [cmd] }

/-- Where no plane's descriptors name its output, a pulse command is accepted and waits at each plane; a PULSE_ONE that comes too late counts
and raises its events (R310, R311). -/
theorem State.cmdPulse_accepted {one stop : Bool} {prog : List Byte} (hcore : u.coreFor c = some p) (htargets : u.targets c = .ok (ps, split))
    (hn : cNum c 0 1 ≤ 15) (hprog : stop = true ∨ badProg prog = false) (hfree : (ps.all fun q => !u.pulseNamed q (cNum c 0 1)) = true) :
    u.cmdPulse c one prog stop =
      let at_ := max (u.pulseNames p c) (u.pulseSoon p)
      let late := one && decide (u.pulseNames p c < u.pulseSoon p)
      let phase := if one then toPt64 at_ else BitVec.ofNat 64 (cNum c 4 8)
      let cmd : PulseCmd := ⟨cNum c 0 1, at_, if stop then [] else prog ++ toBE 8 phase.toNat, c, late⟩
      if late then (ps.foldl (fun u q => ((u.placePulse cmd q).count (R.REL_COUNTERS q 6)).raiseP q 152)
        (u.accept c ps split stAccepted)).pulseLate (cNum c 0 1)
      else ps.foldl (fun u q => u.placePulse cmd q) (u.accept c ps split stAccepted) := by
  have hbusy : ps.filter (u.pulseNamed · (cNum c 0 1)) = [] := by
    simpa [List.filter_eq_nil_iff] using hfree
  have hgood : ¬ (15 < cNum c 0 1 ∨ (!stop) = true ∧ badProg prog = true) := by
    obtain rfl | hok := hprog
    · simp [hn]
    · simp [hn, hok]
  simp only [State.cmdPulse, htargets, if_neg hgood, hbusy, ne_eq, not_true_eq_false, if_false, hcore, Option.getD_some]
  rw [← State.pulseNames, ← State.pulseSoon]
  cases one && decide (u.pulseNames p c < u.pulseSoon p) <;>
    simp only [State.when, State.each, State.placePulse, Bool.false_eq_true, if_false, if_true]

/-- A pulse command other than PULSE_ONE is accepted and waits at each plane (R310). -/
theorem State.cmdPulse_waits {stop : Bool} {prog : List Byte} (hcore : u.coreFor c = some p) (htargets : u.targets c = .ok (ps, split))
    (hn : cNum c 0 1 ≤ 15) (hprog : stop = true ∨ badProg prog = false) (hfree : (ps.all fun q => !u.pulseNamed q (cNum c 0 1)) = true) :
    u.cmdPulse c false prog stop = ps.foldl (fun u' q => u'.placePulse ⟨cNum c 0 1, max (u.pulseNames p c) (u.pulseSoon p),
      if stop then [] else prog ++ toBE 8 (BitVec.ofNat 64 (cNum c 4 8)).toNat, c, false⟩ q) (u.accept c ps split stAccepted) :=
  State.cmdPulse_accepted hcore htargets hn hprog hfree

end Pulse

/-! Frames and accesses -/

section HandedOn

variable {u : State} {c : Cmd} {p : Plane} {ps : List Plane} {split : Bool}

/-- A frame that its line has room for joins the line's transmit queue (R337, R433). -/
theorem State.cmdSlSend_queued (hcore : u.coreFor c = some p) (htargets : u.targets c = .ok (ps, split)) (hn : cNum c 0 1 ≤ 31)
    (hlen : hdrLen (cWord c 4) ≤ 4096) (hhdr : badHdr (cWord c 4) = false) (hps : 8 + hdrLen (cWord c 4) ≤ c.ps.length)
    (hroom : (u.slS (cNum c 0 1)).txRoom (hdrLen (cWord c 4)) = true) :
    u.cmdSlSend c = (u.accept c [p] split stAccepted).modSl (cNum c 0 1) fun y =>
      { y with txq := y.txq ++ [⟨cWord c 4, slice c.ps 8 (hdrLen (cWord c 4)), .cmd c⟩] } := by
  simp only [State.cmdSlSend, htargets, hcore, hn.not_gt, hlen.not_gt, hhdr, hps.not_gt, hroom, State.slQueued, Bool.not_true,
    Bool.false_eq_true, or_self, if_false]

/-- A frame of an object that sends for the host is handed to its controller (R359, R433). -/
theorem State.cmdCanSend_sent (hcore : u.coreFor c = some p) (htargets : u.targets c = .ok (ps, split)) (hn : cNum c 0 1 ≤ 7)
    (hm : cNum c 1 1 ≤ 63) (hps : 4 + (slice c.ps 4 (8 + cNum c 9 1)).length ≤ c.ps.length) (hsrc : u.txoSrc (cNum c 0 1) (cNum c 1 1) = 2)
    (hframe : u.badFrame (cNum c 0 1) (slice c.ps 4 (8 + cNum c 9 1)) = false) :
    u.cmdCanSend c = ((u.accept c [p] split stAccepted).canHostFrame (cNum c 0 1) (cNum c 1 1) (slice c.ps 4 (8 + cNum c 9 1)) (.cmd c)).1 := by
  simp only [State.cmdCanSend, htargets, hcore, hn.not_gt, hm.not_gt, hps.not_gt, hsrc, hframe, bne_self_eq_false, Bool.or_self,
    Bool.false_eq_true, or_self, if_false]

/-- An access within its window begins at each plane (R382, R433). -/
theorem State.cmdWinAccess_begins {len : Nat} {data : List Byte} (htargets : u.targets c = .ok (ps, split)) (hn : cNum c 0 1 ≤ 63)
    (hlen : len = 4 ∨ len = 8) (hal : cNum c 4 4 % 4 = 0) (hend : cNum c 4 4 + len ≤ 2 ^ 26) :
    u.cmdWinAccess c len data = ps.foldl (fun u q => u.coreAcc q c (cNum c 0 1) (cNum c 4 4) data len) (u.hold c ps split) := by
  have hgood : ¬ (63 < cNum c 0 1 ∨ (len ≠ 4 ∧ len ≠ 8) ∨ cNum c 4 4 % 4 ≠ 0 ∨ 2 ^ 26 < cNum c 4 4 + len) := by omega
  simp only [State.cmdWinAccess, htargets, if_neg hgood]
  rfl

end HandedOn

/-- Settles O57: configurations answer once with what their part leaves; pulse commands, frames and accesses are accepted and handed on. -/
theorem lanternPackets : Obligations.LanternPackets := by
  refine ⟨?captureConfig, ?ltcConfig, ?slConfig, ?canConfig, ?canSchedule, ?outputConfig, ?pulseOne, ?pulsePeriodic, ?pulseStop, ?slSend,
    ?canSend, ?winRead, ?winWrite⟩
  case captureConfig =>
    refine packetAnswers_of_onceCmd (cmd := State.cmdCapture) (fun _ _ => rfl) fun c u p t h => ⟨_, State.cmdCapture.eq_def .., ?_⟩
    obtain ⟨hn, v, hput, rfl⟩ := done_of_guard h
    rw [if_neg hn.not_gt, State.putRegs_of_putRegsAll hput]
  case ltcConfig =>
    refine packetAnswers_of_onceCmd (cmd := State.cmdLtc) (fun _ _ => rfl) fun c u p t h => ⟨_, State.cmdLtc.eq_def .., ?_⟩
    obtain ⟨hn, v, hput, rfl⟩ := done_of_guard h
    rw [if_neg hn.not_gt, State.putRegs_of_putRegsAll hput]
  case slConfig =>
    refine packetAnswers_of_onceCmd (cmd := State.cmdSlConfig) (fun _ _ => rfl) fun c u p t h => ⟨_, State.cmdSlConfig.eq_def .., ?_⟩
    obtain ⟨⟨hn, hfit, himg, hfree⟩, v, hput, rfl⟩ := done_of_guard h
    rw [if_neg (by simp [hn.not_gt, fitAll_cRegs hfit]), if_neg (by simp [himg, hfree])]
    exact State.putRegs_of_putRegsAll hput
  case canConfig =>
    refine packetAnswers_of_onceCmd (cmd := State.cmdCanConfig) (fun _ _ => rfl) fun c u p t h => ⟨_, State.cmdCanConfig.eq_def .., ?_⟩
    obtain ⟨⟨hn, hfit, hwarn, himg, hfree⟩, v, hput, rfl⟩ := done_of_guard h
    rw [if_neg (by simp [hn.not_gt, fitAll_cRegs hfit, hwarn]), if_neg (by simp [himg, hfree])]
    exact State.putRegs_canSetEn hput
  case canSchedule =>
    refine packetAnswers_of_onceCmd (cmd := State.cmdCanSchedule) (fun _ _ => rfl) fun c u p t h => ⟨_, State.cmdCanSchedule.eq_def .., ?_⟩
    obtain ⟨⟨hn, ha, hb, hlen, hfit, himg, hfree⟩, ht⟩ := Option.ite_none_right_eq_some.1 h
    cases ht
    rw [if_neg (by omega)]
    exact (if_neg (by rw [fitAll, hfit]; decide)).trans (if_neg (by simp [himg, hfree]))
  case outputConfig =>
    refine packetAnswers_of_onceCmd (cmd := State.cmdOutput) (fun _ _ => rfl) fun c u p t h => ⟨_, State.cmdOutput.eq_def .., ?_⟩
    obtain ⟨⟨hmin, hmax, hlen⟩, v, hput, rfl⟩ := done_of_guard h
    rw [if_neg (by omega), State.putRegs_of_putRegsAll hput]
  case pulseOne =>
    refine packetGives_of (cmd := State.cmdPulseOne) (fun _ _ => rfl) fun c u p ps split t hcore htargets h => ?_
    obtain ⟨⟨hn, hprog, hfree⟩, ht⟩ := Option.ite_none_right_eq_some.1 h
    refine (State.cmdPulse_accepted hcore htargets hn (.inr hprog) hfree).trans (Option.some.inj (Eq.trans ?_ ht))
    by_cases hlate : u.pulseNames p c < u.pulseSoon p
    · exact (congrArg some (if_pos (decide_eq_true hlate))).trans (if_pos hlate).symm
    · exact (congrArg some (if_neg (by simp [hlate]))).trans (if_neg hlate).symm
  case pulsePeriodic =>
    refine packetGives_of (cmd := State.cmdPulsePeriodic) (fun _ _ => rfl) fun c u p ps split t hcore htargets h => ?_
    obtain ⟨⟨hn, hprog, hfree⟩, ht⟩ := Option.ite_none_right_eq_some.1 h
    exact (State.cmdPulse_waits hcore htargets hn (.inr hprog) hfree).trans (Option.some.inj ht)
  case pulseStop =>
    refine packetGives_of (cmd := State.cmdPulseStop) (fun _ _ => rfl) fun c u p ps split t hcore htargets h => ?_
    obtain ⟨⟨hn, hfree⟩, ht⟩ := Option.ite_none_right_eq_some.1 h
    exact (State.cmdPulse_waits hcore htargets hn (.inl rfl) hfree).trans (Option.some.inj ht)
  case slSend =>
    refine packetGives_of (cmd := State.cmdSlSend) (fun _ _ => rfl) fun c u p ps split t hcore htargets h => ?_
    obtain ⟨⟨hn, hlen, hhdr, hps, hroom⟩, ht⟩ := Option.ite_none_right_eq_some.1 h
    exact (State.cmdSlSend_queued hcore htargets hn hlen hhdr hps hroom).trans (Option.some.inj ht)
  case canSend =>
    refine packetGives_of (cmd := State.cmdCanSend) (fun _ _ => rfl) fun c u p ps split t hcore htargets h => ?_
    obtain ⟨⟨hn, hm, hps, hsrc, hframe⟩, ht⟩ := Option.ite_none_right_eq_some.1 h
    exact (State.cmdCanSend_sent hcore htargets hn hm hps hsrc hframe).trans (Option.some.inj ht)
  case winRead =>
    refine packetGives_of (cmd := State.cmdWinRead) (fun _ _ => rfl) fun c u p ps split t _ htargets h => ?_
    obtain ⟨⟨hn, hlen, hal, hend⟩, ht⟩ := Option.ite_none_right_eq_some.1 h
    exact (State.cmdWinAccess_begins htargets hn hlen hal hend).trans (Option.some.inj ht)
  case winWrite =>
    refine packetGives_of (cmd := State.cmdWinWrite) (fun _ _ => rfl) fun c u p ps split t _ htargets h => ?_
    obtain ⟨⟨hn, hal, hend⟩, ht⟩ := Option.ite_none_right_eq_some.1 h
    exact (State.cmdWinAccess_begins htargets hn (.inl rfl) hal hend).trans (Option.some.inj ht)

end Sys2Proof.Machine
end


section
/-!
Pin releases (R64, R298), the edges of pulse programmes (R305) and the turn of a pulse command (R310, R311).
-/
namespace Sys2Proof.Machine

/-! Releases -/

section Release

variable {s : State} {n : Nat} {oseq : Word} {k : Nat} {obj : Byte} {d : List Byte}

/-- The release of `oseq` is the last one of output `n`, and its decision is used up (R298). -/
def State.lastReleased (s : State) (n : Nat) (oseq : Word) : State :=
  s.modOut n fun o => { o with last := some oseq, chosen := o.chosen.filter fun e => e.1 != oseq }

theorem State.content_modOut {f : OutS → OutS} (hf : ∀ o, (f o).content = o.content) :
    ((s.modOut n f).outS n).content = (s.outS n).content := getD_modAt_keeps OutS.content hf n n s.outs OutS.rest

theorem State.content_lastReleased : ((s.lastReleased n oseq).outS n).content = (s.outS n).content := State.content_modOut fun _ => rfl

/-- A release of a copy: it is kept and sent (R64, R298). -/
theorem State.release_send (hpin : s.pinOn = true) (hn : n < 40)
    (h : ((s.outS n).chosen.find? fun e => e.1 == oseq) = some (oseq, .send obj d, k)) :
    s.release_ n oseq = (((s.lastReleased n oseq).keep n oseq obj d).drive n obj d true).pulseReplies n oseq false := by
  simp only [State.release_, h, hpin, hn.not_ge, State.lastReleased, decide_false, Bool.false_and, Bool.not_true, Bool.false_eq_true, if_false]

/-- A release that skips sends nothing (R298). -/
theorem State.release_skip (hpin : s.pinOn = true) (h : ((s.outS n).chosen.find? fun e => e.1 == oseq) = some (oseq, .skip, k)) :
    s.release_ n oseq = (s.lastReleased n oseq).pulseReplies n oseq false := by
  simp only [State.release_, h, hpin, State.lastReleased, Bool.not_true, Bool.false_eq_true, if_false]

/-- A release in hold sends again what the output last released under the same index (R64). -/
theorem State.release_hold (hpin : s.pinOn = true) (h : ((s.outS n).chosen.find? fun e => e.1 == oseq) = some (oseq, .hold, k))
    (hkept : Tab.find (oseq.toNat % 4096) (s.outS n).content = some (obj, d)) :
    s.release_ n oseq = ((s.lastReleased n oseq).drive n obj d false).pulseReplies n oseq false := by
  have hkept' : ((s.lastReleased n oseq).outS n).kept oseq = some (obj, d) := by rw [OutS.kept, State.content_lastReleased, hkept]
  rw [State.lastReleased] at hkept' ⊢
  simp only [State.release_, h, hpin, hkept', Bool.not_true, Bool.false_eq_true, if_false]

end Release

/-! Edges -/

/-- Changes that do the same to the element at a place do the same to a list. -/
theorem modAt_congr {α : Type} {i : Nat} {f g : α → α} {l : List α} {d : α} (h : f (l.getD i d) = g (l.getD i d)) :
    modAt i f l = modAt i g l := by
  induction l generalizing i with
  | nil => rw [modAt, modAt]
  | cons x xs ih =>
    cases i with
    | zero => exact congrArg (· :: xs) h
    | succ i => exact congrArg (x :: ·) (ih h)

section Edge

variable {s : State} {i : Nat}

/-- The leading edge of a single pulse (R305). -/
theorem State.pulseEdge_single {g : Prog} (hprog : (s.po.getD i ⟨none, none⟩).prog = some g) (hperiod : g.period = 0) (hm : g.m = 0)
    (htrail : (s.po.getD i ⟨none, none⟩).trail = none) (hover : s.pulseOver i g.t0 = false) :
    s.pulseEdge i true = (s.emit (.pulse i (!s.rb (R.PO_CFG i) 31))).modPo i fun _ =>
      { prog := some { g with m := 1 }, trail := some (g.t0 + g.width * 32) } := by
  simp only [State.pulseEdge, hprog, hperiod, hm, htrail, hover, State.pulseLevel, Nat.lt_irrefl, decide_false, Nat.cast_zero, zero_mul,
    add_zero, Bool.or_self, Option.isSome_none, Bool.false_eq_true, if_false, if_true, Bool.true_bne, zero_add]

/-- The trailing edge of an output's last pulse (R305). -/
theorem State.pulseEdge_last {e : Int} (htrail : (s.po.getD i ⟨none, none⟩).trail = some e) (hprog : (s.po.getD i ⟨none, none⟩).prog = none) :
    s.pulseEdge i false = (s.emit (.pulse i (s.rb (R.PO_CFG i) 31))).modPo i fun _ => ⟨none, none⟩ := by
  have hlist (f : Prog → Bool) : modAt i (fun x => { prog := x.prog.filter f, trail := none }) s.po = modAt i (fun _ => ⟨none, none⟩) s.po :=
    modAt_congr (d := ⟨none, none⟩) (by rw [hprog]; rfl)
  simp only [State.pulseEdge, htrail, State.pulseLevel, State.modPo, State.emit_po, hlist, Option.isNone_some, Bool.false_bne,
    Bool.false_eq_true, if_false]

end Edge

/-! Pulse commands -/

/-- Plane `p` gives its copy of pulse command `c` to its path under `oseq`, where it holds the command (R310, R311). -/
def State.pulseCopied (s : State) (i : Nat) (c : PulseCmd) (oseq : Word) (u : State) (p : Plane) : State :=
  if (s.pl p).pulses.contains c then
    (u.modPl p fun x => { x with
      pulses := x.pulses.filter (· != c),
      path := enterPath ⟨u.cycleOf p, 4096, 40 + i, ⟨p, oseq, 0, some c.data⟩⟩ x.path }).count (R.REL_COUNTERS p 4)
  else u

/-- The epoch in which pulse command `c` acts (R310). -/
def State.pulseEpoch (s : State) (c : PulseCmd) : Nat :=
  let g := s.canvasEg s.lead
  (epochOf (s.egBase s.lead g) (s.egOrigin s.lead g) (s.egNum s.lead g) (s.egDen s.lead g) c.at_).getD (s.egOrigin s.lead g)

/-- The next release index of output `40 + i` in epoch `k` (R310). -/
def State.pulseIndex (s : State) (i k : Nat) : Nat :=
  let had := Tab.get (0, 0) i s.pulseIx
  if had.1 = k then had.2 else 0

/-- The earliest waiting pulse command takes the next release index of its epoch and joins the copy paths (R310, R311). -/
theorem State.pulseTurn_next {s : State} {i : Nat} {c : PulseCmd} (h : s.nextPulse i = some c) :
    s.pulseTurn i =
      let k := s.pulseEpoch c
      let idx := s.pulseIndex i k
      let oseq := oseqOf k idx
      let s1 : State := { s with pulseIx := Tab.set (0, 0) i (k, idx + 1) s.pulseIx }
      (s.pulseCopied i c oseq (s.pulseCopied i c oseq s1 .a) .b).modOut (40 + i) fun o =>
        { o with cmds := o.cmds ++ [(oseq, c.at_, c.cmd, c.late)] } := by
  simp only [State.pulseTurn, h, List.foldl_filter]
  rfl

/-- Settles O43, by the choice of a decided release, by the edge of a single pulse, and by what a pulse command's turn gives each plane. -/
theorem pinReleases : Obligations.PinReleases := by
  intro s n oseq i
  refine ⟨fun obj d k hpin hn => ?releases, fun g hprog hperiod hm htrail hover => ?leading, fun e htrail hprog => ?trailing,
    fun c hnext => ?turn⟩
  case releases =>
    exact ⟨fun hsend => ⟨_, exec_drain_of_eq rfl (State.release_send hpin hn hsend), rfl⟩,
      fun hskip => exec_drain_of_eq rfl (State.release_skip hpin hskip),
      fun hhold hkept => exec_drain_of_eq rfl (State.release_hold hpin hhold hkept)⟩
  case leading => exact exec_next_of_eq rfl (State.pulseEdge_single hprog hperiod hm htrail hover)
  case trailing => exact exec_next_of_eq rfl (State.pulseEdge_last htrail hprog)
  case turn => exact exec_next_of_eq rfl (State.pulseTurn_next hnext)

end Sys2Proof.Machine
end


section
/-!
Ethernet releases (R300-R303, R312, R319, R438, R481): what preparing a RAW release comes to, and what its launch does.
-/
namespace Sys2Proof.Machine

section
variable {s : State} {p : Plane} {d k : Nat} {rd : BitVec 256} {buf : List Byte}

theorem State.linkUp_modPl (s : State) (p : Plane) (f : PlaneS → PlaneS) (q : Plane) (i : Nat) : (s.modPl p f).linkUp q i = s.linkUp q i := by
  simp only [State.linkUp, State.rb, State.reg_modPl]

theorem State.portMode_modPl (s : State) (p : Plane) (f : PlaneS → PlaneS) (q : Plane) (i : Nat) :
    (s.modPl p f).portMode q i = s.portMode q i := State.portMode_congr (State.reg_modPl ..)

/-! Preparation -/

/-- The release of descriptor `d` for epoch `k` has come up (R312). -/
def State.cameUp (s : State) (p : Plane) (d k : Nat) : State := s.modPl p fun x => x.modDst d fun y => { y with done := some k }

/-- A release that is not prepared: LAST shows it as missed (R316). -/
def State.unprepared (s : State) (p : Plane) (d : Nat) : State :=
  s.modPl p fun x => (x.modDst d fun y => { y with prep := none }).setLast d 4

theorem State.active_cameUp : (s.cameUp p d k).active p = s.active p := by
  rw [State.active, State.cameUp, State.pl_modPl_same]
  rfl

theorem State.buffer_cameUp : ((s.cameUp p d k).pl p).buffer k rd = (s.pl p).buffer k rd := by
  rw [State.cameUp, State.pl_modPl_same]
  rfl

/-- A release that has come up before and comes again after a jump back is not repeated (R312). -/
theorem State.ethPrepare_again {ok : Bool} {l : Nat} (hdue : s.launchOf p d = some (k, rd, ok)) (hdone : ((s.pl p).dst d).done = some l)
    (hle : k ≤ l) : s.ethPrepare p d = s := by
  have hagain : ((s.pl p).dst d).again k = true := by simp only [DescS.again, hdone, decide_eq_true hle]
  simp only [State.ethPrepare, hdue, hagain, if_true, ite_self]

/-- A RAW release that comes up is missed, held by the Snuffer, or prepared (R300, R438, R481). -/
theorem State.ethPrepare_raw {ok : Bool} (hp : s.present p = true) (hen : s.egEn p (s.canvasEg p) = true) (hactive : s.active p = true)
    (hraw : rdFormat rd = 0) (hdue : s.launchOf p d = some (k, rd, ok)) (hnew : ∀ l, ((s.pl p).dst d).done = some l → l < k) :
    s.ethPrepare p d =
      if !ok || s.imgPause || !s.linkUp p (rdTarget rd) || s.portMode p (rdTarget rd) != 2 || s.rf R.AON_PWR_STATUS 31 30 == 1 then
        (((s.cameUp p d k).unprepared p d).count (R.REL_COUNTERS p 2)).raiseP p 151
      else if s.snf.pSafe.getLsbD (rdTarget rd) || s.snf.pBlack.getLsbD (rdTarget rd) then ((s.cameUp p d k).unprepared p d).raiseP p 151
      else (s.cameUp p d k).modPl p fun x => x.modDst d fun y => { y with prep := some (k, (s.pl p).buffer k rd, rd) } := by
  have hfirst : ((s.pl p).dst d).again k = false := by
    cases hdone : ((s.pl p).dst d).done with
    | none => simp only [DescS.again, hdone]
    | some l => simp only [DescS.again, hdone, decide_eq_false (hnew l hdone).not_ge]
  have hlink : (s.cameUp p d k).linkUp p (rdTarget rd) = s.linkUp p (rdTarget rd) := State.linkUp_modPl ..
  have hmode : (s.cameUp p d k).portMode p (rdTarget rd) = s.portMode p (rdTarget rd) := State.portMode_modPl ..
  have hidle : (s.cameUp p d k).rf R.AON_PWR_STATUS 31 30 = s.rf R.AON_PWR_STATUS 31 30 := State.rf_modPl ..
  have hpause : (s.cameUp p d k).imgPause = s.imgPause := State.modPl_imgPause ..
  have hsnf : (s.cameUp p d k).snf = s.snf := State.modPl_snf ..
  simp only [State.ethPrepare, hp, hen, hdue, hfirst, hraw, Bool.not_true, Bool.or_self, Bool.false_eq_true, if_false, Nat.reduceBEq,
    Bool.false_and, Bool.not_false, Bool.true_and]
  rw [← State.cameUp]
  simp only [hlink, hmode, hidle, hpause, hsnf, State.active_cameUp, hactive, State.buffer_cameUp, Bool.not_true, Bool.or_false]
  cases hblack : s.snf.pBlack.getLsbD (rdTarget rd)
  · simp only [Bool.false_eq_true, if_false]
    rfl
  · simp only [Bool.or_true, if_true]
    rfl

/-! Launch -/

/-- A prepared release whose plane or link is gone, or that falls in IDLE, is lost (R300, R481). -/
theorem State.ethLaunch_lost (hprep : ((s.pl p).dst d).prep = some (k, buf, rd))
    (hlost : s.active p = false ∨ s.linkUp p (Fin.ofNat 4 (rdTarget rd)).val = false ∨ s.rf R.AON_PWR_STATUS 31 30 = 1) :
    s.ethLaunch p d = (((s.modPl p fun x => x.modDst d fun y => { y with prep := none }).modPl p fun x => x.setLast d 4).count
      (R.REL_COUNTERS p 2)).raiseP p 151 := by
  simp only [State.ethLaunch, hprep]
  refine if_pos ?_
  obtain hgone | hdown | hidle := hlost
  · simp only [hgone, Bool.not_false, Bool.true_or]
  · simp only [hdown, Bool.not_false, Bool.or_true, Bool.true_or]
  · simp only [hidle, beq_self_eq_true, Bool.or_true]

/-- A RAW release of a spur port leaves as its frame, at the port's next block from the launch time on, late where another frame is still
leaving then (R302, R319). -/
theorem State.ethLaunch_raw (hprep : ((s.pl p).dst d).prep = some (k, buf, rd)) (hactive : s.active p = true)
    (hup : s.linkUp p (Fin.ofNat 4 (rdTarget rd)).val = true) (hawake : s.rf R.AON_PWR_STATUS 31 30 ≠ 1) (hraw : rdFormat rd = 0)
    (hmode : s.portMode p (Fin.ofNat 4 (rdTarget rd)).val = 2) :
    s.ethLaunch p d =
      let port : Fin 4 := Fin.ofNat 4 (rdTarget rd)
      let t := s.eK p k + rdOfs rd * 16
      let due : Int := (((s.pl p).raw.toNat : Int) + (t - s.release p)) * 25
      let free := ((s.pl p).portS port.val).busy
      let sent := ((((s.modPl p fun x => x.modDst d fun y => { y with prep := none }).modPl p fun x => x.noteRelease k port.val buf).modPort p port
        fun x => { x with busy := max due.toNat free }).wireNow p port
          ⟨octs buf 0 6, octs buf 6 6, octs buf 12 2, buf.drop 14, false, false, none⟩)
      (if due < (free : Int) then
        (((sent.modPl p fun x => x.setLast d 5).count (R.REL_COUNTERS p 1)).count (R.REL_COUNTERS p 3)).raiseP p 151
      else (sent.modPl p fun x => x.setLast d 1).count (R.REL_COUNTERS p 1)).modPl p fun x => x.modDst d fun y =>
        { y with launch := (t + Int.fdiv (s.blockAt p port.val (max due.toNat free) - due) 25).toNat } := by
  simp only [State.ethLaunch, hprep, hactive, hup, hraw, hmode, beq_eq_false_iff_ne.2 hawake, beq_self_eq_true, Bool.not_true,
    Bool.and_false, Bool.or_self, Bool.false_eq_true, if_false, if_true, Bool.true_and, decide_eq_true_eq]
  split
  case isTrue hlate => simp only [decide_eq_true hlate]; rfl
  case isFalse hfree => simp only [decide_eq_false hfree]; rfl

/-- The SEQ under which a prepared NATIVE release goes out (R303). -/
def DescS.sendSeq (y : DescS) : Word := match y.seq with | some (_, q) => q | none => 0

/-- A NATIVE release of a ring port enters the port's Show queue (R302). -/
theorem State.ethLaunch_native (hprep : ((s.pl p).dst d).prep = some (k, buf, rd)) (hactive : s.active p = true)
    (hup : s.linkUp p (Fin.ofNat 4 (rdTarget rd)).val = true) (hawake : s.rf R.AON_PWR_STATUS 31 30 ≠ 1) (hnative : rdFormat rd = 1)
    (hmode : s.portMode p (Fin.ofNat 4 (rdTarget rd)).val = 1) :
    s.ethLaunch p d =
      let port : Fin 4 := Fin.ofNat 4 (rdTarget rd)
      let h := s.nativeRelease p k buf rd ((s.pl p).dst d).sendSeq
      let r := ((s.modPl p fun x => x.modDst d fun y => { y with prep := none }).modPl p fun x =>
        x.noteRelease k port.val h.octets).enqueueAs p port 0 h false false
      ((r.1.raiseIf r.2 (evOf p 154)).modPl p fun x => x.setLast d 1).count (R.REL_COUNTERS p 1) := by
  simp only [State.ethLaunch, hprep, hactive, hup, hnative, hmode, beq_eq_false_iff_ne.2 hawake]
  rfl

end

/-- Settles O44: what becomes of a RAW release that comes up, and of a prepared one at its launch time. -/
theorem ethernetLaunch : Obligations.EthernetLaunch := by
  intro s p d k rd buf idle came lost
  refine ⟨fun hp hen hactive hraw => ⟨fun ok l hdue hdone hle => ?again, fun hnew => ?first⟩, fun hprep => ?launch⟩
  case again => exact exec_next_of_eq rfl (State.ethPrepare_again hdue hdone hle)
  case first =>
    have hprepare {ok : Bool} (hdue : s.launchOf p d.toNat = some (k, rd, ok)) := State.ethPrepare_raw hp hen hactive hraw hdue hnew
    refine ⟨fun ok hdue hmissed => ?missed, fun hdue hpause hup hmode hawake => ?ready⟩
    case missed =>
      refine exec_next_of_eq rfl ((hprepare hdue).trans (if_pos ?_))
      obtain hlate | hidle | hdown | hmode := hmissed
      · simp [hlate]
      · simp [idle, hidle]
      · simp [hdown]
      · simp [hmode]
    case ready =>
      have hready := (hprepare hdue).trans (if_neg (by simpa [hpause, hup, hmode] using hawake))
      exact ⟨fun hsafe => exec_next_of_eq rfl (hready.trans (if_pos (by rw [hsafe, Bool.true_or]))),
        fun hsafe hblack => exec_next_of_eq rfl (hready.trans (if_neg (by rw [hsafe, hblack]; decide)))⟩
  case launch =>
    intro port s1
    refine ⟨fun hlost => exec_next_of_eq rfl (State.ethLaunch_lost hprep hlost), fun hactive hup hawake hraw hmode => ?raw,
      fun hactive hup hawake hnative hmode => exec_next_of_eq rfl (State.ethLaunch_native hprep hactive hup hawake hnative hmode)⟩
    case raw =>
      have hlaunch := State.ethLaunch_raw hprep hactive hup hawake hraw hmode
      exact ⟨fun hfree => exec_next_of_eq rfl (hlaunch.trans (congrArg (State.modPl · p _) (if_neg hfree.not_gt))),
        fun hlate => exec_next_of_eq rfl (hlaunch.trans (congrArg (State.modPl · p _) (if_pos hlate)))⟩

end Sys2Proof.Machine
end


section
/-!
Power modes (R481, R482) and wake sources (R343, R372, R483).
-/
namespace Sys2Proof.Machine

section
variable {s : State}

/-! Requests of a power mode are writes of AON_PWR_CTL, which is a register of its own -/

theorem State.regWrite_pwr {r : Req} (hr : s.reqOn r = true) (v : Word) : s.regWrite r R.AON_PWR_CTL 4 v = s.pwrWrite v :=
  (State.regWrite_aligned hr (by decide) v).trans ((State.writeAll_aon (by decide) (by decide) (by decide) v).trans
    ((if_neg (by decide)).trans ((if_neg (by decide)).trans (if_pos rfl))))

theorem State.pwrWrite_run : s.pwrWrite 0 = s.reqRun := if_pos (by decide)

theorem State.pwrWrite_idle : s.pwrWrite 0x40000000 = s.reqIdle := (if_neg (by decide)).trans (if_pos (by decide))

theorem State.pwrWrite_standby : s.pwrWrite 0x80000000 = s.reqStandby :=
  (if_neg (by decide)).trans ((if_neg (by decide)).trans (if_pos (by decide)))

/-! What a request does (R481) -/

/-- From IDLE a request for RUN lets instances open again from the third boundary of a plane that has boundaries, and starts the rejoins
that IDLE held off. -/
theorem State.reqRun_of_idle (hidle : s.pwrMode = 1) :
    s.reqRun = (((((s.setRf R.AON_PWR_CTL 31 30 0).setRf R.AON_PWR_STATUS 31 30 0).pwrRecord).each bothPlanes fun t p =>
      t.modPl p fun x => { x with noOpen := if t.canvasLive p then 3 else 0 }).tryRejoin .a).tryRejoin .b := if_pos hidle

/-- Without a canvas generator that gives boundaries, IDLE is entered with its request. -/
theorem State.reqIdle_quiet (hpin : s.pinOn = true) (hquiet : ∀ p, s.present p = true → s.canvasLive p = false) :
    s.reqIdle = (s.setRf R.AON_PWR_CTL 31 30 1).idleEnter := by
  have hnone : (bothPlanes.any fun p => s.present p && s.canvasLive p) = false :=
    List.any_eq_false.2 fun p _ h => by
      obtain ⟨hp, hlive⟩ := Bool.and_eq_true_iff.1 h
      exact Bool.false_ne_true ((hquiet p hp).symm.trans hlive)
  simp only [State.reqIdle, hpin, hnone, Bool.not_true, Bool.false_eq_true, if_false]

/-- Where a canvas generator gives boundaries, the request for IDLE waits for one. -/
theorem State.reqIdle_live (hpin : s.pinOn = true) (hlive : ∃ p, s.present p = true ∧ s.canvasLive p = true) :
    s.reqIdle = s.setRf R.AON_PWR_CTL 31 30 1 := by
  have hsome : (bothPlanes.any fun p => s.present p && s.canvasLive p) = true := by
    obtain ⟨p, hp, hlive⟩ := hlive
    exact List.any_eq_true.2 ⟨p, by cases p <;> decide, by rw [hp, hlive]; rfl⟩
  simp only [State.reqIdle, hpin, hsome, Bool.not_true, Bool.false_eq_true, if_false, if_true]

/-- With a wake source enabled STANDBY is entered, and all but AON goes without power (R482). -/
theorem State.reqStandby_enabled (hmode : s.pwrMode ≠ 2) (hwake : s.wakeEnabled = true) :
    s.reqStandby = { (((({ s.setRf R.AON_PWR_CTL 31 30 2 with snfAon := s.snf } : State).setRf R.AON_PWR_STATUS 31 30 2).pwrRecord).frMirror).allDown
      with pinPow := false } := by
  simp only [State.reqStandby, if_neg hmode, hwake, Bool.not_true, Bool.false_eq_true, if_false]

/-- Without a wake source enabled STANDBY is refused. -/
theorem State.reqStandby_refused (hmode : s.pwrMode ≠ 2) (hwake : s.wakeEnabled = false) :
    s.reqStandby = s.setRb R.AON_PWR_STATUS 29 true := by
  simp only [State.reqStandby, if_neg hmode, hwake, Bool.not_false, if_true]

/-! Wake receivers (R343, R372) -/

theorem State.wakeHit_standby (hon : s.aonOn = true) (hmode : s.pwrMode = 2) {cfg : Nat} (hen : s.rb cfg 31 = true) (hit ev src : Nat) :
    s.wakeHit cfg hit ev src = ((s.setRb hit 31 true).raise ev).wake src := by
  simp [State.wakeHit, hon, hmode, hen]

theorem State.slWakes_match {n : Nat} {heard : SlHeard} (h : s.slMatch n heard = true) :
    s.slWakes n heard = s.wakeHit (R.AON_SLWAKE_CFG n) (R.AON_SLWAKE_HIT n) (8 + n) (1 + n) := if_pos h

theorem State.slWakes_other {n : Nat} {heard : SlHeard} (h : s.slMatch n heard = false) : s.slWakes n heard = s := by
  rw [State.slWakes, h]
  rfl

/-- A wake receiver that waits for a dominant level wakes after its time, and one that waits for a frame on one that its filter passes
(R372). -/
theorem State.canWakes_met {n : Nat} {heard : CanHeard}
    (hlevel : ∀ clocks, heard = .dominant clocks → s.rb (R.AON_CANWAKE_CFG n) 30 = false ∧ s.rf (R.AON_CANWAKE_CFG n) 28 24 ≤ clocks)
    (hframe : ∀ desc data, heard = .frame desc data → s.rb (R.AON_CANWAKE_CFG n) 30 = true ∧ frBrs desc = false ∧
      wakeFrame (s.rb (R.AON_CANWAKE_CFG n) 29) (s.reg (R.AON_CANWAKE_ID n)) (s.reg (R.AON_CANWAKE_IDMASK n)) (s.reg (R.AON_CANWAKE_DATA n))
        (s.reg (R.AON_CANWAKE_DMASK n)) desc data = true) :
    s.canWakes n heard = s.wakeHit (R.AON_CANWAKE_CFG n) (R.AON_CANWAKE_HIT n) (12 + n) (5 + n) := by
  cases heard with
  | dominant clocks =>
    obtain ⟨hkind, htime⟩ := hlevel clocks rfl
    rw [State.rb] at hkind
    rw [State.rf] at htime
    simp only [State.canWakes, hkind, htime, decide_true, if_true]
  | frame desc data =>
    obtain ⟨hkind, hbrs, hpass⟩ := hframe desc data rfl
    rw [State.rb] at hkind hpass
    simp only [State.canWakes, hkind, hbrs, hpass, Bool.not_false, Bool.and_self, if_true]

/-- A receiver of characters matches those with their ninth bit set, without a framing error, whose octet agrees where it is compared
(R343). -/
theorem State.slMatch_char {n : Nat} {wave : List (Bool × Nat)} (hkind : s.rb (R.AON_SLWAKE_CFG n) 30 = false) :
    s.slMatch n (.char wave) = true ↔ ∃ c, wakeChar (s.reg (R.AON_SLWAKE_CFG n)) 9 wave = some c ∧ c.bits.testBit 8 = true ∧ c.fe = false ∧
      (c.bits ^^^ s.rf (R.AON_SLWAKE_MATCH n) 8 0) &&& s.rf (R.AON_SLWAKE_MATCH n) 24 16 &&& 0xFF = 0 := by
  rw [State.rb] at hkind
  simp only [State.slMatch, hkind, State.rf]
  cases wakeChar (s.reg (R.AON_SLWAKE_CFG n)) 9 wave with
  | none => simp
  | some c => simp [and_assoc]

end

/-- Settles O31, by what a write of AON_PWR_CTL comes to for each request, and by what each wake source takes for its own. -/
theorem powerModeCommands : Obligations.PowerModeCommands := by
  intro s r
  refine ⟨fun hr hidle => ?run, fun hr hpin hquiet => ?idleNow, fun hr hpin hlive => ?idleLater,
    fun hreq hmode => exec_next_of_eq rfl (if_pos ⟨hreq, hmode⟩), fun hr hmode hwake => ?standby, fun hr hmode hwake => ?refused,
    fun hen => exec_next_of_eq rfl (if_pos hen), fun hen htime => exec_next_of_eq rfl (if_pos ⟨hen, htime⟩),
    fun hon hmode => ⟨fun n heard hen hmatch => ?serial, fun n heard hen hlevel hframe => ?can⟩,
    fun n wave => State.slMatch_char, fun n heard hother => exec_next_of_eq rfl (State.slWakes_other hother)⟩
  case run => exact exec_next_of_eq rfl ((State.regWrite_pwr hr 0).trans (State.pwrWrite_run.trans (State.reqRun_of_idle hidle)))
  case idleNow =>
    exact exec_next_of_eq rfl ((State.regWrite_pwr hr _).trans (State.pwrWrite_idle.trans (State.reqIdle_quiet hpin hquiet)))
  case idleLater =>
    exact exec_next_of_eq rfl ((State.regWrite_pwr hr _).trans (State.pwrWrite_idle.trans (State.reqIdle_live hpin hlive)))
  case standby =>
    exact exec_drain_of_eq rfl ((State.regWrite_pwr hr _).trans (State.pwrWrite_standby.trans (State.reqStandby_enabled hmode hwake)))
  case refused =>
    exact exec_drain_of_eq rfl ((State.regWrite_pwr hr _).trans (State.pwrWrite_standby.trans (State.reqStandby_refused hmode hwake)))
  case serial => exact exec_next_of_eq rfl ((State.slWakes_match hmatch).trans (State.wakeHit_standby hon hmode hen ..))
  case can => exact exec_next_of_eq rfl ((State.canWakes_met hlevel hframe).trans (State.wakeHit_standby hon hmode hen ..))

end Sys2Proof.Machine
end


section
/-!
Serial lines (chapter 10): what a change of one line leaves alone, and what a line's counters, its events and the end of a transaction leave
of the lines and of the registers that their rules read.
-/
namespace Sys2Proof.Machine

section
variable {s : State} {n : Nat}

/-! A change of one line -/

/-- A change of a line is what it does to the line as it stands. -/
theorem State.modSl_congr {f g : SlS → SlS} (h : f (s.slS n) = g (s.slS n)) : s.modSl n f = s.modSl n g :=
  congrArg (fun l => { s with sl := l }) (modAt_congr h)

theorem modAt_id {α : Type} (i : Nat) (l : List α) : modAt i id l = l := by
  induction l generalizing i with
  | nil => rw [modAt]
  | cons x xs ih =>
    cases i with
    | zero => rfl
    | succ i => exact congrArg (x :: ·) (ih i)

/-- A change that would leave a line as it is leaves the state. -/
theorem State.modSl_of_fixed {f : SlS → SlS} (h : f (s.slS n) = s.slS n) : s.modSl n f = s :=
  (State.modSl_congr (g := id) h).trans (congrArg (fun l => { s with sl := l }) (modAt_id ..))

/-- What a change of a line keeps of it. -/
theorem State.slS_modSl_keeps {β : Type} (g : SlS → β) {f : SlS → SlS} (hf : ∀ x, g (f x) = g x) : g ((s.modSl n f).slS n) = g (s.slS n) :=
  getD_modAt_keeps g hf n n s.sl SlS.rest

/-- What holds of a line and of what a change makes of it holds of the line after the change. -/
theorem State.slS_modSl_of {P : SlS → Prop} {f : SlS → SlS} (hbefore : P (s.slS n)) (hafter : P (f (s.slS n))) : P ((s.modSl n f).slS n) := by
  obtain hlt | hge := Nat.lt_or_ge n s.sl.length
  · rwa [State.slS, State.modSl, getD_modAt_same f hlt]
  · rw [State.slS, State.modSl, List.getD_eq_default _ _ (by rwa [length_modAt])]
    rwa [State.slS, List.getD_eq_default _ _ hge] at hbefore

/-! Registers of a line that are not its counters -/

@[simp] theorem State.slS_slCount (s : State) (n i k : Nat) : (s.slCount n i).slS k = s.slS k := rfl

theorem State.reg_slCount_ne {o : Nat} (i : Nat) (h : o < R.SL_COUNTERS n 0) : (s.slCount n i).reg o = s.reg o :=
  State.reg_setRf_ne _ (by unfold R.SL_COUNTERS at *; omega) ..

@[simp] theorem State.slMode_slCount (s : State) (n i : Nat) : (s.slCount n i).slMode n = s.slMode n :=
  State.reg_slCount_ne i (by unfold R.SL_MODE R.SL_COUNTERS; omega)

@[simp] theorem State.slTel_slCount (s : State) (n i : Nat) : (s.slCount n i).slTel n = s.slTel n := by
  rw [State.slTel, State.slMode_slCount, State.slTel]

/-! Events of a line -/

/-- No event writes a line. -/
theorem unbooked_sl : Unbooked State.sl where
  reg _ _ _ _ := rfl
  pl s p f _ := State.modPl_sl s p f
  emit _ _ := rfl
  pba _ _ := rfl
  evHold _ _ := rfl
  fr _ _ _ _ := rfl

theorem State.sl_slEvent (s : State) {n : Nat} (hn : n < 32) (b : Nat) : (s.slEvent n b).sl = s.sl := by
  unfold State.slEvent
  split
  · rfl
  · exact unbooked_sl.raiseIf _ _ (by omega)

/-! The end of a transaction -/

/-- The end of a transaction leaves what a line receives. -/
theorem State.slS_slTxnEnd_keeps {β : Type} (g : SlS → β) (hg : ∀ (x : SlS) a e, g { x with await := a, lastEnd := e } = g x) (hn : n < 32)
    (o : Owner) (result : Nat) (octets : List Byte) (at_ : Int) : g ((s.slTxnEnd n o result octets at_).slS n) = g (s.slS n) := by
  refine (State.slS_modSl_keeps g fun x => hg x _ _).trans (congrArg (fun l : List SlS => g (l.getD n SlS.rest)) ?_)
  exact State.sl_slEvent _ hn _

/-- Without a transaction there is none whose wait has run out (R339). -/
theorem State.slDue_of_not_due (h : ∀ a, (s.slS n).await = some a → a.due = false) : s.slDue n = s := by
  unfold State.slDue
  cases hawait : (s.slS n).await with
  | none => rfl
  | some a => exact if_neg (by rw [h a hawait]; decide)

theorem State.slDue_due {a : SlAwait} (hawait : (s.slS n).await = some a) (hdue : a.due = true) :
    s.slDue n = s.slTxnEnd n a.frame.owner 3 [] s.lantern := by
  simp only [State.slDue, hawait, hdue, if_true]

theorem SlS.inDub_of_none {x : SlS} (h : x.await = none) : x.inDub = false := by rw [SlS.inDub, h]; rfl

end

end Sys2Proof.Machine
end

section
/-!
Receiving on a line: characters and breaks (R323-R328, R341), packets and telegrams and their ends (R327-R329, R334, R339), a stuck line and
RTS (R330, R342).
-/
namespace Sys2Proof.Machine

section Character

variable {s : State} {n : Fin 32} {edge : Nat} {wave : List (Bool × Nat)} {c : RxChar}

/-- A line whose receiver has sampled character `c` from the falling edge on (R323, R341). -/
def State.slSampled (s : State) (n : Fin 32) (edge : Nat) (c : RxChar) : State :=
  let m := s.slMode n.val
  let div := s.reg (R.SL_DIVIDER n.val)
  s.modSl n.val fun y => { y with
    armAt := (edge : Int) + 32 * sampleAt div (stopCell m), blind := false, low := c.low,
    endAt := (edge : Int) + 32 * charClocks div (stopCell m - 1) (fld m 22 21) }

section
variable (hlistens : s.slListens n.val = true) (hblind : (s.slS n.val).blind = false) (harmed : (s.slS n.val).armAt ≤ (edge : Int))
variable (hphase : (s.slS n.val).phase ≠ .deaf)

include hlistens hblind harmed hphase

/-- A false start only arms the receiver again (R323). -/
theorem State.slChar_falseStart (htel : s.slTel n.val = false)
    (hfalse : sampleChar (s.slMode n.val) (s.reg (R.SL_DIVIDER n.val)) wave = none) :
    s.slChar n edge wave =
      s.modSl n.val fun y => { y with armAt := (edge : Int) + 32 * sampleAt (s.reg (R.SL_DIVIDER n.val)) 0, blind := false } := by
  simp [State.slChar, hlistens, hblind, harmed, hphase, htel, hfalse]

/-- Levels that begin no break give the receiver a character, which counts and goes to what the line receives (R323, R327, R334). -/
theorem State.slChar_heard
    (hbreak : s.slTel n.val = false ∨
      ∃ l k r, rxWave (bit (s.slMode n.val) 14) wave = (l, k) :: r ∧ k < s.rf (R.SL_TEL_RX n.val) 31 24 * 500)
    (hchar : sampleChar (s.slMode n.val) (s.reg (R.SL_DIVIDER n.val)) wave = some c) (hfe : c.fe = false) (hpe : c.pe = false) :
    s.slChar n edge wave = (((s.slSampled n edge c).slCount n.val 3).slDue n.val).slTake n edge c := by
  obtain htel | ⟨l, k, r, hwave, hshort⟩ := hbreak
  · simp [State.slChar, State.slSampled, State.when, hlistens, hblind, harmed, hphase, htel, hchar, hfe, hpe]
  · simp [State.slChar, State.slSampled, State.when, hlistens, hblind, harmed, hphase, hwave, hshort.not_ge, hchar, hfe, hpe]

end

theorem SlS.curCount_push (y : SlS) (e : BitVec 16) (err : Bool) (edge : Int) : (y.push e err edge).curCount = y.curCount + 1 := by
  unfold SlS.push
  dsimp only
  split
  · rfl
  · split <;> rfl

/-- A character of a packet joins it (R327). -/
theorem State.slTake_packet (htel : s.slTel n.val = false) (hawait : (s.slS n.val).await = none) (hroom : (s.slS n.val).curCount < 4095)
    (edge : Int) (hfe : c.fe = false) (hpe : c.pe = false) :
    s.slTake n edge c =
      s.modSl n.val fun y => { y.push (slEntry false false (BitVec.ofNat 9 c.bits)) false edge with phase := .packet } := by
  have hshort : ¬ 4096 ≤ ((s.modSl n.val fun y =>
      { y.push (slEntry false false (BitVec.ofNat 9 c.bits)) false edge with phase := .packet }).slS n.val).curCount :=
    State.slS_modSl_of (P := fun y => ¬ 4096 ≤ y.curCount) (by omega) (by dsimp only; rw [SlS.curCount_push]; omega)
  simp only [State.slTake, SlS.inDub_of_none hawait, htel, hfe, hpe, Bool.or_self, Bool.false_eq_true, if_false, if_neg hshort]

/-- The first character of a telegram joins it (R334). -/
theorem State.slTake_startCode (htel : s.slTel n.val = true) (hawait : (s.slS n.val).await = none) (hphase : (s.slS n.val).phase = .telegram)
    (hfirst : (s.slS n.val).curCount = 0) (edge : Int) (hfe : c.fe = false) (hpe : c.pe = false) :
    s.slTake n edge c = s.modSl n.val fun y => y.push (slEntry false false (BitVec.ofNat 9 c.bits)) false edge := by
  simp [State.slTake, SlS.inDub_of_none hawait, htel, hphase, hfirst, hfe, hpe]

/-- Sampling a character leaves what the line receives and awaits. -/
theorem State.slS_slSampled_keeps {β : Type} (g : SlS → β)
    (hg : ∀ (x : SlS) a b l e, g { x with armAt := a, blind := b, low := l, endAt := e } = g x) :
    g (((s.slSampled n edge c).slCount n.val 3).slS n.val) = g (s.slS n.val) := State.slS_modSl_keeps g fun x => hg x _ _ _ _

/-- A character heard where no response is awaited goes to what the line receives at once (R327, R339). -/
theorem State.slDue_slSampled (hawait : (s.slS n.val).await = none) :
    ((s.slSampled n edge c).slCount n.val 3).slDue n.val = (s.slSampled n edge c).slCount n.val 3 :=
  State.slDue_of_not_due fun a ha => by
    rw [State.slS_slSampled_keeps SlS.await fun _ _ _ _ _ => rfl, hawait] at ha
    cases ha

end Character

section Ends

variable {s : State} {n : Fin 32}

/-- The item being received as it goes where ROUTE sends it, ended by silence or complete (R326, R329). -/
def State.slItem (s : State) (n : Fin 32) (tel chk : Bool) (sum : Nat) : SlItem :=
  let x := s.slS n.val
  let ing := s.slRoute n.val == 0 || s.slRoute n.val == 2
  ⟨tel, true, chk, x.curErr, sum, x.curLen, x.curStamp, ing && s.takes .a, ing && s.takes .b, s.slRoute n.val == 1 || s.slRoute n.val == 2, 0,
    s.reg (R.SL_INSEQ n.val) + 1⟩

/-- Item `i` enters the queue under the next input sequence (R326). -/
def State.slEnded (s : State) (n : Fin 32) (i : SlItem) : State :=
  ((s.setReg (R.SL_INSEQ n.val) (s.reg (R.SL_INSEQ n.val) + 1)).slCount n.val 7).modSl n.val fun y => y.enter i

theorem State.slDeliver_lost (tel idle chk : Bool) (sum : Nat) (h : (s.slS n.val).curLost = true) :
    s.slDeliver n tel idle chk sum = ((s.modSl n.val SlS.dropCur).slCount n.val 8).slEvent n.val 3 := if_pos h

theorem State.slDeliver_whole (tel chk : Bool) (sum : Nat) (h : (s.slS n.val).curLost = false) :
    s.slDeliver n tel true chk sum = s.slEnded n (s.slItem n tel chk sum) := if_neg (by rw [h]; decide)

/-- A line in another phase of reception. -/
def State.inPhase (s : State) (n : Fin 32) (ph : RxPhase) : State := s.modSl n.val fun y => { y with phase := ph }

theorem State.slS_inPhase_keeps {β : Type} (g : SlS → β) (hg : ∀ (x : SlS) ph, g { x with phase := ph } = g x) (ph : RxPhase) :
    g ((s.inPhase n ph).slS n.val) = g (s.slS n.val) := State.slS_modSl_keeps g fun x => hg x ph

/-- The phase of a line is not part of the item that it receives. -/
theorem State.slItem_inPhase (ph : RxPhase) (tel chk : Bool) (sum : Nat) : (s.inPhase n ph).slItem n tel chk sum = s.slItem n tel chk sum := by
  have herr := s.slS_inPhase_keeps (n := n) SlS.curErr (fun _ _ => rfl) ph
  have hlen := s.slS_inPhase_keeps (n := n) SlS.curLen (fun _ _ => rfl) ph
  have hstamp := s.slS_inPhase_keeps (n := n) SlS.curStamp (fun _ _ => rfl) ph
  simp only [State.slItem, herr, hlen, hstamp]
  rfl

/-- An item that ends whole, as the line's phase changes (R326, R327, R334). -/
theorem State.slDeliver_inPhase (ph : RxPhase) (tel chk : Bool) (sum : Nat) (h : (s.slS n.val).curLost = false) :
    (s.inPhase n ph).slDeliver n tel true chk sum = (s.inPhase n ph).slEnded n (s.slItem n tel chk sum) := by
  rw [State.slDeliver_whole _ _ _ ((s.slS_inPhase_keeps SlS.curLost (fun _ _ => rfl) ph).trans h), State.slItem_inPhase]

/-- Silence ends a packet (R327). -/
theorem State.slIdle_packet (hphase : (s.slS n.val).phase = .packet) (htel : s.slTel n.val = false) :
    s.slIdle n = (s.inPhase n .idle).slDeliver n false true true 0 := by
  simp [State.slIdle, State.slEndPkt, State.inPhase, hphase, htel]

/-- A telegram complete, of which no response is awaited (R334). -/
theorem State.slEndTel_complete (hawait : (s.slS n.val).await = none) (at_ : Int) :
    s.slEndTel n true at_ = (s.inPhase n .ignore).slDeliver n true true
      (telCheck (s.reg (R.SL_TEL_FMT n.val)) (s.slS n.val).curOcts).1 (telCheck (s.reg (R.SL_TEL_FMT n.val)) (s.slS n.val).curOcts).2 := by
  simp [State.slEndTel, State.inPhase, hawait]

/-- A telegram that ends before it is complete is dropped and counts, as LOST too where it was (R328, R334). -/
theorem State.slEndTel_incomplete (hawait : (s.slS n.val).await = none) (at_ : Int) :
    s.slEndTel n false at_ = (((s.when (s.slS n.val).curLost fun s => (s.slCount n.val 8).slEvent n.val 3).modSl n.val fun y =>
      { y.dropCur with phase := .idle }).slCount n.val 9) := by
  simp [State.slEndTel, hawait]

theorem State.slTelegramEnd_complete (hphase : (s.slS n.val).phase = .telegram) (hsome : (s.slS n.val).curCount ≠ 0)
    (hcomplete : telComplete (s.reg (R.SL_TEL_FMT n.val)) (s.slS n.val).curOcts = true) :
    s.slTelegramEnd n = s.slEndTel n true (s.slS n.val).endAt := by
  simp [State.slTelegramEnd, hphase, hsome, hcomplete]

/-- A gap in a length-coded telegram that is not complete cuts it (R334). -/
theorem State.slTelGap_incomplete (hphase : (s.slS n.val).phase = .telegram)
    (hcoded : lenCoded (s.reg (R.SL_TEL_FMT n.val)) (s.slS n.val).curOcts = true)
    (hshort : telComplete (s.reg (R.SL_TEL_FMT n.val)) (s.slS n.val).curOcts = false) : s.slTelGap n = s.slEndTel n false s.lantern := by
  simp [State.slTelGap, State.slCutTel, hphase, hcoded, hshort]

theorem State.slTelGap_dub (hphase : (s.slS n.val).phase = .dub) (hsome : (s.slS n.val).curCount ≠ 0) :
    s.slTelGap n = s.slEndDub n true := by
  simp [State.slTelGap, hphase, hsome]

/-- Where no telegram is being received none is cut. -/
theorem State.slCutTel_of_ne (hphase : (s.slS n.val).phase ≠ .telegram) (at_ : Int) : s.slCutTel n at_ = s := if_neg hphase

theorem State.slBegun_none (hawait : (s.slS n.val).await = none) (edge : Int) : s.slBegun n.val edge = s :=
  State.modSl_of_fixed (by rw [hawait, Option.map_none, ← hawait])

end Ends

section Breaks

variable {s : State} {n : Fin 32}

/-- A line on which a break is reported: a queue with room takes an entry of one break mark (R327, R341). -/
def SlS.breakMark (host : Bool) (y : SlS) : SlS :=
  ({ y with
    low := false, rxq := y.rxq ++ [BitVec.ofNat 16 (2 ^ 13)],
    items := y.items ++ [⟨false, false, true, false, 0, 1, y.curStamp, false, false, host, 0, 0⟩],
    curLen := 0, curCount := 0, curOcts := [], curErr := false, curStamp := if y.curCount = 0 then 0 else y.curStamp } : SlS).swept

/-- A break where no packet is being received (R327, R341). -/
theorem State.slBreak_mark (hlistens : s.slListens n.val = true) (htel : s.slTel n.val = false) (hlow : (s.slS n.val).low = true)
    (hpacket : (s.slS n.val).phase ≠ .packet) (hdub : (s.slS n.val).phase ≠ .dub) (hhold : (s.slS n.val).hold = none)
    (hqueue : (s.slS n.val).rxq.length < 2048) (hitems : (s.slS n.val).items.length < 64) (hempty : (s.slS n.val).curLen = 0) :
    s.slBreak n = ((s.modSl n.val (SlS.breakMark (s.slRoute n.val == 1 || s.slRoute n.val == 2))).slCount n.val 6).slEvent n.val 5 := by
  cases hphase : (s.slS n.val).phase with
  | packet => exact absurd hphase hpacket
  | dub => exact absurd hphase hdub
  | _ =>
    simp only [State.slBreak, hlistens, htel, hlow, hphase, Bool.not_true, Bool.or_self, Bool.false_eq_true, if_false]
    refine congrArg (fun t : State => (t.slCount n.val 6).slEvent n.val 5) (State.modSl_congr ?_)
    simp [SlS.push, SlS.enter, SlS.breakMark, hhold, hqueue.not_ge, hitems, hitems.not_ge, hempty]

/-- A low of BRK_MIN begins a telegram when the high after it reaches MAB_MIN (R334). -/
theorem State.slTelBreak_begins {edge low high : Nat} (hlistens : s.slListens n.val = true) (htel : s.slTel n.val = true)
    (hphase : (s.slS n.val).phase ≠ .telegram) (hawait : (s.slS n.val).await = none) (hlow : s.rf (R.SL_TEL_RX n.val) 31 24 * 500 ≤ low)
    (hhigh : s.rf (R.SL_TEL_RX n.val) 23 16 * 500 ≤ high) :
    s.slTelBreak n edge low high = s.modSl n.val fun y =>
      { y.dropCur with phase := .telegram, armAt := (edge : Int) + 32 * low, blind := false, low := false } := by
  simp [State.slTelBreak, hlistens, htel, SlS.inDub_of_none hawait, State.slCutTel_of_ne hphase, State.slBegun_none hawait, hlow.not_gt, hhigh.not_gt]

theorem SlS.await_dropCur (y : SlS) : y.dropCur.await = y.await := by
  unfold SlS.dropCur SlS.place
  dsimp only
  split <;> rfl

/-- With too short a high after it the line is ignored until the next break, which counts (R334, R336). -/
theorem State.slTelBreak_ignored {edge low high : Nat} (hlistens : s.slListens n.val = true) (htel : s.slTel n.val = true)
    (hphase : (s.slS n.val).phase ≠ .telegram) (hawait : (s.slS n.val).await = none) (hlow : s.rf (R.SL_TEL_RX n.val) 31 24 * 500 ≤ low)
    (hhigh : high < s.rf (R.SL_TEL_RX n.val) 23 16 * 500) :
    s.slTelBreak n edge low high = (s.modSl n.val fun y =>
      { y.dropCur with phase := .deaf, armAt := (edge : Int) + 32 * low, blind := false, low := false }).slCount n.val 9 := by
  have hstill : ((s.modSl n.val fun y =>
      { y.dropCur with phase := .deaf, armAt := (edge : Int) + 32 * low, blind := false, low := false }).slS n.val).await = none := by
    refine (State.slS_modSl_keeps SlS.await ?_).trans hawait
    exact SlS.await_dropCur
  simp [State.slTelBreak, hlistens, htel, SlS.inDub_of_none hawait, State.slCutTel_of_ne hphase, State.slBegun_none hawait, hlow.not_gt, hhigh,
    hstill]

/-- A line newly stuck, once a response's wait has run out or not and where no telegram is being received (R339, R342). -/
theorem State.slStuck_new (hpin : s.pinOn = true) (hen : s.slEn n.val = true) (hnew : s.rb (R.SL_STATUS n.val) 28 = false) {t : State}
    (hdue : s.slDue n.val = t) (hphase : (t.slS n.val).phase ≠ .telegram) :
    s.slStuck n = ((t.modSl n.val fun y => { y with low := false }).setRb (R.SL_STATUS n.val) 28 true).slEvent n.val 6 := by
  simp [State.slStuck, hpin, hen, hnew, hdue, State.slCutTel_of_ne hphase]

end Breaks

section Rts

variable {s : State} {n : Fin 32} (hen : s.slEn n.val = true) (hflow : s.slRtsMode n.val = 1)
include hen hflow

/-- RTS goes inactive under back-pressure and from RTS_OFF entries on (R330). -/
theorem State.slFlow_off (h : s.slHeld n = true ∨ fld (s.reg (R.SL_FLOW n.val)) 27 16 ≤ (s.slS n.val).rxq.length) :
    s.slFlow n = s.modSl n.val fun y => { y with rts := false } := by
  simp [State.slFlow, hen, hflow, h]

theorem State.slFlow_on (hfree : s.slHeld n = false) (hoff : (s.slS n.val).rxq.length < fld (s.reg (R.SL_FLOW n.val)) 27 16)
    (hon : (s.slS n.val).rxq.length ≤ fld (s.reg (R.SL_FLOW n.val)) 11 0) : s.slFlow n = s.modSl n.val fun y => { y with rts := true } := by
  simp [State.slFlow, hen, hflow, hfree, hoff.not_ge, hon]

/-- Between its thresholds RTS keeps its level (R330, log 42). -/
theorem State.slFlow_between (hfree : s.slHeld n = false) (hoff : (s.slS n.val).rxq.length < fld (s.reg (R.SL_FLOW n.val)) 27 16)
    (hon : fld (s.reg (R.SL_FLOW n.val)) 11 0 < (s.slS n.val).rxq.length) : s.slFlow n = s := by
  simp [State.slFlow, hen, hflow, hfree, hoff.not_ge, hon.not_ge]

end Rts

/-- Settles O46, by what an armed receiver makes of a falling edge, by how what a line receives ends, and by what a break, a stuck line and
RTS in FLOW come to. -/
theorem serialReceive : Obligations.SerialReceive := by
  intro s n edge low high wave c x m div fmt route host ing seq item ended sampled
  refine ⟨fun hlistens hblind harmed hphase => ⟨fun htel hfalse => ?falseStart, fun hchar hfe hpe hawait =>
      ⟨fun htel hroom => ?packet, fun l k r htel hwave hshort htelegram hfirst => ?telegram⟩⟩,
    fun hlistens htel hlow hpacket hdub hhold hqueue hitems hempty => ?mark,
    fun hphase htel => ⟨fun hwhole => ?idle, fun hlost => ?lost⟩,
    fun hlistens htel hphase _ hawait hlow => ⟨fun hhigh => ?begins, fun hhigh => ?ignored⟩,
    fun hphase hawait => ⟨fun hsome hcomplete hwhole => ?complete, fun hcoded hshort => ?cut⟩,
    fun hphase hsome => ?dub,
    fun hpin hen hnew hphase => ⟨fun hdue => ?stuck, fun a hawait hdue => ?stuckDue⟩,
    fun hen hflow => ⟨State.slFlow_off hen hflow,
      fun hfree hoff => ⟨State.slFlow_on hen hflow hfree hoff, State.slFlow_between hen hflow hfree hoff⟩⟩,
    fun hstuck => exec_next_of_eq rfl (if_pos hstuck)⟩
  case falseStart => exact exec_drain_of_eq rfl (State.slChar_falseStart hlistens hblind harmed hphase htel hfalse)
  case packet =>
    have hheard := State.slChar_heard hlistens hblind harmed hphase (.inl htel) hchar hfe hpe
    rw [State.slDue_slSampled hawait] at hheard
    refine exec_drain_of_eq rfl (hheard.trans (State.slTake_packet ?_ ?_ ?_ edge hfe hpe))
    · exact (State.slTel_slCount ..).trans htel
    · exact (State.slS_slSampled_keeps SlS.await fun _ _ _ _ _ => rfl).trans hawait
    · exact (State.slS_slSampled_keeps SlS.curCount fun _ _ _ _ _ => rfl).trans_lt hroom
  case telegram =>
    have hheard := State.slChar_heard hlistens hblind harmed hphase (.inr ⟨l, k, r, hwave, hshort⟩) hchar hfe hpe
    rw [State.slDue_slSampled hawait] at hheard
    refine exec_drain_of_eq rfl (hheard.trans (State.slTake_startCode ?_ ?_ ?_ ?_ edge hfe hpe))
    · exact (State.slTel_slCount ..).trans htel
    · exact (State.slS_slSampled_keeps SlS.await fun _ _ _ _ _ => rfl).trans hawait
    · exact (State.slS_slSampled_keeps SlS.phase fun _ _ _ _ _ => rfl).trans htelegram
    · exact (State.slS_slSampled_keeps SlS.curCount fun _ _ _ _ _ => rfl).trans hfirst
  case mark => exact exec_drain_of_eq rfl (State.slBreak_mark hlistens htel hlow hpacket hdub hhold hqueue hitems hempty)
  case idle => exact exec_drain_of_eq rfl ((State.slIdle_packet hphase htel).trans (State.slDeliver_inPhase .idle false true 0 hwhole))
  case lost =>
    exact exec_drain_of_eq rfl ((State.slIdle_packet hphase htel).trans
      (State.slDeliver_lost _ _ _ _ ((s.slS_inPhase_keeps SlS.curLost (fun _ _ => rfl) .idle).trans hlost)))
  case begins => exact exec_drain_of_eq rfl (State.slTelBreak_begins hlistens htel hphase hawait hlow hhigh)
  case ignored => exact exec_drain_of_eq rfl (State.slTelBreak_ignored hlistens htel hphase hawait hlow hhigh)
  case complete =>
    exact exec_drain_of_eq rfl ((State.slTelegramEnd_complete hphase hsome hcomplete).trans
      ((State.slEndTel_complete hawait _).trans (State.slDeliver_inPhase .ignore true _ _ hwhole)))
  case cut => exact exec_drain_of_eq rfl ((State.slTelGap_incomplete hphase hcoded hshort).trans (State.slEndTel_incomplete hawait _))
  case dub => exact exec_drain_of_eq rfl (State.slTelGap_dub hphase hsome)
  case stuck => exact exec_next_of_eq rfl (State.slStuck_new hpin hen hnew (State.slDue_of_not_due hdue) hphase)
  case stuckDue =>
    refine exec_next_of_eq rfl (State.slStuck_new hpin hen hnew (State.slDue_due hawait hdue) ?_)
    rwa [State.slS_slTxnEnd_keeps SlS.phase (fun _ _ _ => rfl) n.isLt]

end Sys2Proof.Machine
end


section
/-!
The end of RESP_TIMEOUT during a low (R339, R342), and a stuck line for which the statement of sending fails.
-/
namespace Sys2Proof.Machine

section Timeout

variable {s : State} {n : Fin 32} {a : SlAwait} (hawait : (s.slS n.val).await = some a) (hexpect : hdrExpect a.frame.hdr = 1)
variable (hnone : a.got = false)
include hawait hexpect hnone

/-- On a line that is not stuck a low that began in time may still prove the response's break (R339). -/
theorem State.slRespTimeout_low (hfree : s.rb (R.SL_STATUS n.val) 28 = false) :
    s.slRespTimeout n true = s.modSl n.val fun y => { y with await := some { a with due := true } } := by
  simp [State.slRespTimeout, hawait, hexpect, hnone, hfree]

/-- On a stuck line no low can prove a break any more, and the wait ends with RESP_TIMEOUT (R339, R342). -/
theorem State.slRespTimeout_stuck (hstuck : s.rb (R.SL_STATUS n.val) 28 = true) (low : Bool) :
    s.slRespTimeout n low = s.slTxnEnd n.val a.frame.owner 3 [] s.lantern := by
  simp [State.slRespTimeout, hawait, hexpect, hnone, hstuck]

end Timeout

/-- What line 31 of `stuckWaiting` awaits: the response to a telegram of the host. -/
def hostAwaits : SlAwait := ⟨Tests.frame5 1 [], 0, false, false, false, []⟩

/-- Line 31 in telegram mode, stuck while it awaits a response. -/
def stuckWaiting : State := (Tests.sl true fun x => { x with await := some hostAwaits }).setRb (R.SL_STATUS 31) 28 true

/-- Whether line 31 awaits a response after a command. -/
def stillAwaits (o : Host.Outcome State Fault Refusal) : Bool :=
  match o with
  | .next t => (t.slS 31).await.isSome
  | _ => false

/-- RESP_TIMEOUT ends the wait, though the line is low (R339, R342). -/
theorem exec_slResponseTimeout_stuckWaiting : exec (.slResponseTimeout 31 true) stuckWaiting =
    .next (stuckWaiting.after (stuckWaiting.slTxnEnd 31 .host 3 [] stuckWaiting.lantern).drain) :=
  exec_drain_of_eq rfl (State.slRespTimeout_stuck (n := 31) (a := hostAwaits) (by decide +kernel) (by decide) rfl (by decide +kernel) true)

/-- Refutes O47: the statement lets RESP_TIMEOUT wait for the end of any low under way. On a line that is stuck the low can no longer prove the
response's break, and the transaction ends at once (R339, R342), as `State.slRespTimeout_stuck` says; `State.slRespTimeout_low` gives the
stated outcome for a line that is not stuck. -/
theorem not_serialTransmit : ¬ Obligations.SerialTransmit := by
  intro h
  obtain ⟨-, -, -, -, -, hresponse, -⟩ := h stuckWaiting .host 31 0 false 0
  obtain ⟨htimeout, -⟩ := hresponse hostAwaits (by decide +kernel)
  obtain ⟨-, hlow⟩ := htimeout (by decide +kernel) (by decide +kernel)
  have hawaits := congrArg stillAwaits (exec_slResponseTimeout_stuckWaiting.symm.trans hlow)
  exact absurd hawaits (by decide +kernel)

end Sys2Proof.Machine
end

section
/-!
CAN FD controllers (chapter 11): what a change of one controller leaves alone, what its events and a free choice leave of the registers that its
rules read, and the registers whose write does more than store bits.
-/
namespace Sys2Proof.Machine

section
variable {s : State} {n : Nat}

/-! A change of a controller -/

/-- What a change of a controller keeps of it. -/
theorem State.canS_modCan_keeps {β : Type} (g : CanS → β) {f : CanS → CanS} (hf : ∀ x, g (f x) = g x) :
    g ((s.modCan n f).canS n) = g (s.canS n) :=
  getD_modAt_keeps g hf n n s.can CanS.rest

theorem modAt_modAt {α : Type} (i : Nat) (f g : α → α) (l : List α) : modAt i g (modAt i f l) = modAt i (fun x => g (f x)) l := by
  induction l generalizing i with
  | nil => rw [modAt, modAt, modAt]
  | cons x xs ih =>
    cases i with
    | zero => rfl
    | succ i => exact congrArg (x :: ·) (ih i)

/-- Two changes of a controller are one. -/
theorem State.modCan_modCan (f g : CanS → CanS) : (s.modCan n f).modCan n g = s.modCan n fun x => g (f x) :=
  congrArg (fun l => { s with can := l }) (modAt_modAt n f g s.can)

/-! Events of a controller -/

theorem not_booked_canCtl (hn : n < 8) : ¬ booked (R.CAN_CTL n) := by
  unfold R.CAN_CTL
  rintro (h | h | ⟨p, h⟩)
  · omega
  · unfold R.AON_FR_CTL at h
    omega
  · omega

theorem State.reg_canCtl_canEvent (hn : n < 8) (b : Nat) : (s.canEvent n b).reg (R.CAN_CTL n) = s.reg (R.CAN_CTL n) := by
  unfold State.canEvent
  split
  · rfl
  · exact ((unbooked_reg (not_booked_canCtl hn)).raiseIf _ _ (by omega)).trans (State.reg_setRb_ne _ (by unfold R.CAN_CTL R.CAN_EVENT; omega) ..)

/-! Error states -/

/-- A change of STATE to another than BUS_OFF raises its event alone (R365, R379). -/
theorem State.canSetState_change {st : Nat} (hne : s.canState n ≠ st) (hst : st ≠ 2) :
    s.canSetState n st = (s.setRf (R.CAN_ERR n) 31 30 st).canEvent n 6 := by
  rw [State.canSetState, if_neg hne]
  exact if_neg hst

/-- Entering INTEGRATING leaves CAN_CTL (R365). -/
theorem State.reg_canCtl_canIntegrate (hn : n < 8) : (s.canIntegrate n).reg (R.CAN_CTL n) = s.reg (R.CAN_CTL n) := by
  have hne : R.CAN_CTL n ≠ R.CAN_ERR n := by unfold R.CAN_CTL R.CAN_ERR; omega
  have hset (t : State) : (t.canSetState n 3).reg (R.CAN_CTL n) = t.reg (R.CAN_CTL n) := by
    by_cases h : t.canState n = 3
    · rw [State.canSetState, if_pos h]
    · rw [State.canSetState_change h (by decide), State.reg_canCtl_canEvent hn, State.reg_setRf_ne _ hne]
  exact (hset _).trans ((State.reg_setRf_ne _ hne ..).trans (State.reg_setRf_ne _ hne ..))

/-! Flags, acknowledgement and the measured loop delay -/

/-- A controller that takes part on its bus sends flags and acknowledges but in MONITOR and asleep (R351, R354, R371). -/
theorem State.when_canSpeaks (hlive : s.canLive n = true) (t : State) (f : State → State) :
    t.when (s.canSpeaks n) f = if s.canMonitor n = false ∧ (s.canS n).asleep = false then f t else t := by
  simp [State.when, State.canSpeaks, hlive]

/-- The measurement of the loop delay draws a free value and writes CAN_TDC_STATUS alone (R353, log 50). -/
theorem State.canTdc_keeps {β : Type} (g : State → β) (hfree : ∀ (t : State) c, g { t with freeCtr := c } = g t)
    (hreg : ∀ (t : State) v, g (t.setReg (R.CAN_TDC_STATUS n) v) = g t) (fr : List Byte) (early : Bool) : g (s.canTdc n fr early) = g s := by
  unfold State.canTdc
  split
  · dsimp only
    split
    · exact hfree ..
    · exact (hreg ..).trans (hfree ..)
  · rfl

theorem State.reg_canTdc {o : Nat} (ho : o ≠ R.CAN_TDC_STATUS n) (fr : List Byte) (early : Bool) : (s.canTdc n fr early).reg o = s.reg o :=
  State.canTdc_keeps (fun t => t.reg o) (fun _ _ => rfl) (fun t v => t.reg_setReg_ne ho v) fr early

theorem State.canS_canTdc (fr : List Byte) (early : Bool) : (s.canTdc n fr early).canS n = s.canS n :=
  State.canTdc_keeps (fun t => t.canS n) (fun _ _ => rfl) (fun _ _ => rfl) fr early

theorem State.canState_canTdc (fr : List Byte) (early : Bool) : (s.canTdc n fr early).canState n = s.canState n :=
  congrArg (fld · 31 30) (State.reg_canTdc (by unfold R.CAN_ERR R.CAN_TDC_STATUS; omega) fr early)

theorem State.canSpeaks_canTdc (fr : List Byte) (early : Bool) : (s.canTdc n fr early).canSpeaks n = s.canSpeaks n := by
  have hpin : (s.canTdc n fr early).pinOn = s.pinOn := State.canTdc_keeps State.pinOn (fun _ _ => rfl) (fun _ _ => rfl) fr early
  have hctl := State.reg_canTdc (s := s) (n := n) (o := R.CAN_CTL n) (by unfold R.CAN_CTL R.CAN_TDC_STATUS; omega) fr early
  have hcfg := State.reg_canTdc (s := s) (n := n) (o := R.CAN_CFG n) (by unfold R.CAN_CFG R.CAN_TDC_STATUS; omega) fr early
  simp only [State.canSpeaks, State.canLive, State.canMonitor, State.canCfg, State.canEn, State.rb, State.canState_canTdc, State.canS_canTdc, hpin,
    hctl, hcfg]

/-- A state with the error flag of controller `n`, as `s` has it: it shows the error state, and is not sent in MONITOR and asleep (R365). -/
def State.canFlagged (s : State) (n : Nat) (t : State) : State :=
  if s.canMonitor n = false ∧ (s.canS n).asleep = false then t.emit (.canFlag n (decide (s.canState n = 0))) else t

theorem State.canFlags_live (hlive : s.canLive n = true) : s.canFlags n = s.canFlagged n s := s.when_canSpeaks hlive s _

/-- The measurement of the loop delay leaves the error flag as it is. -/
theorem State.canFlags_canTdc (hlive : s.canLive n = true) (fr : List Byte) (early : Bool) :
    (s.canTdc n fr early).canFlags n = s.canFlagged n (s.canTdc n fr early) := by
  rw [State.canFlags, State.canSpeaks_canTdc, State.when_canSpeaks hlive, State.canState_canTdc]
  rfl

/-! Registers of a controller whose write does more -/

/-- A write of a controller's register that is neither staged nor a pair (R8). -/
theorem State.regWrite_canReg {r : Req} (hr : s.reqOn r = true) (hn : n < 8) {off k : Nat} {row : RegRow} (hl : rows_can[k]? = some row)
    (hpre : (rows_can.take k).all row.apart = true)
    (hrow : row.n1 = 8 ∧ row.s1 = 0x2000 ∧ row.n2 = 1 ∧ row.pair = .single ∧ row.wo ≠ 5)
    (hbase : 0x240000 ≤ row.base ∧ row.base < 0x242000 ∧ row.base % 4 = 0) (hoff : off = row.base + n * 0x2000) (v : Word) :
    s.regWrite r off 4 v = s.writePin row off n v := by
  obtain ⟨h1, hs, h2, hsingle, hwo⟩ := hrow
  have hnorm : normOff off = off := normOff_pin (by omega)
  have hrowOf : rowOf off = some row := by
    have h := findRow_indexed hl hpre h2 (hn.trans_eq h1.symm)
    rwa [hs, ← hoff, ← rowsAt_can (o := off) (by omega) (by omega), ← hnorm] at h
  have hix : row.ix1 off = n := by rw [RegRow.ix1, hnorm, hs]; omega
  have hpl : planeOf off = none := planeOf_pin (by omega)
  have hsc : isStageCtl off = false := by simp [isStageCtl, hrowOf, hwo]
  have hlog : logOf off = none := by rw [logOf, if_neg (by unfold R.EV_COLLECT_TAIL; omega), hpl]
  rw [State.regWrite_aligned hr (by omega), State.writeAll_of_le (by omega),
    State.writeReg_of_single (by omega) (by rw [State.there, hpl]) hrowOf hsc hlog hsingle, hpl, hix]

/-- A write of CAN_CTL (R366, R371, R375). -/
theorem State.regWrite_canCtl {r : Req} (hr : s.reqOn r = true) (hn : n < 8) (v : Word) : s.regWrite r (R.CAN_CTL n) 4 v = s.canCtl n v := by
  have hsl : ¬ (R.CAN_CTL n < 0x240000 ∧ n < 32) := by unfold R.CAN_CTL; omega
  exact (State.regWrite_canReg hr hn (k := 5) rfl (by decide) (by decide) (by decide) rfl v).trans ((dif_neg hsl).trans (if_pos ⟨rfl, hn⟩))

/-- A write of CAN_RXB_POP (R356). -/
theorem State.regWrite_canRxbPop {r : Req} (hr : s.reqOn r = true) (hn : n < 8) (v : Word) : s.regWrite r (R.CAN_RXB_POP n) 4 v = s.canPop n := by
  have hsl : ¬ (R.CAN_RXB_POP n < 0x240000 ∧ n < 32) := by unfold R.CAN_RXB_POP; omega
  have hctl : R.CAN_RXB_POP n ≠ R.CAN_CTL n := by unfold R.CAN_RXB_POP R.CAN_CTL; omega
  exact (State.regWrite_canReg hr hn (k := 13) rfl (by decide) (by decide) (by decide) rfl v).trans ((dif_neg hsl).trans
    ((if_neg fun h => hctl h.1).trans (if_pos ⟨rfl, hn⟩)))

/-- A write of CAN_TXW_CMD (R359, R360). -/
theorem State.regWrite_canTxwCmd {r : Req} (hr : s.reqOn r = true) (hn : n < 8) (v : Word) : s.regWrite r (R.CAN_TXW_CMD n) 4 v = s.canTxw n v := by
  have hsl : ¬ (R.CAN_TXW_CMD n < 0x240000 ∧ n < 32) := by unfold R.CAN_TXW_CMD; omega
  have hctl : R.CAN_TXW_CMD n ≠ R.CAN_CTL n := by unfold R.CAN_TXW_CMD R.CAN_CTL; omega
  have hpop : R.CAN_TXW_CMD n ≠ R.CAN_RXB_POP n := by unfold R.CAN_TXW_CMD R.CAN_RXB_POP; omega
  exact (State.regWrite_canReg hr hn (k := 14) rfl (by decide) (by decide) (by decide) rfl v).trans ((dif_neg hsl).trans
    ((if_neg fun h => hctl h.1).trans ((if_neg fun h => hpop h.1).trans (if_pos ⟨rfl, hn⟩))))

end

end Sys2Proof.Machine
end


section
/-!
Frames of a CAN FD controller: receipt (R354-R356), the host's accesses (R356, R359, R360), slots (R361-R363) and the ends of an attempt (R358,
R363).
-/
namespace Sys2Proof.Machine

section
variable {s : State} {n : Nat}

/-! Receipt -/

/-- A valid frame of another node is acknowledged, but in MONITOR and asleep, and counts, and the bus is idle after it (R354, R365). -/
theorem State.canValid_eq (hlive : s.canLive n = true) (hrec : s.rec_ n ≤ 127) :
    s.canValid n = ((((if s.canMonitor n = false ∧ (s.canS n).asleep = false then s.emit (.canAck n) else s).canCount n 0).canHeard n).canErrs n
      (s.tec n) (s.rec_ n - 1)).canIdle n := by
  rw [← State.when_canSpeaks hlive s fun t => t.emit (.canAck n)]
  simp only [State.canValid, hrec.not_gt, if_false]

section Receive

variable {stamp : Nat} {rtr : Bool} {desc data : List Byte} (hlive : s.canLive n = true)
  (hanswers : ∀ p, s.canAnswers p n desc data = none) (hstale : ∀ p, s.canStale p n desc data = none)
include hlive hanswers hstale

/-- A frame that answers no transaction finds the receive queue full (R355). -/
theorem State.canReceive_full (hfull : 128 ≤ ((s.canValid n).canS n).rxq.length) :
    s.canReceive n stamp rtr desc data = ((s.canValid n).canCount n 1).canEvent n 3 := by
  simp [State.canReceive, hlive, bothPlanes, hanswers, hstale, hfull]

/-- A frame that answers no transaction becomes an item, on the 2 ns grid, for the host alone where ROUTE is HOST (R354, R355). -/
theorem State.canReceive_host (hroom : ((s.canValid n).canS n).rxq.length < 128) (hroute : fld (s.canCfg n) 27 26 = 1) :
    s.canReceive n stamp rtr desc data =
      let q := (s.canValid n).reg (R.CAN_INSEQ n) + 1
      (((s.canValid n).setReg (R.CAN_INSEQ n) q).modCan n fun y =>
        { y with rxq := y.rxq ++ [⟨rtr, desc, data, stamp / 32 * 32, false, false, true, q⟩] }).canRefill n := by
  simp [State.canReceive, hlive, bothPlanes, hanswers, hstale, hroom.not_ge, hroute]

end Receive

/-! What the host writes (R359, R360) -/

/-- An abort discards the frames of the object that the command names. -/
theorem State.canTxw_abort (v : Word) : s.canTxw n (setBit v 31 true) = s.canDiscard n (fld v 5 0) 2 := by
  rw [State.canTxw, bit_setBit_same _ _ _ (by decide), setBit, fld_setFld_apart _ _ (le_refl 31) (by decide) (by decide)]
  rfl

/-- A frame that its controller does not refuse enters the host's object that the command names. -/
theorem State.canTxw_send {v : Word} (hsrc : s.txoSrc n (fld v 5 0) = 2) (hframe : s.badFrame n (s.txwFrame n) = false) :
    s.canTxw n (setBit v 31 false) = s.canEnter n (fld v 5 0) ⟨s.txwFrame n, .host⟩ := by
  rw [State.canTxw, bit_setBit_same _ _ _ (by decide), setBit, fld_setFld_apart _ _ (le_refl 31) (by decide) (by decide)]
  simp [State.canHostFrame, hsrc, hframe]

/-! Slots (R361-R363) -/

/-- A slot in use opens in the cycle of its controller's mirror. -/
theorem State.canSlotOpen_enabled (hpin : s.pinOn = true) (hen : s.canEn n = true) (hmirror : (s.cycMirror n).en = true) {sl : Nat}
    (hkind : s.rf (R.CAN_SLOT_START n sl) 31 30 ≠ 0) :
    s.canSlotOpen n sl = ((s.setRf (R.CAN_STATUS n) 15 8 sl).setRf (R.CAN_STATUS n) 23 18 (s.cycle n)).modCan n fun y =>
      { y with slot := some sl } := by
  simp [State.canSlotOpen, hpin, hen, hmirror, hkind]

/-- The object that goes first starts where its controller may send and the bus is idle. -/
theorem State.canStart_picked {k m : Nat} {f : TxFrame} (hslot : (s.canS n).slot = some k) (hlive : s.canLive n = true)
    (hmirror : (s.cycMirror n).en = true) (hmonitor : s.canMonitor n = false) (hawake : (s.canS n).asleep = false)
    (hsleep : s.rb (R.CAN_CTL n) 30 = false) (hbus : (s.canS n).onBus = none) (hrx : (s.canS n).rx = false)
    (hstop : (s.canS n).stopAtEnd = false) (hpick : s.pickObj n k = some (m, f)) :
    s.canStart n = (((s.emit (.can n (s.sentAs n f.octets))).addSat (R.CAN_TXO_STATUS n m) 15 0 1).setRb (R.CAN_TXO_STATUS n m) 29 true).modCan n
      fun y => { y with onBus := some ⟨m, f, s.lantern / 32 * 32, false⟩ } := by
  simp [State.canStart, hslot, hlive, hmirror, hmonitor, hawake, hsleep, hbus, hrx, hstop, hpick]

theorem State.mem_eligible {k m : Nat} : m ∈ s.eligible n k ↔ m ∈ s.scheduled n k ∧ ¬ (s.txoSrc n m = 1 ∧ s.canQuiet n = true) := by
  simp only [State.eligible, List.mem_filter, Bool.not_eq_true', ← Bool.not_eq_true, Bool.and_eq_true, beq_iff_eq]

/-- A window closes with a miss where a frame scheduled in it has not started and the controller takes part in the schedule. -/
theorem State.canSlotClose_eq {k : Nat} (hslot : (s.canS n).slot = some k) :
    s.canSlotClose n =
      if (∃ m ∈ s.scheduled n k, ∀ b, (s.canS n).onBus = some b → b.obj ≠ m) ∧
          s.canLive n = true ∧ (s.cycMirror n).en = true ∧ s.canMonitor n = false ∧ (s.canS n).asleep = false then
        ((s.modCan n fun y => { y with slot := none }).canCount n 8).canEvent n 2
      else s.modCan n fun y => { y with slot := none } := by
  have hleft (m : Nat) : ((s.canS n).onBus.map OnBus.obj != some m) = true ↔ ∀ b, (s.canS n).onBus = some b → b.obj ≠ m := by
    cases (s.canS n).onBus <;> simp
  simp only [State.canSlotClose, hslot, Bool.and_eq_true, List.any_eq_true, hleft, Bool.not_eq_true', and_assoc]

/-! The end of an attempt (R358, R363) -/

section Attempt

variable {b : OnBus} (hbus : (s.canS n).onBus = some b)
include hbus

/-- A lost arbitration leaves the frame in its object, behind the winner's frame. -/
theorem State.canArbLost_onBus :
    s.canArbLost n = (((s.canCount n 5).modCan n fun y => { y with acks := 0 }).setRb (R.CAN_TXO_STATUS n b.obj) 29 false).modCan n fun y =>
      { y with onBus := none, rx := true } := by
  have hstill : (((s.canCount n 5).canOther n).canS n).onBus = some b :=
    (State.canS_modCan_keeps (f := fun y => { y with acks := 0 }) CanS.onBus fun _ => rfl).trans hbus
  simp only [State.canArbLost, hbus, Option.isSome_some, if_true, State.canYield, hstill, State.modCan_modCan]
  rfl

/-- A frame sent is taken out, and its owner is told (R358, R365). -/
theorem State.canSent_whole (hwhole : b.gone = false) :
    s.canSent n =
      (((((((((s.canTdc n b.frame.octets false).canCount n 3).canHeard n).canErrs n (s.tec n - 1) (s.rec_ n)).setReg64
        (R.CAN_TXO_STAMP_LO n b.obj) (b.start / 16)).setRf (R.CAN_TXO_STATUS n b.obj) 27 24 1).modObj n b.obj fun o => ⟨o.next, none⟩).setRf
        (R.CAN_TXO_STATUS n b.obj) 15 0 0).canTold (some b.frame) true b.start).canOffBus n := by
  simp [State.canSent, hbus, hwhole]

end Attempt

end

/-- Settles O48, by what a received frame comes to, by the writes of a controller's command registers, and by how a slot opens, is used and
closes and an attempt ends. -/
theorem canFrames : Obligations.CanFrames := by
  intro s r n stamp rtr desc data v sl x
  refine ⟨fun hlive hrec hanswers hstale => ?receive,
    fun hr => ⟨exec_next_of_eq rfl (State.regWrite_canRxbPop hr n.isLt v),
      exec_drain_of_eq rfl ((State.regWrite_canTxwCmd hr n.isLt _).trans (State.canTxw_abort v)),
      fun hsrc hframe => exec_drain_of_eq rfl ((State.regWrite_canTxwCmd hr n.isLt _).trans (State.canTxw_send hsrc hframe))⟩,
    fun hpin hen hmirror hkind => exec_drain_of_eq rfl (State.canSlotOpen_enabled hpin hen hmirror hkind),
    fun k m f hslot hlive hmirror hmonitor hawake hsleep hbus hrx hstop hpick => exec_drain_of_eq rfl
      (State.canStart_picked hslot hlive hmirror hmonitor hawake hsleep hbus hrx hstop hpick),
    fun b hbus => ⟨exec_drain_of_eq rfl (State.canArbLost_onBus hbus),
      fun hwhole => exec_drain_of_eq rfl (State.canSent_whole hbus hwhole)⟩,
    fun k hslot => ⟨fun hmiss => ?miss, fun hmet => ?met, fun m => State.mem_eligible⟩⟩
  case receive =>
    intro s0 s1
    have hvalid : s.canValid n.val = s1 := State.canValid_eq hlive hrec
    rw [← hvalid]
    exact ⟨fun hfull => exec_drain_of_eq rfl (State.canReceive_full hlive hanswers hstale hfull),
      fun hroom hroute => exec_drain_of_eq rfl (State.canReceive_host hlive hanswers hstale hroom hroute)⟩
  case miss => exact exec_drain_of_eq rfl ((State.canSlotClose_eq hslot).trans (if_pos hmiss))
  case met => exact exec_drain_of_eq rfl ((State.canSlotClose_eq hslot).trans (if_neg hmet))

end Sys2Proof.Machine
end


section
/-!
Fault confinement, sleep and wake of a CAN FD controller: errors (R351, R365-R368), the bus falling idle, EN and SLEEP (R371, R375).
-/
namespace Sys2Proof.Machine

section
variable {s : State} {n : Nat}

/-! Errors (R351, R365, R367, R368) -/

section Errors

variable (hlive : s.canLive n = true)
include hlive

/-- An error of the receiver sends its flag and counts 1. -/
theorem State.canRxError_live (code : Nat) (dp : Bool) :
    s.canRxError n code dp =
      ((((s.canFlagged n s).canCount n 2).lec n code dp).canErrs n (s.tec n) (s.rec_ n + 1)).canIdle n := by
  rw [State.canRxError, State.canFlags_live hlive]

variable {b : OnBus} (hbus : (s.canS n).onBus = some b)
include hbus

/-- An error of the transmitter that is no ACK error sends its flag and ends the row of ACK errors. -/
theorem State.canTxError_other (code : Nat) (dp : Bool) (up : Nat) :
    s.canTxError n code dp false up = (((((s.canFlagged n (s.canTdc n b.frame.octets (!dp))).canCount n 4).lec n code dp).modCan n fun y =>
      { y with acks := 0 }).canErrs n (s.tec n + up) (s.rec_ n)).canOffBus n := by
  rw [← State.canFlags_canTdc hlive]
  simp [State.canTxError, hbus, State.canOther]

/-- An ACK error counts itself and lengthens its row. -/
theorem State.canTxError_ack (code : Nat) (up : Nat) :
    s.canTxError n code false true up = ((((((s.canFlagged n (s.canTdc n b.frame.octets false)).canCount n 4).lec n code false).canCount n
      11).modCan n fun y => { y with acks := y.acks + 1 }).canErrs n (s.tec n + up) (s.rec_ n)).canOffBus n := by
  rw [← State.canFlags_canTdc hlive]
  simp [State.canTxError, hbus]

end Errors

/-! Recovery and integration (R365-R367) -/

theorem State.canLone_new (hacks : 64 ≤ (s.canS n).acks) (hnew : s.rb (R.CAN_STATUS n) 26 = false) :
    s.canLone n = (s.setRb (R.CAN_STATUS n) 26 true).canEvent n 4 := by
  simp [State.canLone, hacks, hnew]

theorem State.canRecovered_busOff (hpin : s.pinOn = true) (hen : s.canEn n = true) (hstate : s.canState n = 2)
    (hrecovering : (s.canS n).recovering = true) : s.canRecovered n = s.canIntegrate n := by
  simp [State.canRecovered, hpin, hen, hstate, hrecovering]

theorem State.canJoin_integrating (hpin : s.pinOn = true) (hen : s.canEn n = true) (hstate : s.canState n = 3) :
    s.canJoin n = ((s.setRf (R.CAN_ERR n) 31 30 0).canEvent n 6).canIdle n := by
  have hne : s.canState n ≠ 0 := by omega
  rw [← State.canSetState_change hne (by decide)]
  simp [State.canJoin, hpin, hen, hstate]

/-! The bus falls idle (R371, R375) -/

/-- A controller at a bus-idle instant before SLEEP is looked at: EN that was cleared during a frame takes effect. -/
def State.canStops (s : State) (n : Nat) : State :=
  let idle := s.modCan n fun y => { y with rx := false }
  if (s.canS n).stopAtEnd then (idle.setRb (R.CAN_CTL n) 31 false).modCan n fun y => { y with stopAtEnd := false, slot := none } else idle

theorem State.rb_sleep_canStops : (s.canStops n).rb (R.CAN_CTL n) 30 = s.rb (R.CAN_CTL n) 30 := by
  unfold State.canStops
  dsimp only
  split
  · exact State.rb_setRb_ne (s.modCan n fun y => { y with rx := false }) _ _ (by decide) (by decide)
  · rfl

theorem State.canIdle_eq :
    s.canIdle n = if s.rb (R.CAN_CTL n) 30 = true then (s.canStops n).modCan n fun y => { y with asleep := true } else s.canStops n := by
  have hstop : ((s.modCan n fun y => { y with rx := false }).canS n).stopAtEnd = (s.canS n).stopAtEnd :=
    State.canS_modCan_keeps CanS.stopAtEnd fun _ => rfl
  rw [← State.rb_sleep_canStops, State.canStops, ← hstop]
  rfl

/-! Whether a frame is on the bus (R371, R375; log 49) -/

theorem State.canBusy_there (h : (s.canS n).onBus ≠ none ∨ (s.canS n).rx = true) : s.canBusy n = (true, s) :=
  if_pos (by simpa [Option.isSome_iff_ne_none] using h)

section NotThere

variable (hnone : ¬ ((s.canS n).onBus ≠ none ∨ (s.canS n).rx = true)) (hen : s.canEn n = true)
include hnone hen

/-- Where a frame of another node that no row begins may be there, whether it is is free. -/
theorem State.canBusy_maybe (hmaybe : s.pinOn = true ∧ s.canState n ≠ 2) :
    s.canBusy n = (bit s.free32.1 0, s.free32.2.modCan n fun y => { y with rx := bit s.free32.1 0 }) := by
  obtain ⟨hpin, hstate⟩ := hmaybe
  exact (if_neg (by simpa [Option.isSome_iff_ne_none] using hnone)).trans (if_pos (by simp [hpin, hen, hstate]))

theorem State.canBusy_free (hfree : ¬ (s.pinOn = true ∧ s.canState n ≠ 2)) : s.canBusy n = (false, s) :=
  (if_neg (by simpa [Option.isSome_iff_ne_none] using hnone)).trans (if_neg (by simpa [hen] using hfree))

end NotThere

/-! EN and SLEEP written (R371, R375) -/

/-- EN and SLEEP of a write of CAN_CTL alone. -/
theorem State.canCtl_of_bits {v : Word} {en sleep : Bool} (hen : bit v 31 = en) (hsleep : bit v 30 = sleep) (hrecover : bit v 29 = false) :
    s.canCtl n v = (s.canSetEn n en).canSetSleep n sleep := by
  rw [State.canCtl, hen, hsleep, hrecover]
  rfl

/-- EN = 1 of a controller that is enabled and not about to stop changes nothing. -/
theorem State.canSetEn_kept (hstop : (s.canS n).stopAtEnd = false) (hen : s.canEn n = true) : s.canSetEn n true = s := by
  simp [State.canSetEn, hstop, hen]

/-- EN = 0 takes effect where no frame is on the bus, and else when the bus falls idle. -/
theorem State.canSetEn_off {busy : Bool} {t : State} (hstop : (s.canS n).stopAtEnd = false) (hen : s.canEn n = true)
    (hbusy : s.canBusy n = (busy, t)) :
    s.canSetEn n false = if busy then t.modCan n fun y => { y with stopAtEnd := true }
      else (t.setRb (R.CAN_CTL n) 31 false).modCan n fun y => { y with slot := none } := by
  simp [State.canSetEn, hstop, hen, hbusy]

theorem State.canSetSleep_awake (h : s.rb (R.CAN_CTL n) 30 = false) : s.canSetSleep n false = s := by
  simp [State.canSetSleep, h]

/-- Sleep begins at the next bus-idle instant. -/
theorem State.canSetSleep_new {busy : Bool} {t : State} (h : s.rb (R.CAN_CTL n) 30 = false) (hbusy : s.canBusy n = (busy, t)) :
    s.canSetSleep n true = (t.setRb (R.CAN_CTL n) 30 true).modCan n fun y => { y with asleep := !busy } := by
  simp [State.canSetSleep, h, hbusy]

/-- A controller that sleeps wakes, joins its bus again and raises its event. -/
theorem State.canSetSleep_wakes (h : s.rb (R.CAN_CTL n) 30 = true) (hasleep : (s.canS n).asleep = true) :
    s.canSetSleep n false =
      (((s.setRb (R.CAN_CTL n) 30 false).modCan n fun y => { y with asleep := false }).canIntegrate n).raise (72 + n) := by
  simp [State.canSetSleep, h, hasleep]

/-- What meets a sleeping controller's filter wakes it. -/
theorem State.canWake_met {heard : CanHeard} (hpin : s.pinOn = true) (hen : s.canEn n = true) (hasleep : (s.canS n).asleep = true)
    (hsleep : s.rb (R.CAN_CTL n) 30 = true) (hmet : s.canWakesOn n heard = true) :
    s.canWake n heard = (((s.setRb (R.CAN_CTL n) 30 false).modCan n fun y => { y with asleep := false }).canIntegrate n).raise (72 + n) :=
  (if_pos (by simp [hpin, hen, hasleep, hmet])).trans (State.canSetSleep_wakes hsleep hasleep)

/-- EN and SLEEP as they stand, in a write that keeps them. -/
theorem bit_keepEnSleep (w : Word) :
    bit (w &&& 0xC0000000) 31 = bit w 31 ∧ bit (w &&& 0xC0000000) 30 = bit w 30 ∧ bit (w &&& 0xC0000000) 29 = false := by
  simp [bit]

/-- RECOVER written beside them. -/
theorem bit_keepEnSleep_recover (w : Word) :
    bit ((w &&& 0xC0000000) ||| 0x20000000) 31 = bit w 31 ∧ bit ((w &&& 0xC0000000) ||| 0x20000000) 30 = bit w 30 ∧
      bit ((w &&& 0xC0000000) ||| 0x20000000) 29 = true := by
  simp [bit]

section Written

variable {r : Req} (hr : s.reqOn r = true) (hn : n < 8)
include hr hn

/-- A command that writes EN keeps SLEEP. -/
theorem State.canBits_en (en : Bool) :
    (s.canBits r n fun w => setBit w 31 en) = (s.canSetEn n en).canSetSleep n (s.rb (R.CAN_CTL n) 30) := by
  obtain ⟨-, hsleep, hrecover⟩ := bit_keepEnSleep (s.reg (R.CAN_CTL n))
  refine (State.regWrite_canCtl hr hn _).trans (State.canCtl_of_bits (bit_setBit_same _ _ _ (by decide)) ?_ ?_)
  · rw [bit_setBit_ne _ _ (by decide) (by decide), hsleep, State.rb]
  · rw [bit_setBit_ne _ _ (by decide) (by decide), hrecover]

/-- A command that writes SLEEP keeps EN. -/
theorem State.canBits_sleep (sleep : Bool) :
    (s.canBits r n fun w => setBit w 30 sleep) = (s.canSetEn n (s.canEn n)).canSetSleep n sleep := by
  obtain ⟨hen, -, hrecover⟩ := bit_keepEnSleep (s.reg (R.CAN_CTL n))
  refine (State.regWrite_canCtl hr hn _).trans (State.canCtl_of_bits ?_ (bit_setBit_same _ _ _ (by decide)) ?_)
  · rw [bit_setBit_ne _ _ (by decide) (by decide), hen, State.canEn, State.rb]
  · rw [bit_setBit_ne _ _ (by decide) (by decide), hrecover]

variable (hstop : (s.canS n).stopAtEnd = false)
include hstop

section Awake

variable (hawake : s.rb (R.CAN_CTL n) 30 = false)
include hawake

/-- A controller that is enabled enters INTEGRATING. -/
theorem State.canBits_enable (hen : s.canEn n = false) :
    (s.canBits r n fun w => setBit w 31 true) = (s.setRb (R.CAN_CTL n) 31 true).canIntegrate n := by
  have hon : s.canSetEn n true = (s.setRb (R.CAN_CTL n) 31 true).canIntegrate n := by simp [State.canSetEn, hstop, hen]
  have hstill : ((s.setRb (R.CAN_CTL n) 31 true).canIntegrate n).rb (R.CAN_CTL n) 30 = false := by
    rw [State.rb, State.reg_canCtl_canIntegrate hn]
    exact (State.rb_setRb_ne _ _ _ (by decide) (by decide)).trans hawake
  rw [State.canBits_en hr hn, hawake, hon, State.canSetSleep_awake hstill]

variable (hen : s.canEn n = true) {busy : Bool} {t : State} (hbusy : s.canBusy n = (busy, t))
include hen hbusy

theorem State.canBits_disable :
    (s.canBits r n fun w => setBit w 31 false) = if busy then t.modCan n fun y => { y with stopAtEnd := true }
      else (t.setRb (R.CAN_CTL n) 31 false).modCan n fun y => { y with slot := none } := by
  have ht : t.rb (R.CAN_CTL n) 30 = false := by
    have hsame : (s.canBusy n).2.rb (R.CAN_CTL n) 30 = s.rb (R.CAN_CTL n) 30 := by
      unfold State.canBusy
      dsimp only
      split_ifs <;> rfl
    rwa [hbusy, hawake] at hsame
  rw [State.canBits_en hr hn, hawake, State.canSetEn_off hstop hen hbusy]
  refine State.canSetSleep_awake ?_
  split
  · exact ht
  · exact (State.rb_setRb_ne t _ _ (by decide) (by decide)).trans ht

theorem State.canBits_sleepSet :
    (s.canBits r n fun w => setBit w 30 true) = (t.setRb (R.CAN_CTL n) 30 true).modCan n fun y => { y with asleep := !busy } := by
  rw [State.canBits_sleep hr hn, hen, State.canSetEn_kept hstop hen, State.canSetSleep_new hawake hbusy]

end Awake

theorem State.canBits_sleepClear (hen : s.canEn n = true) (hsleep : s.rb (R.CAN_CTL n) 30 = true) (hasleep : (s.canS n).asleep = true) :
    (s.canBits r n fun w => setBit w 30 false) =
      (((s.setRb (R.CAN_CTL n) 30 false).modCan n fun y => { y with asleep := false }).canIntegrate n).raise (72 + n) := by
  rw [State.canBits_sleep hr hn, hen, State.canSetEn_kept hstop hen, State.canSetSleep_wakes hsleep hasleep]

/-- RECOVER begins the recovery of a controller that is BUS_OFF (R366). -/
theorem State.canBits_recover (hawake : s.rb (R.CAN_CTL n) 30 = false) (hen : s.canEn n = true) (hstate : s.canState n = 2) :
    (s.canBits r n fun w => w ||| 0x20000000) = s.modCan n fun y => { y with recovering := true } := by
  obtain ⟨hon, hsleep, hrecover⟩ := bit_keepEnSleep_recover (s.reg (R.CAN_CTL n))
  have hsame : (s.canSetEn n (bit (s.reg (R.CAN_CTL n)) 31)).canSetSleep n (bit (s.reg (R.CAN_CTL n)) 30) = s := by
    rw [show bit (s.reg (R.CAN_CTL n)) 31 = true from hen, show bit (s.reg (R.CAN_CTL n)) 30 = false from hawake, State.canSetEn_kept hstop hen,
      State.canSetSleep_awake hawake]
  refine (State.regWrite_canCtl hr hn _).trans ?_
  rw [State.canCtl, hon, hsleep, hrecover, hsame]
  exact if_pos hstate

end Written

end

/-- Settles O49, by what each error and the bus falling idle come to, and by the writes of CAN_CTL that the rows of EN and SLEEP are. -/
theorem canConfinement : Obligations.CanConfinement := by
  intro s r n code dp x
  refine ⟨fun hlive => ?errors, fun hacks hnew => exec_drain_of_eq rfl (State.canLone_new hacks hnew),
    fun hpin hen hstate hrecovering => exec_next_of_eq rfl (State.canRecovered_busOff hpin hen hstate hrecovering),
    fun hpin hen hstate => exec_next_of_eq rfl (State.canJoin_integrating hpin hen hstate),
    ⟨fun hawake => State.canIdle_eq.trans (if_neg (by simp [hawake])), fun hsleep => State.canIdle_eq.trans (if_pos hsleep)⟩,
    fun clocks desc data hpin hen hasleep hsleep => ?wakes, fun hr hstop => ?written⟩
  case errors =>
    intro speaks flag received
    have hdead : ¬ ((!s.canLive n.val) = true) := by simp [hlive]
    refine ⟨fun b hbus => ⟨?tx, ?stuff, fun dominant => ?ack⟩, ?rx, ?exception, ?overload, ?txDominant, ?rxDominant⟩
    case tx => exact exec_drain_of_eq rfl ((if_neg hdead).trans (State.canTxError_other hlive hbus ..))
    case stuff => exact exec_drain_of_eq rfl ((if_neg hdead).trans (State.canTxError_other hlive hbus ..))
    case ack =>
      refine exec_drain_of_eq rfl ((if_neg hdead).trans ((State.canTxError_ack hlive hbus ..).trans ?_))
      simp only [Bool.and_eq_true, decide_eq_true_eq, Bool.not_eq_true']
      rfl
    case rx => exact exec_drain_of_eq rfl ((if_neg hdead).trans (State.canRxError_live hlive ..))
    case exception =>
      refine exec_drain_of_eq rfl ((if_neg hdead).trans ?_)
      exact congrArg (fun t => if bit (s.canCfg n.val) 28 = true then s.canCount n.val 10 else t) (State.canRxError_live hlive ..)
    case overload => exact exec_drain_of_eq rfl ((if_neg hdead).trans (congrArg (State.canCount · n.val 2) (State.when_canSpeaks hlive ..)))
    case txDominant => exact exec_drain_of_eq rfl (if_neg hdead)
    case rxDominant => exact exec_drain_of_eq rfl (if_neg hdead)
  case wakes =>
    refine ⟨fun hlevel hlong => exec_next_of_eq rfl (State.canWake_met hpin hen hasleep hsleep ?level),
      fun hframe hide hid hdata => exec_next_of_eq rfl (State.canWake_met hpin hen hasleep hsleep ?frame)⟩
    case level => simp only [State.canWakesOn, hlevel, hlong, decide_true]
    case frame => simp only [State.canWakesOn, wakeFrame, hframe, hide, hid, hdata, beq_self_eq_true, Bool.and_self]
  case written =>
    intro there maybe drawn off late sleep
    have hrows (hawake : s.rb (R.CAN_CTL n.val) 30 = false) (hen : s.canEn n.val = true) {busy : Bool} {t : State}
        (hbusy : s.canBusy n.val = (busy, t)) :
        exec (.canDisable r n) s = .next (s.after (if busy then late t else off t).drain) ∧
          exec (.canSleep r n) s = .next (s.after (sleep t (!busy)).drain) :=
      ⟨exec_drain_of_eq rfl (State.canBits_disable hr n.isLt hstop hawake hen hbusy),
        exec_drain_of_eq rfl (State.canBits_sleepSet hr n.isLt hstop hawake hen hbusy)⟩
    refine ⟨fun hawake => ⟨fun hen => ?enable, fun hen => ⟨fun hthere => ?there, fun hmaybe => ?maybe, fun hnone hfree => ?free⟩,
      fun hen hstate => ?recover⟩, fun hsleep hen hasleep => ?wake⟩
    case enable => exact exec_drain_of_eq rfl (State.canBits_enable hr n.isLt hstop hawake hen)
    case there => simpa only [if_true, Bool.not_true] using hrows hawake hen (State.canBusy_there hthere)
    case maybe =>
      obtain ⟨hnone, hmay⟩ := hmaybe
      exact hrows hawake hen (State.canBusy_maybe hnone hen hmay)
    case free =>
      have hbusy := State.canBusy_free hnone hen fun h => hfree ⟨hnone, h⟩
      simpa only [Bool.false_eq_true, if_false, Bool.not_false] using hrows hawake hen hbusy
    case recover => exact exec_drain_of_eq rfl (State.canBits_recover hr n.isLt hstop hawake hen hstate)
    case wake => exact exec_drain_of_eq rfl (State.canBits_sleepClear hr n.isLt hstop hen hsleep hasleep)

end Sys2Proof.Machine
end


section
/-!
The queue of commands: a step takes the command at its front, and runs each in its turn (R417).
-/
namespace Sys2Proof.Machine

theorem step_cons (c : Instr) (cs : List Instr) (s : State) : step { s with pending := c :: cs } = exec c { s with pending := cs } := rfl

theorem step_of_cons {c : Instr} {cs : List Instr} {s : State} (h : s.pending = c :: cs) : step s = exec c { s with pending := cs } := by
  rw [step, h]

/-- What a command changes, it leaves the queue as it finds it. -/
theorem State.pending_after (s t : State) : (s.after t).pending = s.pending := by rw [State.after]

/-- The command at the front comes to a next state, which the queue's rest waits in. -/
theorem step_pops {c : Instr} {cs : List Instr} {s : State} (h : s.pending = c :: cs) : ∃ t, step s = .next t ∧ t.pending = cs := by
  obtain ⟨t, ht⟩ := exec_eq_after c { s with pending := cs }
  exact ⟨_, (step_of_cons h).trans ht, State.pending_after ..⟩

theorem core_run_succ {M : Host.Core} {s t : M.State} (h : M.step s = .next t) (k : Nat) : M.run (k + 1) s = M.run k t := by
  rw [Host.Core.run, h]

/-- Settles O1, by what a step does where a command waits. -/
theorem stepRunsFrontCommand : Obligations.StepRunsFrontCommand := step_cons

/-- Settles O2, by induction on the commands in front: each step takes one of them off the queue. -/
theorem commandsRunInOrder : Obligations.CommandsRunInOrder := by
  intro cs ds
  induction cs with
  | nil => exact fun s hqueue => ⟨s, rfl, hqueue⟩
  | cons c cs ih =>
    intro s hqueue
    obtain ⟨u, hstep, hrest⟩ := step_pops hqueue
    obtain ⟨t, hrun, hleft⟩ := ih u hrest
    exact ⟨t, (core_run_succ (M := Sys2Proof.core) hstep cs.length).trans hrun, hleft⟩

end Sys2Proof.Machine
end


section
/-!
The event registers and MSI-X (R450, R453, R454).
-/
namespace Sys2Proof.Machine

/-! The rows of the event registers -/

theorem rowsAt_global {o : Nat} (h : o < 0x100000) : rowsAt o = rows_global := if_pos h

/-- The row of a repeated register of the global range, and its place in it. -/
theorem rowOf_global {row : RegRow} {k n : Nat} (hl : rows_global[k]? = some row) (hpre : (rows_global.take k).all row.apart = true)
    (h2 : row.n2 = 1) (hs : 0 < row.s1) (hend : row.base + row.n1 * row.s1 ≤ 0x100000) (hn : n < row.n1) :
    rowOf (row.base + n * row.s1) = some row ∧ row.ix1 (row.base + n * row.s1) = n := by
  have hlt : row.base + n * row.s1 < 0x100000 :=
    lt_of_lt_of_le (Nat.add_lt_add_left (Nat.mul_lt_mul_of_pos_right hn hs) _) hend
  have hnorm : normOff (row.base + n * row.s1) = row.base + n * row.s1 := normOff_pin (by omega)
  constructor
  · rw [rowOf, hnorm, rowsAt_global hlt]
    exact findRow_indexed hl hpre h2 hn
  · rw [RegRow.ix1, hnorm, Nat.add_sub_cancel_left, Nat.mul_div_cancel _ hs]

theorem rowOf_evStatus {n : Nat} (hn : n < 8) :
    rowOf (R.EV_STATUS n) = some rows_global[19] ∧ rows_global[19].ix1 (R.EV_STATUS n) = n :=
  rowOf_global (row := rows_global[19]) (k := 19) rfl (by decide) rfl (by decide) (by decide) hn

theorem rowOf_evMask {n : Nat} (hn : n < 8) : rowOf (R.EV_MASK n) = some rows_global[21] ∧ rows_global[21].ix1 (R.EV_MASK n) = n :=
  rowOf_global (row := rows_global[21]) (k := 21) rfl (by decide) rfl (by decide) (by decide) hn

theorem rowOf_evRoute {n : Nat} (hn : n < 256) : rowOf (R.EV_ROUTE n) = some rows_global[34] ∧ rows_global[34].ix1 (R.EV_ROUTE n) = n :=
  rowOf_global (row := rows_global[34]) (k := 34) rfl (by decide) rfl (by decide) (by decide) hn

/-! Writes of the event registers (R450, R453, R454) -/

/-- No register of the host queues stands among the event registers. -/
theorem not_hostQueue {off : Nat} (h : 0x2000 ≤ off) (i : Nat) : ¬(off = R.HQ_CTL i ∧ i < 4) ∧ isHqBase off = false := by
  constructor
  · unfold R.HQ_CTL; omega
  · simp only [isHqBase, R.HQ_SQ_BASE_LO, R.HQ_SQ_BASE_HI, R.HQ_RQ_BASE_LO, R.HQ_RQ_BASE_HI, List.any_eq_false, List.mem_cons,
      List.not_mem_nil, or_false, Bool.or_eq_true, beq_iff_eq]
    omega

section Writes

variable (s : State) (r : Req) {n : Nat} (v : Word)

/-- A write of the status or the mask of events requests messages of all vectors that are active then. -/
theorem State.writeAll_events {off : Nat} {row : RegRow} (hrow : rowOf off = some row) (hix : row.ix1 off = n) (hn : n < 8)
    (hoff : off = R.EV_STATUS n ∨ off = R.EV_MASK n) : s.writeAll r off v = (s.put row off v 0).settle 0 true := by
  have hrange : 0x2000 ≤ off ∧ off < 0x200000 := by
    simp only [R.EV_STATUS, R.EV_MASK] at hoff
    omega
  obtain ⟨hctl, hbase⟩ := not_hostQueue hrange.1 n
  simp only [State.writeAll, hrow, hix, if_neg hrange.2.not_ge, if_neg hctl, hbase, Bool.false_and, Bool.false_eq_true, if_false,
    if_pos (And.intro hoff hn)]

theorem State.writeAll_evStatus (hn : n < 8) :
    s.writeAll r (R.EV_STATUS n) v = (s.put rows_global[19] (R.EV_STATUS n) v 0).settle 0 true :=
  s.writeAll_events r v (rowOf_evStatus hn).1 (rowOf_evStatus hn).2 hn (.inl rfl)

/-- A row of fields without ranges or stage copies. -/
theorem State.put_unranged {row : RegRow} {off : Nat} (hranges : row.ranges = []) (hst : row.st = 0) : s.put row off v 0 =
    s.setReg off (((s.reg off &&& ~~~BitVec.ofNat 32 row.rw) ||| (v &&& BitVec.ofNat 32 row.rw)) &&& ~~~(v &&& BitVec.ofNat 32 row.w1c)) := by
  simp only [State.put, hst, if_true, RegRow.fit, hranges, List.foldl_nil, BitVec.not_zero, BitVec.and_allOnes, BitVec.ofNat_eq_ofNat, BitVec.zero_and,
    BitVec.or_zero]

/-- Every bit of EV_STATUS clears where 1 is written. -/
theorem State.put_evStatus :
    s.put rows_global[19] (R.EV_STATUS n) v 0 = s.setReg (R.EV_STATUS n) (s.reg (R.EV_STATUS n) &&& ~~~v) := by
  have hmasks : BitVec.ofNat 32 rows_global[19].rw = 0 ∧ BitVec.ofNat 32 rows_global[19].w1c = BitVec.allOnes 32 := by decide
  rw [State.put_unranged s v (by rfl) (by rfl), hmasks.1, hmasks.2]
  simp only [BitVec.ofNat_eq_ofNat, BitVec.not_zero, BitVec.and_allOnes, BitVec.and_zero, BitVec.or_zero]

/-- EV_MASK takes every bit written. -/
theorem State.put_evMask : s.put rows_global[21] (R.EV_MASK n) v 0 = s.setReg (R.EV_MASK n) v := by
  have hmasks : BitVec.ofNat 32 rows_global[21].rw = BitVec.allOnes 32 ∧ BitVec.ofNat 32 rows_global[21].w1c = 0 := by decide
  rw [State.put_unranged s v (by rfl) (by rfl), hmasks.1, hmasks.2]
  simp only [BitVec.ofNat_eq_ofNat, BitVec.not_allOnes, BitVec.not_zero, BitVec.and_allOnes, BitVec.and_zero, BitVec.zero_or]

/-- EV_ROUTE takes its fields. -/
theorem State.put_evRoute : s.put rows_global[34] (R.EV_ROUTE n) v 0 =
    s.setReg (R.EV_ROUTE n) ((s.reg (R.EV_ROUTE n) &&& ~~~0xE03F0003) ||| (v &&& 0xE03F0003)) := by
  have hmasks : BitVec.ofNat 32 rows_global[34].rw = 0xE03F0003 ∧ BitVec.ofNat 32 rows_global[34].w1c = 0 := by decide
  rw [State.put_unranged s v (by rfl) (by rfl), hmasks.1, hmasks.2]
  simp only [BitVec.ofNat_eq_ofNat, BitVec.not_zero, BitVec.and_allOnes, BitVec.and_zero]

theorem State.writeAll_evMask (hn : n < 8) : s.writeAll r (R.EV_MASK n) v = (s.setReg (R.EV_MASK n) v).settle 0 true := by
  rw [s.writeAll_events r v (rowOf_evMask hn).1 (rowOf_evMask hn).2 hn (.inr rfl), State.put_evMask]

/-- A write of a route requests messages of the vectors that become active by it. -/
theorem State.writeAll_evRoute (hn : n < 256) : s.writeAll r (R.EV_ROUTE n) v =
    (s.setReg (R.EV_ROUTE n) ((s.reg (R.EV_ROUTE n) &&& ~~~0xE03F0003) ||| (v &&& 0xE03F0003))).settle s.activeVecs false := by
  obtain ⟨hrow, hix⟩ := rowOf_evRoute hn
  have hrange : 0x2400 ≤ R.EV_ROUTE n ∧ R.EV_ROUTE n < 0x200000 := by unfold R.EV_ROUTE; omega
  have hevents : ¬((R.EV_ROUTE n = R.EV_STATUS n ∨ R.EV_ROUTE n = R.EV_MASK n) ∧ n < 8) := by
    simp only [R.EV_ROUTE, R.EV_STATUS, R.EV_MASK]; omega
  obtain ⟨hctl, hbase⟩ := not_hostQueue (show 0x2000 ≤ R.EV_ROUTE n by omega) n
  simp only [State.writeAll, hrow, hix, if_neg hrange.2.not_ge, if_neg hctl, hbase, Bool.false_and, Bool.false_eq_true, if_false,
    if_neg hevents, true_and, if_pos hn, State.put_evRoute]

end Writes

/-! Events that hardware raises in the cycle of a write (R450, R451, R457) -/

theorem State.reg_settle (s : State) (old : BitVec 64) (all : Bool) (o : Nat) : (s.settle old all).reg o = s.reg o := State.reg_requestAll ..

/-- An event without an event sentence has its status bit set, and nothing more before its message. -/
theorem State.eventSentence_off {s : State} {n : Nat} (h : s.rb (R.EV_ROUTE n) 29 = false) : s.eventSentence n = s := by
  simp [State.eventSentence, h]

theorem evRoute_ne_evStatus {i n : Nat} (hi : i < 8) : R.EV_ROUTE n ≠ R.EV_STATUS i := by unfold R.EV_ROUTE R.EV_STATUS; omega

/-- Raises of events of one status register that have no event sentence: the bits of that register, and no other register. -/
theorem State.reg_marked {i : Nat} (hi : i < 8) {js : List Nat} {s : State} (hjs : ∀ j ∈ js, j < 32 ∧ s.rb (R.EV_ROUTE (32 * i + j)) 29 = false) :
    let t := s.each js fun s j => (s.markEvent (32 * i + j)).eventSentence (32 * i + j)
    (∀ k, k < 32 → bit (t.reg (R.EV_STATUS i)) k = (bit (s.reg (R.EV_STATUS i)) k || decide (k ∈ js))) ∧
      ∀ o, o ≠ R.EV_STATUS i → t.reg o = s.reg o := by
  induction js generalizing s with
  | nil => exact ⟨fun k _ => by simp [State.each], fun o _ => rfl⟩
  | cons j js ih =>
    obtain ⟨hj, hroute⟩ := hjs j List.mem_cons_self
    have hplace : (32 * i + j) / 32 = i ∧ (32 * i + j) % 32 = j := by omega
    have hmark : s.markEvent (32 * i + j) = s.setRb (R.EV_STATUS i) j true := by rw [State.markEvent, hplace.1, hplace.2]
    have hkept (n : Nat) : (s.setRb (R.EV_STATUS i) j true).rb (R.EV_ROUTE n) 29 = s.rb (R.EV_ROUTE n) 29 :=
      State.rb_setReg_ne _ (evRoute_ne_evStatus hi) _ _
    have hfirst : (s.markEvent (32 * i + j)).eventSentence (32 * i + j) = s.setRb (R.EV_STATUS i) j true := by
      rw [hmark, State.eventSentence_off ((hkept _).trans hroute)]
    obtain ⟨hbits, hothers⟩ := ih (s := s.setRb (R.EV_STATUS i) j true) fun k hk =>
      ⟨(hjs k (List.mem_cons_of_mem _ hk)).1, (hkept _).trans (hjs k (List.mem_cons_of_mem _ hk)).2⟩
    intro t
    have ht : t = (s.setRb (R.EV_STATUS i) j true).each js fun s j => (s.markEvent (32 * i + j)).eventSentence (32 * i + j) :=
      congrArg (fun u : State => u.each js fun s j => (s.markEvent (32 * i + j)).eventSentence (32 * i + j)) hfirst
    rw [ht]
    refine ⟨fun k hk => (hbits k hk).trans ?_, fun o ho => (hothers o ho).trans (State.reg_setReg_ne _ ho _)⟩
    obtain rfl | hne := eq_or_ne k j
    · have hset := State.rb_setRb_same s (R.EV_STATUS i) true hj
      rw [State.rb] at hset
      simp [hset]
    · have hsame := State.rb_setRb_ne s (R.EV_STATUS i) true hj hne
      rw [State.rb, State.rb] at hsame
      simp [hsame, hne]

theorem State.hwSet_evStatus (s : State) {i : Nat} (hi : i < 8) (row : RegRow) (hw : Word) :
    s.hwSet row (R.EV_STATUS i) hw = s.each ((List.range 32).filter fun j => bit hw j) fun s j =>
      (s.markEvent (32 * i + j)).eventSentence (32 * i + j) := by
  have hplace : (R.EV_STATUS i - R.EV_STATUS 0) / 4 = i := by unfold R.EV_STATUS; omega
  have hfrom : R.EV_STATUS 0 ≤ R.EV_STATUS i := by unfold R.EV_STATUS; omega
  unfold State.hwSet
  rw [hplace]
  exact if_pos ⟨hfrom, rfl, hi⟩

/-- What hardware raises in a cycle stands in EV_STATUS, and no other register changes. -/
theorem State.reg_hwSet_evStatus {s : State} {i : Nat} (hi : i < 8) (row : RegRow) {hw : Word}
    (hroute : ∀ j, j < 32 → bit hw j = true → s.rb (R.EV_ROUTE (32 * i + j)) 29 = false) :
    (s.hwSet row (R.EV_STATUS i) hw).reg (R.EV_STATUS i) = s.reg (R.EV_STATUS i) ||| hw ∧
      ∀ o, o ≠ R.EV_STATUS i → (s.hwSet row (R.EV_STATUS i) hw).reg o = s.reg o := by
  have hjs : ∀ j ∈ (List.range 32).filter fun j => bit hw j, j < 32 ∧ s.rb (R.EV_ROUTE (32 * i + j)) 29 = false := fun j hj => by
    simp only [List.mem_filter, List.mem_range] at hj
    exact ⟨hj.1, hroute j hj.1 hj.2⟩
  obtain ⟨hbits, hothers⟩ := State.reg_marked hi hjs
  rw [s.hwSet_evStatus hi]
  refine ⟨eq_of_bits fun k hk => (hbits k hk).trans ?_, hothers⟩
  simp [bit, hk]

theorem State.w1cWrite_evStatus (s : State) (r : Req) {i : Nat} (hi : i < 8) (v hw : Word) :
    s.w1cWrite r (R.EV_STATUS i) v hw = ((s.hwSet rows_global[19] (R.EV_STATUS i) hw).put rows_global[19] (R.EV_STATUS i) (v &&& ~~~hw) 0).settle
      0 true := by
  have hthere : s.there (R.EV_STATUS i) = true := by rw [State.there, planeOf_pin (by unfold R.EV_STATUS; omega)]
  have hmask : BitVec.ofNat 32 rows_global[19].w1c = BitVec.allOnes 32 := by decide
  rw [State.w1cWrite, (rowOf_evStatus hi).1]
  dsimp only
  rw [if_pos hthere, State.writeAll_evStatus _ r _ hi, hmask, BitVec.and_allOnes]

/-- Bits written 1 clear, but those that hardware sets. -/
theorem written_keeps_raised (w v hw : Word) : (w ||| hw) &&& ~~~(v &&& ~~~hw) = (w &&& ~~~v) ||| hw := by
  have h := w1c_value w v hw (BitVec.allOnes 32)
  simpa only [BitVec.and_allOnes] using h

/-! MSI-X (R450) -/

theorem State.maskVec_clears {s : State} (v : Nat) (hen : s.msixEn = true) (hfunc : s.funcMask = false) :
    s.maskVec v false =
      let mask := s.vecMask &&& ~~~BitVec.ofNat 64 (2 ^ v)
      let due := s.pba &&& ~~~mask
      State.requestAll { s with vecMask := mask, pba := s.pba &&& ~~~due } (due &&& s.activeVecs) := by
  simp only [State.maskVec, State.msixSend, Bool.false_eq_true, if_false, hen, hfunc, Bool.not_true, Bool.or_self]
  rfl

theorem State.msixSend_unmasked {s : State} (hen : s.msixEn = true) :
    State.msixSend { s with funcMask := false } =
      let due := s.pba &&& ~~~s.vecMask
      State.requestAll { s with funcMask := false, pba := s.pba &&& ~~~due } (due &&& s.activeVecs) := by
  simp only [State.msixSend, hen, Bool.not_true, Bool.or_self, Bool.false_eq_true, if_false]
  rfl

/-- Settles O17: the writes of the event registers by their rows, the raises of hardware before them, and the messages of MSI-X. -/
theorem eventRegistersAndMessages : Obligations.EventRegistersAndMessages := by
  refine ⟨fun s r i n v hr => ?writes, fun s v hhost => ⟨fun hoff => ?enable, fun hen hfunc => ?vector, fun hen => ?function⟩⟩
  case writes =>
    have haligned : R.EV_STATUS i.val % 4 = 0 ∧ R.EV_MASK i.val % 4 = 0 ∧ R.EV_ROUTE n.toNat % 4 = 0 := by
      simp only [R.EV_STATUS, R.EV_MASK, R.EV_ROUTE]; omega
    obtain ⟨hstatus, hmask, hroute⟩ := haligned
    have haccess (hw : Word) : s.w1cAccess r (R.EV_STATUS i.val) v hw = s.w1cWrite r (R.EV_STATUS i.val) v hw := State.access_aligned hr hstatus ..
    refine ⟨exec_next_of_eq rfl ?_, fun hw hsent => ?_, exec_next_of_eq rfl ?_, exec_next_of_eq rfl ?_⟩
    · have hv : v &&& ~~~(0 : Word) = v := BitVec.and_allOnes
      have hnone : ((List.range 32).filter fun j => bit 0 j) = [] := by simp [bit]
      rw [haccess, s.w1cWrite_evStatus r i.isLt, s.hwSet_evStatus i.isLt, State.put_evStatus, hv, hnone]
      rfl
    · obtain ⟨hraised, hothers⟩ := State.reg_hwSet_evStatus i.isLt rows_global[19] hsent
      refine ⟨_, exec_next_of_eq rfl ((haccess hw).trans (s.w1cWrite_evStatus r i.isLt v hw)), ?_, fun o ho => ?_⟩
      · rw [State.reg_settle, State.put_evStatus, State.reg_setReg_same, hraised, written_keeps_raised]
      · rw [State.reg_settle, State.put_evStatus, State.reg_setReg_ne _ ho, hothers o ho]
    · rw [State.regWrite_aligned hr hmask, s.writeAll_evMask r v i.isLt]
    · rw [State.regWrite_aligned hr hroute, s.writeAll_evRoute r v n.isLt]
  case enable => exact exec_next_of_eq rfl (if_neg (by simp [hoff, hhost]))
  case vector => exact exec_next_of_eq rfl ((if_neg (by simp [hhost])).trans (State.maskVec_clears v.val hen hfunc))
  case function => exact exec_next_of_eq rfl ((if_neg (by simp [hhost])).trans (State.msixSend_unmasked hen))

end Sys2Proof.Machine
end


section
/-!
Event sentences: the end of a holdoff, and the collect log (R451, R452).
-/
namespace Sys2Proof.Machine

/-- A copy that no plane has had is the first (R428, R452). -/
theorem State.firstCopy_new {s : State} {origin : BitVec 10} {cls : Nat} {seq : Word}
    (hnew : ∀ e, e ∈ s.seen → ¬(e.1 = origin ∧ e.2.1 = seq ∧ e.2.2 / 4 = cls)) (p : Plane) :
    s.firstCopy origin cls seq p = (true, { s with seen := s.seen ++ [(origin, seq, cls * 4 + planeNum p)] }) := by
  have hnone : (s.seen.find? fun e => e.1 == origin && e.2.1 == seq && e.2.2 / 4 == cls) = none :=
    List.find?_eq_none.2 fun e he => by simpa [and_assoc] using hnew e he
  simp only [State.firstCopy, hnone]

/-- Raises that no sentence covers yet leave in one when their holdoff ends (R451). -/
theorem State.holdoff_uncovered {s : State} {n : Nat} (hcnt : 0 < (s.held n).2.1) (hactive : s.anyActive = true) (hdev : s.devValid = true) :
    s.holdoff n = s.sendEvent n (s.held n).2.1 (s.held n).2.2 := by
  simp only [State.holdoff, hcnt, hactive, hdev, decide_true, Bool.and_true, if_true]

theorem State.holdoff_covered {s : State} {n : Nat} (hcnt : (s.held n).2.1 = 0) : s.holdoff n = s.setHeld n (false, 0, (s.held n).2.2) := by
  unfold State.holdoff
  dsimp only
  rw [hcnt]
  exact if_neg (by simp)

/-- A record of the collect log, of the sentence's first copy (R452). -/
theorem State.eventSentenceIn_collects {s : State} {p : Plane} {octets : List Byte} {t : Sent} (ht : parseSent octets (octets.drop 32) = t)
    (hstream : t.stream.toNat = strEvent) (hcollect : s.rb R.EV_SENT_CTL 31 = true) (hhears : s.leadHears p = true)
    (hother : s.devValid = false ∨ t.unnum = true ∨ t.origin.toNat ≠ s.devnum)
    (hnew : ∀ e, e ∈ s.seen → ¬(e.1 = t.origin ∧ e.2.1 = t.seq ∧ e.2.2 / 4 = 2))
    (hroom : unread (s.reg R.EV_COLLECT_HEAD).toNat (s.reg R.EV_COLLECT_TAIL).toNat 7 < 64) :
    s.eventSentenceIn p octets =
      let head := (s.reg R.EV_COLLECT_HEAD).toNat
      let record := toBE 2 t.origin.toNat ++ [0, 0] ++ slice (octets.drop 32) 0 12
      ((([0, 1, 2, 3].foldl (fun (u : State) j => u.setReg (R.EV_COLLECT (head % 64) j) (BitVec.ofNat 32 (octs record (4 * j) 4)))
        { s with seen := s.seen ++ [(t.origin, t.seq, 8 + planeNum p)] }).setReg R.EV_COLLECT_HEAD
          (BitVec.ofNat 32 ((head + 1) % 128))).raise 15) := by
  have hheard : ¬(t.stream.toNat ≠ strEvent ∨ (!s.rb R.EV_SENT_CTL 31) = true ∨ (!s.leadHears p) = true ∨
      s.devValid = true ∧ (!t.unnum) = true ∧ t.origin.toNat = s.devnum) := by
    rintro (h | h | h | ⟨hdev, hnum, horigin⟩)
    · exact h hstream
    · simp [hcollect] at h
    · simp [hhears] at h
    · obtain h | h | h := hother
      · simp [h] at hdev
      · simp [h] at hnum
      · exact h horigin
  subst ht
  unfold State.eventSentenceIn
  dsimp only
  rw [if_neg hheard, State.firstCopy_new hnew]
  exact if_neg hroom.not_ge

/-- Settles O18, by what the end of a holdoff sends and what the first copy of a sentence leaves in the log. -/
theorem eventSentenceCommands : Obligations.EventSentenceCommands := by
  intro s p n octets
  refine ⟨fun hcnt hactive hdev => ?uncovered, fun hcnt => ?covered, ?collects⟩
  case uncovered => exact exec_next_of_eq rfl (State.holdoff_uncovered hcnt hactive hdev)
  case covered => exact exec_next_of_eq rfl (State.holdoff_covered hcnt)
  case collects =>
    intro t head record hstream hcollect hhears hother hnew hroom
    exact exec_next_of_eq rfl (State.eventSentenceIn_collects rfl hstream hcollect hhears hother hnew hroom)

end Sys2Proof.Machine
end


section
/-!
The check of a ring pair as it joins (R479, R480).
-/
namespace Sys2Proof.Machine

section
variable {s : State} {p : Plane} {side : Bool}

/-- A probe and a notice name the pair's east port (log 162). -/
theorem State.joinTail_eq (s : State) (side : Bool) :
    s.joinTail side = BitVec.ofNat 8 (if side then 2 else 0) :: 0 :: 0 :: toBE 4 (s.reg R.AON_DEVNUM).toNat := by
  cases side <;> rfl

/-- The first probe begins the local phase. -/
theorem State.loopProbe_first (hmay : s.joinMay p side = true) (hst : s.joinSt (pinOf p side) = 0) :
    s.loopProbe p side =
      let n := ((s.setJoinSt (pinOf p side) 1).modJoin p side fun _ => ⟨1, 0⟩).notice p (3 :: s.joinTail side)
      n.2.sendOwn p side.toNat n.1 false := by
  simp only [State.loopProbe, hmay, hst, Bool.not_true, beq_self_eq_true, Bool.true_or, Bool.or_self, Bool.false_eq_true, if_false, if_true]
  rfl

/-- The local pass opens the pin: the confirmation phase begins, or where the device has no number the check is passed. -/
theorem State.joinLocal_passes (hst : s.joinSt (pinOf p side) = 1) (hsent : ((s.pl p).joinS side).sent = 4) :
    s.joinLocal p side = (if s.devValid then s.setJoinSt (pinOf p side) 2
      else (s.setJoinSt (pinOf p side) 3).setRb R.AON_JOIN_STATUS (15 - pinOf p side) false).bypass := if_pos ⟨hst, hsent⟩

theorem State.joinNotice_next (hst : s.joinSt (pinOf p side) = 2) (hnotices : ((s.pl p).joinS side).notices < 3) :
    s.joinNotice p side =
      let n := (s.modJoin p side fun y => { y with notices := y.notices + 1 }).notice p (4 :: s.joinTail side)
      n.2.sendOwn p side.toNat n.1 false := if_pos ⟨hst, hnotices⟩

end

/-- Settles O30, phase by phase of the check. -/
theorem joinCheckCommands : Obligations.JoinCheckCommands := by
  intro s p side k j
  refine ⟨s.joinTail_eq side, fun hmay hst => exec_next_of_eq rfl (State.loopProbe_first hmay hst), fun hst hsent hdev => ?numbered,
    fun hst hsent hdev => ?unnumbered, fun hst => exec_next_of_eq rfl (if_pos hst),
    fun hst hnotices => exec_next_of_eq rfl (State.joinNotice_next hst hnotices),
    fun hst hnotices => exec_next_of_eq rfl (if_pos ⟨hst, hnotices⟩), fun hst hnotices => exec_next_of_eq rfl (if_pos ⟨hst, hnotices⟩),
    fun hst => exec_next_of_eq rfl (if_pos hst)⟩
  case numbered => exact exec_next_of_eq rfl ((State.joinLocal_passes hst hsent).trans (by rw [hdev]; rfl))
  case unnumbered => exact exec_next_of_eq rfl ((State.joinLocal_passes hst hsent).trans (by rw [hdev]; rfl))

end Sys2Proof.Machine
end


section
/-!
The flight recorder and its mirror, temperatures, general-purpose pins, JTAG (R485, R486, R511-R518).
-/
namespace Sys2Proof.Machine

/-! The recorder's mirror (R486) -/

theorem State.mem_frGroups {s : State} {g : Nat} : g ∈ s.frGroups ↔ g < s.frDone / 256 ∧ s.frSent ≤ g ∧ s.frDone < 256 * g + 4097 := by
  simp [State.frGroups]

/-- The sector and the sequence that the next group takes: after the last ones, or the first ones of an empty mirror. -/
def State.mirrorNext (s : State) (p : Plane) : Nat × Nat :=
  match s.mirrorLast p with
  | some (k, q) => ((k + 1) % 256, (q + 1) % 2 ^ 32)
  | none => (0, 0)

/-- A group of 256 records in the mirror: a record of kind 0 with the sequence, then the group's records after its first. -/
def State.mirrorGroup (s : State) (g : Nat) : State :=
  let recs := (List.range 255).flatMap fun i => toBE 16 (Tab.get (0 : BitVec 128) ((256 * g + i + 1) % 4096) s.fr).toNat
  (s.flashWrite s.lead (0x00F00000 + 4096 * (s.mirrorNext s.lead).1)
    (s.frRec 0 (srcOf s.lead) (toBE 4 (s.mirrorNext s.lead).2) ++ recs)).1

section

variable {s : State} (hactive : s.anyActive = true)
include hactive

theorem State.frMirror_none (h : s.frGroups = []) : s.frMirror = { s with frSent := s.frDone / 256 } := by
  simp only [State.frMirror, hactive, h, Bool.not_true, Bool.false_eq_true, if_false]
  rfl

theorem State.frMirror_one {g : Nat} (h : s.frGroups = [g]) : s.frMirror = { s.mirrorGroup g with frSent := s.frDone / 256 } := by
  simp only [State.frMirror, hactive, h, Bool.not_true, Bool.false_eq_true, if_false]
  rfl

theorem State.frSent_frMirror : s.frMirror.frSent = s.frDone / 256 := by
  simp only [State.frMirror, hactive, Bool.not_true, Bool.false_eq_true, if_false]

end

theorem State.mirrorNext_eq {s : State} {p : Plane} {k q : Nat} (h : s.mirrorLast p = none ∧ k = 0 ∧ q = 0 ∨
    ∃ k0 q0, s.mirrorLast p = some (k0, q0) ∧ k = (k0 + 1) % 256 ∧ q = (q0 + 1) % 2 ^ 32) : s.mirrorNext p = (k, q) := by
  obtain ⟨hnone, rfl, rfl⟩ | ⟨k0, q0, hlast, rfl, rfl⟩ := h
  · rw [State.mirrorNext, hnone]
  · rw [State.mirrorNext, hlast]

/-! Registers (R485, R486, R518, R519) -/

/-- A write of FLUSH that keeps the recorder's mode. -/
theorem State.frCtl_flush (s : State) (w : Word) :
    s.frCtl ((w &&& 0x80000000) ||| 0x40000000) = (s.setRb R.AON_FR_CTL 31 (bit w 31)).frMirror := by
  have hmode : bit ((w &&& 0x80000000) ||| 0x40000000) 31 = bit w 31 := by simp [bit]
  have hflush : bit ((w &&& 0x80000000) ||| 0x40000000) 30 = true := by simp [bit]
  rw [State.frCtl, hmode, hflush]
  rfl

section

variable {s : State} {r : Req} (hr : s.reqOn r = true) (v : Word)
include hr

theorem State.regWrite_frCtl : s.regWrite r R.AON_FR_CTL 4 v = s.frCtl v :=
  (State.regWrite_aligned hr (by decide) v).trans (State.writeAll_aon (by decide) (by decide) (by decide) v)

theorem State.regWrite_frMark : s.regWrite r R.AON_FR_MARK 4 v = s.record 0x0F 0 (toBE 4 v.toNat) :=
  (State.regWrite_aligned hr (by decide) v).trans (State.writeAll_aon (by decide) (by decide) (by decide) v)

theorem State.regWrite_gpioSet : s.regWrite r R.GPIO_SET 4 v = s.setReg R.GPIO_OUT (s.reg R.GPIO_OUT ||| v) :=
  (State.regWrite_aligned hr (by decide) v).trans (State.writeAll_of_le (by decide) v)

theorem State.regWrite_gpioClr : s.regWrite r R.GPIO_CLR 4 v = s.setReg R.GPIO_OUT (s.reg R.GPIO_OUT &&& ~~~v) :=
  (State.regWrite_aligned hr (by decide) v).trans (State.writeAll_of_le (by decide) v)

end

/-- A read of GID_TEMP_MAX begins it again from the present temperatures (R518). -/
theorem State.readReg_tempMax (s : State) (r : Req) :
    s.readReg r R.GID_TEMP_MAX = (s.reg R.GID_TEMP_MAX, s.rsClear R.GID_TEMP_MAX 0xFF) := rfl

theorem State.rsClear_tempMax (s : State) : s.rsClear R.GID_TEMP_MAX 0xFF =
    let now := (if s.present .a then [sext 8 (s.rf R.GID_TEMP 31 24)] else []) ++
      (if s.present .b then [sext 8 (s.rf R.GID_TEMP 23 16)] else [])
    (s.setReg R.GID_TEMP_MAX (s.reg R.GID_TEMP_MAX &&& ~~~(BitVec.ofNat 32 0xFF))).setRf R.GID_TEMP_MAX 7 0
      (toU 8 (now.foldl max (sext 8 (s.rf R.GID_TEMP 15 8)))) := rfl

theorem State.rf_setRf_same (s : State) (off : Nat) {hi lo v : Nat} (h : lo ≤ hi) (hh : hi < 32) (hv : v < 2 ^ (hi + 1 - lo)) :
    (s.setRf off hi lo v).rf off hi lo = v := by
  rw [State.rf, State.setRf, State.reg_setReg_same, fld_setFld_same _ _ _ _ h hh, Nat.mod_eq_of_lt hv]

/-! JTAG (R513) -/

/-- A ball fills three cells, and is captured without anything going out. -/
theorem State.capture_spec (s : State) (b : Ball) : (s.capture b).1.length = 3 ∧ (s.capture b).2.out = s.out := by
  have hlevel : (s.levelIn b).2.out = s.out := by
    unfold State.levelIn
    split <;> rfl
  unfold State.capture
  split
  · exact ⟨rfl, rfl⟩
  · exact ⟨rfl, rfl⟩
  · exact ⟨rfl, hlevel⟩

/-- Balls captured one after the other: the cells, after those there already, and the state left. -/
def State.captureAll (s : State) (bs : List Ball) (cs : List Bool) : List Bool × State :=
  bs.foldl (fun (a : List Bool × State) b => (a.1 ++ (a.2.capture b).1, (a.2.capture b).2)) (cs, s)

theorem State.captureAll_spec (bs : List Ball) (cs : List Bool) (s : State) :
    (s.captureAll bs cs).1.length = cs.length + 3 * bs.length ∧ (s.captureAll bs cs).2.out = s.out := by
  induction bs generalizing cs s with
  | nil => exact ⟨rfl, rfl⟩
  | cons b bs ih =>
    obtain ⟨hlen, hout⟩ := s.capture_spec b
    obtain ⟨hlens, houts⟩ := ih (cs ++ (s.capture b).1) (s.capture b).2
    refine ⟨hlens.trans ?_, houts.trans hout⟩
    rw [List.length_append, hlen, List.length_cons]
    ring

theorem length_scanBalls : scanBalls.length = 234 := by
  simp [scanBalls, bothPlanes]

theorem boundaryCells_eq : boundaryCells = 702 := by rw [boundaryCells, length_scanBalls]

theorem State.scanOut_eq (s : State) : s.scanOut = (s.captureAll scanBalls []).2.emit (.scan (s.captureAll scanBalls []).1) := by
  unfold State.scanOut
  generalize scanBalls = bs
  rfl

/-- What a capture shifts out: a cell for each of the boundary register. -/
theorem State.out_scanOut (s : State) : ∃ cs : List Bool, s.scanOut.out = s.out ++ [.scan cs] ∧ cs.length = 702 := by
  obtain ⟨hlen, hout⟩ := State.captureAll_spec scanBalls [] s
  refine ⟨(s.captureAll scanBalls []).1, ?_, ?_⟩
  · rw [s.scanOut_eq, State.emit_out, hout]
  · rw [hlen, List.length_nil, Nat.zero_add, length_scanBalls]

theorem idcode_eq : idcode = BitVec.ofNat 32 (2 * 2 ^ 28 + 0x1024 * 2 ^ 12 + Config.jedec.toNat * 2 + 1) := by
  simp only [idcode, pack, List.map_cons, List.map_nil, List.sum_cons, List.sum_nil, Nat.add_assoc, Nat.add_zero, pow_one, pow_zero, Nat.mul_one]

/-- Settles O32, service by service. -/
theorem serviceCommands : Obligations.ServiceCommands := by
  intro s r v a b pin code cells
  refine ⟨fun g => State.mem_frGroups, fun hactive hnone => exec_next_of_eq rfl (State.frMirror_none hactive hnone),
    fun hactive g k q hone hnext => ?mirror, fun hactive => ⟨rfl, State.frSent_frMirror hactive⟩, fun hr => ⟨?flush, ?mark, ?set, ?clr, ?tempMax⟩,
    fun hpin => ?temp, ?idcode, fun hlen => ?preload, rfl, s.out_scanOut, fun hcode => ?bypass, fun haon => ?crystal⟩
  case mirror =>
    refine exec_next_of_eq rfl ((State.frMirror_one hactive hone).trans ?_)
    rw [State.mirrorGroup, State.mirrorNext_eq hnext]
  case flush => exact exec_next_of_eq rfl ((State.regWrite_frCtl hr _).trans (s.frCtl_flush _))
  case mark => exact exec_next_of_eq rfl (State.regWrite_frMark hr v)
  case set => exact exec_next_of_eq rfl (State.regWrite_gpioSet hr v)
  case clr => exact exec_next_of_eq rfl (State.regWrite_gpioClr hr v)
  case tempMax =>
    intro now
    have hread : s.regRead r R.GID_TEMP_MAX 4 0 =
        (s.rsClear R.GID_TEMP_MAX 0xFF).emit (.read r R.GID_TEMP_MAX (s.reg R.GID_TEMP_MAX)) := by
      rw [State.regRead_aligned hr (by decide), State.rsSet_zero, s.readReg_tempMax]
    refine ⟨s.rsClear R.GID_TEMP_MAX 0xFF, exec_next_of_eq rfl hread, ?_, fun o ho => ?_, rfl⟩
    · rw [State.rsClear_tempMax]
      exact State.rf_setRf_same _ _ (by decide) (by decide) (toU_lt 8 _)
    · rw [State.rsClear_tempMax]
      exact (State.reg_setRf_ne _ ho ..).trans (State.reg_setReg_ne _ ho _)
  case temp =>
    intro seen s1
    refine exec_next_of_eq rfl ?_
    rw [State.tempUpdate, hpin, pack_three, ← Nat.add_assoc]
    rfl
  case idcode => exact exec_next_of_eq rfl (by rw [State.jtagId, idcode_eq])
  case preload =>
    refine exec_next_of_eq rfl ?_
    rw [State.jtagPreload, boundaryCells_eq, List.take_append_of_le_length hlen.ge, ← hlen, List.take_length]
  case bypass => exact exec_next_of_eq rfl (by rw [State.jtagBypass, if_neg (BitVec.not_le.2 hcode)])
  case crystal => exact exec_next_of_eq rfl (by rw [haon, Bool.or_true])

end Sys2Proof.Machine
end


section
/-!
Accesses of the host through the remote windows (R382, R383, R399).
-/
namespace Sys2Proof.Machine

/-- An access of the host in tracker entry `e`, with the next order of acceptance (R382). -/
def State.accIn (s : State) (p : Plane) (e n : Nat) (posted : Bool) (kind : AccKind) (o len : Nat) (data : List Byte) (be : List Bool) : State :=
  (s.modPl p fun y => { y with accOrd := y.accOrd + 1 }).putTrk p e (s.newAcc p n (s.pl p).accOrd none posted kind o len data be)

/-- A host access changes no window. -/
theorem State.winS_accIn (s : State) (p : Plane) (e n : Nat) (posted : Bool) (kind : AccKind) (o len : Nat) (data : List Byte) (be : List Bool)
    (w : Nat) : ((s.accIn p e n posted kind o len data be).pl p).winS w = (s.pl p).winS w := by
  rw [State.accIn, State.putTrk, State.pl_modPl_same, State.pl_modPl_same]
  rfl

/-- Without a prefetch buffer none is dropped (R404). -/
theorem State.pfDrop_none {s : State} {p : Plane} {n : Nat} (h : ((s.pl p).winS n).pf = none) (reason : Nat) : s.pfDrop p n reason = s := by
  rw [State.pfDrop, h]

theorem State.hostAcc_eq {s : State} {p : Plane} {e : Nat} (hfree : (s.pl p).freeEntry = some e) (n : Nat) (kind : AccKind) (off len : Nat) :
    s.hostAcc p n kind off len = s.accIn p e n false kind off len (List.replicate (if kind = .read then 0 else len) 0) [] := by
  rw [State.hostAcc, hfree]
  rfl

/-- Whole dwords from a dword's first octet on, as BRIDGE_WRITE takes them. -/
theorem slice_whole (data : List Byte) : slice (List.replicate 0 0 ++ data) 0 data.length = data := by simp [slice]

section Served

variable {s : State} (hon : s.hostOn = true) (hactive : s.active s.lead = true)
include hon hactive

/-! Reads and AtomicOps -/

theorem State.bridgeRead_takes {bar2 len e : Nat} (hwin : s.winOff s.lead (barWin bar2) = false) (hfree : (s.pl s.lead).freeEntry = some e)
    (hmin : 0 < len) (hmax : len ≤ 256) (hend : barOfs bar2 + len ≤ 2 ^ 26) :
    s.bridgeRead bar2 len = s.accIn s.lead e (barWin bar2) false .read (barOfs bar2) len [] [] := by
  have hgood : ¬(len = 0 ∨ 256 < len ∨ 2 ^ 26 < barOfs bar2 + len) := by omega
  simp only [State.bridgeRead, hon, State.serving, hactive, hwin, if_neg hgood, Bool.not_true, Bool.false_eq_true, if_false, if_true]
  exact State.hostAcc_eq hfree ..

theorem State.bridgeAtomic_takes {bar2 size e : Nat} {kind : AccKind} (hwin : s.winOff s.lead (barWin bar2) = false)
    (hfree : (s.pl s.lead).freeEntry = some e) (hkind : kind ≠ .read) (hsize : size = 4 ∨ size = 8) (halign : barOfs bar2 % size = 0)
    (hpf : ((s.pl s.lead).winS (barWin bar2)).pf = none) :
    s.bridgeAtomic bar2 size kind = s.accIn s.lead e (barWin bar2) false kind (barOfs bar2) size (List.replicate size 0) [] := by
  have hwidth : (size != 4 && size != 8) = false := by
    obtain rfl | rfl := hsize <;> rfl
  simp only [State.bridgeAtomic, hon, State.serving, hactive, hwin, hwidth, halign, Bool.not_true, Bool.or_self, Bool.false_eq_true, if_false,
    if_true, ne_eq, not_true_eq_false, State.hostAcc_eq hfree, if_neg hkind]
  exact State.pfDrop_none (by rwa [State.winS_accIn]) 2

/-! Writes -/

/-- A write of whole dwords that is not refused: it takes an entry, or waits in the hold while the hold has room. -/
theorem State.bridgeWrite_whole {bar2 : Nat} {data : List Byte} (hwin : s.winOff s.lead (barWin bar2) = false) (halign : bar2 % 4 = 0)
    (hne : data ≠ []) (hlen : data.length % 4 = 0) (hend : barOfs bar2 + data.length ≤ 2 ^ 26)
    (hpf : ((s.pl s.lead).winS (barWin bar2)).pf = none) :
    s.bridgeWrite bar2 data (List.replicate data.length true) =
      match (if (s.pl s.lead).posted.isEmpty then (s.pl s.lead).freeEntry else none) with
      | some e => s.accIn s.lead e (barWin bar2) true .write (barOfs bar2) data.length data (List.replicate data.length true)
      | none =>
        if 256 ≤ (s.pl s.lead).posted.length then s.hostWriteBad s.lead (barWin bar2) 0xE (barOfs bar2) data
        else (s.modPl s.lead fun y => { y with accOrd := y.accOrd + 1 }).modPl s.lead fun y => { y with posted := y.posted ++
          [⟨(s.pl s.lead).accOrd, barWin bar2 * 2 ^ 26 + barOfs bar2, data, List.replicate data.length true,
            s.pendingAt (R.BRG_WIN_STAGE_CTL s.lead (barWin bar2))⟩] } := by
  have hpos := List.length_pos_iff.2 hne
  have hofs : barOfs bar2 / 4 * 4 = barOfs bar2 := by unfold barOfs; omega
  have hdwords : (0 + data.length + 3) / 4 * 4 = data.length := by omega
  have hbe : ((List.range data.length).map fun i => decide (0 ≤ i) && decide (i < 0 + data.length) &&
      (List.replicate data.length true).getD (i - 0) true) = List.replicate data.length true := by
    refine List.eq_replicate_iff.2 ⟨by simp, fun b hb => ?_⟩
    obtain ⟨i, hi, rfl⟩ := List.mem_map.1 hb
    simp [List.mem_range.1 hi]
  have hgood : ¬(data.length = 0 ∨ 2 ^ 26 < barOfs bar2 + data.length ∨ (!(List.replicate data.length true).all id &&
      s.winType s.lead (barWin bar2) != 2 && !s.pendingAt (R.BRG_WIN_STAGE_CTL s.lead (barWin bar2))) = true) := by
    simp only [List.all_replicate, id_eq, ite_self, Bool.not_true, Bool.false_and, Bool.false_eq_true, or_false]
    omega
  simp only [State.bridgeWrite, hon, State.serving, hactive, halign, hofs, hdwords, slice_whole, hbe, hwin, State.pfDrop_none hpf, if_neg hgood,
    Bool.not_true, Bool.false_eq_true, if_false, if_true]
  rfl

theorem State.bridgeWrite_takes {bar2 e : Nat} {data : List Byte} (hwin : s.winOff s.lead (barWin bar2) = false)
    (hfree : (s.pl s.lead).freeEntry = some e) (halign : bar2 % 4 = 0) (hne : data ≠ []) (hlen : data.length % 4 = 0)
    (hend : barOfs bar2 + data.length ≤ 2 ^ 26) (hposted : (s.pl s.lead).posted = [])
    (hpf : ((s.pl s.lead).winS (barWin bar2)).pf = none) :
    s.bridgeWrite bar2 data (List.replicate data.length true) =
      s.accIn s.lead e (barWin bar2) true .write (barOfs bar2) data.length data (List.replicate data.length true) := by
  rw [State.bridgeWrite_whole hon hactive hwin halign hne hlen hend hpf, hposted, hfree]
  rfl

theorem State.bridgeWrite_holds {bar2 : Nat} {data : List Byte} (hwin : s.winOff s.lead (barWin bar2) = false) (halign : bar2 % 4 = 0)
    (hne : data ≠ []) (hlen : data.length % 4 = 0) (hend : barOfs bar2 + data.length ≤ 2 ^ 26)
    (hpf : ((s.pl s.lead).winS (barWin bar2)).pf = none) (hwait : (s.pl s.lead).freeEntry = none ∨ (s.pl s.lead).posted ≠ [])
    (hroom : (s.pl s.lead).posted.length < 256) :
    s.bridgeWrite bar2 data (List.replicate data.length true) =
      (s.modPl s.lead fun y => { y with accOrd := y.accOrd + 1 }).modPl s.lead fun y => { y with posted := y.posted ++
        [⟨(s.pl s.lead).accOrd, barWin bar2 * 2 ^ 26 + barOfs bar2, data, List.replicate data.length true,
          s.pendingAt (R.BRG_WIN_STAGE_CTL s.lead (barWin bar2))⟩] } := by
  have hnone : (if (s.pl s.lead).posted.isEmpty then (s.pl s.lead).freeEntry else none) = none := by
    obtain h | h := hwait
    · rw [h, ite_self]
    · rw [if_neg (by simpa using h)]
  rw [State.bridgeWrite_whole hon hactive hwin halign hne hlen hend hpf, hnone]
  exact if_neg hroom.not_ge

end Served

/-- The oldest write of the hold takes a free entry (R382). -/
theorem State.holdDrain_oldest {s : State} {p : Plane} {w : PostS} {ws : List PostS} {e : Nat} (hposted : (s.pl p).posted = w :: ws)
    (hfree : (s.pl p).freeEntry = some e) : s.holdDrain p = (s.modPl p fun y => { y with posted := ws }).putTrk p e
      { s.newAcc p (barWin w.off) w.ord none true .write (barOfs w.off) w.data.length w.data w.be with late := w.late } := by
  rw [State.holdDrain, hposted, hfree]

/-- Settles O50, kind of access by kind of access. -/
theorem bridgeAccesses : Obligations.BridgeAccesses := by
  refine ⟨fun s off e x hon hactive => ?served, fun s off data => ⟨?held, ?oldest⟩⟩
  case served =>
    intro p n o taken hwin hfree
    refine ⟨fun len hmin hmax hend => exec_drain_of_eq rfl (State.bridgeRead_takes hon hactive hwin hfree hmin hmax hend),
      fun wide => ?atomic, fun data be halign hne hlen hend hbe hposted hpf => ?write⟩
    case atomic =>
      intro size halign hpf
      have hsize : size = 4 ∨ size = 8 := by cases wide <;> simp [size]
      have htakes (kind : AccKind) (hkind : kind ≠ .read) := State.bridgeAtomic_takes hon hactive hwin hfree hkind hsize halign hpf
      exact ⟨exec_drain_of_eq rfl (htakes _ (by simp)), exec_drain_of_eq rfl (htakes _ (by simp)),
        fun cmp => exec_drain_of_eq rfl (htakes _ (by simp))⟩
    case write =>
      subst hbe
      exact exec_drain_of_eq rfl (State.bridgeWrite_takes hon hactive hwin hfree halign hne hlen hend hposted hpf)
  case held =>
    intro hon hactive halign hne hlen hend hwin hwait hroom hpf
    exact exec_drain_of_eq rfl (State.bridgeWrite_holds hon hactive hwin halign hne hlen hend hpf hwait hroom)
  case oldest => exact fun p w ws e hposted hfree => exec_drain_of_eq rfl (State.holdDrain_oldest hposted hfree)

end Sys2Proof.Machine
end


section
/-!
Requests that the bridge serves as target, and responses to its own requests (R384-R387, R406).
-/
namespace Sys2Proof.Machine

/-! What follows by itself -/

/-- Where no outcome, FENCE read, held write or access is ready, the next thing to follow is a request of the intake. -/
theorem State.drainOne_eq_target {s u : State} (htodo : s.todo = []) (hfence : s.drainFence = none) (hhold : s.drainHold = none)
    (hacc : s.drainAcc = none) (htarget : s.drainTarget = some u) : s.drainOne = some u := by
  simp only [State.drainOne, htodo, hfence, hhold, hacc, htarget]
  rfl

theorem State.drain_of_drainOne {s u : State} (h : s.drainOne = some u) : s.drain = u.drainN 65535 := by
  show State.drainN (65535 + 1) s = _
  rw [State.drainN, h]

/-! The intake (R384, R406) -/

/-- A request in the intake of its class. -/
def State.targetIn (s : State) (p : Plane) (k : Nat) (origin : BitVec 10) (payload : List Byte) : State :=
  s.modPl p fun x => { x with tgtIn := x.tgtIn ++ [⟨k == 3, k, origin, payload⟩] }

/-- An answer on its way to the ring. -/
def State.targetOut (s : State) (p : Plane) (k : Nat) (origin : BitVec 10) (payload : List Byte) (st : Nat) (os : List Byte) : State :=
  s.modPl p fun x => { x with
    brgOut := x.brgOut ++ [(4, toBE 1 (k + 0x80) ++ toBE 1 st ++ toBE 2 origin.toNat ++ slice payload 4 8 ++ os)] }

section Target

variable {s : State} {p : Plane} {origin : BitVec 10} {payload : List Byte} {k : Nat}

/-- The rows of the three requests. -/
theorem exec_bridgeTarget {wait : Bool} {c : Instr} (hc : (k, c) ∈ [(1, Instr.bridgeTargetRead p origin wait payload),
    (2, .bridgeTargetWrite p origin wait payload), (3, .bridgeTargetWritePosted p origin wait payload)]) :
    exec c s = .next (s.after (if wait then s.bridgeTarget p origin k payload else (s.bridgeTarget p origin k payload).drain)) := by
  simp only [List.mem_cons, Prod.mk.injEq, List.not_mem_nil, or_false] at hc
  obtain ⟨rfl, rfl⟩ | ⟨rfl, rfl⟩ | ⟨rfl, rfl⟩ := hc <;> cases wait <;> rfl

/-- A request that the lead accepts enters the intake, where an entry of its class is free. -/
theorem State.bridgeTarget_accepted (hactive : s.active p = true) (hlead : s.lead = p) (hdev : s.devValid = true)
    (hme : octs payload 2 2 % 1024 = s.devnum) (hop : octs payload 0 1 = k) :
    s.bridgeTarget p origin k payload =
      if 128 ≤ ((s.pl p).tgtIn.filter fun r => r.posted == (k == 3)).length then (s.count (R.BRG_COUNTERS p 7)).raise 101
      else s.targetIn p k origin payload := by
  simp only [State.bridgeTarget, hactive, hlead, hdev, hme, hop, decide_true, Bool.and_self, beq_self_eq_true, Bool.not_true,
    Bool.false_eq_true, ne_eq, not_true_eq_false, false_and, if_false]
  rfl

/-! A request executed (R385, R387) -/

theorem State.serve_refused (hop : octs payload 0 1 = k) {st : Nat} (h : s.targetRefuses p (k != 1) payload = some st) (b : Bool) :
    s.serve p ⟨b, k, origin, payload⟩ = (s.count (R.BRG_COUNTERS p 6)).targetOut p k origin payload st (List.replicate 8 0) := by
  simp only [State.serve, hop, if_true, h]
  rfl

variable (h : s.targetRefuses p (k != 1) payload = none)
include h

theorem State.serve_read (hop : octs payload 0 1 = k) (hk : k = 1) (b : Bool) :
    s.serve p ⟨b, k, origin, payload⟩ =
      let r := (s.count (R.BRG_COUNTERS p 5)).localRead .host (octs payload 8 4) (octs payload 1 1)
      r.2.targetOut p k origin payload 0 (slice (netWords r.1) 0 8) := by
  subst hk
  simp only [State.serve, hop, if_true, h]
  rfl

theorem State.serve_write (hop : octs payload 0 1 = k) (hk : k ≠ 1) (b : Bool) :
    s.serve p ⟨b, k, origin, payload⟩ =
      ((s.count (R.BRG_COUNTERS p 5)).localWrite .host (octs payload 8 4) (octs payload 1 1)
        (netWords (slice payload 12 (octs payload 1 1)))).targetOut p k origin payload 0 (List.replicate 8 0) := by
  have hwrite : (k != 1) = true := by simpa using hk
  rw [hwrite] at h
  simp only [State.serve, hop, if_true, hwrite, h]
  rfl

end Target

section Intake

variable {s : State} {p : Plane}

theorem State.modPl_tgtIn_self (h : (s.pl p).tgtIn = []) : (s.modPl p fun x => { x with tgtIn := [] }) = s := by
  refine (State.modPl_congr (g := fun x => { x with tgtIn := (s.pl p).tgtIn }) (by rw [h])).trans ?_
  cases p <;> rfl

/-- The one request of both intakes is executed, where an entry for its response is free. -/
theorem State.drainTarget_only {k : Nat} {origin : BitVec 10} {payload : List Byte} (hin : (s.pl p).tgtIn = [])
    (hother : (s.pl (other p)).tgtIn = []) (hactive : s.active p = true)
    (hroom : ((s.pl p).brgOut.filter fun e => e.1 == 4).length < 128) :
    (s.targetIn p k origin payload).drainTarget = some (s.serve p ⟨k == 3, k, origin, payload⟩) := by
  have hout : (s.targetIn p k origin payload).modPl p (fun x => { x with tgtIn := [] }) = s :=
    (State.modPl_modPl ..).trans (State.modPl_tgtIn_self hin)
  have hmine : ((s.targetIn p k origin payload).pl p).tgtIn = [⟨k == 3, k, origin, payload⟩] := by
    rw [State.targetIn, State.pl_modPl_same, hin]
    rfl
  have hsent : ((s.targetIn p k origin payload).pl p).brgOut = (s.pl p).brgOut := by rw [State.targetIn, State.pl_modPl_same]
  have hact : (s.targetIn p k origin payload).active p = true := by
    rwa [State.active, State.targetIn, State.pl_modPl_same]
  have hpeer : ((s.targetIn p k origin payload).pl (other p)).tgtIn = [] := by
    rw [State.targetIn, State.pl_modPl_ne _ (by cases p <;> decide), hother]
  unfold State.drainTarget bothPlanes
  cases p with
  | a =>
    rw [List.findSome?_cons]
    simp only [hmine, hsent, hact, hout, hroom, decide_true, Bool.and_self, if_true]
  | b =>
    rw [List.findSome?_cons, List.findSome?_cons]
    simp only [show ((s.targetIn .b k origin payload).pl .a).tgtIn = [] from hpeer, hmine, hsent, hact, hout, hroom, decide_true,
      Bool.and_self, if_true]

/-- A bridge sentence goes to the ring once its buffers have room (R406). -/
theorem State.drainOut_first {cls : BitVec 3} {os : List Byte} {rest : List (BitVec 3 × List Byte)} (hout : (s.pl p).brgOut = (cls, os) :: rest)
    (hfirst : p = .a ∨ s.pA.brgOut = []) (hroom : s.ringRoom p cls = true) :
    s.drainOut = some ((s.modPl p fun x => { x with brgOut := rest }).bridgeSent p cls.toNat os) := by
  have hfind : ((s.pl p).brgOut.find? fun e => s.ringRoom p e.1) = some (cls, os) := by
    rw [hout]
    exact List.find?_cons_of_pos hroom
  have herase : (s.modPl p fun x => { x with brgOut := x.brgOut.erase (cls, os) }) = s.modPl p fun x => { x with brgOut := rest } :=
    State.modPl_congr (by rw [hout, List.erase_cons_head])
  have hnext : (bothPlanes.findSome? fun q => ((s.pl q).brgOut.find? fun e => s.ringRoom q e.1).map fun e => (q, e)) = some (p, cls, os) := by
    cases p with
    | a => rw [bothPlanes, List.findSome?_cons, hfind]; rfl
    | b =>
      have hnone : (s.pl .a).brgOut = [] := hfirst.resolve_left (by decide)
      rw [bothPlanes, List.findSome?_cons, hnone, List.find?_nil, Option.map_none]
      simp only [List.findSome?_cons, hfind, Option.map_some]
  rw [State.drainOut, hnext, ← herase]
  rfl

end Intake

/-! Responses (R385, R386) -/

/-- The number of a request names its plane, its tracker entry and the entry's generation. -/
theorem tid_fields {tid gen e : Nat} {p : Plane} (h : tid = planeNum p * 2 ^ 15 + gen * 2 ^ 8 + e) (he : e < 256) (hgen : gen < 128) :
    (if nfld tid 15 15 = 1 then Plane.b else .a) = p ∧ nfld tid 7 0 = e ∧ nfld tid 14 8 = gen := by
  subst h
  have hplane : nfld (planeNum p * 2 ^ 15 + gen * 2 ^ 8 + e) 15 15 = planeNum p := by
    cases p <;> simp only [nfld, planeNum] <;> omega
  refine ⟨?_, by simp only [nfld]; omega, by simp only [nfld]; omega⟩
  rw [hplane]
  cases p <;> rfl

section Response

variable {s : State} {p : Plane} {e : Nat} {t : TrkS} {payload : List Byte}

/-- A response that is matched to its tracker entry counts, and ends the unit under way. -/
theorem State.bridgeResp_matched (htid : octs payload 4 2 = planeNum p * 2 ^ 15 + t.gen * 2 ^ 8 + e) (he : e < 256) (hgen : t.gen < 128)
    (hactive : s.active p = true) (hdev : s.devValid = true) (htrk : s.trkOf p e = some t) (htype : s.winType p t.win = 0)
    (hme : octs payload 2 2 % 1024 = s.devnum) (hph : t.ph = .reading ∨ t.ph = .writing) :
    s.bridgeResp p payload =
      let s1 := s.count (R.BRG_COUNTERS p 1)
      if octs payload 1 1 ≠ 0 then s1.unitFail p e t 2 (octs payload 1 1)
      else if t.ph = .writing then s1.unitDone p e t
      else s1.unitRead p e t (netWords (slice payload 12 t.unit)) := by
  obtain ⟨hplane, hentry, hgeneration⟩ := tid_fields htid he hgen
  have hopen : (t.ph == .reading || t.ph == .writing) = true := by simpa using hph
  simp only [State.bridgeResp, hplane, hentry, hgeneration, hactive, hdev, hme, htrk, htype, hopen, beq_self_eq_true, bne_self_eq_false,
    Bool.and_self, Bool.not_true, Bool.false_and, Bool.or_self, Bool.false_eq_true, if_false, ne_eq, not_true_eq_false, decide_false]
  rfl

end Response

/-- Settles O51: the intake with what a request in its turn is answered, the way to the ring, and a response by the state of its entry. -/
theorem bridgeTargetAndResponse : Obligations.BridgeTargetAndResponse := by
  intro s p origin wait payload len addr counted
  refine ⟨fun k c hc hactive hlead hdev hme hop => ?target, fun cls os rest hout hfirst hroom => State.drainOut_first hout hfirst hroom,
    fun e t htid he hgen hactive hdev htrk htype hme => ?response⟩
  case target =>
    intro inUse ends t out
    have haccept := State.bridgeTarget_accepted (origin := origin) hactive hlead hdev hme hop
    have hexec (u : State) (hu : s.bridgeTarget p origin k payload = u) : exec c s = .next (s.after (ends u)) :=
      hu ▸ exec_bridgeTarget hc
    refine ⟨fun hfull => hexec _ (haccept.trans (if_pos hfull)), fun hfree => hexec _ (haccept.trans (if_neg hfree.not_ge)),
      fun hin hother hnow htodo hfence hhold hacc hroom => ?_⟩
    have hserve {u : State} (hu : s.serve p ⟨k == 3, k, origin, payload⟩ = u) : exec c s = .next (s.after (u.drainN 65535)) := by
      have hempty : ¬128 ≤ inUse := by simp [inUse, hin]
      have hdrain : t.drain = u.drainN 65535 := State.drain_of_drainOne (State.drainOne_eq_target htodo hfence hhold hacc
        (hu ▸ State.drainTarget_only hin hother hactive hroom))
      rw [hexec _ (haccept.trans (if_neg hempty)), ← hdrain]
      exact congrArg (fun v => Host.Outcome.next (s.after v)) (if_neg (by simp [hnow]))
    exact ⟨fun st hrefuse => hserve (State.serve_refused hop hrefuse _),
      fun hok => ⟨fun hk => hserve (State.serve_read hok hop hk _), fun hk => hserve (State.serve_write hok hop hk _)⟩⟩
  case response =>
    have hmatched := State.bridgeResp_matched htid he hgen hactive hdev htrk htype hme
    refine ⟨fun hph hst => ?_, fun hph hst => ?_, fun hph hst => ?_⟩
    · exact exec_drain_of_eq rfl ((hmatched (.inl hph)).trans (by simp only [hph, hst]; rfl))
    · exact exec_drain_of_eq rfl ((hmatched (.inr hph)).trans (by simp only [hph, hst]; rfl))
    · exact exec_drain_of_eq rfl ((hmatched hph).trans (if_pos hst))

end Sys2Proof.Machine
end


section
/-!
Timeouts, locks, FENCE reads and prefetch buffers of the remote windows (R396-R404).
-/
namespace Sys2Proof.Machine

/-! BRG_WIN_LOCK is a register of its own row (R414) -/

/-- The row of BRG_WIN_LOCK. -/
def winLockRow : RegRow := rows_bridge[23]

section
variable (p : Plane) {n : Nat} (hn : n < 64)

theorem winLock_eq : R.BRG_WIN_LOCK p n = 0x5C1028 + n * 0x40 + planeOfs p := by unfold R.BRG_WIN_LOCK; omega

include hn

theorem winLock_range : 0x5C1000 ≤ R.BRG_WIN_LOCK p n ∧ R.BRG_WIN_LOCK p n < 0xC00000 ∧ R.BRG_WIN_LOCK p n % 4 = 0 := by
  cases p <;> simp only [R.BRG_WIN_LOCK, planeOfs] <;> omega

theorem normOff_winLock : normOff (R.BRG_WIN_LOCK p n) = 0x5C1028 + n * 0x40 := by
  rw [winLock_eq]
  exact normOff_plane p (by omega) (by omega)

theorem rowOf_winLock : rowOf (R.BRG_WIN_LOCK p n) = some winLockRow := by
  rw [rowOf, normOff_winLock p hn, rowsAt_bridge (by omega) (by omega)]
  exact findRow_indexed (l := rows_bridge) (row := winLockRow) (k := 23) rfl (by decide) rfl hn

theorem ix1_winLock : winLockRow.ix1 (R.BRG_WIN_LOCK p n) = n := by
  rw [RegRow.ix1, normOff_winLock p hn]
  change (0x5C1028 + n * 0x40 - 0x5C1028) / 0x40 = n
  omega

theorem planeOf_winLock : planeOf (R.BRG_WIN_LOCK p n) = some p := by
  rw [winLock_eq]
  exact planeOf_plane p (by omega) (by omega)

theorem logOf_winLock : logOf (R.BRG_WIN_LOCK p n) = none := by
  unfold logOf
  rw [if_neg (by unfold R.BRG_WIN_LOCK R.EV_COLLECT_TAIL; omega), planeOf_winLock p hn]
  dsimp only
  rw [if_neg (by unfold R.BRG_WIN_LOCK R.DSP_LOG_TAIL; omega), if_neg (by unfold R.BRG_WIN_LOCK R.BRG_PLOG_TAIL; omega),
    if_neg (by unfold R.BRG_WIN_LOCK R.BRG_DLOG_TAIL; omega)]

theorem isStageCtl_winLock : isStageCtl (R.BRG_WIN_LOCK p n) = false := by
  rw [isStageCtl, rowOf_winLock p hn]
  exact Bool.and_false _

theorem isTbSnap_winLock : isTbSnap (R.BRG_WIN_LOCK p n) = false := by
  have hafter : ¬0x5C1028 + n * 0x40 ≤ R.TB_BRIDGE_HI .a := by simp only [R.TB_BRIDGE_HI, planeOfs]; omega
  rw [isTbSnap, normOff_winLock p hn, decide_eq_false hafter, Bool.and_false, Bool.false_and]

theorem State.there_winLock {s : State} (hp : s.present p = true) : s.there (R.BRG_WIN_LOCK p n) = true := by
  rw [State.there, planeOf_winLock p hn]
  exact hp

variable {p} {s : State} {r : Req} (hr : s.reqOn r = true) (hp : s.present p = true)

include hp

theorem State.readReg_winLock : s.readReg r (R.BRG_WIN_LOCK p n) = s.lockRead r p n := by
  obtain ⟨-, hlt, -⟩ := winLock_range p hn
  have htb : R.BRG_WIN_LOCK p n ≠ R.TB_RAW_LO p := by unfold R.BRG_WIN_LOCK R.TB_RAW_LO; omega
  simp only [State.readReg, if_neg hlt.not_ge, State.there_winLock p hn hp, Bool.not_true, Bool.false_eq_true, if_false, rowOf_winLock p hn,
    planeOf_winLock p hn, if_neg htb, isTbSnap_winLock p hn, ix1_winLock p hn, true_and, if_pos hn]

include hr

theorem State.regRead_winLock : s.regRead r (R.BRG_WIN_LOCK p n) 4 0 =
    (s.lockRead r p n).2.emit (.read r (R.BRG_WIN_LOCK p n) (s.lockRead r p n).1) := by
  rw [State.regRead_aligned hr (winLock_range p hn).2.2, State.rsSet_zero, State.readReg_winLock hn hp]

/-- A write of BRG_WIN_LOCK of a plane that is present. -/
theorem State.regWrite_winLock (v : Word) : s.regWrite r (R.BRG_WIN_LOCK p n) 4 v = s.lockWrite r p n v := by
  obtain ⟨hle, hlt, halign⟩ := winLock_range p hn
  rw [State.regWrite_aligned hr halign, State.writeAll_of_le (by omega),
    State.writeReg_of_single hlt (State.there_winLock p hn hp) (rowOf_winLock p hn) (isStageCtl_winLock p hn) (logOf_winLock p hn) rfl,
    planeOf_winLock p hn, ix1_winLock p hn]
  dsimp only
  have hselect : R.BRG_WIN_LOCK p n ∉ [R.ING_RULE_SEL p, R.ING_STREAM_SEL p, R.BU_APPLY_SEL p, R.DSP_CANCEL p, R.DSP_JOB_SEL p,
      R.REL_DESC_SEL p, R.BRG_MAP_SEL p] := by
    simp only [List.mem_cons, List.not_mem_nil, or_false, R.BRG_WIN_LOCK, R.ING_RULE_SEL, R.ING_STREAM_SEL, R.BU_APPLY_SEL, R.DSP_CANCEL,
      R.DSP_JOB_SEL, R.REL_DESC_SEL, R.BRG_MAP_SEL]
    omega
  simp only [List.mem_cons, List.not_mem_nil, or_false, not_or] at hselect
  obtain ⟨h1, h2, h3, h4, h5, h6, h7⟩ := hselect
  have heg : ¬(R.BRG_WIN_LOCK p n = R.EG_CTL p n ∧ n < 4) := by unfold R.BRG_WIN_LOCK R.EG_CTL; omega
  have hq : ¬(R.BRG_WIN_LOCK p n = R.Q_CTL p n ∧ n < 512) := by unfold R.BRG_WIN_LOCK R.Q_CTL; omega
  have herr : ¬(R.BRG_WIN_LOCK p n = R.BRG_WIN_ERR p n ∧ n < 64) := by unfold R.BRG_WIN_LOCK R.BRG_WIN_ERR; omega
  have hport : ¬(R.BRG_WIN_LOCK p n = R.PORT_RING p n ∧ n < 4) := by unfold R.BRG_WIN_LOCK R.PORT_RING; omega
  rw [State.writePlane, if_neg heg, if_neg h1, if_neg h2, if_neg hq, if_neg h3, if_neg h4, if_neg h5, if_neg h6, if_neg h7, if_neg herr,
    dif_neg hport, if_pos ⟨rfl, hn⟩]

end

/-! Locks (R401) -/

section
variable {s : State} {r : Req} {p : Plane} {n : Nat}

/-- What a lock's register shows: the requester that has it, and whether that is the reader. -/
theorem pack_lock (k m : Nat) : pack [(k, 1), (m, 0)] = BitVec.ofNat 32 (2 * k + m) := by
  simp [pack, Nat.mul_comm]

theorem State.lockRead_free (h : ((s.pl p).winS n).lock = none) : s.lockRead r p n =
    (BitVec.ofNat 32 (2 * reqNum r + 1), (s.modPl p fun x => x.modWin n fun w => { w with lock := some (reqNum r) }).pfDrop p n 3) := by
  rw [State.lockRead, h, ← pack_lock]

theorem State.lockRead_taken {j : Nat} (h : ((s.pl p).winS n).lock = some j) :
    s.lockRead r p n = (BitVec.ofNat 32 (2 * j + if j = reqNum r then 1 else 0), s) := by
  have hmine : (j == reqNum r).toNat = if j = reqNum r then 1 else 0 := by
    by_cases hj : j = reqNum r <;> simp [hj]
  rw [State.lockRead, h, ← hmine, ← pack_lock]

theorem State.lockWrite_owner {v : Word} (h : ((s.pl p).winS n).lock = some (reqNum r)) (hv : bit v 0 = true) :
    s.lockWrite r p n v = s.modPl p fun x => x.modWin n fun w => { w with lock := none } := if_pos (by simp [h, hv])

theorem State.lockExpire_locked (h : ((s.pl p).winS n).lock ≠ none) : s.lockExpire p n =
    ((s.modPl p fun x => x.modWin n fun w => { w with lock := none }).count (R.BRG_COUNTERS p 12)).raise 100 :=
  if_pos (Option.isSome_iff_ne_none.2 h)

/-! FENCE reads, prefetch buffers, timeouts (R396, R397, R403, R404) -/

theorem State.fenceReg_held (hr : s.reqOn r = true) (hp : s.present p = true) :
    s.fenceReg r p n = s.fenceHold p n r none none [] := by
  have halign : R.BRG_WIN_FENCE p n % 4 = 0 := by cases p <;> simp only [R.BRG_WIN_FENCE, planeOfs] <;> omega
  rw [State.fenceReg, State.access_aligned hr halign, if_pos hp]

/-- A prefetch buffer that has been read to its end goes without a record. -/
theorem State.pfDrop_read {b : PfBuf} (hpf : ((s.pl p).winS n).pf = some b) (hread : b.read.all id = true) (reason : Nat) :
    s.pfDrop p n reason = s.modPl p fun x => x.modWin n fun w => { w with pf := none } := by
  rw [State.pfDrop, hpf]
  exact if_pos hread

theorem State.bridgeTimeout_access {e : Nat} {t : TrkS} (he : e < 256) (h : s.trkOf p e = some t) : s.bridgeTimeout p e =
    let g := (((s.count (R.BRG_COUNTERS p 3)).raise 99).recall p e t).noteFail p t 1 0
    g.1.endAcc p e g.2 := by
  rw [State.bridgeTimeout, if_neg he.not_ge, h]
  rfl

theorem State.bridgeTimeout_held {e : Nat} {w : PostS} (he : 256 ≤ e) (h : (s.pl p).posted[e - 256]? = some w) : s.bridgeTimeout p e =
    let s1 := ((s.count (R.BRG_COUNTERS p 3)).raise 99).modPl p fun x => { x with posted := x.posted.eraseIdx (e - 256) }
    ((s1.postedLog p (barWin w.off) 0 1 0 (barOfs w.off) w.data).postedEnd p (barWin w.off) w.ord (some 1)).count
      (R.BRG_WIN_ERR_CNT p (barWin w.off)) := by
  rw [State.bridgeTimeout, if_pos he, State.holdTimeout, h]
  rfl

theorem State.ackTimer_due {e : Nat} {t : TrkS}
    (h : (s.pl p).trk.find? (fun x => x.2.win == n && (x.2.ph == .timerRead || x.2.ph == .timerWrite)) = some (e, t)) :
    s.ackTimer p n = s.again p e { t with ph := if t.ph = .timerWrite then .writing else .reading } := by
  rw [State.ackTimer, h]

end

/-- Settles O52, row by row. -/
theorem bridgeHousekeeping : Obligations.BridgeHousekeeping := by
  intro s r p n entry v
  refine ⟨fun t he htrk => exec_drain_of_eq rfl (State.bridgeTimeout_access he htrk),
    fun w he hheld => exec_drain_of_eq rfl (State.bridgeTimeout_held he hheld), fun hr hp => ?window,
    fun hlock => exec_drain_of_eq rfl (State.lockExpire_locked hlock),
    fun b hpf hread => exec_next_of_eq rfl (State.pfDrop_read hpf hread 7), fun e t hdue => exec_drain_of_eq rfl (State.ackTimer_due hdue)⟩
  case window =>
    intro w k
    have hk : k = reqNum r := by cases r <;> rfl
    have hread := State.regRead_winLock n.isLt hr hp
    rw [hk]
    refine ⟨fun hfree => exec_drain_of_eq rfl (hread.trans ?_), fun j htaken => exec_drain_of_eq rfl (hread.trans ?_),
      fun hmine hv => exec_drain_of_eq rfl ((State.regWrite_winLock n.isLt hr hp v).trans (State.lockWrite_owner hmine hv)),
      exec_drain_of_eq rfl (State.fenceReg_held hr hp)⟩
    · rw [State.lockRead_free hfree]
    · rw [State.lockRead_taken htaken]

end Sys2Proof.Machine
end


section
/-!
The host queues and the ring's commands: doorbells, fetches, replies, first copies (R416-R429).
-/
namespace Sys2Proof.Machine

/-! Doorbells and EN (R419-R421) -/

section Doorbells

variable {s : State} {q : Nat} (v : Word) (hhost : s.hostOn = true) (hen : s.rb (R.HQ_CTL q) 31 = true)
include hhost hen

theorem State.sqDoorbell_running (hrun : s.rb (R.HQ_STATUS q) 31 = false) :
    s.sqDoorbell q v = if s.sqSize q ≤ fld v 11 0 then s.hqFault q 3 (fld v 11 0) else s.modHq q fun h => { h with tail := fld v 11 0 } :=
  if_neg (by simp [hhost, hen, hrun])

theorem State.rqDoorbell_enabled : s.rqDoorbell q v = s.modHq q fun h => { h with head := fld v 11 0 % s.rqSize q } :=
  if_neg (by simp [hhost, hen])

end Doorbells

theorem rowOf_hqCtl {n : Nat} (hn : n < 4) : rowOf (R.HQ_CTL n) = some rows_global[10] ∧ rows_global[10].ix1 (R.HQ_CTL n) = n :=
  rowOf_global (row := rows_global[10]) (k := 10) rfl (by decide) rfl (by decide) (by decide) hn

/-- A write of HQ_CTL is the queue's own. -/
theorem State.regWrite_hqCtl {s : State} {r : Req} {q : Nat} {row : RegRow} (hon : s.reqOn r = true) (hq : q < 4)
    (hrow : rowOf (R.HQ_CTL q) = some row) (v : Word) : s.regWrite r (R.HQ_CTL q) 4 v = s.hqCtl row q v := by
  obtain ⟨hfound, hix⟩ := rowOf_hqCtl hq
  obtain rfl : rows_global[10] = row := Option.some.inj (hfound.symm.trans hrow)
  have hplace : R.HQ_CTL q % 4 = 0 ∧ ¬0x200000 ≤ R.HQ_CTL q := by unfold R.HQ_CTL; omega
  rw [State.regWrite_aligned hon hplace.1]
  simp only [State.writeAll, hfound, hix, if_neg hplace.2, if_pos (And.intro trivial hq)]

/-! A queue's state (R417, R420) -/

theorem State.hqS_modHq_keeps {α : Type} (s : State) (q : Nat) (g : HqS → α) {f : HqS → HqS} (hf : ∀ h, g (f h) = g h) :
    g ((s.modHq q f).hqS q) = g (s.hqS q) :=
  getD_modAt_keeps g hf q q s.hq HqS.rest

/-- A queue that has taken its next entry: the head past it, busy, the replies owed counted (R417, R420). -/
def State.hqTaken (s : State) (q owed : Nat) : State :=
  (s.setRf (R.HQ_STATUS q) 11 0 ((s.sqHead q + 1) % s.sqSize q)).modHq q fun h => { h with busy := true, owed := h.owed + owed }

theorem devnum_ne_hqStatus (q : Nat) : R.AON_DEVNUM ≠ R.HQ_STATUS q := by unfold R.AON_DEVNUM R.HQ_STATUS; omega

theorem State.devnum_hqTaken (s : State) (q owed : Nat) : (s.hqTaken q owed).devnum = s.devnum :=
  State.rf_setReg_ne s (devnum_ne_hqStatus q) _ _ _

/-! Fetching (R416, R417, R423, R424) -/

theorem getElem_slice (bs : List Byte) (i n k : Nat) (h : k < (slice bs i n).length) : (slice bs i n)[k] = bs.getD (i + k) 0 := by
  have hk : k < n := by rwa [slice_length] at h
  simp only [slice, List.getElem_append, List.length_take, List.length_drop, List.getElem_take, List.getElem_drop, List.getElem_replicate]
  split
  · rw [List.getD_eq_getElem]
  · rw [List.getD_eq_default _ _ (by omega)]

/-- What a part of a slice's front reads. -/
theorem slice_slice_front (bs : List Byte) {i n m : Nat} (h : i + n ≤ m) : slice (slice bs 0 m) i n = slice bs i n := by
  refine List.ext_getElem (by simp only [slice_length]) fun k h1 h2 => ?_
  have hk : i + k < (slice bs 0 m).length := by rw [slice_length] at h1 ⊢; omega
  rw [getElem_slice, getElem_slice, List.getD_eq_getElem _ _ hk, getElem_slice, Nat.zero_add]

section Fetch

variable {s : State} {q : Fin 4} {entry params : List Byte} {c : Cmd} {n : Nat} {p : Plane}

/-- What comes of an entry once its command is read (R416, R423, R424). -/
theorem State.hostCmd_eq (hcore : s.cmdCore = some p) (hn : octs entry 8 2 = n)
    (hc : parseCmd (.hostQ q) (slice entry 0 32) (if n ≤ 32 then slice entry 32 n else slice params 0 n) = c) :
    s.hostCmd q entry params = match arrivalStatus c (slice entry 0 32) n with
      | some st => s.refuse c p st
      | none =>
        let fwd := c.all || !(c.loc || (s.devValid && c.dev.toNat == s.devnum))
        if fwd && !s.present .a && !s.present .b then
          (if s.actsOn c then s.await c else s.sendReply c p stPlaneAbsent 8 [] true true)
        else
          let s1 := s.when fwd fun s => s.forwardCmd p c (slice entry 0 32)
          if s.actsOn c then s1.await c else s1.sendReply c p stDone 8 [] true true := by
  have hlen : octs (slice entry 0 32) 8 2 = n := by rw [octs, slice_slice_front _ (by decide), ← octs, hn]
  unfold State.hostCmd
  dsimp only
  rw [hlen, hc, hcore]
  exact if_neg (by simp)

/-- The fetch of a command that is not refused on arrival and that this device alone executes (R417). -/
theorem State.hostCmd_local (hcore : s.cmdCore = some p) (hn : octs entry 8 2 = n)
    (hc : parseCmd (.hostQ q) (slice entry 0 32) (if n ≤ 32 then slice entry 32 n else slice params 0 n) = c)
    (hok : arrivalStatus c (slice entry 0 32) n = none) (hloc : c.loc = true) (hall : c.all = false) : s.hostCmd q entry params = s.await c := by
  have hsrc : c.src = .hostQ q := by rw [← hc]; rfl
  rw [State.hostCmd_eq hcore hn hc, hok]
  simp [State.actsOn, hloc, hall, hsrc, State.when]

/-- The fetch of a command for another device (R424). -/
theorem State.hostCmd_forwarded (hcore : s.cmdCore = some p) (hn : octs entry 8 2 = n)
    (hc : parseCmd (.hostQ q) (slice entry 0 32) (if n ≤ 32 then slice entry 32 n else slice params 0 n) = c)
    (hok : arrivalStatus c (slice entry 0 32) n = none) (hloc : c.loc = false) (hall : c.all = false)
    (hother : c.dev.toNat ≠ s.devnum) (hpresent : s.present .a = true ∨ s.present .b = true) :
    s.hostCmd q entry params = (s.forwardCmd p c (slice entry 0 32)).sendReply c p stDone 8 [] true true := by
  have hacts : s.actsOn c = false := by simp [State.actsOn, hall, hloc, hother]
  have hcan : ¬((c.all || !(c.loc || (s.devValid && c.dev.toNat == s.devnum))) && !s.present .a && !s.present .b) = true := by
    obtain h | h := hpresent <;> simp [h]
  rw [State.hostCmd_eq hcore hn hc, hok]
  exact (if_neg hcan).trans (by simp [hacts, hall, hloc, hother, State.when])

theorem State.hostCmd_refused (hcore : s.cmdCore = some p) (hn : octs entry 8 2 = n)
    (hc : parseCmd (.hostQ q) (slice entry 0 32) (if n ≤ 32 then slice entry 32 n else slice params 0 n) = c) {st : Nat}
    (hbad : arrivalStatus c (slice entry 0 32) n = some st) : s.hostCmd q entry params = s.refuse c p st := by
  rw [State.hostCmd_eq hcore hn hc, hbad]

end Fetch

section Fetches

variable {s : State} {q : Fin 4} {dma : DmaEnd} {entry params : List Byte} (hhost : s.hostOn = true) (hen : s.rb (R.HQ_CTL q.val) 31 = true)
  (hrun : s.rb (R.HQ_STATUS q.val) 31 = false)

/-- The state in which a fetch goes on: the failure of the next reply's write is known (log 150). -/
def State.dmaKnown (s : State) (q : Nat) (dma : DmaEnd) : State := if dma = .writeFail then s.modHq q fun h => { h with wfail := true } else s

theorem State.hqS_dmaKnown {α : Type} (s : State) (q : Nat) (dma : DmaEnd) (g : HqS → α) (hg : ∀ h, g { h with wfail := true } = g h) :
    g ((s.dmaKnown q dma).hqS q) = g (s.hqS q) := by
  unfold State.dmaKnown
  split
  · exact s.hqS_modHq_keeps q g hg
  · rfl

theorem State.reg_dmaKnown (s : State) (q : Nat) (dma : DmaEnd) (o : Nat) : (s.dmaKnown q dma).reg o = s.reg o := by
  unfold State.dmaKnown
  split <;> rfl

include hhost hen hrun

/-- What a fetch of a running queue does, by its head, tail and room. -/
theorem State.commandFetch_running : s.commandFetch q dma entry params =
    let head := s.sqHead q.val
    let x := s.hqS q.val
    let owed := owes (octs entry 0 2) (octs entry 6 2 / 2 ^ 14 % 2 == 1)
    let w := s.dmaKnown q.val dma
    if x.busy = true ∨ head = x.tail then w
    else if dma = .readFail then w.hqFault q.val 1 head
    else if s.rqRoom q.val < x.owed + owed then w
    else (w.hqTaken q.val owed).hostCmd q entry params := by
  have hon : (s.hostOn && s.rb (R.HQ_CTL q.val) 31 && !s.rb (R.HQ_STATUS q.val) 31) = true := by simp [hhost, hen, hrun]
  have hw : (s.when (true && dma == .writeFail) fun s => s.modHq q.val fun h => { h with wfail := true }) = s.dmaKnown q.val dma := by
    cases dma <;> rfl
  have hroom : (s.dmaKnown q.val dma).rqRoom q.val = s.rqRoom q.val := by
    simp only [State.rqRoom, State.rqSize, State.rqTail, State.rf, State.reg_dmaKnown, s.hqS_dmaKnown q.val dma HqS.head fun _ => rfl]
  have hhead : (s.dmaKnown q.val dma).sqHead q.val = s.sqHead q.val := by simp only [State.sqHead, State.rf, State.reg_dmaKnown]
  unfold State.commandFetch
  dsimp only
  rw [hon, hw, hroom, hhead, s.hqS_dmaKnown q.val dma HqS.tail fun _ => rfl, s.hqS_dmaKnown q.val dma HqS.owed fun _ => rfl,
    s.hqS_dmaKnown q.val dma HqS.busy fun _ => rfl]
  simp only [State.hqTaken, hhead, Bool.not_true, Bool.false_or, Bool.or_eq_true, beq_iff_eq]
  rfl

end Fetches

/-! Where a queue's fetch leaves the rest (log 150) -/

theorem State.cmdCore_fetching (s : State) (q : Nat) (dma : DmaEnd) (owed : Nat) : ((s.dmaKnown q dma).hqTaken q owed).cmdCore = s.cmdCore := by
  unfold State.dmaKnown
  split <;> rfl

theorem State.present_fetching (s : State) (q : Nat) (dma : DmaEnd) (owed : Nat) (p : Plane) :
    ((s.dmaKnown q dma).hqTaken q owed).present p = s.present p := by
  unfold State.dmaKnown
  split <;> rfl

theorem State.devnum_fetching (s : State) (q : Nat) (dma : DmaEnd) (owed : Nat) :
    ((s.dmaKnown q dma).hqTaken q owed).devnum = s.devnum := by
  rw [State.devnum_hqTaken, State.devnum, State.rf, State.reg_dmaKnown]; rfl

theorem State.hqTaken_dmaKnown (s : State) (q : Nat) (dma : DmaEnd) (owed : Nat) : (s.dmaKnown q dma).hqTaken q owed =
    ((s.dmaKnown q dma).setRf (R.HQ_STATUS q) 11 0 ((s.sqHead q + 1) % s.sqSize q)).modHq q fun h =>
      { h with busy := true, owed := h.owed + owed } := by
  simp only [State.hqTaken, State.sqHead, State.sqSize, State.rf, State.reg_dmaKnown]

/-! First copies (R428) -/

/-- A ring command that names this device and is not refused waits for its executor (R416, R428, R429). -/
theorem State.ringCmd_waits {s : State} {p : Plane} {c : Cmd} {h : List Byte} {len : Nat} {origin : BitVec 10} (hmode : s.mode ≠ 4)
    (hacts : s.actsOn c = true) (htaken : s.ringRefuses c origin = false) (hok : arrivalStatus c h len = none) (hloc : c.loc = false) :
    s.ringCmd p c h len origin = s.await c := by
  simp [State.ringCmd, hmode, hacts, htaken, hok, hloc]

theorem State.await_service {s : State} {c : Cmd} {origin : BitVec 10} {seq : Word} {ackreq : Bool} (h : c.src = .ring 3 origin seq ackreq) :
    s.await c = { s with accepted := s.accepted ++ [c] } := by
  simp [State.await, h]

/-- The state that has seen a copy of a sentence. -/
def State.saw (s : State) (e : BitVec 10 × Word × Nat) : State := { s with seen := s.seen ++ [e] }

theorem State.mode_saw (s : State) (e : BitVec 10 × Word × Nat) : (s.saw e).mode = s.mode := rfl
theorem State.actsOn_saw (s : State) (e : BitVec 10 × Word × Nat) (c : Cmd) : (s.saw e).actsOn c = s.actsOn c := rfl
theorem State.ringRefuses_saw (s : State) (e : BitVec 10 × Word × Nat) (c : Cmd) (origin : BitVec 10) :
    (s.saw e).ringRefuses c origin = s.ringRefuses c origin := rfl

/-- A command of the Service-request class waits for its executor (R417, R428, R429). -/
theorem State.commandSentence_service {s : State} {p : Plane} {octets : List Byte} {t : Sent} {c : Cmd}
    (ht : parseSent octets (octets.drop 32) = t)
    (hc : parseCmd (.ring t.cls t.origin t.seq t.ackreq) (slice (octets.drop 32) 0 32) ((octets.drop 32).drop 32) = c)
    (hstream : t.stream.toNat = strCmd) (hcls : t.cls = 3) (hhears : s.hears p = true) (hmode : s.mode ≠ 4)
    (hnew : ∀ e, e ∈ s.seen → ¬(e.1 = t.origin ∧ e.2.1 = t.seq ∧ e.2.2 / 4 = 3)) (hacts : s.actsOn c = true)
    (htaken : s.ringRefuses c t.origin = false)
    (hok : arrivalStatus c (slice (octets.drop 32) 0 32) ((octets.drop 32).length - 32) = none) (hloc : c.loc = false) :
    s.commandSentence p false octets =
      { s with seen := s.seen ++ [(t.origin, t.seq, 12 + planeNum p)], accepted := s.accepted ++ [c] } := by
  have hsrc : c.src = .ring 3 t.origin t.seq t.ackreq := by rw [← hc, ← hcls]; rfl
  have hfirst : s.firstCopy t.origin (BitVec.toNat (3 : BitVec 3)) t.seq p = (true, s.saw (t.origin, t.seq, 12 + planeNum p)) :=
    State.firstCopy_new hnew p
  subst ht
  unfold State.commandSentence
  dsimp only
  rw [hc, if_neg (by simp [hstream]), if_neg (by simp [hcls]), if_neg (by simp [hhears]), if_neg hmode, hcls, hfirst]
  dsimp only
  rw [if_pos rfl, State.ringCmd_waits (by rwa [State.mode_saw]) (by rwa [State.actsOn_saw]) (by rwa [State.ringRefuses_saw]) hok hloc,
    State.await_service hsrc, State.saw]

/-- A reply of another device goes to the queue of its tag, its first copy (R428). -/
theorem State.statusReply_numbered {s : State} {p : Plane} {octets : List Byte} {t : Sent} (ht : parseSent octets (octets.drop 32) = t)
    (hstream : t.stream.toNat = strReply) (hnum : t.unnum = false) (hactive : s.active p = true) (hvalid : s.devValid = true)
    (hnamed : octs (octets.drop 32) 0 2 % 1024 = s.devnum) (hlen : 20 ≤ (octets.drop 32).length)
    (hnew : ∀ e, e ∈ s.seen → ¬(e.1 = t.origin ∧ e.2.1 = t.seq ∧ e.2.2 / 4 = 4)) :
    s.statusReply p octets =
      { s with seen := s.seen ++ [(t.origin, t.seq, 16 + planeNum p)] }.remoteReply t.origin.toNat (slice (octets.drop 32) 4 16) := by
  have htaken : ¬((parseSent octets (octets.drop 32)).stream.toNat ≠ strReply ∨ (!s.active p) = true ∨ (!s.devValid) = true ∨
      octs (octets.drop 32) 0 2 % 1024 ≠ s.devnum ∨ (octets.drop 32).length < 20) := by
    rw [ht, hstream, hactive, hvalid, hnamed]
    simp only [ne_eq, not_true_eq_false, Bool.not_true, Bool.false_eq_true, false_or, not_lt, hlen]
  subst ht
  unfold State.statusReply
  dsimp only
  rw [if_neg htaken, if_neg (by simp [hnum]), State.firstCopy_new hnew]
  rfl

/-! Accepted commands of the host (R417) -/

theorem State.await_host {s : State} {c : Cmd} {q : Fin 4} (h : c.src = .hostQ q) (hq : q ≠ 0) :
    s.await c = { s with accepted := s.accepted ++ [c] } := by
  simp [State.await, h, hq]

theorem State.await_snuffer {s : State} {c : Cmd} (h : c.src = .hostQ 0) : s.await c =
    let now := if s.fresh.1 = s.lt then s.fresh.2 else []
    { s with accepted := s.accepted.filter (fun d => !now.contains d) ++ c :: s.accepted.filter now.contains } := by
  simp [State.await, h]

/-- Setting EN starts a queue empty (R420). -/
theorem State.hqCtl_enable {s : State} {row : RegRow} {q : Nat} (v : Word) (hoff : s.rb (R.HQ_CTL q) 31 = false) :
    s.hqCtl row q (setBit v 31 true) = ((s.put row (R.HQ_CTL q) (setBit v 31 true) 0).setReg (R.HQ_STATUS q) 0).modHq q fun h =>
      { h with tail := 0, head := 0, phase := true, wfail := false } := by
  have hbit : bit (setBit v 31 true) 31 = true := by simp [bit_setBit_same]
  simp [State.hqCtl, hoff, hbit]

/-- A write that clears EN leaves the ring sizes (R421). -/
theorem State.hqCtl_disable {s : State} {row : RegRow} {q : Nat} (v : Word) (hon : s.rb (R.HQ_CTL q) 31 = true) :
    s.hqCtl row q (setBit v 31 false) = s.put row (R.HQ_CTL q) (setFld (setFld (setBit v 31 false) 27 24 (fld (s.reg (R.HQ_CTL q)) 27 24))
      19 16 (fld (s.reg (R.HQ_CTL q)) 19 16)) 0 := by
  simp [State.hqCtl, hon]

/-- Settles O53: the doorbells and EN by the writes of the queue's registers, a fetch by what comes of its entry, and the sentences of the
ring by their first copies. -/
theorem hostQueueCommands : Obligations.HostQueueCommands := by
  intro s r q v p
  refine ⟨fun hhost hen => ⟨fun hrun => ⟨fun h => ?beyond, fun h => ?within⟩, ?reply⟩,
    fun row hrow hon => ⟨fun hen => ?enable, fun hen => ?disable⟩,
    fun dma entry params hdma hhost hen hrun => ?fetch, fun rep source hfail => if_pos hfail,
    fun c hsrc => ⟨fun hq => State.await_host hsrc hq, fun hq => ?snuffer⟩, ?service, ?numbered⟩
  case beyond => exact exec_next_of_eq rfl ((State.sqDoorbell_running v hhost hen hrun).trans (if_neg h.not_ge))
  case within => exact exec_next_of_eq rfl ((State.sqDoorbell_running v hhost hen hrun).trans (if_pos h))
  case reply => exact exec_next_of_eq rfl (State.rqDoorbell_enabled v hhost hen)
  case enable => exact exec_next_of_eq rfl ((State.regWrite_hqCtl hon q.isLt hrow _).trans (State.hqCtl_enable v hen))
  case disable => exact exec_next_of_eq rfl ((State.regWrite_hqCtl hon q.isLt hrow _).trans (State.hqCtl_disable v hen))
  case snuffer =>
    subst hq
    exact State.await_snuffer hsrc
  case service =>
    intro octets payload t c hstream hcls hhears hmode hnew hacts htaken hok hloc
    exact exec_next_of_eq rfl (State.commandSentence_service rfl rfl hstream hcls hhears hmode hnew hacts htaken hok hloc)
  case numbered =>
    intro octets payload t hstream hnum hactive hvalid hnamed hlen hnew
    exact exec_next_of_eq rfl (State.statusReply_numbered rfl hstream hnum hactive hvalid hnamed hlen hnew)
  case fetch =>
    intro owed n c w s1
    have hs1 : (s.dmaKnown q.val dma).hqTaken q.val owed = s1 := s.hqTaken_dmaKnown q.val dma owed
    have hfetch (d : DmaEnd) := State.commandFetch_running (dma := d) (entry := entry) (params := params) hhost hen hrun
    refine ⟨fun hnone => exec_next_of_eq rfl ?_, fun hidle hsome => ⟨exec_next_of_eq rfl ?_, fun hroom hcore => ?_⟩⟩
    · rw [hfetch]
      obtain hbusy | hempty | hfull := hnone
      · exact if_pos (.inl hbusy)
      · exact if_pos (.inr hempty)
      · exact ite_eq_left_iff.2 fun _ => (if_neg hdma).trans (if_pos hfull)
    · exact (hfetch .readFail).trans ((if_neg (by simp [hidle, hsome])).trans (if_pos rfl))
    · have htaken : s.commandFetch q dma entry params = s1.hostCmd q entry params := by
        rw [← hs1]
        exact (hfetch dma).trans ((if_neg (by simp [hidle, hsome])).trans ((if_neg hdma).trans (if_neg hroom.not_gt)))
      have hcore1 : s1.cmdCore = some p := by rw [← hs1, State.cmdCore_fetching, hcore]
      refine ⟨fun st hst => exec_next_of_eq rfl (htaken.trans (State.hostCmd_refused hcore1 rfl rfl hst)),
        fun hok hloc hall => exec_next_of_eq rfl (htaken.trans (State.hostCmd_local hcore1 rfl rfl hok hloc hall)),
        fun hok hloc hall hvalid hother hpresent => exec_next_of_eq rfl (htaken.trans (State.hostCmd_forwarded hcore1 rfl rfl hok hloc hall ?_ ?_))⟩
      · rwa [← hs1, State.devnum_fetching]
      · rwa [← hs1, State.present_fetching, State.present_fetching]

end Sys2Proof.Machine
end


section
/-!
The maintenance sequencer, staged firmware and flash commands (R434, R444-R447, R470, R484).
-/
namespace Sys2Proof.Machine

/-! The sequencer takes a command (R445, R446) -/

/-- The operation of a command. -/
def opOf (c : Cmd) (op : Nat) (data : List Byte) : MaintOp := { op := op, planes := c.planes, cmd := some c, data := data, fail := none }

section Take

variable {u : State} {c : Cmd} {op : Nat} {p q : Plane} {ps : List Plane} {split : Bool} {data : List Byte}

theorem State.sequencer_empty (hfree : (u.maint.isEmpty && u.maintQ.isEmpty) = true) : u.maint = [] ∧ u.maintQ = [] := by
  simpa using hfree

/-- An empty sequencer begins what nothing keeps from starting. -/
theorem State.mntTake_begins (hfree : (u.maint.isEmpty && u.maintQ.isEmpty) = true) (hwhy : u.mntWhy (opOf c op data) = none) :
    u.mntTake c op ps split data = ((u.accept c ps split stAccepted).mntEnter (opOf c op data)).mntGo (opOf c op data) := by
  obtain ⟨hrun, hqueue⟩ := State.sequencer_empty hfree
  rw [opOf] at hwhy
  simp [State.mntTake, hrun, hqueue, hwhy, opOf]

theorem State.mntTake_refused {st : Nat} (hfree : (u.maint.isEmpty && u.maintQ.isEmpty) = true) (hcore : u.coreFor c = some p)
    (hwhy : u.mntWhy (opOf c op data) = some st) (hst : st ≠ stDone) : u.mntTake c op ps split data = u.refuse c p st := by
  obtain ⟨hrun, hqueue⟩ := State.sequencer_empty hfree
  rw [opOf] at hwhy
  simp [State.mntTake, hrun, hqueue, hwhy, hcore, hst]

theorem State.mntTake_done (hfree : (u.maint.isEmpty && u.maintQ.isEmpty) = true) (hwhy : u.mntWhy (opOf c op data) = some stDone) :
    u.mntTake c op ps split data = u.answer c (ps.map fun p => (p, stDone, [])) split := by
  obtain ⟨hrun, hqueue⟩ := State.sequencer_empty hfree
  rw [opOf] at hwhy
  simp [State.mntTake, hrun, hqueue, hwhy]

/-- An operation that another of its kind stands against is refused (R445). -/
theorem State.mntTake_conflict (hcore : u.coreFor c = some p) (hagainst : ((u.maint ++ u.maintQ).any fun m => mntTable m.op op == 2) = true) :
    u.mntTake c op ps split data = u.refuse c p stConflict := by
  unfold State.mntTake
  dsimp only
  rw [if_pos hagainst, hcore]
  rfl

theorem State.mntPlain_takes {bad : Bool} (htargets : u.targets c = .ok (ps, split)) (hbad : bad = false) :
    u.mntPlain c op bad = u.mntTake c op ps split [] := by
  rw [State.mntPlain, htargets, hbad]
  rfl

theorem State.mntFlash_takes {bad : Bool} (htargets : u.flashTargets c = .ok (ps, split)) (hbad : bad = false) :
    u.mntFlash c op bad data = u.mntTake c op ps split data := by
  rw [State.mntFlash, htargets, hbad]
  rfl

theorem State.mntOne_takes (hcore : u.cmdCore = some p) (hplanes : planesOf c.planes = [q]) (hmode : u.mode ≠ 4) :
    u.mntOne c op = u.mntTake c op [q] false [] := by
  simp [State.mntOne, hcore, hplanes, hmode]

/-- Outside SPLIT the time-lead plane's control core executes every command (R416). -/
theorem State.coreFor_of_mode (hcore : u.cmdCore = some p) (hmode : u.mode ≠ 4) : u.coreFor c = some p := by
  unfold State.coreFor
  split
  · rw [if_neg hmode, hcore]
  · exact hcore

end Take

/-! The status with which an operation ends at once (R82, R161, R446, R481) -/

theorem plane_opOf {c : Cmd} {q : Plane} (h : planesOf c.planes = [q]) (op : Nat) (data : List Byte) : (opOf c op data).plane = q := by
  simp [MaintOp.plane, opOf, h]

theorem State.mntActs_opOf {u : State} {c : Cmd} {ps : List Plane} {split : Bool} (h : u.targets c = .ok (ps, split)) (op : Nat)
    (data : List Byte) : u.mntActs (opOf c op data) = ps := by
  simp [State.mntActs, opOf, h]

theorem State.mntWhy_rejoin {u : State} {c : Cmd} {q : Plane} (hplane : planesOf c.planes = [q]) (hpwr : u.pwrMode ≠ 1) :
    u.mntWhy (opOf c 1 []) = u.rejoinWhy q false := by
  rw [State.mntWhy, plane_opOf hplane]
  simp [opOf, hpwr]

section Rejoin

variable {u : State} {q : Plane} (hother : u.active (other q) = true)
include hother

theorem State.rejoinWhy_held (hst : (u.pl q).st = .held) : u.rejoinWhy q false = some stNotPermitted := by
  simp [State.rejoinWhy, hother, hst]

theorem State.rejoinWhy_off (hst : (u.pl q).st = .off) : u.rejoinWhy q false = some stPlaneAbsent := by
  simp [State.rejoinWhy, hother, hst]

theorem State.rejoinWhy_active (hst : (u.pl q).st = .active) : u.rejoinWhy q false = some stDone := by
  simp [State.rejoinWhy, hother, hst]

/-- A plane in RELEARN, or one in BOOT that can boot, may rejoin. -/
theorem State.rejoinWhy_waits (hst : (u.pl q).st = .relearn ∨ (u.pl q).st = .boot ∧ (u.pl q).dead = false) :
    u.rejoinWhy q false = none := by
  obtain hst | ⟨hst, hdead⟩ := hst
  · simp [State.rejoinWhy, hother, hst]
  · simp [State.rejoinWhy, hother, hst, hdead]

end Rejoin

/-- FW_SWAP and SELF_TEST go on where both planes are ACTIVE (R446). -/
theorem State.mntWhy_leaves {u : State} {c : Cmd} {q : Plane} {op : Nat} (hplane : planesOf c.planes = [q]) (hop : op = 3 ∨ op = 7)
    (hactive : u.active q = true) (hother : u.active (other q) = true) : u.mntWhy (opOf c op []) = none := by
  rw [State.mntWhy, plane_opOf hplane]
  obtain rfl | rfl := hop <;> simp [opOf, hactive, hother]

theorem State.mntWhy_scrub {u : State} {c : Cmd} (hpwr : u.pwrMode ≠ 1) : u.mntWhy (opOf c 0 []) = none := by
  simp [State.mntWhy, opOf, hpwr]

theorem State.mntWhy_linkCal {u : State} {c : Cmd} {ps : List Plane} {split : Bool} (htargets : u.targets c = .ok (ps, split))
    (hmay : (ps.all fun q => u.calMay q (cNum c 0 1 == 1)) = true) : u.mntWhy (opOf c 4 []) = none := by
  rw [State.mntWhy, State.mntActs_opOf htargets]
  simp only [opOf, hmay]
  rfl

/-- Nothing keeps the other operations from starting. -/
theorem State.mntWhy_none {u : State} {c : Cmd} {op : Nat} {data : List Byte} (hop : op = 2 ∨ op = 5 ∨ op = 6) :
    u.mntWhy (opOf c op data) = none := by
  obtain rfl | rfl | rfl := hop <;> rfl

/-! What an operation begins (R82, R434, R484) -/

section Goes

variable {c : Cmd} {q : Plane} (hplane : planesOf c.planes = [q]) (u : State)
include hplane

theorem State.mntGo_rejoin :
    u.mntGo (opOf c 1 []) = if (u.pl q).st = .boot ∧ (u.pl q).fw.isNone = true then u else u.rejoinWaits q := by
  rw [State.mntGo, plane_opOf hplane]
  rfl

theorem State.mntGo_swap : u.mntGo (opOf c 3 []) =
    (u.frMirror.planeLost q .held (some (opOf c 3 []))).setRb (R.AON_BOOT (planeNum q)) 31 true := by
  rw [State.mntGo, plane_opOf hplane]
  rfl

theorem State.mntGo_selfTest : u.mntGo (opOf c 7 []) = u.planeLost q .held (some (opOf c 7 [])) := by
  rw [State.mntGo, plane_opOf hplane]
  rfl

end Goes

/-! Operations end (R426, R434) -/

theorem combine_one_status (lead p : Plane) (st : Nat) (res : List Byte) : (combine lead [(p, st, res)] false).1 = st := by
  have hparts : (bothPlanes.filterMap fun q => partOf q [(p, st, res)]) = [(p, st, res)] := by cases p <;> rfl
  have hstatus : (combine lead [(p, st, res)] false).1 =
      match (bothPlanes.filterMap fun q => partOf q [(p, st, res)]).find? fun e => e.2.1 != stDone with
      | some e => e.2.1
      | none => stDone := rfl
  rw [hstatus, hparts]
  by_cases hst : st = stDone <;> simp [hst]

/-- An operation of one plane ends with that plane's part. -/
theorem State.mntParts_one {s : State} {m : MaintOp} {c : Cmd} (h : m.cmd = some c) (p : Plane) (st : Nat) (res : List Byte) :
    s.mntParts m [(p, st, res)] = (s.part c p st res).mntDone m st [] := by
  have hstatus := combine_one_status s.lead p st res
  simp only [State.mntParts, h, State.each, List.foldl_cons, List.foldl_nil, hstatus]

section Ends

variable {s : State} {m : MaintOp} {c : Cmd} {p : Plane} {split : Bool}

/-- Which plane's count a scrub's end brings. -/
def scrubOf (a b : ScrubCnt) : Plane → ScrubCnt
  | .a => a
  | .b => b

theorem State.scrubDone_one (hrun : s.mntRun 0 = some m) (hcmd : m.cmd = some c) (htargets : s.targets c = .ok ([p], split)) (a b : ScrubCnt) :
    s.scrubDone a b = ((s.scrubbed p (scrubOf a b p)).part c p stDone (scrubResult (scrubOf a b p))).mntDone m stDone [] := by
  unfold State.scrubDone
  simp only [hrun, hcmd, htargets]
  cases p <;> exact State.mntParts_one hcmd ..

/-- What the boot ROM's rules say of a slot that an operation has written (R477). -/
def judged : SlotCheck → Nat × List Byte
  | .good v _ => (stDone, toBE 4 v.toNat)
  | _ => (stBadParam, [])

theorem State.stageDone_one (hrun : s.mntRun 2 = some m) (hcmd : m.cmd = some c) (htargets : s.flashTargets c = .ok ([.a], split))
    (hdata : m.data ≠ []) (a b : SlotCheck) : s.stageDone a b =
      let u := s.flashFill .a (fwAddr (1 - s.fwActive .a)) m.data
      let ends := judged (u.slotCheck .a (1 - u.fwActive .a) a)
      (u.part c .a ends.1 ends.2).mntDone m ends.1 [] := by
  have hfill : m.data.isEmpty = false := by simpa using hdata
  unfold State.stageDone
  simp only [hrun, hcmd, htargets, hfill, Bool.false_eq_true, if_false, State.each, List.foldl_cons, List.foldl_nil, List.map_cons, List.map_nil]
  generalize State.slotCheck _ _ _ a = x
  cases x <;> exact State.mntParts_one hcmd ..

/-- The end of a write of an image to a slot of plane A's flash (R434, R444, R470). -/
theorem State.flashDone_one {u : State} (hrun : s.mntRun 6 = some m) (hcmd : m.cmd = some c) (htargets : s.flashTargets c = .ok ([.a], split))
    (hdata : m.data ≠ []) (hu : s.freeStatus.2.flashFill .a (slotAddr (cNum c 1 1)) m.data = u) (hother : u.holdsActive .b = false)
    (okB : Bool) : s.flashDone true okB =
      (u.part c .a stDone (imgIdentity (u.flashOcts .a (slotAddr (cNum c 1 1)) 64))).mntDone m stDone [] := by
  have hfill : m.data.isEmpty = false := by simpa using hdata
  unfold State.flashDone
  simp only [hrun, hcmd, htargets, hfill, hu, hother, Bool.and_false, Bool.false_eq_true, if_false, if_true, State.each, List.foldl_cons,
    List.foldl_nil, List.map_cons, List.map_nil]
  exact State.mntParts_one hcmd ..

/-- A write that failed (log 85). -/
theorem State.flashDone_failed (hrun : s.mntRun 6 = some m) (hcmd : m.cmd = some c) (htargets : s.flashTargets c = .ok ([.a], split))
    (okB : Bool) :
    let bad := s.freeStatus.1
    s.flashDone false okB = ((s.freeStatus.2.record 0x0E 0 (toBE 1 0 ++ toBE 3 (slotAddr (cNum c 1 1) / 4096))).part c .a bad []).mntDone m
      (combine s.lead [(.a, bad, [])] false).1 [] := by
  intro bad
  unfold State.flashDone
  simp only [hrun, hcmd, htargets, List.any_cons, List.any_nil, Bool.false_and, Bool.or_false, Bool.false_eq_true, if_false, State.each,
    List.foldl_cons, List.foldl_nil, List.map_cons, List.map_nil]
  rw [combine_one_status]
  exact State.mntParts_one hcmd ..

end Ends

/-- Four octets hold a word. -/
theorem toBE_word (x : Nat) : toBE 4 (BitVec.ofNat 32 x).toNat = toBE 4 x := by
  have hdigit (k : Nat) (hk : k < 4) : BitVec.ofNat 8 (x % 2 ^ 32 / 256 ^ k) = BitVec.ofNat 8 (x / 256 ^ k) := by
    apply BitVec.eq_of_toNat_eq
    rw [BitVec.toNat_ofNat, BitVec.toNat_ofNat]
    interval_cases k <;> omega
  simp only [toBE, BitVec.toNat_ofNat, hdigit 0 (by decide), hdigit 1 (by decide), hdigit 2 (by decide), hdigit 3 (by decide)]

/-! The rules of the boot ROM over a slot (R477) -/

section Judged

variable {u : State} {p : Plane} {slot : Nat} {x : SlotCheck} (hwritten : u.fwHeader p slot ≠ List.replicate 16 erased)
  (hread : x ≠ .flashErr)
include hwritten hread

theorem State.slotCheck_written : u.slotCheck p slot x =
    if octs (u.fwHeader p slot) 0 4 ≠ 0x53584657 then .noHeader
    else if 7 * 2 ^ 20 - 512 < octs (u.fwHeader p slot) 12 4 then .badLength
    else match (generalizing := false) x with
      | .good _ _ => if 3 < octs (u.fwHeader p slot) 10 1 then .badSig
        else .good (BitVec.ofNat 32 (octs (u.fwHeader p slot) 4 4)) (BitVec.ofNat 16 (octs (u.fwHeader p slot) 8 2))
      | _ => .badSig :=
  if_neg (by rw [State.fwUnwritten, beq_false_of_ne hwritten, beq_false_of_ne hread]; decide)

theorem State.judged_bad (hbad : octs (u.fwHeader p slot) 0 4 ≠ 0x53584657 ∨ 7 * 2 ^ 20 - 512 < octs (u.fwHeader p slot) 12 4 ∨
    3 < octs (u.fwHeader p slot) 10 1 ∨ ∀ v k, x ≠ .good v k) : judged (u.slotCheck p slot x) = (stBadParam, []) := by
  rw [State.slotCheck_written hwritten hread]
  split
  · rfl
  next hmagic =>
    split
    · rfl
    next hlength =>
      cases x with
      | good v k =>
        obtain hkey | hnot := (hbad.resolve_left hmagic).resolve_left hlength
        · exact congrArg judged (if_pos hkey)
        · exact absurd rfl (hnot v k)
      | noHeader | badSig | badLength | flashErr => rfl

theorem State.judged_good (hmagic : octs (u.fwHeader p slot) 0 4 = 0x53584657) (hlength : octs (u.fwHeader p slot) 12 4 ≤ 7 * 2 ^ 20 - 512)
    (hkey : octs (u.fwHeader p slot) 10 1 ≤ 3) (hgood : ∃ v k, x = .good v k) :
    judged (u.slotCheck p slot x) = (stDone, toBE 4 (octs (u.fwHeader p slot) 4 4)) := by
  obtain ⟨v, k, rfl⟩ := hgood
  rw [State.slotCheck_written hwritten hread, if_neg (not_not.2 hmagic), if_neg hlength.not_gt]
  dsimp only
  rw [if_neg hkey.not_gt, judged, toBE_word]

end Judged

/-- What FW_STAGE and FLASH_WRITE take from host memory, they take as they begin (R434). -/
theorem State.cmdStage_takes {u : State} {c : Cmd} {ps : List Plane} {split : Bool} (bs : List Byte)
    (htargets : u.flashTargets c = .ok (ps, split)) (hsrc : cNum c 0 1 = 0) (hsize : cNum c 4 4 ≤ 7 * 2 ^ 20) :
    u.cmdStage c bs = u.mntTake c 2 ps split (slice bs 0 (cNum c 4 4)) := by
  have hdata : (if cNum c 0 1 = 0 then slice bs 0 (cNum c 4 4) else []) = slice bs 0 (cNum c 4 4) := if_pos hsrc
  rw [State.cmdStage, hdata]
  exact State.mntFlash_takes htargets (by rw [hsrc, decide_eq_false hsize.not_gt]; rfl)

theorem State.cmdFlash_takes {u : State} {c : Cmd} {ps : List Plane} {split : Bool} (bs : List Byte)
    (htargets : u.flashTargets c = .ok (ps, split)) (hsrc : cNum c 0 1 = 0) (hslot : cNum c 1 1 ≤ 3) (hsize : cNum c 4 4 ≤ 12 * 2 ^ 20) :
    u.cmdFlash c bs = u.mntTake c 6 ps split (slice bs 0 (cNum c 4 4)) := by
  have hdata : (if cNum c 0 1 = 0 then slice bs 0 (cNum c 4 4) else if cNum c 0 1 = 2 then u.activeImg else []) = slice bs 0 (cNum c 4 4) :=
    if_pos hsrc
  rw [State.cmdFlash, hdata]
  exact State.mntFlash_takes htargets (by rw [hsrc, decide_eq_false hslot.not_gt, decide_eq_false hsize.not_gt]; rfl)

theorem State.flashWrite_fails {s : State} (h : s.freeB.1 = true) (p : Plane) (a : Nat) (bs : List Byte) :
    s.flashWrite p a bs = (s.freeB.2.record 0x0E 0 (toBE 1 (planeNum p) ++ toBE 3 (a / 4096)), false) := if_pos h

theorem State.flashWrite_programs {s : State} (h : ¬s.freeB.1 = true) (p : Plane) (a : Nat) (bs : List Byte) :
    s.flashWrite p a bs = ((s.freeB.2.flashPut p (a / 4096 * 4096) (List.replicate 4096 erased)).flashPut p a bs, true) := if_neg h

/-- A chunk of one sector: the sector erased and programmed, or a failed write's record and status (R434; logs 64, 85). -/
theorem State.cmdChunk_one {u : State} {c : Cmd} {q : Plane} {split : Bool} (htargets : u.flashTargets c = .ok ([q], split))
    (hregion : cNum c 0 1 = 0) (hslot : cNum c 1 1 ≤ 3) (haligned : cNum c 4 4 % 4096 = 0) (hsome : c.ps.drop 8 ≠ [])
    (hsector : (c.ps.drop 8).length ≤ 4096) (hsize : cNum c 4 4 + (c.ps.drop 8).length ≤ 12 * 2 ^ 20)
    (hfree : u.slotBusy [q] 0 (cNum c 1 1) = false) : u.cmdChunk c =
      let a := slotAddr (cNum c 1 1) + cNum c 4 4
      let w := u.freeB
      let bad := (w.2.record 0x0E 0 (toBE 1 (planeNum q) ++ toBE 3 (a / 4096))).freeStatus
      if w.1 then bad.2.answer c [(q, bad.1, [])] split
      else ((w.2.flashPut q (a / 4096 * 4096) (List.replicate 4096 erased)).flashPut q a (c.ps.drop 8)).answer c [(q, stDone, [])] split := by
  have hgood : (decide (1 < cNum c 0 1) || (cNum c 0 1 == 0 && decide (3 < cNum c 1 1)) || cNum c 4 4 % 4096 != 0 || (c.ps.drop 8).isEmpty ||
      decide (8144 < (c.ps.drop 8).length) ||
      decide ((if cNum c 0 1 = 0 then 12 * 2 ^ 20 else 7 * 2 ^ 20) < cNum c 4 4 + (c.ps.drop 8).length)) = false := by
    rw [hregion, haligned, List.isEmpty_eq_false_iff.2 hsome, decide_eq_false hslot.not_gt, decide_eq_false (by omega : ¬8144 < _), if_pos rfl,
      decide_eq_false hsize.not_gt]
    rfl
  unfold State.cmdChunk
  dsimp only
  rw [htargets, hgood]
  simp only [hregion, hfree, List.foldl_cons, List.foldl_nil, List.nil_append, List.take_of_length_le hsector, hsector.not_gt, if_true, if_false,
    Bool.false_eq_true, Bool.and_true]
  by_cases hfails : u.freeB.1 = true
  · rw [State.flashWrite_fails hfails, if_pos hfails]
    rfl
  · rw [State.flashWrite_programs hfails, if_neg hfails]
    rfl

/-- Settles O58: commands that the empty sequencer takes, by what their operation begins; ends of operations, by their one plane's part; and the
answers given at once. -/
theorem maintPackets : Obligations.MaintPackets := by
  unfold Obligations.MaintPackets
  intro enter free
  refine ⟨?scrub, ?linkCal, ?timeSwitch, ?one, ?flash, ?chunk, ?scrubDone, ?stageDone, ?writeDone, ?testDone, ?queue, ?status, ?query⟩
  case scrub =>
    refine packetGives_of (cmd := State.cmdScrub) (fun _ _ => rfl) fun c u p ps split t hcore htargets h => ?_
    have hplain (hn : cNum c 0 2 ≤ 3600) : u.cmdScrub c = u.mntTake c 0 ps split [] :=
      State.mntPlain_takes htargets (decide_eq_false hn.not_gt)
    split at h
    next hok =>
      obtain ⟨hn, hfree, hpwr⟩ := hok
      rw [hplain hn, State.mntTake_begins hfree (State.mntWhy_scrub hpwr)]
      exact Option.some.inj h
    next =>
      obtain ⟨⟨hn, hagainst⟩, ht⟩ := Option.ite_none_right_eq_some.1 h
      obtain ⟨m, hm, hscrub⟩ := List.any_eq_true.1 hagainst
      have htable : ((u.maint ++ u.maintQ).any fun m => mntTable m.op 0 == 2) = true :=
        List.any_eq_true.2 ⟨m, hm, by rw [eq_of_beq hscrub]; rfl⟩
      rw [hplain hn, State.mntTake_conflict hcore htable]
      exact Option.some.inj ht
  case linkCal =>
    refine packetGives_of (cmd := State.cmdLinkCal) (fun _ _ => rfl) fun c u p ps split t hcore htargets h => ?_
    obtain ⟨⟨hn, hfree, hmay⟩, ht⟩ := Option.ite_none_right_eq_some.1 h
    have hplain : u.cmdLinkCal c = u.mntTake c 4 ps split [] := State.mntPlain_takes htargets (decide_eq_false hn.not_gt)
    rw [hplain, State.mntTake_begins hfree (State.mntWhy_linkCal htargets hmay)]
    exact Option.some.inj ht
  case timeSwitch =>
    refine packetGives_of (cmd := State.cmdSwitch) (fun _ _ => rfl) fun c u p ps split t hcore htargets h => ?_
    obtain ⟨⟨hn, hfree⟩, ht⟩ := Option.ite_none_right_eq_some.1 h
    have hplain : u.cmdSwitch c = u.mntTake c 5 ps split [] := State.mntPlain_takes htargets (decide_eq_false hn.not_gt)
    rw [hplain, State.mntTake_begins hfree (State.mntWhy_none (by decide))]
    exact Option.some.inj ht
  case one =>
    intro s c p q hnext hcore hplane hmode hfree hother s1 m u
    have hcore1 : s1.coreFor c = some p := State.coreFor_of_mode hcore hmode
    have htake (op : Nat) : s1.mntOne c op = s1.mntTake c op [q] false [] := State.mntOne_takes hcore hplane hmode
    refine ⟨fun hop hpwr => ?_, fun hactive => ⟨fun hop => exec_drain_of_eq rfl ?_, fun hop => exec_drain_of_eq rfl ?_⟩⟩
    · have hrejoin (why : Option Nat) (h : s1.rejoinWhy q false = why) : s1.mntWhy (opOf c 1 []) = why :=
        (State.mntWhy_rejoin hplane hpwr).trans h
      refine ⟨fun hst => exec_drain_of_eq rfl ?_, fun hst => exec_drain_of_eq rfl ?_, fun hst => exec_drain_of_eq rfl ?_,
        fun hst => exec_drain_of_eq rfl ?_⟩ <;> refine (State.runCmd_next hop hnext _).trans ((htake 1).trans ?_)
      · exact State.mntTake_refused hfree hcore1 (hrejoin _ (State.rejoinWhy_held hother hst)) (by decide)
      · exact State.mntTake_refused hfree hcore1 (hrejoin _ (State.rejoinWhy_off hother hst)) (by decide)
      · exact State.mntTake_done hfree (hrejoin _ (State.rejoinWhy_active hother hst))
      · rw [State.mntTake_begins (u := s1) hfree (hrejoin _ (State.rejoinWhy_waits hother hst)), State.mntGo_rejoin hplane]
        rfl
    · refine (State.runCmd_next hop hnext _).trans ((htake 3).trans ?_)
      rw [State.mntTake_begins (u := s1) hfree (State.mntWhy_leaves hplane (.inl rfl) hactive hother), State.mntGo_swap hplane]
      rfl
    · refine (State.runCmd_next hop hnext _).trans ((htake 7).trans ?_)
      rw [State.mntTake_begins (u := s1) hfree (State.mntWhy_leaves hplane (.inr rfl) hactive hother), State.mntGo_selfTest hplane]
      rfl
  case flash =>
    intro s c ps split bs hnext htargets hfree hsrc u
    refine ⟨fun hop hsize => exec_drain_of_eq rfl ((State.runCmd_next hop hnext _).trans ?_),
      fun hop hslot hsize => exec_drain_of_eq rfl ((State.runCmd_next hop hnext _).trans ?_)⟩
    · rw [State.cmdStage_takes bs htargets hsrc hsize, State.mntTake_begins (u := s.taken c) hfree (State.mntWhy_none (by decide))]
      rfl
    · rw [State.cmdFlash_takes bs htargets hsrc hslot hsize, State.mntTake_begins (u := s.taken c) hfree (State.mntWhy_none (by decide))]
      rfl
  case chunk =>
    intro s c q split hnext hop htargets hregion hslot haligned hsome hsector hsize hfree a w bad
    exact exec_drain_of_eq rfl ((State.runCmd_next hop hnext _).trans
      (State.cmdChunk_one htargets hregion hslot haligned hsome hsector hsize hfree))
  case scrubDone =>
    intro s m c p split a b hrun hcmd htargets found s1
    refine exec_next_of_eq rfl ((State.scrubDone_one hrun hcmd htargets a b).trans ?_)
    cases p <;> rfl
  case stageDone =>
    intro s m c split a b hrun hcmd htargets hdata s1 h ends hwritten hread
    have hends {st : Nat} {res : List Byte} (hj : judged (s1.slotCheck .a (1 - s1.fwActive .a) a) = (st, res)) : ends st res := by
      refine exec_drain_of_eq rfl ((State.stageDone_one hrun hcmd htargets hdata a b).trans ?_)
      dsimp only
      rw [hj]
    exact ⟨fun hbad => hends (State.judged_bad hwritten hread hbad),
      fun hmagic hlength hkey hgood => hends (State.judged_good hwritten hread hmagic hlength hkey hgood)⟩
  case writeDone =>
    intro s m c split okB hrun hcmd htargets hdata at_ bad s1 h
    exact ⟨fun hother => exec_drain_of_eq rfl (State.flashDone_one hrun hcmd htargets hdata rfl hother okB),
      exec_drain_of_eq rfl (State.flashDone_failed hrun hcmd htargets okB)⟩
  case testDone =>
    intro s m v hfind
    refine exec_next_of_eq rfl ?_
    rw [State.testDone, hfind]
  case queue =>
    intro s m rest hqueue hagainst u
    refine exec_drain_of_eq rfl ?_
    rw [State.mntNext, hqueue]
    exact if_pos hagainst
  case status =>
    exact packetAnswers_of_onceCmd (cmd := State.cmdMaintStatus) (fun _ _ => rfl) fun c u p t h =>
      ⟨_, State.cmdMaintStatus.eq_def .., Option.some.inj h⟩
  case query =>
    refine packetAnswers_of_onceCmd (cmd := State.cmdQuery) (fun _ _ => rfl) fun c u p t h => ⟨_, State.cmdQuery.eq_def .., ?_⟩
    split at h
    next hactive => exact (if_neg (by omega)).trans ((if_pos hactive).trans (Option.some.inj h))
    next =>
      obtain ⟨hslot, ht⟩ := Option.ite_none_right_eq_some.1 h
      exact (if_pos hslot).trans (Option.some.inj ht)

end Sys2Proof.Machine
end


section
/-!
Configuration images: commit and verify, the end of the checks, the apply point (R442, R443, R448, R481, R522).
-/
namespace Sys2Proof.Machine

/-! A command is taken (R442, R443, R448) -/

theorem State.commitOpen_iff {s : State} : s.commitOpen = true ↔ s.img ≠ none ∨ ∃ i ∈ s.checks, i.verify = false := by
  simp [State.commitOpen, Option.isSome_iff_ne_none]

section Begin

variable {u : State} {c : Cmd} {p : Plane} {ps : List Plane} {split verify : Bool} {image : List Byte}

/-- The image that a command names: of its slot, or what host memory held. -/
def State.imageOf (u : State) (c : Cmd) (p : Plane) (image : List Byte) : List Byte :=
  if cNum c 0 1 = 1 then (u.slotImage p (cNum c 1 1)).getD [] else image

/-- What comes of a commit or a check. -/
theorem State.cmdImage_eq (hcore : u.coreFor c = some p) (htargets : u.targets c = .ok (ps, split)) : u.cmdImage c image verify =
    if 1 < cNum c 0 1 ∨ cNum c 0 1 = 1 ∧ 3 < cNum c 1 1 then (u.answer c (ps.map fun p => (p, stBadParam, [])) split).raise 30
    else if !verify && (u.mode == 4 || u.pwrMode == 1) then u.refuse c p stNotPermitted
    else if !verify && u.commitOpen then u.refuse c p stConflict
    else { u.accept c ps split stAccepted with checks := u.checks ++ [⟨c, u.imageOf c p image, verify, none, false⟩] } := by
  have himage : (match cmdSlot c with | some k => (u.slotImage p k).getD [] | none => image) = u.imageOf c p image := by
    by_cases h : octs c.ps 0 1 = 1 <;> simp [cmdSlot, State.imageOf, cNum, h]
  unfold State.cmdImage
  rw [htargets, hcore]
  exact himage ▸ rfl

/-- An image command that is refused raises EV30 (R448). -/
theorem State.refuse_image {s : State} (hop : c.op.toNat = 0x0A01 ∨ c.op.toNat = 0x0A03) (by_ : Plane) (st : Nat) :
    s.refuse c by_ st = (s.sendReply c by_ st 0 [] true true).raise 30 := by
  have himage : imageCmd c = true := by
    obtain h | h := hop
    · have : c.op = 0x0A01 := BitVec.eq_of_toNat_eq h
      simp [imageCmd, this]
    · have : c.op = 0x0A03 := BitVec.eq_of_toNat_eq h
      simp [imageCmd, this]
  exact if_pos himage

end Begin

/-! The checks end (R442, R522) -/

section Checked

variable {s0 s : State} {i : ImgS} {rest : List ImgS} {p q : Plane} (hchecks : s0.checks = i :: rest) (hs : { s0 with checks := rest } = s)
  (hplanes : s.imgPlanes i.cmd = [q]) (himage : i.image ≠ [])
include hchecks hs hplanes himage

/-- A rule that the image breaks refuses it with its RESULT (R522). -/
theorem State.imgChecked_refused {st : Nat} {res : List Byte} (hjudge : s.judgeImage q i.image = some (st, res)) (hst : st ≠ stDone) :
    s0.imgChecked = ((s.raiseIf (st == stOverBudget) (evOf q 149)).part i.cmd q st res).raise 30 := by
  have hsome : i.image.isEmpty = false := List.isEmpty_eq_false_iff.2 himage
  unfold State.imgChecked
  simp only [hchecks, hs, hplanes, hsome, hjudge, List.map_cons, List.map_nil, List.isEmpty_cons, Bool.and_false, Bool.false_eq_true,
    if_false]
  exact if_pos (by simpa using hst)

/-- Checks that end well complete a check, and set the apply point of a commit (R442, R443). -/
theorem State.imgChecked_passed (hcore : s.cmdCore = some p) (hjudge : s.judgeImage q i.image = none) : s0.imgChecked =
    if i.verify then s.complete i.cmd stDone []
    else
      let e := (s.pl p).egS (imgCanvas i.image)
      let named := cNum i.cmd 16 8
      let live := s.egEn p (imgCanvas i.image) && e.live
      { s with img := some { i with applyAt := if live then some (max named (e.next + 2)) else none,
                                    late := live && decide (named ≠ 0) && decide (named < e.next) } } := by
  have hsome : i.image.isEmpty = false := List.isEmpty_eq_false_iff.2 himage
  unfold State.imgChecked
  simp only [hchecks, hs, hplanes, hsome, hjudge, hcore, List.map_cons, List.map_nil, List.isEmpty_cons, Bool.and_false, Bool.false_eq_true,
    if_false]
  subst hs
  exact if_neg (by simp)

/-- A commit takes effect at the boundary it names, the second of the canvas generator at the earliest (R442). -/
theorem State.imgChecked_live (hcore : s.cmdCore = some p) (hjudge : s.judgeImage q i.image = none) (hcommit : i.verify = false)
    (hen : s.egEn p (imgCanvas i.image) = true) (hlive : ((s.pl p).egS (imgCanvas i.image)).live = true) : s0.imgChecked =
      let next := ((s.pl p).egS (imgCanvas i.image)).next
      let named := cNum i.cmd 16 8
      { s with img := some { i with applyAt := some (max named (next + 2)), late := decide (named ≠ 0) && decide (named < next) } } := by
  rw [State.imgChecked_passed hchecks hs hplanes himage hcore hjudge]
  simp only [hcommit, hen, hlive, Bool.true_and, if_true, Bool.false_eq_true, if_false]

/-- Without a canvas generator a commit takes effect with no boundary. -/
theorem State.imgChecked_idle (hcore : s.cmdCore = some p) (hjudge : s.judgeImage q i.image = none) (hcommit : i.verify = false)
    (hen : s.egEn p (imgCanvas i.image) = false) : s0.imgChecked = { s with img := some { i with applyAt := none, late := false } } := by
  rw [State.imgChecked_passed hchecks hs hplanes himage hcore hjudge]
  simp only [hcommit, hen, Bool.false_and, Bool.false_eq_true, if_false]

end Checked

/-! The apply point (R441-R444, R522) -/

section Apply

variable {s : State} {i : ImgS} {p q : Plane} {k : Nat} (himg : s.img = some i) (hcore : s.cmdCore = some p) (hpoint : i.applyAt = some k)
include himg hcore hpoint

/-- An image waits while its apply point lies ahead of the canvas generator's next boundary. -/
theorem State.imgApply_waits (hen : s.egEn p (imgCanvas i.image) = true) (hlive : ((s.pl p).egS (imgCanvas i.image)).live = true)
    (hahead : ((s.pl p).egS (imgCanvas i.image)).next < k) : s.imgApply = s := by
  have hdue : s.imgDue i = false := by simp [State.imgDue, hcore, hpoint, hen, hlive, hahead]
  simp [State.imgApply, himg, hdue]

/-- At its apply point the image is written at its plane, recorded and answered with its epoch. -/
theorem State.imgApply_writes (hplanes : s.imgPlanes i.cmd = [q]) (hrelearn : (s.pl q).relearn = none)
    (hdue : k ≤ ((s.pl p).egS (imgCanvas i.image)).next) : s.imgApply =
      let im := i.image
      let s1 := (((s.writeImage q im).writeImgRegs im (some q)).applyIdle q).writeRing im
      let s2 := ((s1.recordImage im (cmdSlot i.cmd)).bootImage.record 8 1 (toBE 4 (imgCrc im))).raise 29
      State.complete { s2 with img := none, imgPause := imgFull im || s2.imgPause, imgBuf := !imgFull im || s2.imgBuf } i.cmd stDone
        (toBE 8 k ++ toBE 1 i.late.toNat) := by
  have hnow : s.imgDue i = true := by simp [State.imgDue, hcore, hpoint, hdue]
  unfold State.imgApply
  simp only [himg, hnow, hplanes, hrelearn, hpoint, State.each, List.foldl_cons, List.foldl_nil, Option.isSome_none, Bool.not_true,
    Bool.false_eq_true, if_false]

end Apply

/-- Settles O59, by what comes of a command, of the end of its checks, and of its apply point. -/
theorem imageCommands : Obligations.ImageCommands := by
  unfold Obligations.ImageCommands
  intro begin_
  have hbegin {verify : Bool} {image : List Byte} {c : Cmd} {u : State} {p : Plane} {ps : List Plane} {split : Bool} {t : State}
      (hcore : u.coreFor c = some p) (htargets : u.targets c = .ok (ps, split)) (h : begin_ verify image c u p ps split = some t) :
      u.cmdImage c image verify = t := by
    rw [State.cmdImage_eq hcore htargets]
    unfold begin_ at h
    split at h
    next hbad => exact (if_pos (by omega)).trans (Option.some.inj h)
    next hgood =>
      rw [if_neg (by omega)]
      split at h
      next hmode => exact (if_pos (by simpa [Bool.and_eq_true] using hmode)).trans (Option.some.inj h)
      next hmode =>
        rw [if_neg (by simpa [Bool.and_eq_true] using hmode)]
        split at h
        next hopen => exact (if_pos (by simpa [State.commitOpen_iff] using hopen)).trans (Option.some.inj h)
        next hopen => exact (if_neg (by simpa [State.commitOpen_iff] using hopen)).trans (Option.some.inj h)
  refine ⟨fun image => ?_, fun image => ?_, fun s c by_ st hop => State.refuse_image hop by_ st, ?checked, ?apply, fun s => rfl⟩
  · exact packetGives_of (cmd := fun u c => u.cmdImage c image false) (fun _ _ => rfl) fun c u p ps split t hcore htargets h =>
      hbegin hcore htargets h
  · exact packetGives_of (cmd := fun u c => u.cmdImage c image true) (fun _ _ => rfl) fun c u p ps split t hcore htargets h =>
      hbegin hcore htargets h
  case checked =>
    intro s0 i rest p q hchecks s hplanes hcore himage g next named
    exact ⟨fun st res hjudge hst => exec_drain_of_eq rfl (State.imgChecked_refused hchecks rfl hplanes himage hjudge hst),
      fun hjudge hverify => exec_drain_of_eq rfl ((State.imgChecked_passed hchecks rfl hplanes himage hcore hjudge).trans (if_pos hverify)),
      fun hjudge hcommit hen hlive => exec_drain_of_eq rfl (State.imgChecked_live hchecks rfl hplanes himage hcore hjudge hcommit hen hlive),
      fun hjudge hcommit hen => exec_drain_of_eq rfl (State.imgChecked_idle hchecks rfl hplanes himage hcore hjudge hcommit hen)⟩
  case apply =>
    intro s i p q k himg hplanes hcore hpoint hrelearn im next s1 s2
    exact ⟨fun hdue => exec_drain_of_eq rfl (State.imgApply_writes himg hcore hpoint hplanes hrelearn hdue),
      fun hahead hen hlive => exec_drain_of_eq rfl (State.imgApply_waits himg hcore hpoint hen hlive hahead)⟩

end Sys2Proof.Machine
end


section
/-!
The Snuffer path (R436-R439).
-/
namespace Sys2Proof.Machine

/-! What an operation comes to (R426, R436, R438) -/

/-- The planes that are active complete a Snuffer operation, and have no RESULT (R426). -/
theorem combine_active (lead : Plane) (active : Plane → Bool) :
    combine lead ((bothPlanes.filter active).map fun p => (p, stDone, [])) false = (stDone, (active .a).toNat * 64 + (active .b).toNat * 32, []) := by
  have hplanes : bothPlanes.filter active = (if active .a then [.a] else []) ++ (if active .b then [.b] else []) := by
    cases ha : active .a <;> cases hb : active .b <;> simp [bothPlanes, ha, hb]
  rw [hplanes]
  cases active .a <;> cases active .b <;> cases lead <;> rfl

section Act

variable {s : State} {c : Cmd} {x : SnfS} {first : Bool}

theorem State.snfAct_acts (h : snfAfter s.snf c = some x) : s.snfAct c first =
    (s.snfExec c x).sendReply c s.lead stDone ((s.active .a).toNat * 64 + (s.active .b).toNat * 32) [] first true := by
  simp only [State.snfAct, h, combine_active s.lead s.active]

/-- A limit that an operation meets refuses it (R438). -/
theorem State.snfAct_limit (h : snfAfter s.snf c = none) : s.snfAct c first = s.sendReply c s.lead stNoResource 0 [] first true := by
  rw [State.snfAct, h]

/-- A refused Snuffer command raises no event of an image. -/
theorem State.refuse_snuffer {by_ : Plane} {st : Nat} (hop : c.op.toNat = 0x0F03) :
    s.refuse c by_ st = s.sendReply c by_ st 0 [] true true := by
  have h : c.op = 0x0F03 := BitVec.eq_of_toNat_eq hop
  exact if_neg (by simp [imageCmd, h])

theorem State.cmdSnuffer_bad (h : snfBad c = true) : s.cmdSnuffer c = s.refuse c s.lead stBadParam := if_pos h

theorem State.cmdSnuffer_now (hgood : snfBad c = false) (hdue : c.timed = false ∨ s.snfDue c = true) : s.cmdSnuffer c = s.snfAct c true := by
  have hnow : (!c.timed || s.snfDue c) = true := by simpa using hdue
  simp only [State.cmdSnuffer, hgood, hnow, Bool.false_eq_true, if_false, if_true]

/-- A timed command waits until its time (R436). -/
theorem State.cmdSnuffer_waits (hgood : snfBad c = false) (htimed : c.timed = true) (hearly : s.snfDue c = false)
    (hroom : s.snfTimed.length < 64) : s.cmdSnuffer c =
      { s.sendReply c s.lead stAccepted 0 [] true false with snfTimed := s.snfTimed ++ [c] } := by
  simp [State.cmdSnuffer, hgood, htimed, hearly, hroom]

end Act

/-- An opcode by its number. -/
theorem op_eq_iff {c : Cmd} {op : BitVec 16} {n : Nat} (h : op.toNat = n) : c.op = op ↔ c.op.toNat = n := by
  rw [BitVec.toNat_eq, h]

/-! The state after an operation (R438) -/

section After

variable {x : SnfS} {c : Cmd}

theorem snfAfter_blackout (hop : c.op.toNat = 0x0F01) : snfAfter x c = some { x with
    black := x.black ||| (BitVec.ofNat 58 (cNum c 0 8) &&& BitVec.ofNat 58 (2 ^ 40 - 1))
    pBlack := x.pBlack ||| BitVec.ofNat 4 (cNum c 8 1) } :=
  if_pos ((op_eq_iff rfl).2 hop)

theorem snfAfter_hold (hop : c.op.toNat = 0x0F02) : snfAfter x c = some { x with hold := true, holdEnds := false } := by
  have h : c.op = 0x0F02 := (op_eq_iff rfl).2 hop
  simp [snfAfter, h]

theorem snfAfter_stop (hop : c.op.toNat = 0x0F03) : snfAfter x c =
    let l := addStreams x.stopped (snfStreams c)
    if l.length ≤ 256 then some { x with stopped := l } else none := by
  have h : c.op = 0x0F03 := (op_eq_iff rfl).2 hop
  by_cases hlimit : (addStreams x.stopped (snfStreams c)).length ≤ 256 <;> simp [snfAfter, h, hlimit]

theorem snfAfter_resume (hop : c.op.toNat = 0x0F04) : snfAfter x c =
    let o := BitVec.ofNat 58 (cNum c 0 8)
    let p := BitVec.ofNat 4 (cNum c 8 1)
    let w := cNum c 9 1
    some { x with
      black := if w % 2 = 1 then x.black &&& ~~~o else x.black
      pBlack := if w % 2 = 1 then x.pBlack &&& ~~~p else x.pBlack
      safe := if w / 2 % 2 = 1 then x.safe &&& ~~~o else x.safe
      pSafe := if w / 2 % 2 = 1 then x.pSafe &&& ~~~p else x.pSafe
      holdEnds := x.holdEnds || (w / 4 % 2 == 1 && x.hold)
      stopped := if w / 16 % 2 = 1 then [] else if w / 8 % 2 = 1 then x.stopped.filter fun st => !(snfStreams c).contains st
        else x.stopped } := by
  have h : c.op = 0x0F04 := (op_eq_iff rfl).2 hop
  simp [snfAfter, h, snfOuts, snfPorts, snfWhat]

theorem snfAfter_safe (hop : c.op.toNat = 0x0F05) : snfAfter x c = some { x with
    safe := x.safe ||| BitVec.ofNat 58 (cNum c 0 8), pSafe := x.pSafe ||| BitVec.ofNat 4 (cNum c 8 1) } := by
  have h : c.op = 0x0F05 := (op_eq_iff rfl).2 hop
  simp [snfAfter, h, snfOuts, snfPorts]

end After

/-- Settles O60: the operations by the Snuffer state each leaves, acting at once or at their time. -/
theorem snufferPackets : Obligations.SnufferPackets := by
  unfold Obligations.SnufferPackets
  intro origin shown reply outs acts act
  have hexec (u : State) (c : Cmd) (x : SnfS) : u.snfExec c x = acts u c x := by
    have hhold : c.op = 0x0F02 ↔ c.op.toNat = 0x0F02 := op_eq_iff rfl
    have houts : c.op = 0x0F01 ∨ c.op = 0x0F05 ↔ c.op.toNat = 0x0F01 ∨ c.op.toNat = 0x0F05 := or_congr (op_eq_iff rfl) (op_eq_iff rfl)
    simp only [State.snfExec, hhold, houts]
    rfl
  have hact {u : State} {c : Cmd} {x : SnfS} (first : Bool) (h : snfAfter u.snf c = some x) : u.snfAct c first = reply first u c (acts u c x) := by
    rw [State.snfAct_acts h, hexec]
  have hnow {i : Cmd → Instr} {op : Nat} {f : SnfS → Cmd → Option SnfS}
      (hi : ∀ c s, exec (i c) s = .next (s.after ((s.runCmd op c (·.cmdSnuffer c)).drain))) (hop : (op / 256 == 0xF) = true)
      (hf : ∀ x c, c.op.toNat = op → snfAfter x c = f x c) : act i op f := by
    intro s c x hc hnext hgood hdue hx
    refine exec_drain_of_eq (hi c s) ((State.runCmd_next hc (hop.symm ▸ hnext) _).trans ((State.cmdSnuffer_now hgood hdue).trans ?_))
    exact hact true ((hf _ c hc).trans hx)
  refine ⟨?blackout, ?hold, ?stop, ?resume, ?safe, ?wait, ?limit, ?timed⟩
  case blackout => exact hnow (i := .blackout) (op := 0x0F01) (fun _ _ => rfl) rfl fun _ _ => snfAfter_blackout
  case hold => exact hnow (i := .hold) (op := 0x0F02) (fun _ _ => rfl) rfl fun _ _ => snfAfter_hold
  case stop => exact hnow (i := .stopStream) (op := 0x0F03) (fun _ _ => rfl) rfl fun _ _ => snfAfter_stop
  case resume => exact hnow (i := .resume) (op := 0x0F04) (fun _ _ => rfl) rfl fun _ _ => snfAfter_resume
  case safe => exact hnow (i := .safeState) (op := 0x0F05) (fun _ _ => rfl) rfl fun _ _ => snfAfter_safe
  case wait =>
    intro s c hop hnext s1
    exact ⟨fun hbad => exec_drain_of_eq rfl ((State.runCmd_next hop hnext _).trans (State.cmdSnuffer_bad hbad)),
      fun hgood htimed hearly hroom =>
        exec_drain_of_eq rfl ((State.runCmd_next hop hnext _).trans (State.cmdSnuffer_waits hgood htimed hearly hroom))⟩
  case limit =>
    intro s c hop hnext hgood hnow hmany
    have hnone : snfAfter (s.taken c).snf c = none := (snfAfter_stop hop).trans (if_neg (Nat.not_le.2 hmany))
    refine exec_drain_of_eq rfl ((State.runCmd_next hop hnext _).trans ((State.cmdSnuffer_now hgood (.inl hnow)).trans ?_))
    rw [State.snfAct_limit hnone, State.refuse_snuffer hop]
  case timed =>
    intro s c hfind hop s1
    refine exec_drain_of_eq rfl ?_
    rw [State.snfTimedAct, hfind]
    exact hact false (snfAfter_hold hop)

end Sys2Proof.Machine
end
